-- ==== Sys2Proof/Word.lean ====
section
/-! DEFINITION. The word types of the model. Register and item values that the spec counts or compares as numbers are
held as `Nat` (R9 gives each type's width); bytes of frames, payloads and records are bytes. -/

namespace Sys2Proof

/-- One byte of a frame, payload or record; multi-byte values are little-endian (R9). -/
abbrev Byte := BitVec 8

end Sys2Proof
end

