-- ==== Sys2Proof/Syntax.lean ====
section
/-! DEFINITION. The commands of the block: one constructor for each row of the operation table. The first operand `dt`
of a command is the module time in ns since the previous command. The rows of opcodes carry a mailbox frame (Table 3.4,
R71) without its opcode, which the row supplies. -/

namespace Sys2Proof

/-- The header of a mailbox frame (Table 3.4) without opcode and payload length; the length is that of the payload.
Log entry: 18 DEDUCED. -/
structure Hdr where
  version : BitVec 4 := 1
  mfield : BitVec 4
  ring : BitVec 2
  flags : BitVec 6
  seq : BitVec 16
  slate : BitVec 8
  rsv : BitVec 8
  status : BitVec 16
  check : BitVec 32
  deriving DecidableEq, Repr, Inhabited

/-- A mailbox frame (Table 3.4): opcode, the other header fields and the payload. -/
structure Frame where
  op : BitVec 16
  h : Hdr
  p : List Byte
  deriving DecidableEq, Repr, Inhabited

/-- The index words of the tenant mailbox window that a partition writes and that have no behaviour of their own
(Table 3.3). -/
inductive WindowWord where
  | cmdProducer | rspConsumer | evtConsumer | blkProducer
  deriving DecidableEq, Repr

/-- A consumer of aligned samples: the tracker or one fusion group (R165, R166). -/
inductive Consumer where
  | tracker | group (g : Fin 32)
  deriving DecidableEq, Repr

/-- What a bead does (Table 8.3, R229). -/
inductive BeadOp where
  | pulse | on | off
  deriving DecidableEq, Repr, Inhabited

/-- A bead (Table 8.3): position on the tally (raw q48.16) or on mtime, key id, channel, op, basis, source (tracker or
master), profile (0xff the channel's own) and extent (q16.16). -/
structure Bead where
  position : BitVec 64
  key : BitVec 32
  ch : Fin 128
  op : BeadOp
  onMtime : Bool
  master : Bool
  profile : BitVec 8
  extent : BitVec 32
  deriving DecidableEq, Repr, Inhabited

/-- What a bank senses in a current-loop period, q16.16: the current of each channel that conducts [A], the off-state
output voltage of each off channel [V], the voltage of the common output [V], and the mean coil resistance of each channel
whose measuring span ends with this period [Ω] (R220, R225, R244, R248). Log entry: 106 DESIGN CHOICE. -/
structure BankSense where
  current : List (Fin 8 × Nat)
  off : List (Fin 8 × Nat)
  common : Nat
  ohms : List (Fin 8 × Nat)
  deriving DecidableEq, Repr, Inhabited

/-- What the isolated section senses for an input frame (Table 9.1): its sample counter, the levels of the digital inputs after the
fixed filter, the edges since the frame before in their order (channel, new level, age in µs), the readback of the outputs, the
codes of the four conversions of the frame with their ages in µs, over-temperature, and FS+ in 10 mV; and what the way to the lane
inverts in the frame's bytes. -/
structure FieldSense where
  counter : BitVec 32
  levels : BitVec 48
  edges : List (Fin 48 × Bool × BitVec 8)
  readback : BitVec 16
  codes : List (BitVec 16 × BitVec 8)
  hot : Bool
  supply : BitVec 16
  noise : List Byte := []
  deriving DecidableEq, Repr, Inhabited

/-- A tenant partition of a lane, as the mailbox window has it (R67, R70). -/
structure TenantPort where
  lane : Fin 2
  part : Fin 4
  deriving DecidableEq, Repr, Inhabited

/-- What a drive die finds at a boost timeout: the channel's current [A, q16.16] and the rise time from 25 % to 75 % of the boost
target in ns (R224, R248). -/
structure BoostSense where
  current : Nat
  riseNs : Nat
  deriving DecidableEq, Repr, Inhabited

/-- What the measurements of a re-plan find (Table 15.6), in q16.16: the canary slack of each lane at each offset from 0
in steps of 5 mV [ps], the SRAM margin of each lane with the rail in use [mV], the capacitance [µF] and ESR [mΩ] of
the holdup test, and when the test begins and ends, in ns from step 1 of the park. Log entry: 158 DESIGN CHOICE. -/
structure Replan where
  slackA : List Nat
  slackB : List Nat
  marginA : Nat
  marginB : Nat
  holdup : Nat × Nat
  test : Nat × Nat := (0, 0)
  deriving DecidableEq, Repr, Inhabited

/-- A CAN frame on a bus: identifier, format, type and data bytes. -/
structure CanFrame where
  id : BitVec 29
  ext : Bool
  fd : Bool
  brs : Bool
  remote : Bool
  esi : Bool := false
  dlc : Fin 16
  data : List Byte
  deriving DecidableEq, Repr, Inhabited

/-- A frame that becomes valid on a channel, and the ns that have passed since its start-of-frame (R285, Table 2.10). -/
structure CanArrival where
  sof : Nat
  frame : CanFrame
  deriving DecidableEq, Repr, Inhabited

/-- CAN errors that change an error counter (R295). -/
inductive CanError where
  | receive | receiveDominant | transmit
  deriving DecidableEq, Repr

/-- How a transmit attempt ends (R293). -/
inductive TxOutcome where
  | success | lostArbitration | error
  deriving DecidableEq, Repr

/-- What the background scrub finds in a memory word (R329). -/
inductive ScrubFinding where
  | clean | corrected | uncorrectable (tenant : Option (Fin 4)) (lpddr : Bool)
  deriving DecidableEq, Repr

/-- What a module start finds: the RCVY input, the retention check, the self-tests of the lanes, and the resistance of the panel's edge loop in q16.16 Ω (R357, R359,
R413). -/
structure StartInputs where
  rcvy : Bool
  retained : Bool
  passA : Option Bool
  passB : Option Bool
  engA : BitVec 26
  engB : BitVec 26
  drive : BitVec 20
  ohms : Nat
  deriving DecidableEq, Repr

/-- The commands (rows of the operation table). -/
inductive Instr where

  /-- BASE_CYCLE_BOUNDARY (R25): At every mtime multiple of 100 000 ns a base-cycle boundary K occurs: the cycle number advances, tallies are latched, a snapshot is taken and the per-cycle work of K is started. -/
  | baseCycleBoundary (meas : List (Nat × Nat)) (ingressEqual : Bool)
  /-- ENCODER_EDGE (R37): A filtered edge on an encoder input is decoded and counted into enc_count, the prescaler, reverse_debt and the tally position. -/
  | encoderEdge (dt : Nat) (n : Fin 8) (a : Bool) (b : Bool) (seen : BitVec 6)
  /-- INTERNAL_TALLY_TICK (R34): The internal 1 MHz tally source delivers one edge at every mtime multiple of 1000. -/
  | internalTallyTick
  /-- TALLY_STALL (R40): When no unit has been counted for tally_stall_ms, tally_state becomes STALLED and the fraction freezes. -/
  | tallyStall (dt : Nat)
  /-- ENCODER_STALE (R48): When no edge has been seen for enc_stale_ms the encoder guard becomes STALE. -/
  | encoderStale (dt : Nat) (n : Fin 8)
  /-- CYCLE_START_MESSAGE (R46): A drive die receives the cycle-start message, steers its mtime follower, loads carry values and compares its latched tally with the lane's. -/
  | cycleStartMessage (dt : Nat) (die : Fin 4) (lane : Fin 2) (off : Int)
  /-- FOLLOWER_CORRECTION (R46): At the next K after a follower mismatch the drive die adds the difference to its tally follower. -/
  | followerCorrection (dt : Nat) (die : Fin 4)
  /-- LANE_LINK_K_MESSAGE (R51): The standby lane receives the active lane's mtime and latched tally, steers or steps its mtime and compares the tally. -/
  | laneLinkKMessage (dt : Nat) (off : Int)
  /-- LATENCY_MONITOR_SILENT (R58): A monitor that has had no sample for lm_stale_ms enters SILENT. -/
  | latencyMonitorSilent (dt : Nat) (n : Fin 32)
  /-- TIME_READ (R63): Returns mtime, tally position, calendar time, cycle number and related values taken at the instant of execution. -/
  | timeRead (dt : Nat) (m : Fin 16) (h : Hdr) (p : List Byte)
  /-- CALENDAR_SET (R60): The owner sets calendar time to the given value plus the mtime elapsed since valid_at. -/
  | calendarSet (dt : Nat) (m : Fin 16) (h : Hdr) (p : List Byte)
  /-- TALLY_FORECAST (R62): Returns the estimated mtime at which the tally will reach a given position. -/
  | tallyForecast (dt : Nat) (m : Fin 16) (h : Hdr) (p : List Byte)
  /-- LATENCY_RELEARN (R62): The owner puts a latency monitor back into LEARNING. -/
  | latencyRelearn (dt : Nat) (m : Fin 16) (h : Hdr) (p : List Byte)
  /-- DOORBELL_WRITE (R67): A write to the tenant doorbell makes the module examine the CMD and BLK producer indices of that partition. -/
  | doorbellWrite (dt : Nat) (part : TenantPort) (cmds : List Frame) (blks : List Frame)
  /-- MAILBOX_IRQ_CLEAR (R67): A tenant writes 1 to bits of the interrupt status word to clear RSP or EVT advanced indications. -/
  | mailboxIrqClear (dt : Nat) (part : TenantPort) (bits : BitVec 32)
  /-- MAILBOX_WINDOW_WRITE (R67): A tenant writes an index word of its mailbox window that has no behaviour of its own. -/
  | mailboxWindowWrite (dt : Nat) (part : TenantPort) (addr : BitVec 32) (value : BitVec 32)
  /-- GATEWAY_SLOT_GAP (R69): The inter-slot limit expires within a gateway frame, which is discarded and counted in frame_errors. -/
  | gatewaySlotGap (dt : Nat) (gw : Fin 2)
  /-- SESSION_OPEN (R84): A master opens or replaces its session with an event mask, optionally resuming ownership. -/
  | sessionOpen (dt : Nat) (m : Fin 16) (h : Hdr) (p : List Byte)
  /-- SESSION_CLOSE (R84): A master closes its session, vacating ownership if it was the owner. -/
  | sessionClose (dt : Nat) (m : Fin 16) (h : Hdr) (p : List Byte)
  /-- HEARTBEAT (R90): A master keeps its session alive and reads owner, load and time to lapse. -/
  | heartbeat (dt : Nat) (m : Fin 16) (h : Hdr) (p : List Byte)
  /-- OWN_CLAIM (R88): A master claims ownership, held in an election window, granted at the next K or refused. -/
  | ownClaim (dt : Nat) (m : Fin 16) (h : Hdr) (p : List Byte)
  /-- OWN_RELEASE (R92): The owner gives up ownership, causing a vacancy. -/
  | ownRelease (dt : Nat) (m : Fin 16) (h : Hdr) (p : List Byte)
  /-- OWN_OFFER (R91): The owner offers ownership to a target master or withdraws a pending offer. -/
  | ownOffer (dt : Nat) (m : Fin 16) (h : Hdr) (p : List Byte)
  /-- OWN_ACCEPT (R91): The target accepts or declines a pending ownership offer. -/
  | ownAccept (dt : Nat) (m : Fin 16) (h : Hdr) (p : List Byte)
  /-- OUTPUTS_RESUME (R94): The owner releases groups left in safe state by the ownerless action at the next K. -/
  | outputsResume (dt : Nat) (m : Fin 16) (h : Hdr) (p : List Byte)
  /-- SESSION_LIST (R98): Returns the session state, priority and id of every master. -/
  | sessionList (dt : Nat) (m : Fin 16) (h : Hdr) (p : List Byte)
  /-- EVT_MASK_SET (R98): A master sets its event mask. -/
  | evtMaskSet (dt : Nat) (m : Fin 16) (h : Hdr) (p : List Byte)
  /-- ITEM_READ (R96): Returns up to 62 item values from one snapshot. -/
  | itemRead (dt : Nat) (m : Fin 16) (h : Hdr) (p : List Byte)
  /-- ITEM_WRITE (R97): The owner writes up to 62 items into a slate or, for permitted items, directly, all or none. -/
  | itemWrite (dt : Nat) (m : Fin 16) (h : Hdr) (p : List Byte)
  /-- ELECTION_WINDOW_END (R88): At the end of an election window ownership is granted to the held claim of highest priority and the other claims are refused. -/
  | electionWindowEnd (dt : Nat)
  /-- OWNERSHIP_GRANT_AT_K (R88): A claim made while ownership is vacant and no window is open is granted at the next K. -/
  | ownershipGrantAtK (dt : Nat)
  /-- OWNERSHIP_SWITCH (R91): At the next K after an accepted offer the target becomes owner and slates are passed or discarded. -/
  | ownershipSwitch (dt : Nat)
  /-- OFFER_EXPIRY (R91): The handover acceptance window expires without acceptance and the owner session returns to OWNER. -/
  | offerExpiry (dt : Nat)
  /-- OWNERSHIP_LAPSE (R92): The ownership lapse time passes without an accepted frame from the owner, causing a vacancy. -/
  | ownershipLapse (dt : Nat)
  /-- SESSION_IDLE_EXPIRY (R84): An OPEN session without an accepted frame for session_idle_s is CLOSED. -/
  | sessionIdleExpiry (dt : Nat) (m : Fin 16)
  /-- OWNERLESS_GRACE_EXPIRY (R94): The ownerless grace timer ends with no owner and at the next K the ownerless action takes the selected groups to their safe states. -/
  | ownerlessGraceExpiry (dt : Nat)
  /-- RECKONER_WATCHDOG_EXPIRY (R83): The Reckoner watchdog is not served in time and the Reckoner restarts alone, aborting the command in execution. -/
  | reckonerWatchdogExpiry (dt : Nat) (inExec : Option (Fin 16 × Frame))
  /-- RECKONER_RESTART_TIMEOUT (R83): A Reckoner restart that has not resumed service within its bound counts as a further expiry and begins again. -/
  | reckonerRestartTimeout (dt : Nat)
  /-- RECKONER_RESUME (R83): The Reckoner resumes service, places held events and notifies every open session. -/
  | reckonerResume (dt : Nat)
  /-- SLATE_OPEN (R100): The owner opens a free slate. -/
  | slateOpen (dt : Nat) (m : Fin 16) (h : Hdr) (p : List Byte)
  /-- SLATE_LOAD (R103): The owner fills an open slate from a Freosa image on its BLK ring, accepted only as a whole. -/
  | slateLoad (dt : Nat) (m : Fin 16) (h : Hdr) (p : List Byte)
  /-- SLATE_CHECK (R105): Runs checks 1 to 4 on an open slate and returns the check report without changing it. -/
  | slateCheck (dt : Nat) (m : Fin 16) (h : Hdr) (p : List Byte)
  /-- SLATE_COMMIT (R105): Checks an open slate and, if it passes, makes it COMMITTED with its carry instant and loads staging. -/
  | slateCommit (dt : Nat) (m : Fin 16) (h : Hdr) (p : List Byte)
  /-- SLATE_CANCEL (R114): Cancels a slate, at once when OPEN or at the next K when COMMITTED or PREPARED. -/
  | slateCancel (dt : Nat) (m : Fin 16) (h : Hdr) (p : List Byte)
  /-- SLATE_CANCEL_EFFECT (R114): At the next K a waiting cancel frees a COMMITTED or PREPARED slate and its response is released. -/
  | slateCancelEffect (dt : Nat) (sl : Fin 8)
  /-- SLATE_LIST (R127): Returns the state, basis, entries, transaction, instant and deadline of every slate. -/
  | slateList (dt : Nat) (m : Fin 16) (h : Hdr) (p : List Byte)
  /-- SLATE_ENTRIES (R127): Returns entries of a slate from a first index. -/
  | slateEntries (dt : Nat) (m : Fin 16) (h : Hdr) (p : List Byte)
  /-- RING_PREPARE (R121): A coordinator has a slate checked and PREPARED as this module's yes vote in a ring-wide carry. -/
  | ringPrepare (dt : Nat) (m : Fin 16) (h : Hdr) (p : List Byte)
  /-- RING_DECIDE (R122): A coordinator commits or aborts the PREPARED slate of a ring-wide carry. -/
  | ringDecide (dt : Nat) (m : Fin 16) (h : Hdr) (p : List Byte)
  /-- DECISION_DEADLINE_EXPIRY (R122): A PREPARED slate reaches its decision deadline without a decision and is freed. -/
  | decisionDeadlineExpiry (dt : Nat) (sl : Fin 8)
  /-- SNAPSHOT_PIN (R126): Keeps the latest complete snapshot for the reads of one master. -/
  | snapshotPin (dt : Nat) (m : Fin 16) (h : Hdr) (p : List Byte)
  /-- SNAPSHOT_READ (R126): Reads items from a pinned snapshot. -/
  | snapshotRead (dt : Nat) (m : Fin 16) (h : Hdr) (p : List Byte)
  /-- SNAPSHOT_RELEASE (R126): Frees a pinned snapshot. -/
  | snapshotRelease (dt : Nat) (m : Fin 16) (h : Hdr) (p : List Byte)
  /-- PIN_LIFETIME_EXPIRY (R126): A pinned snapshot is freed when the pin lifetime has passed. -/
  | pinLifetimeExpiry (dt : Nat) (handle : Nat)
  /-- CARRY (R110): The tally or mtime reaches a committed slate's instant and its values are released with a new carry number on both lanes and the drive dies. -/
  | carry (dt : Nat) (sl : Fin 8)
  /-- DRIVE_DIE_CARRY (R117): A drive die releases staged values of a carry at its own follower. -/
  | driveDieCarry (dt : Nat) (die : Fin 4) (sl : Fin 8)
  /-- STORE_TRANSACTION_DONE (R116): The atomic store transaction of a carry's or direct write's P items completes and persist_pending clears. -/
  | storeTransactionDone (dt : Nat)
  /-- CAMERA_LINE_START (R131): A line-start edge on a camera port opens a line that is stamped, stored or passed to the pipeline and counted by a tally that takes this port. -/
  | cameraLineStart (dt : Nat) (port : Fin 4) (px : List (BitVec 16)) (overflow : Bool)
  /-- CAMERA_FRAME_START (R133): A start-of-frame opens a frame with the next port frame number, takes a ring buffer and queues the exposure delivery. -/
  | cameraFrameStart (dt : Nat) (port : Fin 4)
  /-- CAMERA_CLOCK_LOSS (R135): No PCLK edge for the clock-loss time sets NO_CLOCK and closes any open frame as short. -/
  | cameraClockLoss (dt : Nat) (port : Fin 4)
  /-- CAMERA_STALE (R136): No line-start edge for cam_stale_ms sets the port guard STALE. -/
  | cameraStale (dt : Nat) (port : Fin 4)
  /-- DETECTION_EMIT (R143): An object closes in the pipeline and its detection record is emitted to the fusion engines. -/
  | detectionEmit (dt : Nat) (ctx : Fin 8)
  /-- STATISTICS_FINAL (R153): A frame's statistics record becomes final and the memory-path buffer is freed. -/
  | statisticsFinal (dt : Nat) (ctx : Fin 8)
  /-- CAMERA_TRIGGER (R146): A tally or mtime trigger instant falls due and a timed pulse command is sent to the trigger DO. -/
  | cameraTrigger (dt : Nat) (port : Fin 4)
  /-- CAM_STATS_READ (R154): Returns a kept statistics record of a context by frame number or the latest. -/
  | camStatsRead (dt : Nat) (m : Fin 16) (h : Hdr) (p : List Byte)
  /-- CAM_FRAME_GRAB (R159): Returns lines of a stored memory-path frame as a multi-frame response. -/
  | camFrameGrab (dt : Nat) (m : Fin 16) (h : Hdr) (p : List Byte)
  /-- CAM_TABLE_LOAD (R145): The owner loads a calibration table slot from its BLK ring and it is persisted. -/
  | camTableLoad (dt : Nat) (m : Fin 16) (h : Hdr) (p : List Byte)
  /-- HORIZON_RELEASE (R166): A consumer's horizon advances and samples with event time at or below it are released in order. -/
  | horizonRelease (dt : Nat) (cons : Consumer)
  /-- MEMBER_WATERMARK_TIMEOUT (R167): A member whose watermark falls more than W behind returns to UNALIGNED. -/
  | memberWatermarkTimeout (dt : Nat) (cons : Consumer) (member : Fin 32)
  /-- BATCH_CLOSE (R174): A view's batch closes at 256 detections or when the horizon passes its first detection plus tk_batch_us. -/
  | batchClose (dt : Nat) (view : Fin 4)
  /-- SOLVE_DONE (R178): The assignment solver completes a solve and the tracker associates tracks and makes births. -/
  | solveDone (dt : Nat) (view : Fin 4) (ns : Nat)
  /-- SOLVE_LATE (R179): A batch not started within the solver backlog limit is not solved and its detections are unpaired. -/
  | solveLate (dt : Nat) (view : Fin 4)
  /-- TRACK_EXPIRED (R171): A live track reaches tk_track_life_ms without a decision and expires. -/
  | trackExpired (dt : Nat) (track : Nat)
  /-- TRACK_READ (R193): Returns the record of a live or historic track. -/
  | trackRead (dt : Nat) (m : Fin 16) (h : Hdr) (p : List Byte)
  /-- SOLVE_READ (R178): Returns the latest solve record of a view. -/
  | solveRead (dt : Nat) (m : Fin 16) (h : Hdr) (p : List Byte)
  /-- FU_TABLE_LOAD (R170): The owner loads a fusion table slot from its BLK ring. -/
  | fuTableLoad (dt : Nat) (m : Fin 16) (h : Hdr) (p : List Byte)
  /-- CELL_READ (R187): Returns a kept cell record of a group. -/
  | cellRead (dt : Nat) (m : Fin 16) (h : Hdr) (p : List Byte)
  /-- LOOP_RELEASE (R202): A loop is released on mtime or tally and its run evaluates the PID law and writes its output. -/
  | loopRelease (dt : Nat) (loop : Fin 128) (completes : Bool) (execNs : Nat)
  /-- RUN_DEADLINE (R209): A run not complete at its deadline is abandoned and counted as an overrun. -/
  | runDeadline (dt : Nat) (loop : Fin 128)
  /-- ROD_READ (R218): Returns the record of a loop's latest run. -/
  | rodRead (dt : Nat) (m : Fin 16) (h : Hdr) (p : List Byte)
  /-- ROD_RESET (R210): The owner ends a loop's FAILSAFE at the next K. -/
  | rodReset (dt : Nat) (m : Fin 16) (h : Hdr) (p : List Byte)
  /-- ROD_RESET_EFFECT (R210): At the next K a reset loop returns to RUN with bumpless initialisation. -/
  | rodResetEffect (dt : Nat) (loop : Fin 128)
  /-- BEAM_READ (R218): Returns a beam's latest evaluation. -/
  | beamRead (dt : Nat) (m : Fin 16) (h : Hdr) (p : List Byte)
  /-- ROD_TRACE_ARM (R218): Arms the lane's trace buffer to capture the next runs of one loop. -/
  | rodTraceArm (dt : Nat) (m : Fin 16) (h : Hdr) (p : List Byte)
  /-- ROD_TRACE_READ (R218): Returns captured runs and frees the trace buffer when complete. -/
  | rodTraceRead (dt : Nat) (m : Fin 16) (h : Hdr) (p : List Byte)
  /-- BEAD_ARRIVAL (R230): A bead arrives at a drive die and is queued, or dropped as duplicate, queue full or flushed. -/
  | beadArrival (dt : Nat) (lane : Fin 2) (bank : Fin 16) (bead : Bead)
  /-- BEAD_DUE (R232): A bead becomes due at its follower position and the sequencer decides to start, defer or drop it. -/
  | beadDue (dt : Nat) (bank : Fin 16)
  /-- BOOST_END (R223): The channel current reaches ch_peak_a, BOOST ends, PEAK begins and the boost gate is released. -/
  | boostEnd (dt : Nat) (ch : Fin 128) (riseNs : Nat)
  /-- BOOST_TIMEOUT (R224): A boost reaches its timeout and ends as open load or continues in PEAK with fault 4. -/
  | boostTimeout (dt : Nat) (ch : Fin 128) (sense : BoostSense)
  /-- PEAK_DWELL_END (R223): prof_peak_dwell_us after BOOST the channel passes to HOLD. -/
  | peakDwellEnd (dt : Nat) (ch : Fin 128)
  /-- BEAD_END (R229): A running bead reaches its end by extent, hold limit or off bead and the channel enters QUENCH. -/
  | beadEnd (dt : Nat) (ch : Fin 128)
  /-- QUENCH_END (R223): The coil current falls below the quench end current and the channel becomes IDLE. -/
  | quenchEnd (dt : Nat) (ch : Fin 128)
  /-- CURRENT_LOOP_PERIOD (R225): At each current-loop period the sequencer regulates PEAK, HOLD and DITHER and re-examines deferred beads. -/
  | currentLoopPeriod (dt : Nat) (bank : Fin 16) (sense : BankSense)
  /-- DITHER_SETPOINT (R237): A dither channel receives a current set-point from a loop or beam and uses it at the next period. -/
  | ditherSetpoint (dt : Nat) (lane : Fin 2) (ch : Fin 128) (value : BitVec 32)
  /-- CHANNEL_SHORT_TRIP (R242): Low-side current above the short trip opens the switch and puts the channel in RETRY_WAIT. -/
  | channelShortTrip (dt : Nat) (ch : Fin 128)
  /-- HIGH_SIDE_SHORT_TRIP (R242): High-side current above its trip opens the high side and puts the bank in FAULT. -/
  | highSideShortTrip (dt : Nat) (bank : Fin 16)
  /-- CHANNEL_RETRY_EXPIRY (R243): ch_retry_ms passes and a RETRY_WAIT channel returns to IDLE or DITHER. -/
  | channelRetryExpiry (dt : Nat) (ch : Fin 128)
  /-- BOOST_RAIL_READY (R221): A bank's boost rail rises to its ready threshold. -/
  | boostRailReady (dt : Nat) (bank : Fin 16) (volts : Nat)
  /-- BOOST_LOW_TIMEOUT (R245): A rail not ready for the boost-low time in tier 0 or 1 sets bank_fault boost low. -/
  | boostLowTimeout (dt : Nat) (bank : Fin 16)
  /-- DRIVE_TIER_CHANGE (R246): A drive die's own MAIN+ measurement moves its sag tier and its banks behave as Table 8.7. -/
  | driveTierChange (dt : Nat) (die : Fin 4) (volts : Nat)
  /-- SAG_RECOVERY_READY (R247): After tier 3, or at enable, every awaited rail is ready or the charge time passes, and banks return to RUN at the next K. -/
  | sagRecoveryReady (dt : Nat)
  /-- DRIVE_OUTPUT_TIMEOUT (R240): No cycle-start message for the output timeout puts every bank of the die in SAFE with cause [1]. -/
  | driveOutputTimeout (dt : Nat) (die : Fin 4)
  /-- VALVE_BEAD (R251): The owner writes up to 40 beads, passed to the drive dies when its response is released. -/
  | valveBead (dt : Nat) (m : Fin 16) (h : Hdr) (p : List Byte)
  /-- BEAD_CANCEL (R251): Removes queued beads that have not started. -/
  | beadCancel (dt : Nat) (m : Fin 16) (h : Hdr) (p : List Byte)
  /-- QUEUE_READ (R251): Returns beads of a bank queue as it stands at execution. -/
  | queueRead (dt : Nat) (m : Fin 16) (h : Hdr) (p : List Byte)
  /-- BEAD_LOG_READ (R251): Returns the bank's bead log records. -/
  | beadLogRead (dt : Nat) (m : Fin 16) (h : Hdr) (p : List Byte)
  /-- VALVE_CLEAR (R251): The owner clears a LATCHED channel or a FAULT bank at the next K. -/
  | valveClear (dt : Nat) (m : Fin 16) (h : Hdr) (p : List Byte)
  /-- VALVE_CLEAR_EFFECT (R243): At the next K the named channels leave LATCHED and the bank leaves cause [3]. -/
  | valveClearEffect (dt : Nat) (bank : Fin 16)
  /-- COIL_MEASURE (R248): Measures an idle or off channel's coil at the test current and returns R and L. -/
  | coilMeasure (dt : Nat) (m : Fin 16) (h : Hdr) (p : List Byte)
  /-- INPUT_FRAME_RX (R253): A lane receives an input frame from the isolated section and processes DI, AI, LS, DO readback and refusals. -/
  | inputFrameRx (dt : Nat) (lane : Fin 2) (sense : FieldSense) (lowCurrent : BitVec 16)
  /-- OUTPUT_FRAME_TICK (R254): Every 25 µs a lane sends an output frame, kind 2 from the active lane or kind 3 from the standby. -/
  | outputFrameTick (dt : Nat) (lane : Fin 2)
  /-- OUTPUT_FRAME_RX (R254): The isolated section receives an output frame and takes commands only from kind 2 frames of the named lane. -/
  | outputFrameRx (dt : Nat) (lane : Fin 2) (bytes : List Byte)
  /-- ISO_LINK_STALE (R255): No valid input frame for the link stale time makes every DI, AI and LS guard STALE and iso_link DOWN. -/
  | isoLinkStale (dt : Nat) (lane : Fin 2)
  /-- DI_EDGE_ACCEPT (R260): An edge whose level has held for di_filter_us is accepted and reaches consumers. -/
  | diEdgeAccept (dt : Nat) (n : Fin 48)
  /-- DI_STALE (R260): No accepted edge for di_stale_ms sets the DI guard STALE. -/
  | diStale (dt : Nat) (n : Fin 48)
  /-- DI_WIRE_BREAK (R259): Input current below the wire-break threshold for the confirmation time sets the wire-break bit. -/
  | diWireBreak (dt : Nat) (n : Fin 48) (broken : Bool)
  /-- AI_STALE (R263): No AI sample for ai_stale_ms sets the guard STALE. -/
  | aiStale (dt : Nat) (n : Fin 16)
  /-- AI_SHUNT_TRIP (R264): Current above the shunt trip opens the shunt and increments ai_overloads. -/
  | aiShuntTrip (dt : Nat) (n : Fin 16)
  /-- AI_SHUNT_RECLOSE (R264): 100 ms after opening the section closes the shunt again. -/
  | aiShuntReclose (dt : Nat) (n : Fin 16)
  /-- LS_IMPACT (R265): A loss input envelope rises through ls_trig_level and an impact with its amplitude is detected. -/
  | lsImpact (dt : Nat) (n : Fin 8) (amplitude : Nat)
  /-- LS_STALE (R266): No LS sample for ls_stale_ms sets the guard STALE. -/
  | lsStale (dt : Nat) (n : Fin 8)
  /-- LS_TEST (R267): Every 100 ms a test charge is injected into each enabled LS input and the guard judged. -/
  | lsTest (dt : Nat) (passed : List Bool)
  /-- LS_HIST_WINDOW (R268): A loss histogram window of ls_hist_ms closes and a new one opens. -/
  | lsHistWindow (dt : Nat) (n : Fin 8)
  /-- DO_TRIP (R269): A DO current above the overload trip for the trip delay opens the output and sets its trip bit. -/
  | doTrip (dt : Nat) (n : Fin 16)
  /-- DO_RETRY_EXPIRY (R269): After do_retry_ms the lane sends the clear bit of a tripped DO. -/
  | doRetryExpiry (dt : Nat) (n : Fin 16)
  /-- DO_PULSE_START (R271): The section starts an accepted pulse at its start counter and ends it after its width. -/
  | doPulseStart (dt : Nat) (n : Fin 16)
  /-- DO_OUTPUT_TIMEOUT (R273): No valid kind 2 frame for the output timeout sends every DO to do_safe. -/
  | doOutputTimeout (dt : Nat)
  /-- FIELD_SUPPLY_CHANGE (R272): FS+ falls below or recovers above its low threshold, turning every DO off or restoring commands. -/
  | fieldSupplyChange (dt : Nat) (volts : Nat)
  /-- LS_HIST_READ (R268): Returns the last complete loss histogram window of a channel. -/
  | lsHistRead (dt : Nat) (m : Fin 16) (h : Hdr) (p : List Byte)
  /-- DO_CLEAR (R277): The owner clears LATCHED DOs at the next K. -/
  | doClear (dt : Nat) (m : Fin 16) (h : Hdr) (p : List Byte)
  /-- CAN_FRAME_VALID (R285): A frame becomes valid on a CAN channel, takes a receive sequence and is offered to gateway, streams, monitors, buffers and filters. -/
  | canFrameValid (dt : Nat) (ch : Fin 6) (got : CanArrival)
  /-- CAN_HP_IRQ_WORD_READ (R287): A tenant reads the high-priority interrupt word, which clears it. -/
  | canHpIrqWordRead (dt : Nat) (part : Fin 4)
  /-- CAN_BUS_ERROR (R295): A CAN error is detected, error counters change and the error state may change. -/
  | canBusError (dt : Nat) (ch : Fin 6) (err : CanError)
  /-- CAN_TX_ATTEMPT_END (R293): A transmit attempt ends in success, lost arbitration or error, freeing or re-queuing the buffer. -/
  | canTxAttemptEnd (dt : Nat) (ch : Fin 6) (outcome : TxOutcome)
  /-- CAN_BUSOFF_RECOVERED (R296): 128 × 11 recessive bits have been counted and the controller returns to ERROR_ACTIVE. -/
  | canBusoffRecovered (dt : Nat) (ch : Fin 6)
  /-- CAN_BUS_IDLE_INTEGRATION (R299): At the first bus idle after a bit-timing carry the controller integrates on 11 recessive bits. -/
  | canBusIdleIntegration (dt : Nat) (ch : Fin 6)
  /-- CAN_TX (R290): A master queues a frame in a transmit buffer, eligible once the copy holding it is acknowledged. -/
  | canTx (dt : Nat) (m : Fin 16) (h : Hdr) (p : List Byte)
  /-- CAN_TX_CANCEL (R294): Cancels a transmit buffer by handle according to its attempt state. -/
  | canTxCancel (dt : Nat) (m : Fin 16) (h : Hdr) (p : List Byte)
  /-- CAN_TX_LIST (R302): Returns the transmit buffers of a channel. -/
  | canTxList (dt : Nat) (m : Fin 16) (h : Hdr) (p : List Byte)
  /-- CAN_RECOVER (R296): The owner starts bus-off recovery of a channel. -/
  | canRecover (dt : Nat) (m : Fin 16) (h : Hdr) (p : List Byte)
  /-- CAN_HP_READ (R287): Returns the frame held in a high-priority buffer. -/
  | canHpRead (dt : Nat) (m : Fin 16) (h : Hdr) (p : List Byte)
  /-- RING_PORT_UP (R305): A ring port holds symbol lock and idle for the link-up time and goes UP. -/
  | ringPortUp (dt : Nat) (port : Fin 2)
  /-- RING_PORT_DOWN (R305): A ring port loses symbol lock or sees too many code violations and goes DOWN. -/
  | ringPortDown (dt : Nat) (port : Fin 2) (codeErrors : Nat)
  /-- RING_FRAME_RX (R307): A ring frame is received and removed, taken, forwarded or discarded. -/
  | ringFrameRx (dt : Nat) (port : Fin 2) (bytes : List Byte)
  /-- MBX_SLOTS (R311): A ring frame carries mailbox slots that the module stores at their indices. -/
  | mbxSlots (dt : Nat) (src : BitVec 16) (body : List Byte)
  /-- MBX_INDEX (R311): A ring frame publishes a producer or consumer index or requests a resend. -/
  | mbxIndex (dt : Nat) (src : BitVec 16) (body : List Byte)
  /-- STATUS (R309): A STATUS broadcast from another node updates ring membership and ring_state. -/
  | status (dt : Nat) (src : BitVec 16) (port : Fin 2) (body : List Byte)
  /-- STATUS_PERIOD (R309): Once per status period the module broadcasts its STATUS frame. -/
  | statusPeriod (dt : Nat)
  /-- RING_MEMBER_TIMEOUT (R309): A node's STATUS is not taken within the member timeout and ring_state is re-evaluated. -/
  | ringMemberTimeout (dt : Nat) (node : BitVec 16)
  /-- RING_RESEND_EXPIRY (R312): No consumer index for the resend time makes the module send the producer index again. -/
  | ringResendExpiry (dt : Nat) (m : Fin 16) (ring : Fin 4)
  /-- RING_JOIN_WAIT_END (R315): The staggered join wait ends and the bypass relays are switched open. -/
  | ringJoinWaitEnd (dt : Nat)
  /-- RING_BYPASS_SETTLED (R315): Relays settle, ports train and the bypass becomes OPEN. -/
  | ringBypassSettled (dt : Nat) (up : Bool)
  /-- LINK_TEST_EXPIRY (R318): A link test's duration passes and the link resumes its line code. -/
  | linkTestExpiry (dt : Nat) (link : Fin 6)
  /-- FAULT_INJECT_EXPIRY (R320): A fault injection ends at its duration or count. -/
  | faultInjectExpiry (dt : Nat) (link : Fin 6)
  /-- RING_READ (R321): Returns ring state, members, bypass state and nodes seen. -/
  | ringRead (dt : Nat) (m : Fin 16) (h : Hdr) (p : List Byte)
  /-- RING_BYPASS (R314): The owner opens or closes the ring bypass. -/
  | ringBypass (dt : Nat) (m : Fin 16) (h : Hdr) (p : List Byte)
  /-- LINK_TEST_START (R316): The owner starts a PRBS test on a link. -/
  | linkTestStart (dt : Nat) (m : Fin 16) (h : Hdr) (p : List Byte)
  /-- LINK_TEST_STOP (R318): The owner ends a link test. -/
  | linkTestStop (dt : Nat) (m : Fin 16) (h : Hdr) (p : List Byte)
  /-- LINK_TEST_READ (R317): Returns the checker state and counts of a link test. -/
  | linkTestRead (dt : Nat) (m : Fin 16) (h : Hdr) (p : List Byte)
  /-- FAULT_INJECT (R319): The owner starts or stops drop, corrupt or reorder injection on a link transmitter. -/
  | faultInject (dt : Nat) (m : Fin 16) (h : Hdr) (p : List Byte)
  /-- LANE_GIVE_UP (R327): A self-diagnosis monitor finds a give-up cause and the lane closes its gate, asserts give-up and stops its vital line. -/
  | laneGiveUp (dt : Nat) (lane : Fin 2) (cause : Fin 18) (detectNs : Nat)
  /-- TENANT_CORE_RESTART (R327): An uncorrectable error on a non-critical tenant core restarts that partition alone and closes its session. -/
  | tenantCoreRestart (dt : Nat) (lane : Fin 2) (part : Fin 4)
  /-- VITAL_TIMEOUT (R325): The named lane's vital line makes no transition for the vital timeout and the latch goes HOLDING with the lane departed. -/
  | vitalTimeout (dt : Nat)
  /-- QUIET_TIME_END (R335): After the quiet time the standby lane prepares to take the role from the copied state. -/
  | quietTimeEnd (dt : Nat)
  /-- LANE_CLAIM (R325): A lane's claim is accepted, the latch names it ACCEPTING and it becomes ACTIVE. -/
  | laneClaim (dt : Nat) (lane : Fin 2)
  /-- LANE_YIELD (R338): After the copy at K_s is acknowledged the active lane closes its gate and yields. -/
  | laneYield (dt : Nat)
  /-- PLANNED_SWITCH_AT_K (R338): At K_s the active lane stops consuming frames and sends the final copy of a planned switch. -/
  | plannedSwitchAtK (dt : Nat)
  /-- HANDOVER_BOUND_EXPIRY (R336): No claim is accepted within the handover bound; a yielded lane reclaims or the module has no active lane. -/
  | handoverBoundExpiry (dt : Nat)
  /-- COPY_RECEIVED (R331): The standby lane receives and applies a cycle copy, compares computed records and acknowledges or rejects it. -/
  | copyReceived (dt : Nat) (match_ : Bool)
  /-- COPY_ACK (R330): The active lane receives the copy acknowledgement, releasing held responses and making CAN buffers and beads eligible. -/
  | copyAck (dt : Nat) (cycle : Nat)
  /-- COPY_FAILED (R333): A copy is missing, corrupt, late or misnumbered and is answered negatively. -/
  | copyFailed (dt : Nat)
  /-- LANE_LINK_DOWN (R334): The lane link goes DOWN and the standby lane gives up with cause 13. -/
  | laneLinkDown (dt : Nat)
  /-- LANE_RESTART_DELAY_END (R340): red_restart_delay_ms after a give-up the lane restarts or goes to HELD. -/
  | laneRestartDelayEnd (dt : Nat) (lane : Fin 2)
  /-- SELF_TEST_DONE (R323): A lane's start self-test completes, passing to claim or sync, or failing to HELD. -/
  | selfTestDone (dt : Nat) (lane : Fin 2) (passed : Bool)
  /-- FULL_SYNC_DONE (R339): A restarting lane completes its full sync and enters SYNCING. -/
  | fullSyncDone (dt : Nat) (lane : Fin 2)
  /-- START_WAIT_EXPIRY (R326): red_start_wait_ms passes and the non-preferred lane claims. -/
  | startWaitExpiry (dt : Nat)
  /-- MEMORY_SCRUB (R329): Background scrub reads and corrects memory words, finding uncorrectable ones as cause 3 or 4. -/
  | memoryScrub (dt : Nat) (lane : Fin 2) (finding : ScrubFinding)
  /-- RED_READ (R341): Returns role, acceptance, lane states and fail-over figures. -/
  | redRead (dt : Nat) (m : Fin 16) (h : Hdr) (p : List Byte)
  /-- LANE_SWITCH (R338): The owner moves the active role to the standby lane by a planned switch. -/
  | laneSwitch (dt : Nat) (m : Fin 16) (h : Hdr) (p : List Byte)
  /-- LANE_RESTART (R340): The owner restarts a lane and clears its restart count. -/
  | laneRestart (dt : Nat) (m : Fin 16) (h : Hdr) (p : List Byte)
  /-- POWER_TIER_CHANGE (R344): The power stage's MAIN+ measurement moves the sag tier and the module behaves as Table 13.1. -/
  | powerTierChange (dt : Nat) (volts : Nat)
  /-- HOLDUP_DECISION (R349): The holdup decision timer reaches holdup_decision_ms and the power-fail shut-down begins. -/
  | holdupDecision (dt : Nat)
  /-- HOLDUP_RECHARGE_END (R346): MAIN+ has stayed outside tier 3 for the recharge time and the decision timer returns to zero. -/
  | holdupRechargeEnd (dt : Nat)
  /-- SHUTDOWN_COMPLETE (R349): Store transactions and bypass close complete and the logic rails go off into PARK or OFF. -/
  | shutdownComplete (dt : Nat)
  /-- KA_SUPPLY_CHANGE (R355): KA+ is lost or restored, making PARK unavailable or available, or taking PARK to OFF. -/
  | kaSupplyChange (dt : Nat) (volts : Nat)
  /-- MAIN_START_DWELL (R351): MAIN+ holds the start threshold for the start dwell and a cold start or wake begins. -/
  | mainStartDwell (dt : Nat)
  /-- WAKE_INPUT (R353): The WAKE input rises through its threshold in PARK. -/
  | wakeInput (dt : Nat)
  /-- CAN_WAKE_PATTERN (R353): The ISO 11898-2 wake-up pattern arrives on a channel with can_wake set in PARK. -/
  | canWakePattern (dt : Nat) (ch : Fin 6)
  /-- PARK_TIMER_EXPIRY (R353): park_timer_s elapses since entry into PARK. -/
  | parkTimerExpiry (dt : Nat)
  /-- WAKE_WAIT_EXPIRY (R353): MAIN+ has not reached the start threshold within the wake wait and the module stays in PARK. -/
  | wakeWaitExpiry (dt : Nat)
  /-- MODULE_START (R357): A start other than a lane restart brings up logic, self-tests, reads the store, claims a lane and releases the start carry. -/
  | moduleStart (dt : Nat) (inp : StartInputs)
  /-- STATE_CHANGE_EFFECT (R362): At the first K after its response a pending STATE_SET takes effect: RUN, IDLE or the orderly park. -/
  | stateChangeEffect (dt : Nat) (rp : Replan)
  /-- MODULE_RESET_EFFECT (R362): At the first K after its response a requested warm module reset begins. -/
  | moduleResetEffect (dt : Nat)
  /-- ORDERLY_PARK_COMPLETE (R354): The orderly park's steps finish and the module enters PARK. -/
  | orderlyParkComplete (dt : Nat)
  /-- POWER_READ (R362): Returns operating state, sag tier, supply voltages and holdup figures. -/
  | powerRead (dt : Nat) (m : Fin 16) (h : Hdr) (p : List Byte)
  /-- STATE_SET (R362): The owner requests RUN, IDLE or PARK. -/
  | stateSet (dt : Nat) (m : Fin 16) (h : Hdr) (p : List Byte)
  /-- MODULE_RESET (R362): The owner requests a warm module reset. -/
  | moduleReset (dt : Nat) (m : Fin 16) (h : Hdr) (p : List Byte)
  /-- COMPONENT_HASH_DONE (R371): The SHA-384 of a component is computed after its last block and checked. -/
  | componentHashDone (dt : Nat)
  /-- BANK_WRITE_DONE (R372): A lane finishes writing and reading back its inactive bank, leading to READY or a rewrite. -/
  | bankWriteDone (dt : Nat) (lane : Fin 2) (ok : Bool)
  /-- CONFIRMATION_WINDOW_END (R375): upd_confirm_s passes after activation and the new image is confirmed or falls back. -/
  | confirmationWindowEnd (dt : Nat)
  /-- UPDATE_SESSION_IDLE (R379): No UPD_BLOCKS for the session idle time discards the session. -/
  | updateSessionIdle (dt : Nat)
  /-- UPD_OPEN (R369): The owner opens an update session with a signed manifest. -/
  | updOpen (dt : Nat) (m : Fin 16) (h : Hdr) (p : List Byte)
  /-- UPD_BLOCKS (R371): The owner sends 1 to 3 image blocks from its BLK ring. -/
  | updBlocks (dt : Nat) (m : Fin 16) (h : Hdr) (p : List Byte)
  /-- UPD_ACTIVATE (R374): The owner activates a ready image by handover or by warm module reset. -/
  | updActivate (dt : Nat) (m : Fin 16) (h : Hdr) (p : List Byte)
  /-- UPD_CONFIRM (R375): The owner confirms the new image during CONFIRMING. -/
  | updConfirm (dt : Nat) (m : Fin 16) (h : Hdr) (p : List Byte)
  /-- UPD_ABORT (R375): The owner aborts an update session or forces a fall-back. -/
  | updAbort (dt : Nat) (m : Fin 16) (h : Hdr) (p : List Byte)
  /-- UPD_INVENTORY (R383): Returns the bank state and components of a lane's bank. -/
  | updInventory (dt : Nat) (m : Fin 16) (h : Hdr) (p : List Byte)
  /-- UPD_RECOVERY (R380): The owner selects ROM recovery mode at the first K after the response. -/
  | updRecovery (dt : Nat) (m : Fin 16) (h : Hdr) (p : List Byte)
  /-- UPD_RECOVERY_EXIT (R382): Ends ROM recovery mode by a recovery boot. -/
  | updRecoveryExit (dt : Nat) (m : Fin 16) (h : Hdr) (p : List Byte)
  /-- RECORDER_WINDOW_CLOSE (R387): A recorder channel's window closes at an mtime multiple and its histogram or extremes record is queued. -/
  | recorderWindowClose (dt : Nat) (ch : Fin 32)
  /-- RECORD_WRITTEN (R391): A queued record is written whole to the store and its region's newest sequence advances. -/
  | recordWritten (dt : Nat)
  /-- AGE_TREND_TICK (R394): Every age_trend_h hours each ageing monitor writes a trend record per instance. -/
  | ageTrendTick (dt : Nat)
  /-- CANARY_MEASURE (R395): Every 10 ms the path-delay canary slack is measured, warning or tripping cause 10. -/
  | canaryMeasure (dt : Nat) (lane : Fin 2) (slack : Nat)
  /-- HIST_READ (R393): Returns records of a region from a sequence with the oldest and newest sequences. -/
  | histRead (dt : Nat) (m : Fin 16) (h : Hdr) (p : List Byte)
  /-- HIST_CLEAR (R400): The owner clears the history region. -/
  | histClear (dt : Nat) (m : Fin 16) (h : Hdr) (p : List Byte)
  /-- AGE_READ (R400): Returns the plan record in force. -/
  | ageRead (dt : Nat) (m : Fin 16) (h : Hdr) (p : List Byte)
  /-- AGE_MONITOR_READ (R400): Returns samples of an ageing monitor since its last record. -/
  | ageMonitorRead (dt : Nat) (m : Fin 16) (h : Hdr) (p : List Byte)
  /-- PANEL_UPDATE_START (R406): A pending panel update starts once all start conditions hold, latching the band and writing the in-progress record. -/
  | panelUpdateStart (dt : Nat) (ohms : Nat)
  /-- PANEL_FRAME (R407): Each frame period the panel sequencer drives one waveform frame and reads the temperature. -/
  | panelFrame (dt : Nat) (temp : Int)
  /-- PANEL_UPDATE_END (R409): The drive rails discharge, panel_shown becomes the target and the in-progress record is cleared. -/
  | panelUpdateEnd (dt : Nat)
  /-- PANEL_TEMP_READ (R408): Every second between updates the panel temperature is read and panel_band follows with hysteresis. -/
  | panelTempRead (dt : Nat) (temp : Int)
  /-- EDGE_LOOP_CHECK (R413): The edge loop resistance is measured and a crack stops updates and sets FAULT. -/
  | edgeLoopCheck (dt : Nat) (ohms : Nat)
  /-- PANEL_PAGE_LOAD (R404): The owner loads a panel page from its BLK ring. -/
  | panelPageLoad (dt : Nat) (m : Fin 16) (h : Hdr) (p : List Byte)
  /-- PANEL_READ (R414): Returns panel state, band, shown page and temperature. -/
  | panelRead (dt : Nat) (m : Fin 16) (h : Hdr) (p : List Byte)
  /-- PANEL_REFRESH (R405): The owner requests a clearing update to panel_page. -/
  | panelRefresh (dt : Nat) (m : Fin 16) (h : Hdr) (p : List Byte)
  /-- CAMERA_CLOCK_RETURN (R135): PCLK edges are seen again on a port in NO_CLOCK and cam_state becomes SEARCHING. -/
  | cameraClockReturn (dt : Nat) (port : Fin 4)
  /-- STREAM_STALE (R164): A stream from a CAN source receives no sample for st_stale_ms and its guard becomes STALE. -/
  | streamStale (dt : Nat) (stream : Fin 32)
  /-- CAN_PROTOCOL_EXCEPTION (R284): A controller receives an FD frame it may not take, enters the protocol exception state and integrates again at the next bus idle. -/
  | canProtocolException (dt : Nat) (ch : Fin 6)
  /-- BYPASS_CLOSE_DONE (R314): The bypass relays finish their transit and bypass_state goes from CLOSING to CLOSED. -/
  | bypassCloseDone (dt : Nat)
  /-- CHECKER_LOCK (R317): A PRBS checker sees 64 consecutive error-free bits, seeds itself and becomes LOCKED. -/
  | checkerLock (dt : Nat) (link : Fin 6) (bits : Nat) (errors : Nat)
  /-- CHECKER_SYNC_LOSS (R317): A LOCKED PRBS checker sees more than 128 errors within 1024 bits, returns to HUNTING and increments lt_sync_losses. -/
  | checkerSyncLoss (dt : Nat) (link : Fin 6) (bits : Nat) (errors : Nat)
  /-- LANE_LINK_UP (R323): The lane link comes UP again, and a SYNCING lane begins its full sync once more. -/
  | laneLinkUp (dt : Nat)
  /-- SUPPLY_ABOVE_OPERATING_MAX (R347): MAIN+ rises above the operating maximum, POWER_EVENT kind 1 is sent and supply_over increments. -/
  | supplyAboveOperatingMax (dt : Nat) (volts : Nat)
  /-- COIL_MEASURE_DONE (R248): A COIL_MEASURE measurement ends, or passes its duration limit, and its response with ch_r_ohm and ch_l_mh, or TIMEOUT, is given. -/
  | coilMeasureDone (dt : Nat) (ch : Fin 128) (result : Option (Nat × Nat))
  deriving DecidableEq, Repr

end Sys2Proof
end

