-- ==== Sys2Proof/Decode.lean ====
section
/-! DEFINITION. The decoder of the operation table's bits. The table gives no row any bits: commands reach the block as what they
are, not as words, so that no word spells one. Mailbox frames, which do carry an encoding, are read in `Machine/Operands.lean`. -/

namespace Sys2Proof

/-- The command that a word of `nbits` bits spells by the table: none, since no row has bits.
Log entry: 163 DESIGN CHOICE. -/
def decodeTableWord (_nbits _w : Nat) : Option Instr := none

end Sys2Proof
end

