-- ==== Sys2Proof/Config.lean ====
section
/-! DEFINITION. What an implementation fixes and the spec leaves open: uninterpreted constants, so that no proof can see
a value. Each is named in an assumption-log entry. -/

namespace Sys2Proof.Config

/-- A value that the spec leaves open, one for each count of `State.free`. Log entry: 1 DESIGN CHOICE. -/
opaque freeValue : Nat → Nat

/-- Factory fuse and calibration values, by item key (Table 0.7 code F). Log entry: 2 DESIGN CHOICE. -/
opaque fused : Nat → Nat

/-- SHA-384 of a byte string, as a number (R366, R371). Log entry: 3 DESIGN CHOICE. -/
opaque sha384 : List Byte → Nat

/-- Verification of a signature over a byte string by the public key with the given index (R366):
key index, signed bytes, signature bytes. Log entry: 3 DESIGN CHOICE. -/
opaque verifies : Nat → List Byte → List Byte → Bool

/-- The value that a feature microprogram of the pixel engines computes for one object of a context (R142):
microprogram identifier, pixel words of the object, feature number. Log entry: 4 DESIGN CHOICE. -/
opaque feature : Nat → List Nat → Nat → Nat

/-- The tally at which a track without a speed crosses a line (R172): s + sqrt(r) is 0. Track and distance: speed numerator and
denominator, acceleration, distance in µm. Log entry: 81 DESIGN CHOICE. -/
opaque crossing : Int → Nat → Int → Int → Nat

end Sys2Proof.Config
end

