-- ==== Sys2Proof/Machine/Items.lean ====
section
/-! DEFINITION. The item space of the module: the key of every item (R6, R7), and for every item table of the
spec its rows: type (Table 0.5), range (R10), default, apply point (Table 0.6) and survival code (Table 0.7).
Item values are held raw, as the unsigned number of their encoding; `s32` and `q16.16` are two's complement. -/

namespace Sys2Proof.Machine

/-- Item types, Table 0.5 (R9). -/
inductive ItemType where
  | u8 | u16 | u32 | u64 | s32 | q16 | q48 | enum | bits
  deriving DecidableEq, Repr

/-- Apply points, Table 0.6 (R12). -/
inductive Apply where
  | immediate | nextCycle | nextFrame | nextEvent | atCarry | atPark | atRestart
  deriving DecidableEq, Repr

/-- Survival codes, Table 0.7 (R14). -/
inductive Survival where
  | v | w | p | f
  deriving DecidableEq, Repr

/-- The Range column (R10): every value of the type, a list of closed intervals of signed raw values, or the mask
of the defined bits. Ranges that depend on another item are checked where the owning chapter states them. -/
inductive ItemRange where
  | any | ivals (l : List (Int × Int)) | mask (m : Nat)
  deriving DecidableEq, Repr

/-- The Default column: a number, a number for each ordering variant (R1), or a fused or calibrated value. -/
inductive ItemDefault where
  | is (n : Nat) | byVariant (hv sl : Nat) | fused
  deriving DecidableEq, Repr

/-- One row of an item table; `fld` is the field of its key. -/
structure ItemRow where
  fld : Nat
  ty : ItemType
  rng : ItemRange
  dflt : ItemDefault
  apply : Apply
  surv : Survival
  deriving DecidableEq, Repr

/-- The rows that `count` instances from `ins0` of one class share. -/
structure ItemBlock where
  ins0 : Nat
  count : Nat
  rows : List ItemRow
  deriving DecidableEq, Repr

/-- An item key cls.ins.fld (R6). -/
def itemKey (cls ins fld : Nat) : Nat := cls * 65536 + ins * 256 + fld

/-- `part_code`, 0x10.00.00, u32 (R2, Table 0.3). -/
@[reducible] def It.partCode : Nat := itemKey 0x10 0x00 0x00
/-- `variant`, 0x10.00.01, enum (R2, Table 0.3). -/
@[reducible] def It.variant : Nat := itemKey 0x10 0x00 0x01
/-- `serial_number`, 0x10.00.02, u64 (R2, Table 0.3). -/
@[reducible] def It.serialNumber : Nat := itemKey 0x10 0x00 0x02
/-- `hw_revision`, 0x10.00.03, u16 (R2, Table 0.3). -/
@[reducible] def It.hwRevision : Nat := itemKey 0x10 0x00 0x03
/-- `lane_a_die_id`, 0x10.00.04, u64 (R2, Table 0.3). -/
@[reducible] def It.laneADieId : Nat := itemKey 0x10 0x00 0x04
/-- `lane_b_die_id`, 0x10.00.05, u64 (R2, Table 0.3). -/
@[reducible] def It.laneBDieId : Nat := itemKey 0x10 0x00 0x05
/-- `cycle_number`, 0x10.01.00, u64 (R33, Table 1.12). -/
@[reducible] def It.cycleNumber : Nat := itemKey 0x10 0x01 0x00
/-- `base_cycle_us`, 0x10.01.01, u16 (R33, Table 1.12). -/
@[reducible] def It.baseCycleUs : Nat := itemKey 0x10 0x01 0x01
/-- `engine_ok_a`, 0x10.01.02, bits (R33, Table 1.12). -/
@[reducible] def It.engineOkA : Nat := itemKey 0x10 0x01 0x02
/-- `engine_ok_b`, 0x10.01.03, bits (R33, Table 1.12). -/
@[reducible] def It.engineOkB : Nat := itemKey 0x10 0x01 0x03
/-- `drive_ok`, 0x10.01.04, bits (R33, Table 1.12). -/
@[reducible] def It.driveOk : Nat := itemKey 0x10 0x01 0x04
/-- `clock_lock_a`, 0x10.01.05, bits (R33, Table 1.12). -/
@[reducible] def It.clockLockA : Nat := itemKey 0x10 0x01 0x05
/-- `clock_lock_b`, 0x10.01.06, bits (R33, Table 1.12). -/
@[reducible] def It.clockLockB : Nat := itemKey 0x10 0x01 0x06
/-- `sram_corrected_a`, 0x10.01.07, u32 (R33, Table 1.12). -/
@[reducible] def It.sramCorrectedA : Nat := itemKey 0x10 0x01 0x07
/-- `sram_corrected_b`, 0x10.01.08, u32 (R33, Table 1.12). -/
@[reducible] def It.sramCorrectedB : Nat := itemKey 0x10 0x01 0x08
/-- `arbitration_discards`, 0x10.01.09, u32 (R33, Table 1.12). -/
@[reducible] def It.arbitrationDiscards : Nat := itemKey 0x10 0x01 0x09
/-- `ingress_mismatch`, 0x10.01.0a, u32 (R33, Table 1.12). -/
@[reducible] def It.ingressMismatch : Nat := itemKey 0x10 0x01 0x0a
/-- `tally_source`, 0x20.00.00, enum (R49, Table 2.5). -/
@[reducible] def It.tallySource : Nat := itemKey 0x20 0x00 0x00
/-- `tally_prescale`, 0x20.00.01, u16 (R49, Table 2.5). -/
@[reducible] def It.tallyPrescale : Nat := itemKey 0x20 0x00 0x01
/-- `reverse_policy`, 0x20.00.02, enum (R49, Table 2.5). -/
@[reducible] def It.reversePolicy : Nat := itemKey 0x20 0x00 0x02
/-- `tally_stall_ms`, 0x20.00.03, u16 (R49, Table 2.5). -/
@[reducible] def It.tallyStallMs : Nat := itemKey 0x20 0x00 0x03
/-- `tally_position`, 0x20.00.04, q48.16 (R49, Table 2.5). -/
@[reducible] def It.tallyPosition : Nat := itemKey 0x20 0x00 0x04
/-- `tally_rate`, 0x20.00.05, u32 (R49, Table 2.5). -/
@[reducible] def It.tallyRate : Nat := itemKey 0x20 0x00 0x05
/-- `tally_state`, 0x20.00.06, enum (R49, Table 2.5). -/
@[reducible] def It.tallyState : Nat := itemKey 0x20 0x00 0x06
/-- `reverse_debt`, 0x20.00.07, u32 (R49, Table 2.5). -/
@[reducible] def It.reverseDebt : Nat := itemKey 0x20 0x00 0x07
/-- `follower_mismatch`, 0x20.00.08, u32 (R49, Table 2.5). -/
@[reducible] def It.followerMismatch : Nat := itemKey 0x20 0x00 0x08
/-- `lane_tally_mismatch`, 0x20.00.09, u32 (R49, Table 2.5). -/
@[reducible] def It.laneTallyMismatch : Nat := itemKey 0x20 0x00 0x09
/-- `enc_mode`, 0x20.1n.00, enum (R49, Table 2.5). -/
@[reducible] def It.encMode (n : Nat) : Nat := itemKey 0x20 (0x10 + n) 0x00
/-- `enc_invert`, 0x20.1n.01, enum (R49, Table 2.5). -/
@[reducible] def It.encInvert (n : Nat) : Nat := itemKey 0x20 (0x10 + n) 0x01
/-- `enc_filter_ns`, 0x20.1n.02, u16 (R49, Table 2.5). -/
@[reducible] def It.encFilterNs (n : Nat) : Nat := itemKey 0x20 (0x10 + n) 0x02
/-- `enc_rate_low`, 0x20.1n.03, u32 (R49, Table 2.5). -/
@[reducible] def It.encRateLow (n : Nat) : Nat := itemKey 0x20 (0x10 + n) 0x03
/-- `enc_rate_high`, 0x20.1n.04, u32 (R49, Table 2.5). -/
@[reducible] def It.encRateHigh (n : Nat) : Nat := itemKey 0x20 (0x10 + n) 0x04
/-- `enc_hyst_pct`, 0x20.1n.05, u8 (R49, Table 2.5). -/
@[reducible] def It.encHystPct (n : Nat) : Nat := itemKey 0x20 (0x10 + n) 0x05
/-- `enc_stale_ms`, 0x20.1n.06, u16 (R49, Table 2.5). -/
@[reducible] def It.encStaleMs (n : Nat) : Nat := itemKey 0x20 (0x10 + n) 0x06
/-- `enc_count`, 0x20.1n.07, u32 (R49, Table 2.5). -/
@[reducible] def It.encCount (n : Nat) : Nat := itemKey 0x20 (0x10 + n) 0x07
/-- `enc_rate`, 0x20.1n.08, s32 (R49, Table 2.5). -/
@[reducible] def It.encRate (n : Nat) : Nat := itemKey 0x20 (0x10 + n) 0x08
/-- `enc_guard`, 0x20.1n.09, enum (R49, Table 2.5). -/
@[reducible] def It.encGuard (n : Nat) : Nat := itemKey 0x20 (0x10 + n) 0x09
/-- `enc_quad_errors`, 0x20.1n.0a, u32 (R49, Table 2.5). -/
@[reducible] def It.encQuadErrors (n : Nat) : Nat := itemKey 0x20 (0x10 + n) 0x0a
/-- `mtime`, 0x20.01.00, u64 (R58, Table 2.9). -/
@[reducible] def It.mtime : Nat := itemKey 0x20 0x01 0x00
/-- `mtime_epoch`, 0x20.01.01, u32 (R58, Table 2.9). -/
@[reducible] def It.mtimeEpoch : Nat := itemKey 0x20 0x01 0x01
/-- `lane_offset_ns`, 0x20.01.02, s32 (R58, Table 2.9). -/
@[reducible] def It.laneOffsetNs : Nat := itemKey 0x20 0x01 0x02
/-- `mtime_steps`, 0x20.01.03, u32 (R58, Table 2.9). -/
@[reducible] def It.mtimeSteps : Nat := itemKey 0x20 0x01 0x03
/-- `follower_offset_ns`, 0x20.01.04, s32 (R58, Table 2.9). -/
@[reducible] def It.followerOffsetNs : Nat := itemKey 0x20 0x01 0x04
/-- `calendar_ns`, 0x20.02.00, u64 (R58, Table 2.9). -/
@[reducible] def It.calendarNs : Nat := itemKey 0x20 0x02 0x00
/-- `calendar_valid`, 0x20.02.01, enum (R58, Table 2.9). -/
@[reducible] def It.calendarValid : Nat := itemKey 0x20 0x02 0x01
/-- `calendar_park_trim_ppb`, 0x20.02.02, s32 (R58, Table 2.9). -/
@[reducible] def It.calendarParkTrimPpb : Nat := itemKey 0x20 0x02 0x02
/-- `calendar_sets`, 0x20.02.03, u32 (R58, Table 2.9). -/
@[reducible] def It.calendarSets : Nat := itemKey 0x20 0x02 0x03
/-- `lm_source`, 0x20.2m.00, enum (R58, Table 2.9). -/
@[reducible] def It.lmSource (n : Nat) : Nat := itemKey 0x20 (0x20 + n) 0x00
/-- `lm_can_id`, 0x20.2m.01, bits (R58, Table 2.9). -/
@[reducible] def It.lmCanId (n : Nat) : Nat := itemKey 0x20 (0x20 + n) 0x01
/-- `lm_ts_offset`, 0x20.2m.02, u16 (R58, Table 2.9). -/
@[reducible] def It.lmTsOffset (n : Nat) : Nat := itemKey 0x20 (0x20 + n) 0x02
/-- `lm_ts_width`, 0x20.2m.03, enum (R58, Table 2.9). -/
@[reducible] def It.lmTsWidth (n : Nat) : Nat := itemKey 0x20 (0x20 + n) 0x03
/-- `lm_ts_tick`, 0x20.2m.04, q16.16 (R58, Table 2.9). -/
@[reducible] def It.lmTsTick (n : Nat) : Nat := itemKey 0x20 (0x20 + n) 0x04
/-- `lm_decl_latency_us`, 0x20.2m.05, u32 (R58, Table 2.9). -/
@[reducible] def It.lmDeclLatencyUs (n : Nat) : Nat := itemKey 0x20 (0x20 + n) 0x05
/-- `lm_drift_limit_ppm`, 0x20.2m.06, u16 (R58, Table 2.9). -/
@[reducible] def It.lmDriftLimitPpm (n : Nat) : Nat := itemKey 0x20 (0x20 + n) 0x06
/-- `lm_step_us`, 0x20.2m.07, u32 (R58, Table 2.9). -/
@[reducible] def It.lmStepUs (n : Nat) : Nat := itemKey 0x20 (0x20 + n) 0x07
/-- `lm_stale_ms`, 0x20.2m.08, u16 (R58, Table 2.9). -/
@[reducible] def It.lmStaleMs (n : Nat) : Nat := itemKey 0x20 (0x20 + n) 0x08
/-- `lm_state`, 0x20.2m.09, enum (R58, Table 2.9). -/
@[reducible] def It.lmState (n : Nat) : Nat := itemKey 0x20 (0x20 + n) 0x09
/-- `lm_latency_ns`, 0x20.2m.0a, u32 (R58, Table 2.9). -/
@[reducible] def It.lmLatencyNs (n : Nat) : Nat := itemKey 0x20 (0x20 + n) 0x0a
/-- `lm_drift_ppm`, 0x20.2m.0b, q16.16 (R58, Table 2.9). -/
@[reducible] def It.lmDriftPpm (n : Nat) : Nat := itemKey 0x20 (0x20 + n) 0x0b
/-- `lm_steps`, 0x20.2m.0c, u32 (R58, Table 2.9). -/
@[reducible] def It.lmSteps (n : Nat) : Nat := itemKey 0x20 (0x20 + n) 0x0c
/-- `owner`, 0x18.00.00, enum (R99, Table 3.15a). -/
@[reducible] def It.owner : Nat := itemKey 0x18 0x00 0x00
/-- `owner_state`, 0x18.00.01, enum (R99, Table 3.15a). -/
@[reducible] def It.ownerState : Nat := itemKey 0x18 0x00 0x01
/-- `election_window_ms`, 0x18.00.02, u16 (R99, Table 3.15a). -/
@[reducible] def It.electionWindowMs : Nat := itemKey 0x18 0x00 0x02
/-- `ownerless_grace_ms`, 0x18.00.03, u16 (R99, Table 3.15a). -/
@[reducible] def It.ownerlessGraceMs : Nat := itemKey 0x18 0x00 0x03
/-- `ownerless_banks`, 0x18.00.04, bits (R99, Table 3.15a). -/
@[reducible] def It.ownerlessBanks : Nat := itemKey 0x18 0x00 0x04
/-- `ownerless_do`, 0x18.00.05, bits (R99, Table 3.15a). -/
@[reducible] def It.ownerlessDo : Nat := itemKey 0x18 0x00 0x05
/-- `ownerless_can`, 0x18.00.06, bits (R99, Table 3.15a). -/
@[reducible] def It.ownerlessCan : Nat := itemKey 0x18 0x00 0x06
/-- `ownerless_applied`, 0x18.00.07, enum (R99, Table 3.15a). -/
@[reducible] def It.ownerlessApplied : Nat := itemKey 0x18 0x00 0x07
/-- `session_idle_s`, 0x18.00.08, u16 (R99, Table 3.15a). -/
@[reducible] def It.sessionIdleS : Nat := itemKey 0x18 0x00 0x08
/-- `test_access`, 0x18.00.09, enum (R99, Table 3.15a). -/
@[reducible] def It.testAccess : Nat := itemKey 0x18 0x00 0x09
/-- `owner_lapses`, 0x18.00.0a, u32 (R99, Table 3.15a). -/
@[reducible] def It.ownerLapses : Nat := itemKey 0x18 0x00 0x0a
/-- `handovers`, 0x18.00.0b, u32 (R99, Table 3.15a). -/
@[reducible] def It.handovers : Nat := itemKey 0x18 0x00 0x0b
/-- `reckoner_load_pct`, 0x18.00.0c, u8 (R99, Table 3.15a). -/
@[reducible] def It.reckonerLoadPct : Nat := itemKey 0x18 0x00 0x0c
/-- `reckoner_restarts`, 0x18.00.0d, u32 (R99, Table 3.15a). -/
@[reducible] def It.reckonerRestarts : Nat := itemKey 0x18 0x00 0x0d
/-- `lane_changed_count`, 0x18.00.0e, u32 (R99, Table 3.15a). -/
@[reducible] def It.laneChangedCount : Nat := itemKey 0x18 0x00 0x0e
/-- `own_priority`, 0x18.1n.00, u8 (R99, Table 3.15a). -/
@[reducible] def It.ownPriority (n : Nat) : Nat := itemKey 0x18 (0x10 + n) 0x00
/-- `bind_node`, 0x18.1n.01, u16 (R99, Table 3.15a). -/
@[reducible] def It.bindNode (n : Nat) : Nat := itemKey 0x18 (0x10 + n) 0x01
/-- `gw_can_channel`, 0x18.1n.02, enum (R99, Table 3.15a). -/
@[reducible] def It.gwCanChannel (n : Nat) : Nat := itemKey 0x18 (0x10 + n) 0x02
/-- `gw_req_id`, 0x18.1n.03, bits (R99, Table 3.15a). -/
@[reducible] def It.gwReqId (n : Nat) : Nat := itemKey 0x18 (0x10 + n) 0x03
/-- `gw_rsp_id`, 0x18.1n.04, bits (R99, Table 3.15a). -/
@[reducible] def It.gwRspId (n : Nat) : Nat := itemKey 0x18 (0x10 + n) 0x04
/-- `session_state`, 0x18.1n.05, enum (R99, Table 3.15a). -/
@[reducible] def It.sessionState (n : Nat) : Nat := itemKey 0x18 (0x10 + n) 0x05
/-- `session_id`, 0x18.1n.06, u32 (R99, Table 3.15a). -/
@[reducible] def It.sessionId (n : Nat) : Nat := itemKey 0x18 (0x10 + n) 0x06
/-- `frames_rx`, 0x18.1n.07, u32 (R99, Table 3.15a). -/
@[reducible] def It.framesRx (n : Nat) : Nat := itemKey 0x18 (0x10 + n) 0x07
/-- `frame_errors`, 0x18.1n.08, u32 (R99, Table 3.15a). -/
@[reducible] def It.frameErrors (n : Nat) : Nat := itemKey 0x18 (0x10 + n) 0x08
/-- `busy_sent`, 0x18.1n.09, u32 (R99, Table 3.15a). -/
@[reducible] def It.busySent (n : Nat) : Nat := itemKey 0x18 (0x10 + n) 0x09
/-- `events_lost`, 0x18.1n.0a, u32 (R99, Table 3.15a). -/
@[reducible] def It.eventsLost (n : Nat) : Nat := itemKey 0x18 (0x10 + n) 0x0a
/-- `evt_mask`, 0x18.1n.0b, bits (R99, Table 3.15a). -/
@[reducible] def It.evtMask (n : Nat) : Nat := itemKey 0x18 (0x10 + n) 0x0b
/-- `carry_number`, 0x28.00.00, u32 (R128, Table 4.14). -/
@[reducible] def It.carryNumber : Nat := itemKey 0x28 0x00 0x00
/-- `last_carry_mtime`, 0x28.00.01, u64 (R128, Table 4.14). -/
@[reducible] def It.lastCarryMtime : Nat := itemKey 0x28 0x00 0x01
/-- `last_carry_tally`, 0x28.00.02, q48.16 (R128, Table 4.14). -/
@[reducible] def It.lastCarryTally : Nat := itemKey 0x28 0x00 0x02
/-- `slates_free`, 0x28.00.03, u8 (R128, Table 4.14). -/
@[reducible] def It.slatesFree : Nat := itemKey 0x28 0x00 0x03
/-- `slates_discarded`, 0x28.00.04, u32 (R128, Table 4.14). -/
@[reducible] def It.slatesDiscarded : Nat := itemKey 0x28 0x00 0x04
/-- `ring_aborts`, 0x28.00.05, u32 (R128, Table 4.14). -/
@[reducible] def It.ringAborts : Nat := itemKey 0x28 0x00 0x05
/-- `persist_pending`, 0x28.00.06, enum (R128, Table 4.14). -/
@[reducible] def It.persistPending : Nat := itemKey 0x28 0x00 0x06
/-- `pins_in_use`, 0x28.00.07, u8 (R128, Table 4.14). -/
@[reducible] def It.pinsInUse : Nat := itemKey 0x28 0x00 0x07
/-- `pin_lifetime_ms`, 0x28.00.08, u16 (R128, Table 4.14). -/
@[reducible] def It.pinLifetimeMs : Nat := itemKey 0x28 0x00 0x08
/-- `slate_state`, 0x28.1s.00, enum (R128, Table 4.14). -/
@[reducible] def It.slateState (n : Nat) : Nat := itemKey 0x28 (0x10 + n) 0x00
/-- `slate_entries`, 0x28.1s.01, u16 (R128, Table 4.14). -/
@[reducible] def It.slateEntries (n : Nat) : Nat := itemKey 0x28 (0x10 + n) 0x01
/-- `slate_basis`, 0x28.1s.02, enum (R128, Table 4.14). -/
@[reducible] def It.slateBasis (n : Nat) : Nat := itemKey 0x28 (0x10 + n) 0x02
/-- `slate_instant`, 0x28.1s.03, u64 (R128, Table 4.14). -/
@[reducible] def It.slateInstant (n : Nat) : Nat := itemKey 0x28 (0x10 + n) 0x03
/-- `slate_txn`, 0x28.1s.04, u32 (R128, Table 4.14). -/
@[reducible] def It.slateTxn (n : Nat) : Nat := itemKey 0x28 (0x10 + n) 0x04
/-- `slate_deadline`, 0x28.1s.05, u64 (R128, Table 4.14). -/
@[reducible] def It.slateDeadline (n : Nat) : Nat := itemKey 0x28 (0x10 + n) 0x05
/-- `slate_build`, 0x28.1s.06, u32 (R128, Table 4.14). -/
@[reducible] def It.slateBuild (n : Nat) : Nat := itemKey 0x28 (0x10 + n) 0x06
/-- `cam_enable`, 0x40.0p.00, enum (R160, Table 5.15). -/
@[reducible] def It.camEnable (n : Nat) : Nat := itemKey 0x40 (n) 0x00
/-- `cam_scan`, 0x40.0p.01, enum (R160, Table 5.15). -/
@[reducible] def It.camScan (n : Nat) : Nat := itemKey 0x40 (n) 0x01
/-- `cam_format`, 0x40.0p.02, enum (R160, Table 5.15). -/
@[reducible] def It.camFormat (n : Nat) : Nat := itemKey 0x40 (n) 0x02
/-- `cam_pclk_edge`, 0x40.0p.03, enum (R160, Table 5.15). -/
@[reducible] def It.camPclkEdge (n : Nat) : Nat := itemKey 0x40 (n) 0x03
/-- `cam_hsync_pol`, 0x40.0p.04, enum (R160, Table 5.15). -/
@[reducible] def It.camHsyncPol (n : Nat) : Nat := itemKey 0x40 (n) 0x04
/-- `cam_vsync_pol`, 0x40.0p.05, enum (R160, Table 5.15). -/
@[reducible] def It.camVsyncPol (n : Nat) : Nat := itemKey 0x40 (n) 0x05
/-- `cam_line_start`, 0x40.0p.06, enum (R160, Table 5.15). -/
@[reducible] def It.camLineStart (n : Nat) : Nat := itemKey 0x40 (n) 0x06
/-- `cam_framing`, 0x40.0p.07, enum (R160, Table 5.15). -/
@[reducible] def It.camFraming (n : Nat) : Nat := itemKey 0x40 (n) 0x07
/-- `cam_width`, 0x40.0p.08, u16 (R160, Table 5.15). -/
@[reducible] def It.camWidth (n : Nat) : Nat := itemKey 0x40 (n) 0x08
/-- `cam_height`, 0x40.0p.09, u16 (R160, Table 5.15). -/
@[reducible] def It.camHeight (n : Nat) : Nat := itemKey 0x40 (n) 0x09
/-- `cam_embedded_lines`, 0x40.0p.0a, u8 (R160, Table 5.15). -/
@[reducible] def It.camEmbeddedLines (n : Nat) : Nat := itemKey 0x40 (n) 0x0a
/-- `cam_meta_px`, 0x40.0p.0b, u16 (R160, Table 5.15). -/
@[reducible] def It.camMetaPx (n : Nat) : Nat := itemKey 0x40 (n) 0x0b
/-- `cam_path`, 0x40.0p.0c, enum (R160, Table 5.15). -/
@[reducible] def It.camPath (n : Nat) : Nat := itemKey 0x40 (n) 0x0c
/-- `cam_ring_frames`, 0x40.0p.0d, u8 (R160, Table 5.15). -/
@[reducible] def It.camRingFrames (n : Nat) : Nat := itemKey 0x40 (n) 0x0d
/-- `cam_pclk_max_khz`, 0x40.0p.0e, u32 (R160, Table 5.15). -/
@[reducible] def It.camPclkMaxKhz (n : Nat) : Nat := itemKey 0x40 (n) 0x0e
/-- `cam_max_line_rate`, 0x40.0p.0f, u32 (R160, Table 5.15). -/
@[reducible] def It.camMaxLineRate (n : Nat) : Nat := itemKey 0x40 (n) 0x0f
/-- `cam_sync_filter`, 0x40.0p.10, u8 (R160, Table 5.15). -/
@[reducible] def It.camSyncFilter (n : Nat) : Nat := itemKey 0x40 (n) 0x10
/-- `cam_rate_low`, 0x40.0p.11, u32 (R160, Table 5.15). -/
@[reducible] def It.camRateLow (n : Nat) : Nat := itemKey 0x40 (n) 0x11
/-- `cam_rate_high`, 0x40.0p.12, u32 (R160, Table 5.15). -/
@[reducible] def It.camRateHigh (n : Nat) : Nat := itemKey 0x40 (n) 0x12
/-- `cam_hyst_pct`, 0x40.0p.13, u8 (R160, Table 5.15). -/
@[reducible] def It.camHystPct (n : Nat) : Nat := itemKey 0x40 (n) 0x13
/-- `cam_stale_ms`, 0x40.0p.14, u16 (R160, Table 5.15). -/
@[reducible] def It.camStaleMs (n : Nat) : Nat := itemKey 0x40 (n) 0x14
/-- `cam_trig_mode`, 0x40.0p.15, enum (R160, Table 5.15). -/
@[reducible] def It.camTrigMode (n : Nat) : Nat := itemKey 0x40 (n) 0x15
/-- `cam_trig_do`, 0x40.0p.16, enum (R160, Table 5.15). -/
@[reducible] def It.camTrigDo (n : Nat) : Nat := itemKey 0x40 (n) 0x16
/-- `cam_trig_units`, 0x40.0p.17, u32 (R160, Table 5.15). -/
@[reducible] def It.camTrigUnits (n : Nat) : Nat := itemKey 0x40 (n) 0x17
/-- `cam_trig_offset`, 0x40.0p.18, u32 (R160, Table 5.15). -/
@[reducible] def It.camTrigOffset (n : Nat) : Nat := itemKey 0x40 (n) 0x18
/-- `cam_trig_period_us`, 0x40.0p.19, u32 (R160, Table 5.15). -/
@[reducible] def It.camTrigPeriodUs (n : Nat) : Nat := itemKey 0x40 (n) 0x19
/-- `cam_trig_width_us`, 0x40.0p.1a, u16 (R160, Table 5.15). -/
@[reducible] def It.camTrigWidthUs (n : Nat) : Nat := itemKey 0x40 (n) 0x1a
/-- `cam_state`, 0x40.0p.20, enum (R160, Table 5.15). -/
@[reducible] def It.camState (n : Nat) : Nat := itemKey 0x40 (n) 0x20
/-- `cam_guard`, 0x40.0p.21, enum (R160, Table 5.15). -/
@[reducible] def It.camGuard (n : Nat) : Nat := itemKey 0x40 (n) 0x21
/-- `cam_pclk_khz`, 0x40.0p.22, u32 (R160, Table 5.15). -/
@[reducible] def It.camPclkKhz (n : Nat) : Nat := itemKey 0x40 (n) 0x22
/-- `cam_line_rate`, 0x40.0p.23, u32 (R160, Table 5.15). -/
@[reducible] def It.camLineRate (n : Nat) : Nat := itemKey 0x40 (n) 0x23
/-- `cam_port_frame`, 0x40.0p.24, u64 (R160, Table 5.15). -/
@[reducible] def It.camPortFrame (n : Nat) : Nat := itemKey 0x40 (n) 0x24
/-- `cam_sync_errors`, 0x40.0p.25, u32 (R160, Table 5.15). -/
@[reducible] def It.camSyncErrors (n : Nat) : Nat := itemKey 0x40 (n) 0x25
/-- `cam_trig_missed`, 0x40.0p.26, u32 (R160, Table 5.15). -/
@[reducible] def It.camTrigMissed (n : Nat) : Nat := itemKey 0x40 (n) 0x26
/-- `ctx_enable`, 0x48.0c.00, enum (R160, Table 5.16). -/
@[reducible] def It.ctxEnable (n : Nat) : Nat := itemKey 0x48 (n) 0x00
/-- `ctx_port`, 0x48.0c.01, enum (R160, Table 5.16). -/
@[reducible] def It.ctxPort (n : Nat) : Nat := itemKey 0x48 (n) 0x01
/-- `ctx_frame_mod`, 0x48.0c.02, u8 (R160, Table 5.16). -/
@[reducible] def It.ctxFrameMod (n : Nat) : Nat := itemKey 0x48 (n) 0x02
/-- `ctx_frame_phase`, 0x48.0c.03, u8 (R160, Table 5.16). -/
@[reducible] def It.ctxFramePhase (n : Nat) : Nat := itemKey 0x48 (n) 0x03
/-- `ctx_roi_x`, 0x48.0c.04, u16 (R160, Table 5.16). -/
@[reducible] def It.ctxRoiX (n : Nat) : Nat := itemKey 0x48 (n) 0x04
/-- `ctx_roi_w`, 0x48.0c.05, u16 (R160, Table 5.16). -/
@[reducible] def It.ctxRoiW (n : Nat) : Nat := itemKey 0x48 (n) 0x05
/-- `ctx_roi_y`, 0x48.0c.06, u16 (R160, Table 5.16). -/
@[reducible] def It.ctxRoiY (n : Nat) : Nat := itemKey 0x48 (n) 0x06
/-- `ctx_roi_h`, 0x48.0c.07, u16 (R160, Table 5.16). -/
@[reducible] def It.ctxRoiH (n : Nat) : Nat := itemKey 0x48 (n) 0x07
/-- `ctx_exp_mode`, 0x48.0c.08, enum (R160, Table 5.16). -/
@[reducible] def It.ctxExpMode (n : Nat) : Nat := itemKey 0x48 (n) 0x08
/-- `ctx_exp_latency`, 0x48.0c.09, u8 (R160, Table 5.16). -/
@[reducible] def It.ctxExpLatency (n : Nat) : Nat := itemKey 0x48 (n) 0x09
/-- `ctx_exposure`, 0x48.0c.0a, u32 (R160, Table 5.16). -/
@[reducible] def It.ctxExposure (n : Nat) : Nat := itemKey 0x48 (n) 0x0a
/-- `ctx_gain`, 0x48.0c.0b, u16 (R160, Table 5.16). -/
@[reducible] def It.ctxGain (n : Nat) : Nat := itemKey 0x48 (n) 0x0b
/-- `ctx_exp_can`, 0x48.0c.0c, enum (R160, Table 5.16). -/
@[reducible] def It.ctxExpCan (n : Nat) : Nat := itemKey 0x48 (n) 0x0c
/-- `ctx_exp_can_id`, 0x48.0c.0d, bits (R160, Table 5.16). -/
@[reducible] def It.ctxExpCanId (n : Nat) : Nat := itemKey 0x48 (n) 0x0d
/-- `ctx_defect_table`, 0x48.0c.0e, u8 (R160, Table 5.16). -/
@[reducible] def It.ctxDefectTable (n : Nat) : Nat := itemKey 0x48 (n) 0x0e
/-- `ctx_ff_table`, 0x48.0c.0f, u8 (R160, Table 5.16). -/
@[reducible] def It.ctxFfTable (n : Nat) : Nat := itemKey 0x48 (n) 0x0f
/-- `ctx_colour_table`, 0x48.0c.10, u8 (R160, Table 5.16). -/
@[reducible] def It.ctxColourTable (n : Nat) : Nat := itemKey 0x48 (n) 0x10
/-- `ctx_bg_table`, 0x48.0c.11, u8 (R160, Table 5.16). -/
@[reducible] def It.ctxBgTable (n : Nat) : Nat := itemKey 0x48 (n) 0x11
/-- `ctx_bg_level`, 0x48.0c.12, u16 (R160, Table 5.16). -/
@[reducible] def It.ctxBgLevel (n : Nat) : Nat := itemKey 0x48 (n) 0x12
/-- `ctx_seg_mode`, 0x48.0c.13, enum (R160, Table 5.16). -/
@[reducible] def It.ctxSegMode (n : Nat) : Nat := itemKey 0x48 (n) 0x13
/-- `ctx_threshold`, 0x48.0c.14, u16 (R160, Table 5.16). -/
@[reducible] def It.ctxThreshold (n : Nat) : Nat := itemKey 0x48 (n) 0x14
/-- `ctx_min_area`, 0x48.0c.15, u32 (R160, Table 5.16). -/
@[reducible] def It.ctxMinArea (n : Nat) : Nat := itemKey 0x48 (n) 0x15
/-- `ctx_max_area`, 0x48.0c.16, u32 (R160, Table 5.16). -/
@[reducible] def It.ctxMaxArea (n : Nat) : Nat := itemKey 0x48 (n) 0x16
/-- `ctx_max_objects`, 0x48.0c.17, u16 (R160, Table 5.16). -/
@[reducible] def It.ctxMaxObjects (n : Nat) : Nat := itemKey 0x48 (n) 0x17
/-- `ctx_feature_prog`, 0x48.0c.18, u8 (R160, Table 5.16). -/
@[reducible] def It.ctxFeatureProg (n : Nat) : Nat := itemKey 0x48 (n) 0x18
/-- `ctx_feature_cycles`, 0x48.0c.19, u16 (R160, Table 5.16). -/
@[reducible] def It.ctxFeatureCycles (n : Nat) : Nat := itemKey 0x48 (n) 0x19
/-- `ctx_frame`, 0x48.0c.20, u64 (R160, Table 5.16). -/
@[reducible] def It.ctxFrame (n : Nat) : Nat := itemKey 0x48 (n) 0x20
/-- `ctx_exp_carry`, 0x48.0c.21, u32 (R160, Table 5.16). -/
@[reducible] def It.ctxExpCarry (n : Nat) : Nat := itemKey 0x48 (n) 0x21
/-- `ctx_pipe_carry`, 0x48.0c.22, u32 (R160, Table 5.16). -/
@[reducible] def It.ctxPipeCarry (n : Nat) : Nat := itemKey 0x48 (n) 0x22
/-- `ctx_frames_partial`, 0x48.0c.23, u32 (R160, Table 5.16). -/
@[reducible] def It.ctxFramesPartial (n : Nat) : Nat := itemKey 0x48 (n) 0x23
/-- `ctx_frames_long`, 0x48.0c.24, u32 (R160, Table 5.16). -/
@[reducible] def It.ctxFramesLong (n : Nat) : Nat := itemKey 0x48 (n) 0x24
/-- `ctx_lines_dropped`, 0x48.0c.25, u32 (R160, Table 5.16). -/
@[reducible] def It.ctxLinesDropped (n : Nat) : Nat := itemKey 0x48 (n) 0x25
/-- `ctx_frames_overflow`, 0x48.0c.26, u32 (R160, Table 5.16). -/
@[reducible] def It.ctxFramesOverflow (n : Nat) : Nat := itemKey 0x48 (n) 0x26
/-- `ctx_objects_dropped`, 0x48.0c.27, u32 (R160, Table 5.16). -/
@[reducible] def It.ctxObjectsDropped (n : Nat) : Nat := itemKey 0x48 (n) 0x27
/-- `ctx_width_errors`, 0x48.0c.28, u32 (R160, Table 5.16). -/
@[reducible] def It.ctxWidthErrors (n : Nat) : Nat := itemKey 0x48 (n) 0x28
/-- `ctx_exp_unconfirmed`, 0x48.0c.29, u32 (R160, Table 5.16). -/
@[reducible] def It.ctxExpUnconfirmed (n : Nat) : Nat := itemKey 0x48 (n) 0x29
/-- `ctx_detections`, 0x48.0c.2a, u32 (R160, Table 5.16). -/
@[reducible] def It.ctxDetections (n : Nat) : Nat := itemKey 0x48 (n) 0x2a
/-- `pipe_load_pct`, 0x48.10.00, u8 (R160, Table 5.17). -/
@[reducible] def It.pipeLoadPct : Nat := itemKey 0x48 0x10 0x00
/-- `pipe_admitted_kpx`, 0x48.10.01, u32 (R160, Table 5.17). -/
@[reducible] def It.pipeAdmittedKpx : Nat := itemKey 0x48 0x10 0x01
/-- `pipe_admitted_kcycles`, 0x48.10.02, u32 (R160, Table 5.17). -/
@[reducible] def It.pipeAdmittedKcycles : Nat := itemKey 0x48 0x10 0x02
/-- `pipe_detection_rate`, 0x48.10.03, u32 (R160, Table 5.17). -/
@[reducible] def It.pipeDetectionRate : Nat := itemKey 0x48 0x10 0x03
/-- `pipe_overflows`, 0x48.10.04, u32 (R160, Table 5.17). -/
@[reducible] def It.pipeOverflows : Nat := itemKey 0x48 0x10 0x04
/-- `tab_kind`, 0x48.2t.00, enum (R160, Table 5.17). -/
@[reducible] def It.tabKind (n : Nat) : Nat := itemKey 0x48 (0x20 + n) 0x00
/-- `tab_entries`, 0x48.2t.01, u32 (R160, Table 5.17). -/
@[reducible] def It.tabEntries (n : Nat) : Nat := itemKey 0x48 (0x20 + n) 0x01
/-- `tab_crc`, 0x48.2t.02, u32 (R160, Table 5.17). -/
@[reducible] def It.tabCrc (n : Nat) : Nat := itemKey 0x48 (0x20 + n) 0x02
/-- `tab_build`, 0x48.2t.03, u32 (R160, Table 5.17). -/
@[reducible] def It.tabBuild (n : Nat) : Nat := itemKey 0x48 (0x20 + n) 0x03
/-- `tk_enable`, 0x50.00.00, enum (R194, Table 6.18). -/
@[reducible] def It.tkEnable : Nat := itemKey 0x50 0x00 0x00
/-- `tk_align_us`, 0x50.00.01, u32 (R194, Table 6.18). -/
@[reducible] def It.tkAlignUs : Nat := itemKey 0x50 0x00 0x01
/-- `tk_batch_us`, 0x50.00.02, u16 (R194, Table 6.18). -/
@[reducible] def It.tkBatchUs : Nat := itemKey 0x50 0x00 0x02
/-- `tk_default_speed_um`, 0x50.00.03, q16.16 (R194, Table 6.18). -/
@[reducible] def It.tkDefaultSpeedUm : Nat := itemKey 0x50 0x00 0x03
/-- `tk_accel`, 0x50.00.04, q16.16 (R194, Table 6.18). -/
@[reducible] def It.tkAccel : Nat := itemKey 0x50 0x00 0x04
/-- `tk_w_pos`, 0x50.00.05, q16.16 (R194, Table 6.18). -/
@[reducible] def It.tkWPos : Nat := itemKey 0x50 0x00 0x05
/-- `tk_w_time`, 0x50.00.06, q16.16 (R194, Table 6.18). -/
@[reducible] def It.tkWTime : Nat := itemKey 0x50 0x00 0x06
/-- `tk_w_size`, 0x50.00.07, q16.16 (R194, Table 6.18). -/
@[reducible] def It.tkWSize : Nat := itemKey 0x50 0x00 0x07
/-- `tk_w_feat`, 0x50.00.08, q16.16 (R194, Table 6.18). -/
@[reducible] def It.tkWFeat : Nat := itemKey 0x50 0x00 0x08
/-- `tk_w_class`, 0x50.00.09, q16.16 (R194, Table 6.18). -/
@[reducible] def It.tkWClass : Nat := itemKey 0x50 0x00 0x09
/-- `tk_feat_mask`, 0x50.00.0a, bits (R194, Table 6.18). -/
@[reducible] def It.tkFeatMask : Nat := itemKey 0x50 0x00 0x0a
/-- `tk_miss_cost`, 0x50.00.0b, u16 (R194, Table 6.18). -/
@[reducible] def It.tkMissCost : Nat := itemKey 0x50 0x00 0x0b
/-- `tk_birth_cost`, 0x50.00.0c, u16 (R194, Table 6.18). -/
@[reducible] def It.tkBirthCost : Nat := itemKey 0x50 0x00 0x0c
/-- `tk_contra_action`, 0x50.00.0d, enum (R194, Table 6.18). -/
@[reducible] def It.tkContraAction : Nat := itemKey 0x50 0x00 0x0d
/-- `tk_primary_view`, 0x50.00.0e, u8 (R194, Table 6.18). -/
@[reducible] def It.tkPrimaryView : Nat := itemKey 0x50 0x00 0x0e
/-- `tk_track_life_ms`, 0x50.00.0f, u16 (R194, Table 6.18). -/
@[reducible] def It.tkTrackLifeMs : Nat := itemKey 0x50 0x00 0x0f
/-- `tk_eject_enable`, 0x50.00.10, enum (R194, Table 6.18). -/
@[reducible] def It.tkEjectEnable : Nat := itemKey 0x50 0x00 0x10
/-- `tk_eject_w_um`, 0x50.00.11, s32 (R194, Table 6.18). -/
@[reducible] def It.tkEjectWUm : Nat := itemKey 0x50 0x00 0x11
/-- `tk_eject_map`, 0x50.00.12, u8 (R194, Table 6.18). -/
@[reducible] def It.tkEjectMap : Nat := itemKey 0x50 0x00 0x12
/-- `tk_eject_profile`, 0x50.00.13, u8 (R194, Table 6.18). -/
@[reducible] def It.tkEjectProfile : Nat := itemKey 0x50 0x00 0x13
/-- `tk_eject_margin`, 0x50.00.14, q16.16 (R194, Table 6.18). -/
@[reducible] def It.tkEjectMargin : Nat := itemKey 0x50 0x00 0x14
/-- `tk_wide_eject`, 0x50.00.15, enum (R194, Table 6.18). -/
@[reducible] def It.tkWideEject : Nat := itemKey 0x50 0x00 0x15
/-- `tk_live`, 0x50.00.20, u16 (R194, Table 6.18). -/
@[reducible] def It.tkLive : Nat := itemKey 0x50 0x00 0x20
/-- `tk_births`, 0x50.00.21, u32 (R194, Table 6.18). -/
@[reducible] def It.tkBirths : Nat := itemKey 0x50 0x00 0x21
/-- `tk_decided`, 0x50.00.22, u32 (R194, Table 6.18). -/
@[reducible] def It.tkDecided : Nat := itemKey 0x50 0x00 0x22
/-- `tk_ejects`, 0x50.00.23, u32 (R194, Table 6.18). -/
@[reducible] def It.tkEjects : Nat := itemKey 0x50 0x00 0x23
/-- `tk_contradictions`, 0x50.00.24, u32 (R194, Table 6.18). -/
@[reducible] def It.tkContradictions : Nat := itemKey 0x50 0x00 0x24
/-- `tk_births_refused`, 0x50.00.25, u32 (R194, Table 6.18). -/
@[reducible] def It.tkBirthsRefused : Nat := itemKey 0x50 0x00 0x25
/-- `tk_unmatched`, 0x50.00.26, u32 (R194, Table 6.18). -/
@[reducible] def It.tkUnmatched : Nat := itemKey 0x50 0x00 0x26
/-- `tk_expired`, 0x50.00.27, u32 (R194, Table 6.18). -/
@[reducible] def It.tkExpired : Nat := itemKey 0x50 0x00 0x27
/-- `tk_solve_truncated`, 0x50.00.28, u32 (R194, Table 6.18). -/
@[reducible] def It.tkSolveTruncated : Nat := itemKey 0x50 0x00 0x28
/-- `tk_solve_late`, 0x50.00.29, u32 (R194, Table 6.18). -/
@[reducible] def It.tkSolveLate : Nat := itemKey 0x50 0x00 0x29
/-- `tk_solves_per_s`, 0x50.00.2a, u32 (R194, Table 6.18). -/
@[reducible] def It.tkSolvesPerS : Nat := itemKey 0x50 0x00 0x2a
/-- `tk_solve_max_ns`, 0x50.00.2b, u32 (R194, Table 6.18). -/
@[reducible] def It.tkSolveMaxNs : Nat := itemKey 0x50 0x00 0x2b
/-- `tk_next_track_id`, 0x50.00.2c, u32 (R194, Table 6.18). -/
@[reducible] def It.tkNextTrackId : Nat := itemKey 0x50 0x00 0x2c
/-- `tk_view_ctx`, 0x50.1v.00, u8 (R194, Table 6.19). -/
@[reducible] def It.tkViewCtx (n : Nat) : Nat := itemKey 0x50 (0x10 + n) 0x00
/-- `tk_view_table`, 0x50.1v.01, u8 (R194, Table 6.19). -/
@[reducible] def It.tkViewTable (n : Nat) : Nat := itemKey 0x50 (0x10 + n) 0x01
/-- `tk_view_birth`, 0x50.1v.02, enum (R194, Table 6.19). -/
@[reducible] def It.tkViewBirth (n : Nat) : Nat := itemKey 0x50 (0x10 + n) 0x02
/-- `tk_view_gate_u`, 0x50.1v.03, u32 (R194, Table 6.19). -/
@[reducible] def It.tkViewGateU (n : Nat) : Nat := itemKey 0x50 (0x10 + n) 0x03
/-- `tk_view_gate_t`, 0x50.1v.04, q16.16 (R194, Table 6.19). -/
@[reducible] def It.tkViewGateT (n : Nat) : Nat := itemKey 0x50 (0x10 + n) 0x04
/-- `tk_view_t_offset`, 0x50.1v.05, q16.16 (R194, Table 6.19). -/
@[reducible] def It.tkViewTOffset (n : Nat) : Nat := itemKey 0x50 (0x10 + n) 0x05
/-- `tk_view_px_area`, 0x50.1v.06, q16.16 (R194, Table 6.19). -/
@[reducible] def It.tkViewPxArea (n : Nat) : Nat := itemKey 0x50 (0x10 + n) 0x06
/-- `tk_view_units_per_line`, 0x50.1v.07, q16.16 (R194, Table 6.19). -/
@[reducible] def It.tkViewUnitsPerLine (n : Nat) : Nat := itemKey 0x50 (0x10 + n) 0x07
/-- `tk_view_eject_classes`, 0x50.1v.08, bits (R194, Table 6.19). -/
@[reducible] def It.tkViewEjectClasses (n : Nat) : Nat := itemKey 0x50 (0x10 + n) 0x08
/-- `tk_view_test_feat`, 0x50.1v.09, u8 (R194, Table 6.19). -/
@[reducible] def It.tkViewTestFeat (n : Nat) : Nat := itemKey 0x50 (0x10 + n) 0x09
/-- `tk_view_test_op`, 0x50.1v.0a, enum (R194, Table 6.19). -/
@[reducible] def It.tkViewTestOp (n : Nat) : Nat := itemKey 0x50 (0x10 + n) 0x0a
/-- `tk_view_test_level`, 0x50.1v.0b, q16.16 (R194, Table 6.19). -/
@[reducible] def It.tkViewTestLevel (n : Nat) : Nat := itemKey 0x50 (0x10 + n) 0x0b
/-- `tk_view_state`, 0x50.1v.20, enum (R194, Table 6.19). -/
@[reducible] def It.tkViewState (n : Nat) : Nat := itemKey 0x50 (0x10 + n) 0x20
/-- `tk_view_offset_ns`, 0x50.1v.21, u32 (R194, Table 6.19). -/
@[reducible] def It.tkViewOffsetNs (n : Nat) : Nat := itemKey 0x50 (0x10 + n) 0x21
/-- `tk_view_unaligned`, 0x50.1v.22, u32 (R194, Table 6.19). -/
@[reducible] def It.tkViewUnaligned (n : Nat) : Nat := itemKey 0x50 (0x10 + n) 0x22
/-- `tk_view_dropped`, 0x50.1v.23, u32 (R194, Table 6.19). -/
@[reducible] def It.tkViewDropped (n : Nat) : Nat := itemKey 0x50 (0x10 + n) 0x23
/-- `st_source`, 0x58.ss.00, enum (R194, Table 6.20). -/
@[reducible] def It.stSource (n : Nat) : Nat := itemKey 0x58 (n) 0x00
/-- `st_scale`, 0x58.ss.01, q16.16 (R194, Table 6.20). -/
@[reducible] def It.stScale (n : Nat) : Nat := itemKey 0x58 (n) 0x01
/-- `st_offset`, 0x58.ss.02, q16.16 (R194, Table 6.20). -/
@[reducible] def It.stOffset (n : Nat) : Nat := itemKey 0x58 (n) 0x02
/-- `st_delay_us`, 0x58.ss.03, u32 (R194, Table 6.20). -/
@[reducible] def It.stDelayUs (n : Nat) : Nat := itemKey 0x58 (n) 0x03
/-- `st_max_rate`, 0x58.ss.04, u32 (R194, Table 6.20). -/
@[reducible] def It.stMaxRate (n : Nat) : Nat := itemKey 0x58 (n) 0x04
/-- `st_reduce`, 0x58.ss.05, enum (R194, Table 6.20). -/
@[reducible] def It.stReduce (n : Nat) : Nat := itemKey 0x58 (n) 0x05
/-- `st_class_mask`, 0x58.ss.06, bits (R194, Table 6.20). -/
@[reducible] def It.stClassMask (n : Nat) : Nat := itemKey 0x58 (n) 0x06
/-- `st_can_id`, 0x58.ss.07, bits (R194, Table 6.20). -/
@[reducible] def It.stCanId (n : Nat) : Nat := itemKey 0x58 (n) 0x07
/-- `st_can_offset`, 0x58.ss.08, u8 (R194, Table 6.20). -/
@[reducible] def It.stCanOffset (n : Nat) : Nat := itemKey 0x58 (n) 0x08
/-- `st_can_width`, 0x58.ss.09, enum (R194, Table 6.20). -/
@[reducible] def It.stCanWidth (n : Nat) : Nat := itemKey 0x58 (n) 0x09
/-- `st_can_signed`, 0x58.ss.0a, enum (R194, Table 6.20). -/
@[reducible] def It.stCanSigned (n : Nat) : Nat := itemKey 0x58 (n) 0x0a
/-- `st_filter`, 0x58.ss.0b, u8 (R194, Table 6.20). -/
@[reducible] def It.stFilter (n : Nat) : Nat := itemKey 0x58 (n) 0x0b
/-- `st_low`, 0x58.ss.0c, q16.16 (R194, Table 6.20). -/
@[reducible] def It.stLow (n : Nat) : Nat := itemKey 0x58 (n) 0x0c
/-- `st_high`, 0x58.ss.0d, q16.16 (R194, Table 6.20). -/
@[reducible] def It.stHigh (n : Nat) : Nat := itemKey 0x58 (n) 0x0d
/-- `st_hyst_pct`, 0x58.ss.0e, u8 (R194, Table 6.20). -/
@[reducible] def It.stHystPct (n : Nat) : Nat := itemKey 0x58 (n) 0x0e
/-- `st_stale_ms`, 0x58.ss.0f, u16 (R194, Table 6.20). -/
@[reducible] def It.stStaleMs (n : Nat) : Nat := itemKey 0x58 (n) 0x0f
/-- `st_state`, 0x58.ss.20, enum (R194, Table 6.20). -/
@[reducible] def It.stState (n : Nat) : Nat := itemKey 0x58 (n) 0x20
/-- `st_guard`, 0x58.ss.21, enum (R194, Table 6.20). -/
@[reducible] def It.stGuard (n : Nat) : Nat := itemKey 0x58 (n) 0x21
/-- `st_value`, 0x58.ss.22, q16.16 (R194, Table 6.20). -/
@[reducible] def It.stValue (n : Nat) : Nat := itemKey 0x58 (n) 0x22
/-- `st_offset_ns`, 0x58.ss.23, u32 (R194, Table 6.20). -/
@[reducible] def It.stOffsetNs (n : Nat) : Nat := itemKey 0x58 (n) 0x23
/-- `st_reentry`, 0x58.ss.24, u8 (R194, Table 6.20). -/
@[reducible] def It.stReentry (n : Nat) : Nat := itemKey 0x58 (n) 0x24
/-- `st_unaligned`, 0x58.ss.25, u32 (R194, Table 6.20). -/
@[reducible] def It.stUnaligned (n : Nat) : Nat := itemKey 0x58 (n) 0x25
/-- `st_dropped`, 0x58.ss.26, u32 (R194, Table 6.20). -/
@[reducible] def It.stDropped (n : Nat) : Nat := itemKey 0x58 (n) 0x26
/-- `st_late`, 0x58.ss.27, u32 (R194, Table 6.20). -/
@[reducible] def It.stLate (n : Nat) : Nat := itemKey 0x58 (n) 0x27
/-- `fu_level`, 0x58.gg.00, enum (R194, Table 6.21). -/
@[reducible] def It.fuLevel (n : Nat) : Nat := itemKey 0x58 (0x20 + n) 0x00
/-- `fu_streams`, 0x58.gg.01, bits (R194, Table 6.21). -/
@[reducible] def It.fuStreams (n : Nat) : Nat := itemKey 0x58 (0x20 + n) 0x01
/-- `fu_groups`, 0x58.gg.02, bits (R194, Table 6.21). -/
@[reducible] def It.fuGroups (n : Nat) : Nat := itemKey 0x58 (0x20 + n) 0x02
/-- `fu_greduce`, 0x58.gg.03, enum (R194, Table 6.21). -/
@[reducible] def It.fuGreduce (n : Nat) : Nat := itemKey 0x58 (0x20 + n) 0x03
/-- `fu_basis`, 0x58.gg.04, enum (R194, Table 6.21). -/
@[reducible] def It.fuBasis (n : Nat) : Nat := itemKey 0x58 (0x20 + n) 0x04
/-- `fu_window`, 0x58.gg.05, u32 (R194, Table 6.21). -/
@[reducible] def It.fuWindow (n : Nat) : Nat := itemKey 0x58 (0x20 + n) 0x05
/-- `fu_align_us`, 0x58.gg.06, u32 (R194, Table 6.21). -/
@[reducible] def It.fuAlignUs (n : Nat) : Nat := itemKey 0x58 (0x20 + n) 0x06
/-- `fu_agree_abs`, 0x58.gg.07, q16.16 (R194, Table 6.21). -/
@[reducible] def It.fuAgreeAbs (n : Nat) : Nat := itemKey 0x58 (0x20 + n) 0x07
/-- `fu_agree_rel`, 0x58.gg.08, q16.16 (R194, Table 6.21). -/
@[reducible] def It.fuAgreeRel (n : Nat) : Nat := itemKey 0x58 (0x20 + n) 0x08
/-- `fu_primary`, 0x58.gg.09, u8 (R194, Table 6.21). -/
@[reducible] def It.fuPrimary (n : Nat) : Nat := itemKey 0x58 (0x20 + n) 0x09
/-- `fu_contra_action`, 0x58.gg.0a, enum (R194, Table 6.21). -/
@[reducible] def It.fuContraAction (n : Nat) : Nat := itemKey 0x58 (0x20 + n) 0x0a
/-- `fu_hold_ms`, 0x58.gg.0b, u16 (R194, Table 6.21). -/
@[reducible] def It.fuHoldMs (n : Nat) : Nat := itemKey 0x58 (0x20 + n) 0x0b
/-- `fu_min_active`, 0x58.gg.0c, u8 (R194, Table 6.21). -/
@[reducible] def It.fuMinActive (n : Nat) : Nat := itemKey 0x58 (0x20 + n) 0x0c
/-- `fu_value`, 0x58.gg.20, q16.16 (R194, Table 6.21). -/
@[reducible] def It.fuValue (n : Nat) : Nat := itemKey 0x58 (0x20 + n) 0x20
/-- `fu_quality`, 0x58.gg.21, enum (R194, Table 6.21). -/
@[reducible] def It.fuQuality (n : Nat) : Nat := itemKey 0x58 (0x20 + n) 0x21
/-- `fu_flags`, 0x58.gg.22, bits (R194, Table 6.21). -/
@[reducible] def It.fuFlags (n : Nat) : Nat := itemKey 0x58 (0x20 + n) 0x22
/-- `fu_window_end`, 0x58.gg.23, u64 (R194, Table 6.21). -/
@[reducible] def It.fuWindowEnd (n : Nat) : Nat := itemKey 0x58 (0x20 + n) 0x23
/-- `fu_cell`, 0x58.gg.24, u64 (R194, Table 6.21). -/
@[reducible] def It.fuCell (n : Nat) : Nat := itemKey 0x58 (0x20 + n) 0x24
/-- `fu_carry`, 0x58.gg.25, u32 (R194, Table 6.21). -/
@[reducible] def It.fuCarry (n : Nat) : Nat := itemKey 0x58 (0x20 + n) 0x25
/-- `fu_contradictions`, 0x58.gg.26, u32 (R194, Table 6.21). -/
@[reducible] def It.fuContradictions (n : Nat) : Nat := itemKey 0x58 (0x20 + n) 0x26
/-- `fu_outliers`, 0x58.gg.27, u32 (R194, Table 6.21). -/
@[reducible] def It.fuOutliers (n : Nat) : Nat := itemKey 0x58 (0x20 + n) 0x27
/-- `fu_agree_count`, 0x58.gg.28, u8 (R194, Table 6.21). -/
@[reducible] def It.fuAgreeCount (n : Nat) : Nat := itemKey 0x58 (0x20 + n) 0x28
/-- `ft_kind`, 0x58.4t.00, enum (R194, Table 6.22). -/
@[reducible] def It.ftKind (n : Nat) : Nat := itemKey 0x58 (0x40 + n) 0x00
/-- `ft_entries`, 0x58.4t.01, u32 (R194, Table 6.22). -/
@[reducible] def It.ftEntries (n : Nat) : Nat := itemKey 0x58 (0x40 + n) 0x01
/-- `ft_crc`, 0x58.4t.02, u32 (R194, Table 6.22). -/
@[reducible] def It.ftCrc (n : Nat) : Nat := itemKey 0x58 (0x40 + n) 0x02
/-- `ft_build`, 0x58.4t.03, u32 (R194, Table 6.22). -/
@[reducible] def It.ftBuild (n : Nat) : Nat := itemKey 0x58 (0x40 + n) 0x03
/-- `fu_load_pct`, 0x58.50.00, u8 (R194, Table 6.22). -/
@[reducible] def It.fuLoadPct : Nat := itemKey 0x58 0x50 0x00
/-- `fu_admitted_kcycles`, 0x58.50.01, u32 (R194, Table 6.22). -/
@[reducible] def It.fuAdmittedKcycles : Nat := itemKey 0x58 0x50 0x01
/-- `fu_buffer_kb`, 0x58.50.02, u32 (R194, Table 6.22). -/
@[reducible] def It.fuBufferKb : Nat := itemKey 0x58 0x50 0x02
/-- `fu_buffer_peak_kb`, 0x58.50.03, u32 (R194, Table 6.22). -/
@[reducible] def It.fuBufferPeakKb : Nat := itemKey 0x58 0x50 0x03
/-- `rod_enable`, 0x30.ll.00, enum (R219, Table 7.12). -/
@[reducible] def It.rodEnable (n : Nat) : Nat := itemKey 0x30 (n) 0x00
/-- `rod_clock`, 0x30.ll.01, enum (R219, Table 7.12). -/
@[reducible] def It.rodClock (n : Nat) : Nat := itemKey 0x30 (n) 0x01
/-- `rod_period_us`, 0x30.ll.02, u16 (R219, Table 7.12). -/
@[reducible] def It.rodPeriodUs (n : Nat) : Nat := itemKey 0x30 (n) 0x02
/-- `rod_phase_us`, 0x30.ll.03, u16 (R219, Table 7.12). -/
@[reducible] def It.rodPhaseUs (n : Nat) : Nat := itemKey 0x30 (n) 0x03
/-- `rod_tally_units`, 0x30.ll.04, u32 (R219, Table 7.12). -/
@[reducible] def It.rodTallyUnits (n : Nat) : Nat := itemKey 0x30 (n) 0x04
/-- `rod_tally_offset`, 0x30.ll.05, u32 (R219, Table 7.12). -/
@[reducible] def It.rodTallyOffset (n : Nat) : Nat := itemKey 0x30 (n) 0x05
/-- `rod_pv_src`, 0x30.ll.06, enum (R219, Table 7.12). -/
@[reducible] def It.rodPvSrc (n : Nat) : Nat := itemKey 0x30 (n) 0x06
/-- `rod_pv_inst`, 0x30.ll.07, u8 (R219, Table 7.12). -/
@[reducible] def It.rodPvInst (n : Nat) : Nat := itemKey 0x30 (n) 0x07
/-- `rod_pv_scale`, 0x30.ll.08, q16.16 (R219, Table 7.12). -/
@[reducible] def It.rodPvScale (n : Nat) : Nat := itemKey 0x30 (n) 0x08
/-- `rod_ff_src`, 0x30.ll.09, enum (R219, Table 7.12). -/
@[reducible] def It.rodFfSrc (n : Nat) : Nat := itemKey 0x30 (n) 0x09
/-- `rod_ff_inst`, 0x30.ll.0a, u8 (R219, Table 7.12). -/
@[reducible] def It.rodFfInst (n : Nat) : Nat := itemKey 0x30 (n) 0x0a
/-- `rod_kff`, 0x30.ll.0b, q16.16 (R219, Table 7.12). -/
@[reducible] def It.rodKff (n : Nat) : Nat := itemKey 0x30 (n) 0x0b
/-- `set_point`, 0x30.ll.0c, q16.16 (R219, Table 7.12). -/
@[reducible] def It.setPoint (n : Nat) : Nat := itemKey 0x30 (n) 0x0c
/-- `rod_sp_rate`, 0x30.ll.0d, q16.16 (R219, Table 7.12). -/
@[reducible] def It.rodSpRate (n : Nat) : Nat := itemKey 0x30 (n) 0x0d
/-- `rod_sp_weight`, 0x30.ll.0e, q16.16 (R219, Table 7.12). -/
@[reducible] def It.rodSpWeight (n : Nat) : Nat := itemKey 0x30 (n) 0x0e
/-- `rod_kp`, 0x30.ll.0f, q16.16 (R219, Table 7.12). -/
@[reducible] def It.rodKp (n : Nat) : Nat := itemKey 0x30 (n) 0x0f
/-- `rod_ti`, 0x30.ll.10, u32 (R219, Table 7.12). -/
@[reducible] def It.rodTi (n : Nat) : Nat := itemKey 0x30 (n) 0x10
/-- `rod_td`, 0x30.ll.11, u32 (R219, Table 7.12). -/
@[reducible] def It.rodTd (n : Nat) : Nat := itemKey 0x30 (n) 0x11
/-- `rod_tf`, 0x30.ll.12, u32 (R219, Table 7.12). -/
@[reducible] def It.rodTf (n : Nat) : Nat := itemKey 0x30 (n) 0x12
/-- `rod_bias`, 0x30.ll.13, q16.16 (R219, Table 7.12). -/
@[reducible] def It.rodBias (n : Nat) : Nat := itemKey 0x30 (n) 0x13
/-- `rod_i_min`, 0x30.ll.14, q16.16 (R219, Table 7.12). -/
@[reducible] def It.rodIMin (n : Nat) : Nat := itemKey 0x30 (n) 0x14
/-- `rod_i_max`, 0x30.ll.15, q16.16 (R219, Table 7.12). -/
@[reducible] def It.rodIMax (n : Nat) : Nat := itemKey 0x30 (n) 0x15
/-- `rod_out_min`, 0x30.ll.16, q16.16 (R219, Table 7.12). -/
@[reducible] def It.rodOutMin (n : Nat) : Nat := itemKey 0x30 (n) 0x16
/-- `rod_out_max`, 0x30.ll.17, q16.16 (R219, Table 7.12). -/
@[reducible] def It.rodOutMax (n : Nat) : Nat := itemKey 0x30 (n) 0x17
/-- `rod_dest`, 0x30.ll.18, enum (R219, Table 7.12). -/
@[reducible] def It.rodDest (n : Nat) : Nat := itemKey 0x30 (n) 0x18
/-- `rod_dest_ch`, 0x30.ll.19, u8 (R219, Table 7.12). -/
@[reducible] def It.rodDestCh (n : Nat) : Nat := itemKey 0x30 (n) 0x19
/-- `rod_failsafe_mode`, 0x30.ll.1a, enum (R219, Table 7.12). -/
@[reducible] def It.rodFailsafeMode (n : Nat) : Nat := itemKey 0x30 (n) 0x1a
/-- `rod_failsafe`, 0x30.ll.1b, q16.16 (R219, Table 7.12). -/
@[reducible] def It.rodFailsafe (n : Nat) : Nat := itemKey 0x30 (n) 0x1b
/-- `rod_overrun_n`, 0x30.ll.1c, u8 (R219, Table 7.12). -/
@[reducible] def It.rodOverrunN (n : Nat) : Nat := itemKey 0x30 (n) 0x1c
/-- `rod_invalid_n`, 0x30.ll.1d, u8 (R219, Table 7.12). -/
@[reducible] def It.rodInvalidN (n : Nat) : Nat := itemKey 0x30 (n) 0x1d
/-- `rod_min_quality`, 0x30.ll.1e, enum (R219, Table 7.12). -/
@[reducible] def It.rodMinQuality (n : Nat) : Nat := itemKey 0x30 (n) 0x1e
/-- `rod_recover`, 0x30.ll.1f, enum (R219, Table 7.12). -/
@[reducible] def It.rodRecover (n : Nat) : Nat := itemKey 0x30 (n) 0x1f
/-- `rod_bumpless`, 0x30.ll.20, enum (R219, Table 7.12). -/
@[reducible] def It.rodBumpless (n : Nat) : Nat := itemKey 0x30 (n) 0x20
/-- `rod_state`, 0x30.ll.30, enum (R219, Table 7.12). -/
@[reducible] def It.rodState (n : Nat) : Nat := itemKey 0x30 (n) 0x30
/-- `rod_flags`, 0x30.ll.31, bits (R219, Table 7.12). -/
@[reducible] def It.rodFlags (n : Nat) : Nat := itemKey 0x30 (n) 0x31
/-- `rod_out`, 0x30.ll.32, q16.16 (R219, Table 7.12). -/
@[reducible] def It.rodOut (n : Nat) : Nat := itemKey 0x30 (n) 0x32
/-- `rod_pv`, 0x30.ll.33, q16.16 (R219, Table 7.12). -/
@[reducible] def It.rodPv (n : Nat) : Nat := itemKey 0x30 (n) 0x33
/-- `rod_sp_eff`, 0x30.ll.34, q16.16 (R219, Table 7.12). -/
@[reducible] def It.rodSpEff (n : Nat) : Nat := itemKey 0x30 (n) 0x34
/-- `rod_i`, 0x30.ll.35, q16.16 (R219, Table 7.12). -/
@[reducible] def It.rodI (n : Nat) : Nat := itemKey 0x30 (n) 0x35
/-- `rod_overruns`, 0x30.ll.36, u32 (R219, Table 7.12). -/
@[reducible] def It.rodOverruns (n : Nat) : Nat := itemKey 0x30 (n) 0x36
/-- `rod_invalid_runs`, 0x30.ll.37, u32 (R219, Table 7.12). -/
@[reducible] def It.rodInvalidRuns (n : Nat) : Nat := itemKey 0x30 (n) 0x37
/-- `rod_failsafes`, 0x30.ll.38, u32 (R219, Table 7.12). -/
@[reducible] def It.rodFailsafes (n : Nat) : Nat := itemKey 0x30 (n) 0x38
/-- `rod_exec_max_ns`, 0x30.ll.39, u32 (R219, Table 7.12). -/
@[reducible] def It.rodExecMaxNs (n : Nat) : Nat := itemKey 0x30 (n) 0x39
/-- `rod_cost_ns`, 0x30.ll.3a, u32 (R219, Table 7.12). -/
@[reducible] def It.rodCostNs (n : Nat) : Nat := itemKey 0x30 (n) 0x3a
/-- `rod_response_ns`, 0x30.ll.3b, u32 (R219, Table 7.12). -/
@[reducible] def It.rodResponseNs (n : Nat) : Nat := itemKey 0x30 (n) 0x3b
/-- `rod_last_release`, 0x30.ll.3c, u64 (R219, Table 7.12). -/
@[reducible] def It.rodLastRelease (n : Nat) : Nat := itemKey 0x30 (n) 0x3c
/-- `eng_load_pct`, 0x30.8e.00, u8 (R219, Table 7.13). -/
@[reducible] def It.engLoadPct (n : Nat) : Nat := itemKey 0x30 (0x80 + n) 0x00
/-- `eng_admitted_permille`, 0x30.8e.01, u16 (R219, Table 7.13). -/
@[reducible] def It.engAdmittedPermille (n : Nat) : Nat := itemKey 0x30 (0x80 + n) 0x01
/-- `eng_subcycle`, 0x30.8e.02, u8 (R219, Table 7.13). -/
@[reducible] def It.engSubcycle (n : Nat) : Nat := itemKey 0x30 (0x80 + n) 0x02
/-- `eng_preemptions`, 0x30.8e.03, u32 (R219, Table 7.13). -/
@[reducible] def It.engPreemptions (n : Nat) : Nat := itemKey 0x30 (0x80 + n) 0x03
/-- `beam_enable`, 0x38.bb.00, enum (R219, Table 7.14). -/
@[reducible] def It.beamEnable (n : Nat) : Nat := itemKey 0x38 (n) 0x00
/-- `beam_engine`, 0x38.bb.01, u8 (R219, Table 7.14). -/
@[reducible] def It.beamEngine (n : Nat) : Nat := itemKey 0x38 (n) 0x01
/-- `beam_members`, 0x38.bb.02, bits (R219, Table 7.14). -/
@[reducible] def It.beamMembers (n : Nat) : Nat := itemKey 0x38 (n) 0x02
/-- `beam_limit`, 0x38.bb.03, q16.16 (R219, Table 7.14). -/
@[reducible] def It.beamLimit (n : Nat) : Nat := itemKey 0x38 (n) 0x03
/-- `beam_headroom`, 0x38.bb.04, q16.16 (R219, Table 7.14). -/
@[reducible] def It.beamHeadroom (n : Nat) : Nat := itemKey 0x38 (n) 0x04
/-- `beam_dest`, 0x38.bb.05, enum (R219, Table 7.14). -/
@[reducible] def It.beamDest (n : Nat) : Nat := itemKey 0x38 (n) 0x05
/-- `beam_dest_ch`, 0x38.bb.06, u8 (R219, Table 7.14). -/
@[reducible] def It.beamDestCh (n : Nat) : Nat := itemKey 0x38 (n) 0x06
/-- `beam_out`, 0x38.bb.20, q16.16 (R219, Table 7.14). -/
@[reducible] def It.beamOut (n : Nat) : Nat := itemKey 0x38 (n) 0x20
/-- `beam_winner`, 0x38.bb.21, enum (R219, Table 7.14). -/
@[reducible] def It.beamWinner (n : Nat) : Nat := itemKey 0x38 (n) 0x21
/-- `beam_switches`, 0x38.bb.22, u32 (R219, Table 7.14). -/
@[reducible] def It.beamSwitches (n : Nat) : Nat := itemKey 0x38 (n) 0x22
/-- `beam_last_eval`, 0x38.bb.23, u64 (R219, Table 7.14). -/
@[reducible] def It.beamLastEval (n : Nat) : Nat := itemKey 0x38 (n) 0x23
/-- `cas_enable`, 0x38.2k.00, enum (R219, Table 7.15). -/
@[reducible] def It.casEnable (n : Nat) : Nat := itemKey 0x38 (0x20 + n) 0x00
/-- `cas_outer_kind`, 0x38.2k.01, enum (R219, Table 7.15). -/
@[reducible] def It.casOuterKind (n : Nat) : Nat := itemKey 0x38 (0x20 + n) 0x01
/-- `cas_outer`, 0x38.2k.02, u8 (R219, Table 7.15). -/
@[reducible] def It.casOuter (n : Nat) : Nat := itemKey 0x38 (0x20 + n) 0x02
/-- `cas_inner`, 0x38.2k.03, u8 (R219, Table 7.15). -/
@[reducible] def It.casInner (n : Nat) : Nat := itemKey 0x38 (0x20 + n) 0x03
/-- `cas_ratio`, 0x38.2k.04, u8 (R219, Table 7.15). -/
@[reducible] def It.casRatio (n : Nat) : Nat := itemKey 0x38 (0x20 + n) 0x04
/-- `cas_sp_scale`, 0x38.2k.05, q16.16 (R219, Table 7.15). -/
@[reducible] def It.casSpScale (n : Nat) : Nat := itemKey 0x38 (0x20 + n) 0x05
/-- `cas_windup`, 0x38.2k.06, enum (R219, Table 7.15). -/
@[reducible] def It.casWindup (n : Nat) : Nat := itemKey 0x38 (0x20 + n) 0x06
/-- `cas_state`, 0x38.2k.20, enum (R219, Table 7.15). -/
@[reducible] def It.casState (n : Nat) : Nat := itemKey 0x38 (0x20 + n) 0x20
/-- `cas_inner_sp`, 0x38.2k.21, q16.16 (R219, Table 7.15). -/
@[reducible] def It.casInnerSp (n : Nat) : Nat := itemKey 0x38 (0x20 + n) 0x21
/-- `cas_saturations`, 0x38.2k.22, u32 (R219, Table 7.15). -/
@[reducible] def It.casSaturations (n : Nat) : Nat := itemKey 0x38 (0x20 + n) 0x22
/-- `bank_enable`, 0x60.0b.00, enum (R252, Table 8.14). -/
@[reducible] def It.bankEnable (n : Nat) : Nat := itemKey 0x60 (n) 0x00
/-- `bank_rate_decl`, 0x60.0b.01, u32 (R252, Table 8.14). -/
@[reducible] def It.bankRateDecl (n : Nat) : Nat := itemKey 0x60 (n) 0x01
/-- `bank_dwell_ms`, 0x60.0b.02, u16 (R252, Table 8.14). -/
@[reducible] def It.bankDwellMs (n : Nat) : Nat := itemKey 0x60 (n) 0x02
/-- `bank_state`, 0x60.0b.20, enum (R252, Table 8.14). -/
@[reducible] def It.bankState (n : Nat) : Nat := itemKey 0x60 (n) 0x20
/-- `bank_safe_cause`, 0x60.0b.21, bits (R252, Table 8.14). -/
@[reducible] def It.bankSafeCause (n : Nat) : Nat := itemKey 0x60 (n) 0x21
/-- `bank_fault`, 0x60.0b.22, bits (R252, Table 8.14). -/
@[reducible] def It.bankFault (n : Nat) : Nat := itemKey 0x60 (n) 0x22
/-- `bank_sag_tier`, 0x60.0b.23, enum (R252, Table 8.14). -/
@[reducible] def It.bankSagTier (n : Nat) : Nat := itemKey 0x60 (n) 0x23
/-- `boost_v`, 0x60.0b.24, q16.16 (R252, Table 8.14). -/
@[reducible] def It.boostV (n : Nat) : Nat := itemKey 0x60 (n) 0x24
/-- `boost_ready`, 0x60.0b.25, enum (R252, Table 8.14). -/
@[reducible] def It.boostReady (n : Nat) : Nat := itemKey 0x60 (n) 0x25
/-- `bank_current_a`, 0x60.0b.26, q16.16 (R252, Table 8.14). -/
@[reducible] def It.bankCurrentA (n : Nat) : Nat := itemKey 0x60 (n) 0x26
/-- `bank_reserved_a`, 0x60.0b.27, q16.16 (R252, Table 8.14). -/
@[reducible] def It.bankReservedA (n : Nat) : Nat := itemKey 0x60 (n) 0x27
/-- `bank_limit_a`, 0x60.0b.28, q16.16 (R252, Table 8.14). -/
@[reducible] def It.bankLimitA (n : Nat) : Nat := itemKey 0x60 (n) 0x28
/-- `queue_depth`, 0x60.0b.29, u16 (R252, Table 8.14). -/
@[reducible] def It.queueDepth (n : Nat) : Nat := itemKey 0x60 (n) 0x29
/-- `queue_peak`, 0x60.0b.2a, u16 (R252, Table 8.14). -/
@[reducible] def It.queuePeak (n : Nat) : Nat := itemKey 0x60 (n) 0x2a
/-- `beads_started`, 0x60.0b.2b, u32 (R252, Table 8.14). -/
@[reducible] def It.beadsStarted (n : Nat) : Nat := itemKey 0x60 (n) 0x2b
/-- `beads_late`, 0x60.0b.2c, u32 (R252, Table 8.14). -/
@[reducible] def It.beadsLate (n : Nat) : Nat := itemKey 0x60 (n) 0x2c
/-- `bank_conflicts`, 0x60.0b.2d, u32 (R252, Table 8.14). -/
@[reducible] def It.bankConflicts (n : Nat) : Nat := itemKey 0x60 (n) 0x2d
/-- `beads_sag`, 0x60.0b.2e, u32 (R252, Table 8.14). -/
@[reducible] def It.beadsSag (n : Nat) : Nat := itemKey 0x60 (n) 0x2e
/-- `beads_boost_low`, 0x60.0b.2f, u32 (R252, Table 8.14). -/
@[reducible] def It.beadsBoostLow (n : Nat) : Nat := itemKey 0x60 (n) 0x2f
/-- `beads_fault`, 0x60.0b.30, u32 (R252, Table 8.14). -/
@[reducible] def It.beadsFault (n : Nat) : Nat := itemKey 0x60 (n) 0x30
/-- `beads_duplicate`, 0x60.0b.31, u32 (R252, Table 8.14). -/
@[reducible] def It.beadsDuplicate (n : Nat) : Nat := itemKey 0x60 (n) 0x31
/-- `beads_queue_full`, 0x60.0b.32, u32 (R252, Table 8.14). -/
@[reducible] def It.beadsQueueFull (n : Nat) : Nat := itemKey 0x60 (n) 0x32
/-- `beads_flushed`, 0x60.0b.33, u32 (R252, Table 8.14). -/
@[reducible] def It.beadsFlushed (n : Nat) : Nat := itemKey 0x60 (n) 0x33
/-- `hs_trips`, 0x60.0b.34, u32 (R252, Table 8.14). -/
@[reducible] def It.hsTrips (n : Nat) : Nat := itemKey 0x60 (n) 0x34
/-- `drv_mains_v`, 0x60.1k.00, q16.16 (R252, Table 8.15). -/
@[reducible] def It.drvMainsV (n : Nat) : Nat := itemKey 0x60 (0x10 + n) 0x00
/-- `drv_temp_c`, 0x60.1k.01, q16.16 (R252, Table 8.15). -/
@[reducible] def It.drvTempC (n : Nat) : Nat := itemKey 0x60 (0x10 + n) 0x01
/-- `drv_lane`, 0x60.1k.02, enum (R252, Table 8.15). -/
@[reducible] def It.drvLane (n : Nat) : Nat := itemKey 0x60 (0x10 + n) 0x02
/-- `drv_timeouts`, 0x60.1k.03, u32 (R252, Table 8.15). -/
@[reducible] def It.drvTimeouts (n : Nat) : Nat := itemKey 0x60 (0x10 + n) 0x03
/-- `ch_mode`, 0x68.ii.00, enum (R252, Table 8.16). -/
@[reducible] def It.chMode (n : Nat) : Nat := itemKey 0x68 (n) 0x00
/-- `ch_profile`, 0x68.ii.01, u8 (R252, Table 8.16). -/
@[reducible] def It.chProfile (n : Nat) : Nat := itemKey 0x68 (n) 0x01
/-- `ch_peak_a`, 0x68.ii.02, q16.16 (R252, Table 8.16). -/
@[reducible] def It.chPeakA (n : Nat) : Nat := itemKey 0x68 (n) 0x02
/-- `ch_hold_a`, 0x68.ii.03, q16.16 (R252, Table 8.16). -/
@[reducible] def It.chHoldA (n : Nat) : Nat := itemKey 0x68 (n) 0x03
/-- `ch_setpoint_a`, 0x68.ii.04, q16.16 (R252, Table 8.16). -/
@[reducible] def It.chSetpointA (n : Nat) : Nat := itemKey 0x68 (n) 0x04
/-- `ch_imax_a`, 0x68.ii.05, q16.16 (R252, Table 8.16). -/
@[reducible] def It.chImaxA (n : Nat) : Nat := itemKey 0x68 (n) 0x05
/-- `ch_safe`, 0x68.ii.06, enum (R252, Table 8.16). -/
@[reducible] def It.chSafe (n : Nat) : Nat := itemKey 0x68 (n) 0x06
/-- `ch_safe_a`, 0x68.ii.07, q16.16 (R252, Table 8.16). -/
@[reducible] def It.chSafeA (n : Nat) : Nat := itemKey 0x68 (n) 0x07
/-- `ch_retry_n`, 0x68.ii.08, u8 (R252, Table 8.16). -/
@[reducible] def It.chRetryN (n : Nat) : Nat := itemKey 0x68 (n) 0x08
/-- `ch_retry_ms`, 0x68.ii.09, u16 (R252, Table 8.16). -/
@[reducible] def It.chRetryMs (n : Nat) : Nat := itemKey 0x68 (n) 0x09
/-- `ch_r_nom`, 0x68.ii.0a, q16.16 (R252, Table 8.16). -/
@[reducible] def It.chRNom (n : Nat) : Nat := itemKey 0x68 (n) 0x0a
/-- `ch_l_nom`, 0x68.ii.0b, q16.16 (R252, Table 8.16). -/
@[reducible] def It.chLNom (n : Nat) : Nat := itemKey 0x68 (n) 0x0b
/-- `ch_coil_tol_pct`, 0x68.ii.0c, u8 (R252, Table 8.16). -/
@[reducible] def It.chCoilTolPct (n : Nat) : Nat := itemKey 0x68 (n) 0x0c
/-- `ch_state`, 0x68.ii.20, enum (R252, Table 8.16). -/
@[reducible] def It.chState (n : Nat) : Nat := itemKey 0x68 (n) 0x20
/-- `ch_current_a`, 0x68.ii.21, q16.16 (R252, Table 8.16). -/
@[reducible] def It.chCurrentA (n : Nat) : Nat := itemKey 0x68 (n) 0x21
/-- `ch_sp_in_use_a`, 0x68.ii.22, q16.16 (R252, Table 8.16). -/
@[reducible] def It.chSpInUseA (n : Nat) : Nat := itemKey 0x68 (n) 0x22
/-- `ch_fault`, 0x68.ii.23, enum (R252, Table 8.16). -/
@[reducible] def It.chFault (n : Nat) : Nat := itemKey 0x68 (n) 0x23
/-- `ch_parallel_with`, 0x68.ii.24, u8 (R252, Table 8.16). -/
@[reducible] def It.chParallelWith (n : Nat) : Nat := itemKey 0x68 (n) 0x24
/-- `ch_r_ohm`, 0x68.ii.25, q16.16 (R252, Table 8.16). -/
@[reducible] def It.chROhm (n : Nat) : Nat := itemKey 0x68 (n) 0x25
/-- `ch_l_mh`, 0x68.ii.26, q16.16 (R252, Table 8.16). -/
@[reducible] def It.chLMh (n : Nat) : Nat := itemKey 0x68 (n) 0x26
/-- `ch_coil_guard`, 0x68.ii.27, enum (R252, Table 8.16). -/
@[reducible] def It.chCoilGuard (n : Nat) : Nat := itemKey 0x68 (n) 0x27
/-- `ch_t_boost_ns`, 0x68.ii.28, u32 (R252, Table 8.16). -/
@[reducible] def It.chTBoostNs (n : Nat) : Nat := itemKey 0x68 (n) 0x28
/-- `ch_lateness_us`, 0x68.ii.29, u16 (R252, Table 8.16). -/
@[reducible] def It.chLatenessUs (n : Nat) : Nat := itemKey 0x68 (n) 0x29
/-- `ch_pulses`, 0x68.ii.2a, u32 (R252, Table 8.16). -/
@[reducible] def It.chPulses (n : Nat) : Nat := itemKey 0x68 (n) 0x2a
/-- `ch_trips`, 0x68.ii.2b, u32 (R252, Table 8.16). -/
@[reducible] def It.chTrips (n : Nat) : Nat := itemKey 0x68 (n) 0x2b
/-- `ch_open_loads`, 0x68.ii.2c, u32 (R252, Table 8.16). -/
@[reducible] def It.chOpenLoads (n : Nat) : Nat := itemKey 0x68 (n) 0x2c
/-- `ch_sp_clamped`, 0x68.ii.2d, u32 (R252, Table 8.16). -/
@[reducible] def It.chSpClamped (n : Nat) : Nat := itemKey 0x68 (n) 0x2d
/-- `ch_restarts`, 0x68.ii.2e, u32 (R252, Table 8.16). -/
@[reducible] def It.chRestarts (n : Nat) : Nat := itemKey 0x68 (n) 0x2e
/-- `prof_kind`, 0x6c.pp.00, enum (R252, Table 8.17). -/
@[reducible] def It.profKind (n : Nat) : Nat := itemKey 0x6c (n) 0x00
/-- `prof_open_lead`, 0x6c.pp.01, q16.16 (R252, Table 8.17). -/
@[reducible] def It.profOpenLead (n : Nat) : Nat := itemKey 0x6c (n) 0x01
/-- `prof_late_us`, 0x6c.pp.02, u16 (R252, Table 8.17). -/
@[reducible] def It.profLateUs (n : Nat) : Nat := itemKey 0x6c (n) 0x02
/-- `prof_boost_max_us`, 0x6c.pp.03, u16 (R252, Table 8.17). -/
@[reducible] def It.profBoostMaxUs (n : Nat) : Nat := itemKey 0x6c (n) 0x03
/-- `prof_stretch_pct`, 0x6c.pp.04, u8 (R252, Table 8.17). -/
@[reducible] def It.profStretchPct (n : Nat) : Nat := itemKey 0x6c (n) 0x04
/-- `prof_peak_dwell_us`, 0x6c.pp.05, u16 (R252, Table 8.17). -/
@[reducible] def It.profPeakDwellUs (n : Nat) : Nat := itemKey 0x6c (n) 0x05
/-- `prof_hold_min_us`, 0x6c.pp.06, u16 (R252, Table 8.17). -/
@[reducible] def It.profHoldMinUs (n : Nat) : Nat := itemKey 0x6c (n) 0x06
/-- `prof_hold_max_ms`, 0x6c.pp.07, u16 (R252, Table 8.17). -/
@[reducible] def It.profHoldMaxMs (n : Nat) : Nat := itemKey 0x6c (n) 0x07
/-- `prof_quench`, 0x6c.pp.08, enum (R252, Table 8.17). -/
@[reducible] def It.profQuench (n : Nat) : Nat := itemKey 0x6c (n) 0x08
/-- `prof_kp`, 0x6c.pp.09, q16.16 (R252, Table 8.17). -/
@[reducible] def It.profKp (n : Nat) : Nat := itemKey 0x6c (n) 0x09
/-- `prof_ki`, 0x6c.pp.0a, q16.16 (R252, Table 8.17). -/
@[reducible] def It.profKi (n : Nat) : Nat := itemKey 0x6c (n) 0x0a
/-- `prof_dither_hz`, 0x6c.pp.0b, u16 (R252, Table 8.17). -/
@[reducible] def It.profDitherHz (n : Nat) : Nat := itemKey 0x6c (n) 0x0b
/-- `prof_dither_a`, 0x6c.pp.0c, q16.16 (R252, Table 8.17). -/
@[reducible] def It.profDitherA (n : Nat) : Nat := itemKey 0x6c (n) 0x0c
/-- `prof_slew`, 0x6c.pp.0d, q16.16 (R252, Table 8.17). -/
@[reducible] def It.profSlew (n : Nat) : Nat := itemKey 0x6c (n) 0x0d
/-- `di_invert`, 0x70.nn.00, enum (R278, Table 9.8). -/
@[reducible] def It.diInvert (n : Nat) : Nat := itemKey 0x70 (n) 0x00
/-- `di_filter_us`, 0x70.nn.01, u16 (R278, Table 9.8). -/
@[reducible] def It.diFilterUs (n : Nat) : Nat := itemKey 0x70 (n) 0x01
/-- `di_break_detect`, 0x70.nn.02, enum (R278, Table 9.8). -/
@[reducible] def It.diBreakDetect (n : Nat) : Nat := itemKey 0x70 (n) 0x02
/-- `di_rate_low`, 0x70.nn.03, u32 (R278, Table 9.8). -/
@[reducible] def It.diRateLow (n : Nat) : Nat := itemKey 0x70 (n) 0x03
/-- `di_rate_high`, 0x70.nn.04, u32 (R278, Table 9.8). -/
@[reducible] def It.diRateHigh (n : Nat) : Nat := itemKey 0x70 (n) 0x04
/-- `di_hyst_pct`, 0x70.nn.05, u8 (R278, Table 9.8). -/
@[reducible] def It.diHystPct (n : Nat) : Nat := itemKey 0x70 (n) 0x05
/-- `di_stale_ms`, 0x70.nn.06, u16 (R278, Table 9.8). -/
@[reducible] def It.diStaleMs (n : Nat) : Nat := itemKey 0x70 (n) 0x06
/-- `di_level`, 0x70.nn.20, enum (R278, Table 9.8). -/
@[reducible] def It.diLevel (n : Nat) : Nat := itemKey 0x70 (n) 0x20
/-- `di_guard`, 0x70.nn.21, enum (R278, Table 9.8). -/
@[reducible] def It.diGuard (n : Nat) : Nat := itemKey 0x70 (n) 0x21
/-- `di_rate`, 0x70.nn.22, u32 (R278, Table 9.8). -/
@[reducible] def It.diRate (n : Nat) : Nat := itemKey 0x70 (n) 0x22
/-- `di_edges`, 0x70.nn.23, u32 (R278, Table 9.8). -/
@[reducible] def It.diEdges (n : Nat) : Nat := itemKey 0x70 (n) 0x23
/-- `di_breaks`, 0x70.nn.24, u32 (R278, Table 9.8). -/
@[reducible] def It.diBreaks (n : Nat) : Nat := itemKey 0x70 (n) 0x24
/-- `di_edges_lost`, 0x70.nn.25, u32 (R278, Table 9.8). -/
@[reducible] def It.diEdgesLost (n : Nat) : Nat := itemKey 0x70 (n) 0x25
/-- `do_cmd`, 0x70.4o.00, enum (R278, Table 9.9). -/
@[reducible] def It.doCmd (n : Nat) : Nat := itemKey 0x70 (0x40 + n) 0x00
/-- `do_safe`, 0x70.4o.01, enum (R278, Table 9.9). -/
@[reducible] def It.doSafe (n : Nat) : Nat := itemKey 0x70 (0x40 + n) 0x01
/-- `do_retry_n`, 0x70.4o.02, u8 (R278, Table 9.9). -/
@[reducible] def It.doRetryN (n : Nat) : Nat := itemKey 0x70 (0x40 + n) 0x02
/-- `do_retry_ms`, 0x70.4o.03, u16 (R278, Table 9.9). -/
@[reducible] def It.doRetryMs (n : Nat) : Nat := itemKey 0x70 (0x40 + n) 0x03
/-- `do_open_detect`, 0x70.4o.04, enum (R278, Table 9.9). -/
@[reducible] def It.doOpenDetect (n : Nat) : Nat := itemKey 0x70 (0x40 + n) 0x04
/-- `do_state`, 0x70.4o.20, enum (R278, Table 9.9). -/
@[reducible] def It.doState (n : Nat) : Nat := itemKey 0x70 (0x40 + n) 0x20
/-- `do_fault`, 0x70.4o.21, enum (R278, Table 9.9). -/
@[reducible] def It.doFault (n : Nat) : Nat := itemKey 0x70 (0x40 + n) 0x21
/-- `do_trips`, 0x70.4o.22, u32 (R278, Table 9.9). -/
@[reducible] def It.doTrips (n : Nat) : Nat := itemKey 0x70 (0x40 + n) 0x22
/-- `do_pulses`, 0x70.4o.23, u32 (R278, Table 9.9). -/
@[reducible] def It.doPulses (n : Nat) : Nat := itemKey 0x70 (0x40 + n) 0x23
/-- `ai_mode`, 0x74.0a.00, enum (R278, Table 9.10). -/
@[reducible] def It.aiMode (n : Nat) : Nat := itemKey 0x74 (n) 0x00
/-- `ai_scale`, 0x74.0a.01, q16.16 (R278, Table 9.10). -/
@[reducible] def It.aiScale (n : Nat) : Nat := itemKey 0x74 (n) 0x01
/-- `ai_offset`, 0x74.0a.02, q16.16 (R278, Table 9.10). -/
@[reducible] def It.aiOffset (n : Nat) : Nat := itemKey 0x74 (n) 0x02
/-- `ai_filter`, 0x74.0a.03, u8 (R278, Table 9.10). -/
@[reducible] def It.aiFilter (n : Nat) : Nat := itemKey 0x74 (n) 0x03
/-- `ai_low`, 0x74.0a.04, q16.16 (R278, Table 9.10). -/
@[reducible] def It.aiLow (n : Nat) : Nat := itemKey 0x74 (n) 0x04
/-- `ai_high`, 0x74.0a.05, q16.16 (R278, Table 9.10). -/
@[reducible] def It.aiHigh (n : Nat) : Nat := itemKey 0x74 (n) 0x05
/-- `ai_hyst_pct`, 0x74.0a.06, u8 (R278, Table 9.10). -/
@[reducible] def It.aiHystPct (n : Nat) : Nat := itemKey 0x74 (n) 0x06
/-- `ai_stale_ms`, 0x74.0a.07, u16 (R278, Table 9.10). -/
@[reducible] def It.aiStaleMs (n : Nat) : Nat := itemKey 0x74 (n) 0x07
/-- `ai_raw`, 0x74.0a.20, u16 (R278, Table 9.10). -/
@[reducible] def It.aiRaw (n : Nat) : Nat := itemKey 0x74 (n) 0x20
/-- `ai_value`, 0x74.0a.21, q16.16 (R278, Table 9.10). -/
@[reducible] def It.aiValue (n : Nat) : Nat := itemKey 0x74 (n) 0x21
/-- `ai_guard`, 0x74.0a.22, enum (R278, Table 9.10). -/
@[reducible] def It.aiGuard (n : Nat) : Nat := itemKey 0x74 (n) 0x22
/-- `ai_breaks`, 0x74.0a.23, u32 (R278, Table 9.10). -/
@[reducible] def It.aiBreaks (n : Nat) : Nat := itemKey 0x74 (n) 0x23
/-- `ai_overloads`, 0x74.0a.24, u32 (R278, Table 9.10). -/
@[reducible] def It.aiOverloads (n : Nat) : Nat := itemKey 0x74 (n) 0x24
/-- `ls_enable`, 0x78.0s.00, enum (R278, Table 9.11). -/
@[reducible] def It.lsEnable (n : Nat) : Nat := itemKey 0x78 (n) 0x00
/-- `ls_gain`, 0x78.0s.01, enum (R278, Table 9.11). -/
@[reducible] def It.lsGain (n : Nat) : Nat := itemKey 0x78 (n) 0x01
/-- `ls_trig_level`, 0x78.0s.02, u16 (R278, Table 9.11). -/
@[reducible] def It.lsTrigLevel (n : Nat) : Nat := itemKey 0x78 (n) 0x02
/-- `ls_dead_us`, 0x78.0s.03, u16 (R278, Table 9.11). -/
@[reducible] def It.lsDeadUs (n : Nat) : Nat := itemKey 0x78 (n) 0x03
/-- `ls_min_amp`, 0x78.0s.04, u16 (R278, Table 9.11). -/
@[reducible] def It.lsMinAmp (n : Nat) : Nat := itemKey 0x78 (n) 0x04
/-- `ls_rate_low`, 0x78.0s.05, u32 (R278, Table 9.11). -/
@[reducible] def It.lsRateLow (n : Nat) : Nat := itemKey 0x78 (n) 0x05
/-- `ls_rate_high`, 0x78.0s.06, u32 (R278, Table 9.11). -/
@[reducible] def It.lsRateHigh (n : Nat) : Nat := itemKey 0x78 (n) 0x06
/-- `ls_hyst_pct`, 0x78.0s.07, u8 (R278, Table 9.11). -/
@[reducible] def It.lsHystPct (n : Nat) : Nat := itemKey 0x78 (n) 0x07
/-- `ls_stale_ms`, 0x78.0s.08, u16 (R278, Table 9.11). -/
@[reducible] def It.lsStaleMs (n : Nat) : Nat := itemKey 0x78 (n) 0x08
/-- `ls_hist_ms`, 0x78.0s.09, u16 (R278, Table 9.11). -/
@[reducible] def It.lsHistMs (n : Nat) : Nat := itemKey 0x78 (n) 0x09
/-- `ls_guard`, 0x78.0s.20, enum (R278, Table 9.11). -/
@[reducible] def It.lsGuard (n : Nat) : Nat := itemKey 0x78 (n) 0x20
/-- `ls_rate`, 0x78.0s.21, u32 (R278, Table 9.11). -/
@[reducible] def It.lsRate (n : Nat) : Nat := itemKey 0x78 (n) 0x21
/-- `ls_hw_count`, 0x78.0s.22, u32 (R278, Table 9.11). -/
@[reducible] def It.lsHwCount (n : Nat) : Nat := itemKey 0x78 (n) 0x22
/-- `ls_impacts`, 0x78.0s.23, u32 (R278, Table 9.11). -/
@[reducible] def It.lsImpacts (n : Nat) : Nat := itemKey 0x78 (n) 0x23
/-- `ls_entries_lost`, 0x78.0s.24, u32 (R278, Table 9.11). -/
@[reducible] def It.lsEntriesLost (n : Nat) : Nat := itemKey 0x78 (n) 0x24
/-- `ls_tests_failed`, 0x78.0s.25, u32 (R278, Table 9.11). -/
@[reducible] def It.lsTestsFailed (n : Nat) : Nat := itemKey 0x78 (n) 0x25
/-- `iso_link_a`, 0x70.60.00, enum (R278, Table 9.12). -/
@[reducible] def It.isoLinkA : Nat := itemKey 0x70 0x60 0x00
/-- `iso_link_b`, 0x70.60.01, enum (R278, Table 9.12). -/
@[reducible] def It.isoLinkB : Nat := itemKey 0x70 0x60 0x01
/-- `iso_crc_errors_a`, 0x70.60.02, u32 (R278, Table 9.12). -/
@[reducible] def It.isoCrcErrorsA : Nat := itemKey 0x70 0x60 0x02
/-- `iso_crc_errors_b`, 0x70.60.03, u32 (R278, Table 9.12). -/
@[reducible] def It.isoCrcErrorsB : Nat := itemKey 0x70 0x60 0x03
/-- `iso_frames_lost_a`, 0x70.60.04, u32 (R278, Table 9.12). -/
@[reducible] def It.isoFramesLostA : Nat := itemKey 0x70 0x60 0x04
/-- `iso_frames_lost_b`, 0x70.60.05, u32 (R278, Table 9.12). -/
@[reducible] def It.isoFramesLostB : Nat := itemKey 0x70 0x60 0x05
/-- `iso_latency_ns`, 0x70.60.06, u32 (R278, Table 9.12). -/
@[reducible] def It.isoLatencyNs : Nat := itemKey 0x70 0x60 0x06
/-- `iso_generation`, 0x70.60.07, u8 (R278, Table 9.12). -/
@[reducible] def It.isoGeneration : Nat := itemKey 0x70 0x60 0x07
/-- `iso_out_timeouts`, 0x70.60.08, u32 (R278, Table 9.12). -/
@[reducible] def It.isoOutTimeouts : Nat := itemKey 0x70 0x60 0x08
/-- `field_supply_v`, 0x70.60.09, q16.16 (R278, Table 9.12). -/
@[reducible] def It.fieldSupplyV : Nat := itemKey 0x70 0x60 0x09
/-- `field_low_count`, 0x70.60.0a, u32 (R278, Table 9.12). -/
@[reducible] def It.fieldLowCount : Nat := itemKey 0x70 0x60 0x0a
/-- `can_mode`, 0x80.0c.00, enum (R303, Table 10.8). -/
@[reducible] def It.canMode (n : Nat) : Nat := itemKey 0x80 (n) 0x00
/-- `can_fd`, 0x80.0c.01, enum (R303, Table 10.8). -/
@[reducible] def It.canFd (n : Nat) : Nat := itemKey 0x80 (n) 0x01
/-- `can_nbrp`, 0x80.0c.02, u8 (R303, Table 10.8). -/
@[reducible] def It.canNbrp (n : Nat) : Nat := itemKey 0x80 (n) 0x02
/-- `can_ntseg1`, 0x80.0c.03, u16 (R303, Table 10.8). -/
@[reducible] def It.canNtseg1 (n : Nat) : Nat := itemKey 0x80 (n) 0x03
/-- `can_ntseg2`, 0x80.0c.04, u8 (R303, Table 10.8). -/
@[reducible] def It.canNtseg2 (n : Nat) : Nat := itemKey 0x80 (n) 0x04
/-- `can_nsjw`, 0x80.0c.05, u8 (R303, Table 10.8). -/
@[reducible] def It.canNsjw (n : Nat) : Nat := itemKey 0x80 (n) 0x05
/-- `can_dbrp`, 0x80.0c.06, u8 (R303, Table 10.8). -/
@[reducible] def It.canDbrp (n : Nat) : Nat := itemKey 0x80 (n) 0x06
/-- `can_dtseg1`, 0x80.0c.07, u8 (R303, Table 10.8). -/
@[reducible] def It.canDtseg1 (n : Nat) : Nat := itemKey 0x80 (n) 0x07
/-- `can_dtseg2`, 0x80.0c.08, u8 (R303, Table 10.8). -/
@[reducible] def It.canDtseg2 (n : Nat) : Nat := itemKey 0x80 (n) 0x08
/-- `can_dsjw`, 0x80.0c.09, u8 (R303, Table 10.8). -/
@[reducible] def It.canDsjw (n : Nat) : Nat := itemKey 0x80 (n) 0x09
/-- `can_tdc`, 0x80.0c.0a, enum (R303, Table 10.8). -/
@[reducible] def It.canTdc (n : Nat) : Nat := itemKey 0x80 (n) 0x0a
/-- `can_tdc_offset`, 0x80.0c.0b, u8 (R303, Table 10.8). -/
@[reducible] def It.canTdcOffset (n : Nat) : Nat := itemKey 0x80 (n) 0x0b
/-- `can_pex`, 0x80.0c.0c, enum (R303, Table 10.8). -/
@[reducible] def It.canPex (n : Nat) : Nat := itemKey 0x80 (n) 0x0c
/-- `can_busoff_policy`, 0x80.0c.0d, enum (R303, Table 10.8). -/
@[reducible] def It.canBusoffPolicy (n : Nat) : Nat := itemKey 0x80 (n) 0x0d
/-- `can_term`, 0x80.0c.0e, enum (R303, Table 10.8). -/
@[reducible] def It.canTerm (n : Nat) : Nat := itemKey 0x80 (n) 0x0e
/-- `can_tx_masters`, 0x80.0c.0f, bits (R303, Table 10.8). -/
@[reducible] def It.canTxMasters (n : Nat) : Nat := itemKey 0x80 (n) 0x0f
/-- `can_wake`, 0x80.0c.10, enum (R303, Table 10.8). -/
@[reducible] def It.canWake (n : Nat) : Nat := itemKey 0x80 (n) 0x10
/-- `can_state`, 0x80.0c.20, enum (R303, Table 10.8). -/
@[reducible] def It.canState (n : Nat) : Nat := itemKey 0x80 (n) 0x20
/-- `can_tec`, 0x80.0c.21, u16 (R303, Table 10.8). -/
@[reducible] def It.canTec (n : Nat) : Nat := itemKey 0x80 (n) 0x21
/-- `can_rec`, 0x80.0c.22, u8 (R303, Table 10.8). -/
@[reducible] def It.canRec (n : Nat) : Nat := itemKey 0x80 (n) 0x22
/-- `can_tdc_value`, 0x80.0c.23, u8 (R303, Table 10.8). -/
@[reducible] def It.canTdcValue (n : Nat) : Nat := itemKey 0x80 (n) 0x23
/-- `can_rx_seq`, 0x80.0c.24, u32 (R303, Table 10.8). -/
@[reducible] def It.canRxSeq (n : Nat) : Nat := itemKey 0x80 (n) 0x24
/-- `can_rx_frames`, 0x80.0c.25, u32 (R303, Table 10.8). -/
@[reducible] def It.canRxFrames (n : Nat) : Nat := itemKey 0x80 (n) 0x25
/-- `can_rx_unmatched`, 0x80.0c.26, u32 (R303, Table 10.8). -/
@[reducible] def It.canRxUnmatched (n : Nat) : Nat := itemKey 0x80 (n) 0x26
/-- `can_tx_frames`, 0x80.0c.27, u32 (R303, Table 10.8). -/
@[reducible] def It.canTxFrames (n : Nat) : Nat := itemKey 0x80 (n) 0x27
/-- `can_errors`, 0x80.0c.28, u32 (R303, Table 10.8). -/
@[reducible] def It.canErrors (n : Nat) : Nat := itemKey 0x80 (n) 0x28
/-- `can_arb_lost`, 0x80.0c.29, u32 (R303, Table 10.8). -/
@[reducible] def It.canArbLost (n : Nat) : Nat := itemKey 0x80 (n) 0x29
/-- `can_busoff_count`, 0x80.0c.2a, u32 (R303, Table 10.8). -/
@[reducible] def It.canBusoffCount (n : Nat) : Nat := itemKey 0x80 (n) 0x2a
/-- `can_tx_pending`, 0x80.0c.2b, u8 (R303, Table 10.8). -/
@[reducible] def It.canTxPending (n : Nat) : Nat := itemKey 0x80 (n) 0x2b
/-- `can_bus_load_pm`, 0x80.0c.2c, u16 (R303, Table 10.8). -/
@[reducible] def It.canBusLoadPm (n : Nat) : Nat := itemKey 0x80 (n) 0x2c
/-- `flt_enable`, 0x80.ff.00, enum (R303, Table 10.8). -/
@[reducible] def It.fltEnable (c f : Nat) : Nat := itemKey 0x80 (0x20 + c * 16 + f) 0x00
/-- `flt_id`, 0x80.ff.01, bits (R303, Table 10.8). -/
@[reducible] def It.fltId (c f : Nat) : Nat := itemKey 0x80 (0x20 + c * 16 + f) 0x01
/-- `flt_mask`, 0x80.ff.02, bits (R303, Table 10.8). -/
@[reducible] def It.fltMask (c f : Nat) : Nat := itemKey 0x80 (0x20 + c * 16 + f) 0x02
/-- `flt_format`, 0x80.ff.03, enum (R303, Table 10.8). -/
@[reducible] def It.fltFormat (c f : Nat) : Nat := itemKey 0x80 (0x20 + c * 16 + f) 0x03
/-- `flt_type`, 0x80.ff.04, enum (R303, Table 10.8). -/
@[reducible] def It.fltType (c f : Nat) : Nat := itemKey 0x80 (0x20 + c * 16 + f) 0x04
/-- `flt_action`, 0x80.ff.05, enum (R303, Table 10.8). -/
@[reducible] def It.fltAction (c f : Nat) : Nat := itemKey 0x80 (0x20 + c * 16 + f) 0x05
/-- `flt_masters`, 0x80.ff.06, bits (R303, Table 10.8). -/
@[reducible] def It.fltMasters (c f : Nat) : Nat := itemKey 0x80 (0x20 + c * 16 + f) 0x06
/-- `flt_hits`, 0x80.ff.20, u32 (R303, Table 10.8). -/
@[reducible] def It.fltHits (c f : Nat) : Nat := itemKey 0x80 (0x20 + c * 16 + f) 0x20
/-- `hp_enable`, 0x80.hh.00, enum (R303, Table 10.8). -/
@[reducible] def It.hpEnable (c h : Nat) : Nat := itemKey 0x80 (0x80 + c * 8 + h) 0x00
/-- `hp_id`, 0x80.hh.01, bits (R303, Table 10.8). -/
@[reducible] def It.hpId (c h : Nat) : Nat := itemKey 0x80 (0x80 + c * 8 + h) 0x01
/-- `hp_mask`, 0x80.hh.02, bits (R303, Table 10.8). -/
@[reducible] def It.hpMask (c h : Nat) : Nat := itemKey 0x80 (0x80 + c * 8 + h) 0x02
/-- `hp_partition`, 0x80.hh.03, u8 (R303, Table 10.8). -/
@[reducible] def It.hpPartition (c h : Nat) : Nat := itemKey 0x80 (0x80 + c * 8 + h) 0x03
/-- `hp_count`, 0x80.hh.20, u32 (R303, Table 10.8). -/
@[reducible] def It.hpCount (c h : Nat) : Nat := itemKey 0x80 (0x80 + c * 8 + h) 0x20
/-- `hp_overwrites`, 0x80.hh.21, u32 (R303, Table 10.8). -/
@[reducible] def It.hpOverwrites (c h : Nat) : Nat := itemKey 0x80 (0x80 + c * 8 + h) 0x21
/-- `ring_enable`, 0x88.00.00, enum (R322, Table 11.7). -/
@[reducible] def It.ringEnable : Nat := itemKey 0x88 0x00 0x00
/-- `ring_node`, 0x88.00.01, u16 (R322, Table 11.7). -/
@[reducible] def It.ringNode : Nat := itemKey 0x88 0x00 0x01
/-- `ring_expected`, 0x88.00.02, u8 (R322, Table 11.7). -/
@[reducible] def It.ringExpected : Nat := itemKey 0x88 0x00 0x02
/-- `ring_join_delay_ms`, 0x88.00.03, u16 (R322, Table 11.7). -/
@[reducible] def It.ringJoinDelayMs : Nat := itemKey 0x88 0x00 0x03
/-- `ring_state`, 0x88.00.20, enum (R322, Table 11.7). -/
@[reducible] def It.ringState : Nat := itemKey 0x88 0x00 0x20
/-- `ring_members`, 0x88.00.21, u8 (R322, Table 11.7). -/
@[reducible] def It.ringMembers : Nat := itemKey 0x88 0x00 0x21
/-- `bypass_state`, 0x88.00.22, enum (R322, Table 11.7). -/
@[reducible] def It.bypassState : Nat := itemKey 0x88 0x00 0x22
/-- `bypass_cycles`, 0x88.00.23, u32 (R322, Table 11.7). -/
@[reducible] def It.bypassCycles : Nat := itemKey 0x88 0x00 0x23
/-- `ring_breaks`, 0x88.00.24, u32 (R322, Table 11.7). -/
@[reducible] def It.ringBreaks : Nat := itemKey 0x88 0x00 0x24
/-- `ring_duplicates`, 0x88.00.25, u32 (R322, Table 11.7). -/
@[reducible] def It.ringDuplicates : Nat := itemKey 0x88 0x00 0x25
/-- `ring_hop_expired`, 0x88.00.26, u32 (R322, Table 11.7). -/
@[reducible] def It.ringHopExpired : Nat := itemKey 0x88 0x00 0x26
/-- `ring_tx_seq`, 0x88.00.27, u16 (R322, Table 11.7). -/
@[reducible] def It.ringTxSeq : Nat := itemKey 0x88 0x00 0x27
/-- `ring_index_retries`, 0x88.00.28, u32 (R322, Table 11.7). -/
@[reducible] def It.ringIndexRetries : Nat := itemKey 0x88 0x00 0x28
/-- `port_state`, 0x88.1p.00, enum (R322, Table 11.7). -/
@[reducible] def It.portState (n : Nat) : Nat := itemKey 0x88 (0x10 + n) 0x00
/-- `port_frames_rx`, 0x88.1p.01, u32 (R322, Table 11.7). -/
@[reducible] def It.portFramesRx (n : Nat) : Nat := itemKey 0x88 (0x10 + n) 0x01
/-- `port_frames_tx`, 0x88.1p.02, u32 (R322, Table 11.7). -/
@[reducible] def It.portFramesTx (n : Nat) : Nat := itemKey 0x88 (0x10 + n) 0x02
/-- `port_crc_errors`, 0x88.1p.03, u32 (R322, Table 11.7). -/
@[reducible] def It.portCrcErrors (n : Nat) : Nat := itemKey 0x88 (0x10 + n) 0x03
/-- `port_code_errors`, 0x88.1p.04, u32 (R322, Table 11.7). -/
@[reducible] def It.portCodeErrors (n : Nat) : Nat := itemKey 0x88 (0x10 + n) 0x04
/-- `port_downs`, 0x88.1p.05, u32 (R322, Table 11.7). -/
@[reducible] def It.portDowns (n : Nat) : Nat := itemKey 0x88 (0x10 + n) 0x05
/-- `lt_state`, 0xc0.0l.00, enum (R322, Table 11.8). -/
@[reducible] def It.ltState (n : Nat) : Nat := itemKey 0xc0 (n) 0x00
/-- `lt_pattern`, 0xc0.0l.01, enum (R322, Table 11.8). -/
@[reducible] def It.ltPattern (n : Nat) : Nat := itemKey 0xc0 (n) 0x01
/-- `lt_bits`, 0xc0.0l.02, u64 (R322, Table 11.8). -/
@[reducible] def It.ltBits (n : Nat) : Nat := itemKey 0xc0 (n) 0x02
/-- `lt_errors`, 0xc0.0l.03, u64 (R322, Table 11.8). -/
@[reducible] def It.ltErrors (n : Nat) : Nat := itemKey 0xc0 (n) 0x03
/-- `lt_sync_losses`, 0xc0.0l.04, u32 (R322, Table 11.8). -/
@[reducible] def It.ltSyncLosses (n : Nat) : Nat := itemKey 0xc0 (n) 0x04
/-- `fi_action`, 0xc0.0l.05, enum (R322, Table 11.8). -/
@[reducible] def It.fiAction (n : Nat) : Nat := itemKey 0xc0 (n) 0x05
/-- `fi_altered`, 0xc0.0l.06, u32 (R322, Table 11.8). -/
@[reducible] def It.fiAltered (n : Nat) : Nat := itemKey 0xc0 (n) 0x06
/-- `red_preferred_lane`, 0x90.00.00, enum (R342, Table 12.9). -/
@[reducible] def It.redPreferredLane : Nat := itemKey 0x90 0x00 0x00
/-- `red_auto_restart`, 0x90.00.01, enum (R342, Table 12.9). -/
@[reducible] def It.redAutoRestart : Nat := itemKey 0x90 0x00 0x01
/-- `red_restart_delay_ms`, 0x90.00.02, u16 (R342, Table 12.9). -/
@[reducible] def It.redRestartDelayMs : Nat := itemKey 0x90 0x00 0x02
/-- `red_restart_limit`, 0x90.00.03, u8 (R342, Table 12.9). -/
@[reducible] def It.redRestartLimit : Nat := itemKey 0x90 0x00 0x03
/-- `red_restart_window_min`, 0x90.00.04, u16 (R342, Table 12.9). -/
@[reducible] def It.redRestartWindowMin : Nat := itemKey 0x90 0x00 0x04
/-- `red_diverge_limit`, 0x90.00.05, u16 (R342, Table 12.9). -/
@[reducible] def It.redDivergeLimit : Nat := itemKey 0x90 0x00 0x05
/-- `red_tenant_critical`, 0x90.00.06, bits (R342, Table 12.9). -/
@[reducible] def It.redTenantCritical : Nat := itemKey 0x90 0x00 0x06
/-- `red_start_wait_ms`, 0x90.00.07, u16 (R342, Table 12.9). -/
@[reducible] def It.redStartWaitMs : Nat := itemKey 0x90 0x00 0x07
/-- `role`, 0x90.00.20, enum (R342, Table 12.9). -/
@[reducible] def It.role : Nat := itemKey 0x90 0x00 0x20
/-- `role_accept`, 0x90.00.21, enum (R342, Table 12.9). -/
@[reducible] def It.roleAccept : Nat := itemKey 0x90 0x00 0x21
/-- `failovers`, 0x90.00.22, u32 (R342, Table 12.9). -/
@[reducible] def It.failovers : Nat := itemKey 0x90 0x00 0x22
/-- `switches`, 0x90.00.23, u32 (R342, Table 12.9). -/
@[reducible] def It.switches : Nat := itemKey 0x90 0x00 0x23
/-- `last_cause`, 0x90.00.24, enum (R342, Table 12.9). -/
@[reducible] def It.lastCause : Nat := itemKey 0x90 0x00 0x24
/-- `last_detect_ns`, 0x90.00.25, u32 (R342, Table 12.9). -/
@[reducible] def It.lastDetectNs : Nat := itemKey 0x90 0x00 0x25
/-- `last_gap_ns`, 0x90.00.26, u32 (R342, Table 12.9). -/
@[reducible] def It.lastGapNs : Nat := itemKey 0x90 0x00 0x26
/-- `max_gap_ns`, 0x90.00.27, u32 (R342, Table 12.9). -/
@[reducible] def It.maxGapNs : Nat := itemKey 0x90 0x00 0x27
/-- `copy_cycle`, 0x90.00.28, u64 (R342, Table 12.9). -/
@[reducible] def It.copyCycle : Nat := itemKey 0x90 0x00 0x28
/-- `copy_bytes_peak`, 0x90.00.29, u32 (R342, Table 12.9). -/
@[reducible] def It.copyBytesPeak : Nat := itemKey 0x90 0x00 0x29
/-- `copy_failures`, 0x90.00.2a, u32 (R342, Table 12.9). -/
@[reducible] def It.copyFailures : Nat := itemKey 0x90 0x00 0x2a
/-- `copy_deferrals`, 0x90.00.2b, u32 (R342, Table 12.9). -/
@[reducible] def It.copyDeferrals : Nat := itemKey 0x90 0x00 0x2b
/-- `lane_link`, 0x90.00.2c, enum (R342, Table 12.9). -/
@[reducible] def It.laneLink : Nat := itemKey 0x90 0x00 0x2c
/-- `lane_state`, 0x90.1x.00, enum (R342, Table 12.9). -/
@[reducible] def It.laneState (n : Nat) : Nat := itemKey 0x90 (0x10 + n) 0x00
/-- `lane_cause`, 0x90.1x.01, enum (R342, Table 12.9). -/
@[reducible] def It.laneCause (n : Nat) : Nat := itemKey 0x90 (0x10 + n) 0x01
/-- `lane_faults`, 0x90.1x.02, u32 (R342, Table 12.9). -/
@[reducible] def It.laneFaults (n : Nat) : Nat := itemKey 0x90 (0x10 + n) 0x02
/-- `lane_restarts`, 0x90.1x.03, u32 (R342, Table 12.9). -/
@[reducible] def It.laneRestarts (n : Nat) : Nat := itemKey 0x90 (0x10 + n) 0x03
/-- `lane_restarts_window`, 0x90.1x.04, u8 (R342, Table 12.9). -/
@[reducible] def It.laneRestartsWindow (n : Nat) : Nat := itemKey 0x90 (0x10 + n) 0x04
/-- `diverge_cycles`, 0x90.1x.05, u16 (R342, Table 12.9). -/
@[reducible] def It.divergeCycles (n : Nat) : Nat := itemKey 0x90 (0x10 + n) 0x05
/-- `state_divergences`, 0x90.1x.06, u32 (R342, Table 12.9). -/
@[reducible] def It.stateDivergences (n : Nat) : Nat := itemKey 0x90 (0x10 + n) 0x06
/-- `tenant_restarts`, 0x90.1x.07, u32 (R342, Table 12.9). -/
@[reducible] def It.tenantRestarts (n : Nat) : Nat := itemKey 0x90 (0x10 + n) 0x07
/-- `start_state`, 0x98.00.00, enum (R363, Table 13.12). -/
@[reducible] def It.startState : Nat := itemKey 0x98 0x00 0x00
/-- `park_wake`, 0x98.00.01, bits (R363, Table 13.12). -/
@[reducible] def It.parkWake : Nat := itemKey 0x98 0x00 0x01
/-- `park_timer_s`, 0x98.00.02, u32 (R363, Table 13.12). -/
@[reducible] def It.parkTimerS : Nat := itemKey 0x98 0x00 0x02
/-- `op_state`, 0x98.00.20, enum (R363, Table 13.12). -/
@[reducible] def It.opState : Nat := itemKey 0x98 0x00 0x20
/-- `main_v`, 0x98.00.21, q16.16 (R363, Table 13.12). -/
@[reducible] def It.mainV : Nat := itemKey 0x98 0x00 0x21
/-- `ka_v`, 0x98.00.22, q16.16 (R363, Table 13.12). -/
@[reducible] def It.kaV : Nat := itemKey 0x98 0x00 0x22
/-- `sag_tier`, 0x98.00.23, enum (R363, Table 13.12). -/
@[reducible] def It.sagTier : Nat := itemKey 0x98 0x00 0x23
/-- `holdup_ms`, 0x98.00.24, q16.16 (R363, Table 13.12). -/
@[reducible] def It.holdupMs : Nat := itemKey 0x98 0x00 0x24
/-- `holdup_reserve_ms`, 0x98.00.25, q16.16 (R363, Table 13.12). -/
@[reducible] def It.holdupReserveMs : Nat := itemKey 0x98 0x00 0x25
/-- `holdup_decision_ms`, 0x98.00.26, q16.16 (R363, Table 13.12). -/
@[reducible] def It.holdupDecisionMs : Nat := itemKey 0x98 0x00 0x26
/-- `last_start_kind`, 0x98.00.27, enum (R363, Table 13.12). -/
@[reducible] def It.lastStartKind : Nat := itemKey 0x98 0x00 0x27
/-- `last_wake`, 0x98.00.28, enum (R363, Table 13.12). -/
@[reducible] def It.lastWake : Nat := itemKey 0x98 0x00 0x28
/-- `last_shutdown`, 0x98.00.29, enum (R363, Table 13.12). -/
@[reducible] def It.lastShutdown : Nat := itemKey 0x98 0x00 0x29
/-- `starts`, 0x98.00.2a, u32 (R363, Table 13.12). -/
@[reducible] def It.starts : Nat := itemKey 0x98 0x00 0x2a
/-- `power_fails`, 0x98.00.2b, u32 (R363, Table 13.12). -/
@[reducible] def It.powerFails : Nat := itemKey 0x98 0x00 0x2b
/-- `sag_events`, 0x98.00.2c, u32 (R363, Table 13.12). -/
@[reducible] def It.sagEvents : Nat := itemKey 0x98 0x00 0x2c
/-- `supply_over`, 0x98.00.2d, u32 (R363, Table 13.12). -/
@[reducible] def It.supplyOver : Nat := itemKey 0x98 0x00 0x2d
/-- `retained_lost`, 0x98.00.2e, u32 (R363, Table 13.12). -/
@[reducible] def It.retainedLost : Nat := itemKey 0x98 0x00 0x2e
/-- `wakes_no_main`, 0x98.00.2f, u32 (R363, Table 13.12). -/
@[reducible] def It.wakesNoMain : Nat := itemKey 0x98 0x00 0x2f
/-- `park_replan_skipped`, 0x98.00.30, u32 (R363, Table 13.12). -/
@[reducible] def It.parkReplanSkipped : Nat := itemKey 0x98 0x00 0x30
/-- `upd_confirm_mode`, 0xa0.00.00, enum (R384, Table 14.10). -/
@[reducible] def It.updConfirmMode : Nat := itemKey 0xa0 0x00 0x00
/-- `upd_confirm_s`, 0xa0.00.01, u16 (R384, Table 14.10). -/
@[reducible] def It.updConfirmS : Nat := itemKey 0xa0 0x00 0x01
/-- `upd_state`, 0xa0.00.20, enum (R384, Table 14.10). -/
@[reducible] def It.updState : Nat := itemKey 0xa0 0x00 0x20
/-- `upd_session`, 0xa0.00.21, u32 (R384, Table 14.10). -/
@[reducible] def It.updSession : Nat := itemKey 0xa0 0x00 0x21
/-- `upd_blocks_missing`, 0xa0.00.22, u32 (R384, Table 14.10). -/
@[reducible] def It.updBlocksMissing : Nat := itemKey 0xa0 0x00 0x22
/-- `upd_mixed`, 0xa0.00.23, enum (R384, Table 14.10). -/
@[reducible] def It.updMixed : Nat := itemKey 0xa0 0x00 0x23
/-- `upd_done`, 0xa0.00.24, u32 (R384, Table 14.10). -/
@[reducible] def It.updDone : Nat := itemKey 0xa0 0x00 0x24
/-- `upd_fallbacks`, 0xa0.00.25, u32 (R384, Table 14.10). -/
@[reducible] def It.updFallbacks : Nat := itemKey 0xa0 0x00 0x25
/-- `recovery_boots`, 0xa0.00.26, u32 (R384, Table 14.10). -/
@[reducible] def It.recoveryBoots : Nat := itemKey 0xa0 0x00 0x26
/-- `recovery_cause`, 0xa0.00.27, enum (R384, Table 14.10). -/
@[reducible] def It.recoveryCause : Nat := itemKey 0xa0 0x00 0x27
/-- `boot_bank`, 0xa0.1x.00, enum (R384, Table 14.10). -/
@[reducible] def It.bootBank (n : Nat) : Nat := itemKey 0xa0 (0x10 + n) 0x00
/-- `bank0_state`, 0xa0.1x.01, enum (R384, Table 14.10). -/
@[reducible] def It.bank0State (n : Nat) : Nat := itemKey 0xa0 (0x10 + n) 0x01
/-- `bank1_state`, 0xa0.1x.02, enum (R384, Table 14.10). -/
@[reducible] def It.bank1State (n : Nat) : Nat := itemKey 0xa0 (0x10 + n) 0x02
/-- `bank0_seq`, 0xa0.1x.03, u32 (R384, Table 14.10). -/
@[reducible] def It.bank0Seq (n : Nat) : Nat := itemKey 0xa0 (0x10 + n) 0x03
/-- `bank1_seq`, 0xa0.1x.04, u32 (R384, Table 14.10). -/
@[reducible] def It.bank1Seq (n : Nat) : Nat := itemKey 0xa0 (0x10 + n) 0x04
/-- `fw_version`, 0xa0.1x.05, u32 (R384, Table 14.10). -/
@[reducible] def It.fwVersion (n : Nat) : Nat := itemKey 0xa0 (0x10 + n) 0x05
/-- `fuse_sv_querik`, 0xa0.1x.06, u8 (R384, Table 14.10). -/
@[reducible] def It.fuseSvQuerik (n : Nat) : Nat := itemKey 0xa0 (0x10 + n) 0x06
/-- `fuse_sv_maker`, 0xa0.1x.07, u8 (R384, Table 14.10). -/
@[reducible] def It.fuseSvMaker (n : Nat) : Nat := itemKey 0xa0 (0x10 + n) 0x07
/-- `rec_cells_mask`, 0xa8.00.00, bits (R402, Table 15.11). -/
@[reducible] def It.recCellsMask : Nat := itemKey 0xa8 0x00 0x00
/-- `rec_ls_mask`, 0xa8.00.01, bits (R402, Table 15.11). -/
@[reducible] def It.recLsMask : Nat := itemKey 0xa8 0x00 0x01
/-- `rec_newest_h`, 0xa8.00.20, u32 (R402, Table 15.11). -/
@[reducible] def It.recNewestH : Nat := itemKey 0xa8 0x00 0x20
/-- `rec_oldest_h`, 0xa8.00.21, u32 (R402, Table 15.11). -/
@[reducible] def It.recOldestH : Nat := itemKey 0xa8 0x00 0x21
/-- `rec_newest_a`, 0xa8.00.22, u32 (R402, Table 15.11). -/
@[reducible] def It.recNewestA : Nat := itemKey 0xa8 0x00 0x22
/-- `rec_oldest_a`, 0xa8.00.23, u32 (R402, Table 15.11). -/
@[reducible] def It.recOldestA : Nat := itemKey 0xa8 0x00 0x23
/-- `rec_dropped`, 0xa8.00.24, u32 (R402, Table 15.11). -/
@[reducible] def It.recDropped : Nat := itemKey 0xa8 0x00 0x24
/-- `rec_overwritten`, 0xa8.00.25, u32 (R402, Table 15.11). -/
@[reducible] def It.recOverwritten : Nat := itemKey 0xa8 0x00 0x25
/-- `rec_queue_peak_kb`, 0xa8.00.26, u32 (R402, Table 15.11). -/
@[reducible] def It.recQueuePeakKb : Nat := itemKey 0xa8 0x00 0x26
/-- `rec_kind`, 0xa8.rr.00, enum (R402, Table 15.11). -/
@[reducible] def It.recKind (n : Nat) : Nat := itemKey 0xa8 (0x10 + n) 0x00
/-- `rec_key`, 0xa8.rr.01, u32 (R402, Table 15.11). -/
@[reducible] def It.recKey (n : Nat) : Nat := itemKey 0xa8 (0x10 + n) 0x01
/-- `rec_every_k`, 0xa8.rr.02, u16 (R402, Table 15.11). -/
@[reducible] def It.recEveryK (n : Nat) : Nat := itemKey 0xa8 (0x10 + n) 0x02
/-- `rec_window_s`, 0xa8.rr.03, u32 (R402, Table 15.11). -/
@[reducible] def It.recWindowS (n : Nat) : Nat := itemKey 0xa8 (0x10 + n) 0x03
/-- `rec_bin_low`, 0xa8.rr.04, q16.16 (R402, Table 15.11). -/
@[reducible] def It.recBinLow (n : Nat) : Nat := itemKey 0xa8 (0x10 + n) 0x04
/-- `rec_bin_width`, 0xa8.rr.05, q16.16 (R402, Table 15.11). -/
@[reducible] def It.recBinWidth (n : Nat) : Nat := itemKey 0xa8 (0x10 + n) 0x05
/-- `rec_samples`, 0xa8.rr.20, u32 (R402, Table 15.11). -/
@[reducible] def It.recSamples (n : Nat) : Nat := itemKey 0xa8 (0x10 + n) 0x20
/-- `age_derate_enable`, 0xb0.00.00, enum (R402, Table 15.12). -/
@[reducible] def It.ageDerateEnable : Nat := itemKey 0xb0 0x00 0x00
/-- `age_relay_limit_mohm`, 0xb0.00.01, u16 (R402, Table 15.12). -/
@[reducible] def It.ageRelayLimitMohm : Nat := itemKey 0xb0 0x00 0x01
/-- `age_trend_h`, 0xb0.00.02, u16 (R402, Table 15.12). -/
@[reducible] def It.ageTrendH : Nat := itemKey 0xb0 0x00 0x02
/-- `age_plan_starts_warn`, 0xb0.00.03, u16 (R402, Table 15.12). -/
@[reducible] def It.agePlanStartsWarn : Nat := itemKey 0xb0 0x00 0x03
/-- `age_plan_number`, 0xb0.00.20, u32 (R402, Table 15.12). -/
@[reducible] def It.agePlanNumber : Nat := itemKey 0xb0 0x00 0x20
/-- `age_plan_starts`, 0xb0.00.21, u16 (R402, Table 15.12). -/
@[reducible] def It.agePlanStarts : Nat := itemKey 0xb0 0x00 0x21
/-- `age_plan_flags`, 0xb0.00.22, bits (R402, Table 15.12). -/
@[reducible] def It.agePlanFlags : Nat := itemKey 0xb0 0x00 0x22
/-- `age_holdup_uf`, 0xb0.00.23, q16.16 (R402, Table 15.12). -/
@[reducible] def It.ageHoldupUf : Nat := itemKey 0xb0 0x00 0x23
/-- `age_holdup_esr_mohm`, 0xb0.00.24, q16.16 (R402, Table 15.12). -/
@[reducible] def It.ageHoldupEsrMohm : Nat := itemKey 0xb0 0x00 0x24
/-- `age_relay_we_mohm`, 0xb0.00.25, q16.16 (R402, Table 15.12). -/
@[reducible] def It.ageRelayWeMohm : Nat := itemKey 0xb0 0x00 0x25
/-- `age_relay_ww_mohm`, 0xb0.00.26, q16.16 (R402, Table 15.12). -/
@[reducible] def It.ageRelayWwMohm : Nat := itemKey 0xb0 0x00 0x26
/-- `age_core_offset_mv`, 0xb0.1x.00, q16.16 (R402, Table 15.12). -/
@[reducible] def It.ageCoreOffsetMv (n : Nat) : Nat := itemKey 0xb0 (0x10 + n) 0x00
/-- `age_sram_offset_mv`, 0xb0.1x.01, q16.16 (R402, Table 15.12). -/
@[reducible] def It.ageSramOffsetMv (n : Nat) : Nat := itemKey 0xb0 (0x10 + n) 0x01
/-- `age_sram_margin_mv`, 0xb0.1x.02, q16.16 (R402, Table 15.12). -/
@[reducible] def It.ageSramMarginMv (n : Nat) : Nat := itemKey 0xb0 (0x10 + n) 0x02
/-- `age_canary_ps`, 0xb0.1x.03, q16.16 (R402, Table 15.12). -/
@[reducible] def It.ageCanaryPs (n : Nat) : Nat := itemKey 0xb0 (0x10 + n) 0x03
/-- `age_canary_min_ps`, 0xb0.1x.04, q16.16 (R402, Table 15.12). -/
@[reducible] def It.ageCanaryMinPs (n : Nat) : Nat := itemKey 0xb0 (0x10 + n) 0x04
/-- `age_hs_ron_ref_mohm`, 0xb0.2b.00, q16.16 (R402, Table 15.12). -/
@[reducible] def It.ageHsRonRefMohm (n : Nat) : Nat := itemKey 0xb0 (0x20 + n) 0x00
/-- `age_hs_ron_mohm`, 0xb0.2b.01, q16.16 (R402, Table 15.12). -/
@[reducible] def It.ageHsRonMohm (n : Nat) : Nat := itemKey 0xb0 (0x20 + n) 0x01
/-- `age_boost_esr_mohm`, 0xb0.2b.02, q16.16 (R402, Table 15.12). -/
@[reducible] def It.ageBoostEsrMohm (n : Nat) : Nat := itemKey 0xb0 (0x20 + n) 0x02
/-- `age_bank_plan_a`, 0xb0.2b.03, q16.16 (R402, Table 15.12). -/
@[reducible] def It.ageBankPlanA (n : Nat) : Nat := itemKey 0xb0 (0x20 + n) 0x03
/-- `age_boost_lead_us`, 0xb0.2b.04, q16.16 (R402, Table 15.12). -/
@[reducible] def It.ageBoostLeadUs (n : Nat) : Nat := itemKey 0xb0 (0x20 + n) 0x04
/-- `age_boost_lead_t1_us`, 0xb0.2b.05, q16.16 (R402, Table 15.12). -/
@[reducible] def It.ageBoostLeadT1Us (n : Nat) : Nat := itemKey 0xb0 (0x20 + n) 0x05
/-- `age_ls_ron_mohm`, 0xb0.ii.00, q16.16 (R402, Table 15.12). -/
@[reducible] def It.ageLsRonMohm (n : Nat) : Nat := itemKey 0xb0 (0x40 + n) 0x00
/-- `age_ls_ron_ref_mohm`, 0xb0.ii.01, q16.16 (R402, Table 15.12). -/
@[reducible] def It.ageLsRonRefMohm (n : Nat) : Nat := itemKey 0xb0 (0x40 + n) 0x01
/-- `panel_page`, 0xb8.00.00, u8 (R415, Table 16.6). -/
@[reducible] def It.panelPage : Nat := itemKey 0xb8 0x00 0x00
/-- `panel_park_page`, 0xb8.00.01, u8 (R415, Table 16.6). -/
@[reducible] def It.panelParkPage : Nat := itemKey 0xb8 0x00 0x01
/-- `panel_clear_every`, 0xb8.00.02, u8 (R415, Table 16.6). -/
@[reducible] def It.panelClearEvery : Nat := itemKey 0xb8 0x00 0x02
/-- `panel_vcom_mv`, 0xb8.00.03, s32 (R415, Table 16.6). -/
@[reducible] def It.panelVcomMv : Nat := itemKey 0xb8 0x00 0x03
/-- `panel_state`, 0xb8.00.20, enum (R415, Table 16.6). -/
@[reducible] def It.panelState : Nat := itemKey 0xb8 0x00 0x20
/-- `panel_band`, 0xb8.00.21, u8 (R415, Table 16.6). -/
@[reducible] def It.panelBand : Nat := itemKey 0xb8 0x00 0x21
/-- `panel_temp_c`, 0xb8.00.22, q16.16 (R415, Table 16.6). -/
@[reducible] def It.panelTempC : Nat := itemKey 0xb8 0x00 0x22
/-- `panel_shown`, 0xb8.00.23, u8 (R415, Table 16.6). -/
@[reducible] def It.panelShown : Nat := itemKey 0xb8 0x00 0x23
/-- `panel_crack_ohm`, 0xb8.00.24, q16.16 (R415, Table 16.6). -/
@[reducible] def It.panelCrackOhm : Nat := itemKey 0xb8 0x00 0x24
/-- `panel_updates`, 0xb8.00.25, u32 (R415, Table 16.6). -/
@[reducible] def It.panelUpdates : Nat := itemKey 0xb8 0x00 0x25
/-- `panel_suspects`, 0xb8.00.26, u32 (R415, Table 16.6). -/
@[reducible] def It.panelSuspects : Nat := itemKey 0xb8 0x00 0x26
/-- `panel_interrupted`, 0xb8.00.27, u32 (R415, Table 16.6). -/
@[reducible] def It.panelInterrupted : Nat := itemKey 0xb8 0x00 0x27
/-- `panel_skipped`, 0xb8.00.28, u32 (R415, Table 16.6). -/
@[reducible] def It.panelSkipped : Nat := itemKey 0xb8 0x00 0x28

/-- Item rows of class 0x10, instances 0x00 to 0x00: part_code, variant, serial_number, hw_revision, lane_a_die_id, lane_b_die_id. -/
def rows10_0_0 : List ItemRow := [
  ⟨0x00, .u32, .any, .is 38472, .immediate, .f⟩,
  ⟨0x01, .enum, .ivals [(0, 1)], .fused, .immediate, .f⟩,
  ⟨0x02, .u64, .ivals [(1, 1099511627775)], .fused, .immediate, .f⟩,
  ⟨0x03, .u16, .any, .fused, .immediate, .f⟩,
  ⟨0x04, .u64, .any, .fused, .immediate, .f⟩,
  ⟨0x05, .u64, .any, .fused, .immediate, .f⟩]
/-- Item rows of class 0x10, instances 0x01 to 0x01: cycle_number, base_cycle_us, engine_ok_a, engine_ok_b, drive_ok, clock_lock_a, clock_lock_b, sram_corrected_a, sram_corrected_b, arbitration_discards, ingress_mismatch. -/
def rows10_1_0 : List ItemRow := [
  ⟨0x00, .u64, .any, .is 0, .immediate, .v⟩,
  ⟨0x01, .u16, .any, .is 100, .immediate, .f⟩,
  ⟨0x02, .bits, .mask 0x3ffffff, .is 0, .immediate, .v⟩,
  ⟨0x03, .bits, .mask 0x3ffffff, .is 0, .immediate, .v⟩,
  ⟨0x04, .bits, .mask 0xfffff, .is 0, .immediate, .v⟩,
  ⟨0x05, .bits, .mask 0x3fff, .is 0, .immediate, .v⟩,
  ⟨0x06, .bits, .mask 0x3fff, .is 0, .immediate, .v⟩,
  ⟨0x07, .u32, .any, .is 0, .immediate, .w⟩,
  ⟨0x08, .u32, .any, .is 0, .immediate, .w⟩,
  ⟨0x09, .u32, .any, .is 0, .immediate, .w⟩,
  ⟨0x0a, .u32, .any, .is 0, .immediate, .w⟩]
/-- The item tables of class 0x10. -/
def class10 : List ItemBlock := [⟨0x00, 1, rows10_0_0⟩,
  ⟨0x01, 1, rows10_1_0⟩]
/-- Item rows of class 0x18, instances 0x00 to 0x00: owner, owner_state, election_window_ms, ownerless_grace_ms, ownerless_banks, ownerless_do, ownerless_can, ownerless_applied, session_idle_s, test_access, owner_lapses, handovers, reckoner_load_pct, reckoner_restarts, lane_changed_count. -/
def rows18_0_0 : List ItemRow := [
  ⟨0x00, .enum, .any, .is 255, .immediate, .w⟩,
  ⟨0x01, .enum, .ivals [(0, 3)], .is 1, .immediate, .w⟩,
  ⟨0x02, .u16, .ivals [(0, 5000)], .is 300, .atCarry, .p⟩,
  ⟨0x03, .u16, .ivals [(0, 60000)], .is 1000, .atCarry, .p⟩,
  ⟨0x04, .bits, .mask 0xffff, .is 65535, .atCarry, .p⟩,
  ⟨0x05, .bits, .mask 0xffff, .is 65535, .atCarry, .p⟩,
  ⟨0x06, .bits, .mask 0x3f, .is 63, .atCarry, .p⟩,
  ⟨0x07, .enum, .ivals [(0, 1)], .is 0, .immediate, .w⟩,
  ⟨0x08, .u16, .ivals [(1, 600)], .is 10, .atCarry, .p⟩,
  ⟨0x09, .enum, .ivals [(0, 1)], .is 0, .atCarry, .v⟩,
  ⟨0x0a, .u32, .any, .is 0, .immediate, .w⟩,
  ⟨0x0b, .u32, .any, .is 0, .immediate, .w⟩,
  ⟨0x0c, .u8, .ivals [(0, 100)], .is 0, .immediate, .v⟩,
  ⟨0x0d, .u32, .any, .is 0, .immediate, .w⟩,
  ⟨0x0e, .u32, .any, .is 0, .immediate, .w⟩]
/-- Item rows of class 0x18, instances 0x10 to 0x10: own_priority. -/
def rows18_1_0 : List ItemRow := [
  ⟨0x00, .u8, .ivals [(0, 255)], .is 200, .atCarry, .p⟩]
/-- Item rows of class 0x18, instances 0x11 to 0x13: own_priority. -/
def rows18_2_0 : List ItemRow := [
  ⟨0x00, .u8, .ivals [(0, 255)], .is 100, .atCarry, .p⟩]
/-- Item rows of class 0x18, instances 0x14 to 0x1b: own_priority, bind_node (a node of the ring or 0xffff, R304). -/
def rows18_3_0 : List ItemRow := [
  ⟨0x00, .u8, .ivals [(0, 255)], .is 150, .atCarry, .p⟩,
  ⟨0x01, .u16, .ivals [(0x0001, 0x0040), (0x0081, 0x0084), (0xffff, 0xffff)], .is 65535, .atCarry, .p⟩]
/-- Item rows of class 0x18, instances 0x1c to 0x1d: own_priority, gw_can_channel, gw_req_id, gw_rsp_id. -/
def rows18_4_0 : List ItemRow := [
  ⟨0x00, .u8, .ivals [(0, 255)], .is 50, .atCarry, .p⟩,
  ⟨0x02, .enum, .ivals [(0, 5), (255, 255)], .is 255, .atCarry, .p⟩,
  ⟨0x03, .bits, .mask 0x3fffffff, .is 0, .atCarry, .p⟩,
  ⟨0x04, .bits, .mask 0x3fffffff, .is 0, .atCarry, .p⟩]
/-- Item rows of class 0x18, instances 0x1f to 0x1f: own_priority, bind_node. -/
def rows18_5_0 : List ItemRow := [
  ⟨0x00, .u8, .ivals [(0, 255)], .is 0, .atCarry, .p⟩,
  ⟨0x01, .u16, .ivals [(0x0001, 0x0040), (0x0081, 0x0084), (0xffff, 0xffff)], .is 65535, .atCarry, .p⟩]
/-- Item rows of class 0x18, instances 0x1e to 0x1e: own_priority. -/
def rows18_6_0 : List ItemRow := [
  ⟨0x00, .u8, .ivals [(0, 0)], .is 0, .atCarry, .p⟩]
/-- Item rows of class 0x18, instances 0x10 to 0x1f: session_state, session_id, frames_rx, frame_errors, busy_sent, events_lost, evt_mask. -/
def rows18_7_0 : List ItemRow := [
  ⟨0x05, .enum, .ivals [(0, 3)], .is 0, .immediate, .w⟩,
  ⟨0x06, .u32, .any, .is 0, .immediate, .w⟩,
  ⟨0x07, .u32, .any, .is 0, .immediate, .w⟩,
  ⟨0x08, .u32, .any, .is 0, .immediate, .w⟩,
  ⟨0x09, .u32, .any, .is 0, .immediate, .w⟩,
  ⟨0x0a, .u32, .any, .is 0, .immediate, .w⟩,
  ⟨0x0b, .bits, .mask 0x7ffff, .is 524287, .immediate, .w⟩]
/-- The item tables of class 0x18. -/
def class18 : List ItemBlock := [⟨0x00, 1, rows18_0_0⟩,
  ⟨0x10, 1, rows18_1_0⟩,
  ⟨0x11, 3, rows18_2_0⟩,
  ⟨0x14, 8, rows18_3_0⟩,
  ⟨0x1c, 2, rows18_4_0⟩,
  ⟨0x1f, 1, rows18_5_0⟩,
  ⟨0x1e, 1, rows18_6_0⟩,
  ⟨0x10, 16, rows18_7_0⟩]
/-- Item rows of class 0x20, instances 0x00 to 0x00: tally_source, tally_prescale, reverse_policy, tally_stall_ms, tally_position, tally_rate, tally_state, reverse_debt, follower_mismatch, lane_tally_mismatch. -/
def rows20_0_0 : List ItemRow := [
  ⟨0x00, .enum, .ivals [(0, 12)], .byVariant 0 8, .atCarry, .p⟩,
  ⟨0x01, .u16, .ivals [(1, 65535)], .is 1, .atCarry, .p⟩,
  ⟨0x02, .enum, .ivals [(0, 1)], .is 0, .atCarry, .p⟩,
  ⟨0x03, .u16, .ivals [(1, 10000)], .is 200, .atCarry, .p⟩,
  ⟨0x04, .q48, .any, .is 0, .immediate, .v⟩,
  ⟨0x05, .u32, .ivals [(0, 2000000000)], .is 0, .immediate, .v⟩,
  ⟨0x06, .enum, .ivals [(0, 2)], .is 1, .immediate, .v⟩,
  ⟨0x07, .u32, .any, .is 0, .immediate, .v⟩,
  ⟨0x08, .u32, .any, .is 0, .immediate, .w⟩,
  ⟨0x09, .u32, .any, .is 0, .immediate, .w⟩]
/-- Item rows of class 0x20, instances 0x10 to 0x17: enc_mode, enc_invert, enc_filter_ns, enc_rate_low, enc_rate_high, enc_hyst_pct, enc_stale_ms, enc_count, enc_rate, enc_guard, enc_quad_errors. -/
def rows20_1_0 : List ItemRow := [
  ⟨0x00, .enum, .ivals [(0, 5)], .is 5, .atCarry, .p⟩,
  ⟨0x01, .enum, .ivals [(0, 1)], .is 0, .atCarry, .p⟩,
  ⟨0x02, .u16, .ivals [(0, 2000)], .is 100, .atCarry, .p⟩,
  ⟨0x03, .u32, .ivals [(0, 2000000)], .is 0, .atCarry, .p⟩,
  ⟨0x04, .u32, .ivals [(0, 2000000)], .is 2000000, .atCarry, .p⟩,
  ⟨0x05, .u8, .ivals [(0, 50)], .is 5, .atCarry, .p⟩,
  ⟨0x06, .u16, .ivals [(1, 10000)], .is 200, .atCarry, .p⟩,
  ⟨0x07, .u32, .any, .is 0, .immediate, .v⟩,
  ⟨0x08, .s32, .ivals [(-2000000, 2000000)], .is 0, .immediate, .v⟩,
  ⟨0x09, .enum, .ivals [(0, 4)], .is 3, .immediate, .v⟩,
  ⟨0x0a, .u32, .any, .is 0, .immediate, .w⟩]
/-- Item rows of class 0x20, instances 0x01 to 0x01: mtime, mtime_epoch, lane_offset_ns, mtime_steps, follower_offset_ns. -/
def rows20_2_0 : List ItemRow := [
  ⟨0x00, .u64, .any, .is 0, .immediate, .v⟩,
  ⟨0x01, .u32, .any, .is 0, .immediate, .p⟩,
  ⟨0x02, .s32, .any, .is 0, .immediate, .v⟩,
  ⟨0x03, .u32, .any, .is 0, .immediate, .w⟩,
  ⟨0x04, .s32, .any, .is 0, .immediate, .v⟩]
/-- Item rows of class 0x20, instances 0x02 to 0x02: calendar_ns, calendar_valid, calendar_park_trim_ppb, calendar_sets. -/
def rows20_3_0 : List ItemRow := [
  ⟨0x00, .u64, .any, .is 0, .immediate, .p⟩,
  ⟨0x01, .enum, .ivals [(0, 1)], .is 0, .immediate, .p⟩,
  ⟨0x02, .s32, .ivals [(-200000, 200000)], .is 0, .atCarry, .p⟩,
  ⟨0x03, .u32, .any, .is 0, .immediate, .w⟩]
/-- Item rows of class 0x20, instances 0x20 to 0x3f: lm_source, lm_can_id, lm_ts_offset, lm_ts_width, lm_ts_tick, lm_decl_latency_us, lm_drift_limit_ppm, lm_step_us, lm_stale_ms, lm_state, lm_latency_ns, lm_drift_ppm, lm_steps. -/
def rows20_4_0 : List ItemRow := [
  ⟨0x00, .enum, .ivals [(0, 10)], .is 0, .atCarry, .p⟩,
  ⟨0x01, .bits, .mask 0x3fffffff, .is 0, .atCarry, .p⟩,
  ⟨0x02, .u16, .ivals [(0, 4095)], .is 0, .atCarry, .p⟩,
  ⟨0x03, .enum, .ivals [(2, 2), (4, 4), (8, 8), (0x82, 0x82), (0x84, 0x84), (0x88, 0x88)], .is 4, .atCarry, .p⟩,
  ⟨0x04, .q16, .ivals [(7, 2147418112)], .is 65536000, .atCarry, .p⟩,
  ⟨0x05, .u32, .ivals [(0, 1000000)], .is 0, .atCarry, .p⟩,
  ⟨0x06, .u16, .ivals [(1, 10000)], .is 200, .atCarry, .p⟩,
  ⟨0x07, .u32, .ivals [(10, 1000000)], .is 5000, .atCarry, .p⟩,
  ⟨0x08, .u16, .ivals [(1, 10000)], .is 500, .atCarry, .p⟩,
  ⟨0x09, .enum, .ivals [(0, 5)], .is 0, .immediate, .v⟩,
  ⟨0x0a, .u32, .any, .is 0, .immediate, .v⟩,
  ⟨0x0b, .q16, .any, .is 0, .immediate, .v⟩,
  ⟨0x0c, .u32, .any, .is 0, .immediate, .w⟩]
/-- The item tables of class 0x20. -/
def class20 : List ItemBlock := [⟨0x00, 1, rows20_0_0⟩,
  ⟨0x10, 8, rows20_1_0⟩,
  ⟨0x01, 1, rows20_2_0⟩,
  ⟨0x02, 1, rows20_3_0⟩,
  ⟨0x20, 32, rows20_4_0⟩]
/-- Item rows of class 0x28, instances 0x00 to 0x00: carry_number, last_carry_mtime, last_carry_tally, slates_free, slates_discarded, ring_aborts, persist_pending, pins_in_use, pin_lifetime_ms. -/
def rows28_0_0 : List ItemRow := [
  ⟨0x00, .u32, .any, .is 0, .immediate, .p⟩,
  ⟨0x01, .u64, .any, .is 0, .immediate, .v⟩,
  ⟨0x02, .q48, .any, .is 0, .immediate, .v⟩,
  ⟨0x03, .u8, .ivals [(0, 8)], .is 8, .immediate, .v⟩,
  ⟨0x04, .u32, .any, .is 0, .immediate, .w⟩,
  ⟨0x05, .u32, .any, .is 0, .immediate, .w⟩,
  ⟨0x06, .enum, .ivals [(0, 1)], .is 0, .immediate, .v⟩,
  ⟨0x07, .u8, .ivals [(0, 8)], .is 0, .immediate, .v⟩,
  ⟨0x08, .u16, .ivals [(10, 1000)], .is 250, .atCarry, .p⟩]
/-- Item rows of class 0x28, instances 0x10 to 0x17: slate_state, slate_entries, slate_basis, slate_instant, slate_txn, slate_deadline, slate_build. -/
def rows28_1_0 : List ItemRow := [
  ⟨0x00, .enum, .ivals [(0, 3)], .is 0, .immediate, .v⟩,
  ⟨0x01, .u16, .ivals [(0, 4096)], .is 0, .immediate, .v⟩,
  ⟨0x02, .enum, .ivals [(0, 2)], .is 0, .immediate, .v⟩,
  ⟨0x03, .u64, .any, .is 0, .immediate, .v⟩,
  ⟨0x04, .u32, .any, .is 0, .immediate, .v⟩,
  ⟨0x05, .u64, .any, .is 0, .immediate, .v⟩,
  ⟨0x06, .u32, .any, .is 0, .immediate, .v⟩]
/-- The item tables of class 0x28. -/
def class28 : List ItemBlock := [⟨0x00, 1, rows28_0_0⟩,
  ⟨0x10, 8, rows28_1_0⟩]
/-- Item rows of class 0x30, instances 0x00 to 0x7f: rod_enable, rod_clock, rod_period_us, rod_phase_us, rod_tally_units, rod_tally_offset, rod_pv_src, rod_pv_inst, rod_pv_scale, rod_ff_src, rod_ff_inst, rod_kff, set_point, rod_sp_rate, rod_sp_weight, rod_kp, rod_ti, rod_td, rod_tf, rod_bias, rod_i_min, rod_i_max, rod_out_min, rod_out_max. -/
def rows30_0_0 : List ItemRow := [
  ⟨0x00, .enum, .ivals [(0, 1)], .is 0, .nextCycle, .p⟩,
  ⟨0x01, .enum, .ivals [(0, 1)], .is 0, .nextCycle, .p⟩,
  ⟨0x02, .u16, .ivals [(20, 10000)], .is 1000, .nextCycle, .p⟩,
  ⟨0x03, .u16, .ivals [(0, 9999)], .is 0, .nextCycle, .p⟩,
  ⟨0x04, .u32, .ivals [(1, 4294967295)], .is 100, .nextCycle, .p⟩,
  ⟨0x05, .u32, .ivals [(0, 4294967294)], .is 0, .nextCycle, .p⟩,
  ⟨0x06, .enum, .ivals [(0, 8)], .is 0, .nextCycle, .p⟩,
  ⟨0x07, .u8, .ivals [(0, 127)], .is 0, .nextCycle, .p⟩,
  ⟨0x08, .q16, .any, .is 65536, .nextCycle, .p⟩,
  ⟨0x09, .enum, .ivals [(0, 8)], .is 0, .nextCycle, .p⟩,
  ⟨0x0a, .u8, .ivals [(0, 127)], .is 0, .nextCycle, .p⟩,
  ⟨0x0b, .q16, .any, .is 0, .nextCycle, .p⟩,
  ⟨0x0c, .q16, .any, .is 0, .nextCycle, .p⟩,
  ⟨0x0d, .q16, .ivals [(0, 2147418112)], .is 0, .nextCycle, .p⟩,
  ⟨0x0e, .q16, .ivals [(0, 65536)], .is 65536, .nextCycle, .p⟩,
  ⟨0x0f, .q16, .any, .is 65536, .nextCycle, .p⟩,
  ⟨0x10, .u32, .ivals [(0, 4294967295)], .is 1000000, .nextCycle, .p⟩,
  ⟨0x11, .u32, .ivals [(0, 4294967295)], .is 0, .nextCycle, .p⟩,
  ⟨0x12, .u32, .ivals [(1, 4294967295)], .is 1000, .nextCycle, .p⟩,
  ⟨0x13, .q16, .any, .is 0, .nextCycle, .p⟩,
  ⟨0x14, .q16, .any, .is 2147483648, .nextCycle, .p⟩,
  ⟨0x15, .q16, .any, .is 2147418112, .nextCycle, .p⟩,
  ⟨0x16, .q16, .any, .is 0, .nextCycle, .p⟩,
  ⟨0x17, .q16, .any, .is 65536, .nextCycle, .p⟩]
/-- Item rows of class 0x30, instances 0x00 to 0x7f: rod_dest, rod_dest_ch, rod_failsafe_mode, rod_failsafe, rod_overrun_n, rod_invalid_n, rod_min_quality, rod_recover, rod_bumpless, rod_state, rod_flags, rod_out, rod_pv, rod_sp_eff, rod_i, rod_overruns, rod_invalid_runs, rod_failsafes, rod_exec_max_ns, rod_cost_ns, rod_response_ns, rod_last_release. -/
def rows30_0_1 : List ItemRow := [
  ⟨0x18, .enum, .ivals [(0, 1)], .is 0, .nextCycle, .p⟩,
  ⟨0x19, .u8, .ivals [(0, 127)], .is 0, .nextCycle, .p⟩,
  ⟨0x1a, .enum, .ivals [(0, 2)], .is 0, .nextCycle, .p⟩,
  ⟨0x1b, .q16, .any, .is 0, .nextCycle, .p⟩,
  ⟨0x1c, .u8, .ivals [(1, 255)], .is 3, .nextCycle, .p⟩,
  ⟨0x1d, .u8, .ivals [(1, 255)], .is 10, .nextCycle, .p⟩,
  ⟨0x1e, .enum, .ivals [(0, 3)], .is 1, .nextCycle, .p⟩,
  ⟨0x1f, .enum, .ivals [(0, 1)], .is 0, .nextCycle, .p⟩,
  ⟨0x20, .enum, .ivals [(0, 1)], .is 1, .nextCycle, .p⟩,
  ⟨0x30, .enum, .ivals [(0, 4)], .is 0, .immediate, .v⟩,
  ⟨0x31, .bits, .mask 0x3ff, .is 0, .immediate, .v⟩,
  ⟨0x32, .q16, .any, .is 0, .immediate, .v⟩,
  ⟨0x33, .q16, .any, .is 0, .immediate, .v⟩,
  ⟨0x34, .q16, .any, .is 0, .immediate, .v⟩,
  ⟨0x35, .q16, .any, .is 0, .immediate, .v⟩,
  ⟨0x36, .u32, .any, .is 0, .immediate, .w⟩,
  ⟨0x37, .u32, .any, .is 0, .immediate, .w⟩,
  ⟨0x38, .u32, .any, .is 0, .immediate, .w⟩,
  ⟨0x39, .u32, .any, .is 0, .immediate, .v⟩,
  ⟨0x3a, .u32, .any, .is 0, .immediate, .v⟩,
  ⟨0x3b, .u32, .any, .is 0, .immediate, .v⟩,
  ⟨0x3c, .u64, .any, .is 0, .immediate, .v⟩]
/-- Item rows of class 0x30, instances 0x80 to 0x87: eng_load_pct, eng_admitted_permille, eng_subcycle, eng_preemptions. -/
def rows30_1_0 : List ItemRow := [
  ⟨0x00, .u8, .ivals [(0, 100)], .is 0, .immediate, .v⟩,
  ⟨0x01, .u16, .ivals [(0, 850)], .is 0, .immediate, .v⟩,
  ⟨0x02, .u8, .ivals [(0, 4)], .is 0, .immediate, .v⟩,
  ⟨0x03, .u32, .any, .is 0, .immediate, .w⟩]
/-- The item tables of class 0x30. -/
def class30 : List ItemBlock := [⟨0x00, 128, rows30_0_0 ++ rows30_0_1⟩,
  ⟨0x80, 8, rows30_1_0⟩]
/-- Item rows of class 0x38, instances 0x00 to 0x0f: beam_enable, beam_engine, beam_members, beam_limit, beam_headroom, beam_dest, beam_dest_ch, beam_out, beam_winner, beam_switches, beam_last_eval. -/
def rows38_0_0 : List ItemRow := [
  ⟨0x00, .enum, .ivals [(0, 1)], .is 0, .nextCycle, .p⟩,
  ⟨0x01, .u8, .ivals [(0, 7)], .is 0, .nextCycle, .p⟩,
  ⟨0x02, .bits, .mask 0xffff, .is 0, .nextCycle, .p⟩,
  ⟨0x03, .q16, .any, .is 2147418112, .nextCycle, .p⟩,
  ⟨0x04, .q16, .ivals [(0, 2147418112)], .is 0, .nextCycle, .p⟩,
  ⟨0x05, .enum, .ivals [(0, 1)], .is 0, .nextCycle, .p⟩,
  ⟨0x06, .u8, .ivals [(0, 127)], .is 0, .nextCycle, .p⟩,
  ⟨0x20, .q16, .any, .is 0, .immediate, .v⟩,
  ⟨0x21, .enum, .ivals [(0, 16), (255, 255)], .is 255, .immediate, .v⟩,
  ⟨0x22, .u32, .any, .is 0, .immediate, .w⟩,
  ⟨0x23, .u64, .any, .is 0, .immediate, .v⟩]
/-- Item rows of class 0x38, instances 0x20 to 0x27: cas_enable, cas_outer_kind, cas_outer, cas_inner, cas_ratio, cas_sp_scale, cas_windup, cas_state, cas_inner_sp, cas_saturations. -/
def rows38_1_0 : List ItemRow := [
  ⟨0x00, .enum, .ivals [(0, 1)], .is 0, .nextCycle, .p⟩,
  ⟨0x01, .enum, .ivals [(0, 1)], .is 0, .nextCycle, .p⟩,
  ⟨0x02, .u8, .ivals [(0, 127)], .is 0, .nextCycle, .p⟩,
  ⟨0x03, .u8, .ivals [(0, 127)], .is 0, .nextCycle, .p⟩,
  ⟨0x04, .u8, .ivals [(1, 64)], .is 5, .nextCycle, .p⟩,
  ⟨0x05, .q16, .any, .is 65536, .nextCycle, .p⟩,
  ⟨0x06, .enum, .ivals [(0, 1)], .is 1, .nextCycle, .p⟩,
  ⟨0x20, .enum, .ivals [(0, 3)], .is 0, .immediate, .v⟩,
  ⟨0x21, .q16, .any, .is 0, .immediate, .v⟩,
  ⟨0x22, .u32, .any, .is 0, .immediate, .w⟩]
/-- The item tables of class 0x38. -/
def class38 : List ItemBlock := [⟨0x00, 16, rows38_0_0⟩,
  ⟨0x20, 8, rows38_1_0⟩]
/-- Item rows of class 0x40, instances 0x00 to 0x03: cam_enable, cam_scan, cam_format, cam_pclk_edge, cam_hsync_pol, cam_vsync_pol, cam_line_start, cam_framing, cam_width, cam_height, cam_embedded_lines, cam_meta_px, cam_path, cam_ring_frames, cam_pclk_max_khz, cam_max_line_rate, cam_sync_filter, cam_rate_low, cam_rate_high, cam_hyst_pct, cam_stale_ms, cam_trig_mode, cam_trig_do, cam_trig_units. -/
def rows40_0_0 : List ItemRow := [
  ⟨0x00, .enum, .ivals [(0, 1)], .is 0, .atCarry, .p⟩,
  ⟨0x01, .enum, .ivals [(0, 1)], .is 0, .nextFrame, .p⟩,
  ⟨0x02, .enum, .ivals [(0, 5)], .is 3, .nextFrame, .p⟩,
  ⟨0x03, .enum, .ivals [(0, 1)], .is 0, .nextFrame, .p⟩,
  ⟨0x04, .enum, .ivals [(0, 1)], .is 0, .atCarry, .p⟩,
  ⟨0x05, .enum, .ivals [(0, 1)], .is 0, .nextFrame, .p⟩,
  ⟨0x06, .enum, .ivals [(0, 1)], .is 0, .atCarry, .p⟩,
  ⟨0x07, .enum, .ivals [(0, 1)], .is 1, .nextFrame, .p⟩,
  ⟨0x08, .u16, .ivals [(16, 16384)], .is 2048, .nextFrame, .p⟩,
  ⟨0x09, .u16, .ivals [(1, 16384)], .is 512, .nextFrame, .p⟩,
  ⟨0x0a, .u8, .ivals [(0, 4)], .is 0, .nextFrame, .p⟩,
  ⟨0x0b, .u16, .ivals [(0, 256)], .is 0, .nextFrame, .p⟩,
  ⟨0x0c, .enum, .ivals [(0, 1)], .is 0, .nextFrame, .p⟩,
  ⟨0x0d, .u8, .ivals [(2, 64)], .is 8, .nextFrame, .p⟩,
  ⟨0x0e, .u32, .ivals [(1000, 200000)], .is 200000, .atCarry, .p⟩,
  ⟨0x0f, .u32, .ivals [(1, 2000000)], .is 40000, .atCarry, .p⟩,
  ⟨0x10, .u8, .ivals [(0, 15)], .is 2, .nextFrame, .p⟩,
  ⟨0x11, .u32, .ivals [(0, 2000000)], .is 0, .atCarry, .p⟩,
  ⟨0x12, .u32, .ivals [(0, 2000000)], .is 2000000, .atCarry, .p⟩,
  ⟨0x13, .u8, .ivals [(0, 50)], .is 5, .atCarry, .p⟩,
  ⟨0x14, .u16, .ivals [(1, 10000)], .is 200, .atCarry, .p⟩,
  ⟨0x15, .enum, .ivals [(0, 2)], .is 0, .atCarry, .p⟩,
  ⟨0x16, .enum, .ivals [(0, 15)], .is 0, .atCarry, .p⟩,
  ⟨0x17, .u32, .ivals [(1, 4294967295)], .is 1000, .atCarry, .p⟩]
/-- Item rows of class 0x40, instances 0x00 to 0x03: cam_trig_offset, cam_trig_period_us, cam_trig_width_us, cam_state, cam_guard, cam_pclk_khz, cam_line_rate, cam_port_frame, cam_sync_errors, cam_trig_missed. -/
def rows40_0_1 : List ItemRow := [
  ⟨0x18, .u32, .ivals [(0, 4294967294)], .is 0, .atCarry, .p⟩,
  ⟨0x19, .u32, .ivals [(200, 1000000)], .is 10000, .atCarry, .p⟩,
  ⟨0x1a, .u16, .ivals [(1, 10000)], .is 10, .atCarry, .p⟩,
  ⟨0x20, .enum, .ivals [(0, 3)], .is 0, .immediate, .v⟩,
  ⟨0x21, .enum, .ivals [(0, 4)], .is 3, .immediate, .v⟩,
  ⟨0x22, .u32, .ivals [(0, 250000)], .is 0, .immediate, .v⟩,
  ⟨0x23, .u32, .any, .is 0, .immediate, .v⟩,
  ⟨0x24, .u64, .any, .is 0, .immediate, .w⟩,
  ⟨0x25, .u32, .any, .is 0, .immediate, .w⟩,
  ⟨0x26, .u32, .any, .is 0, .immediate, .w⟩]
/-- The item tables of class 0x40. -/
def class40 : List ItemBlock := [⟨0x00, 4, rows40_0_0 ++ rows40_0_1⟩]
/-- Item rows of class 0x48, instances 0x00 to 0x07: ctx_enable, ctx_port, ctx_frame_mod, ctx_frame_phase, ctx_roi_x, ctx_roi_w, ctx_roi_y, ctx_roi_h, ctx_exp_mode, ctx_exp_latency, ctx_exposure, ctx_gain, ctx_exp_can, ctx_exp_can_id, ctx_defect_table, ctx_ff_table, ctx_colour_table, ctx_bg_table, ctx_bg_level, ctx_seg_mode, ctx_threshold, ctx_min_area, ctx_max_area, ctx_max_objects. -/
def rows48_0_0 : List ItemRow := [
  ⟨0x00, .enum, .ivals [(0, 1)], .is 0, .atCarry, .p⟩,
  ⟨0x01, .enum, .ivals [(0, 3)], .is 0, .nextFrame, .p⟩,
  ⟨0x02, .u8, .ivals [(1, 8)], .is 1, .nextFrame, .p⟩,
  ⟨0x03, .u8, .ivals [(0, 7)], .is 0, .nextFrame, .p⟩,
  ⟨0x04, .u16, .ivals [(0, 16383)], .is 0, .nextFrame, .p⟩,
  ⟨0x05, .u16, .ivals [(1, 16384)], .is 2048, .nextFrame, .p⟩,
  ⟨0x06, .u16, .ivals [(0, 16383)], .is 0, .nextFrame, .p⟩,
  ⟨0x07, .u16, .ivals [(1, 16384)], .is 512, .nextFrame, .p⟩,
  ⟨0x08, .enum, .ivals [(0, 2)], .is 0, .nextFrame, .p⟩,
  ⟨0x09, .u8, .ivals [(0, 3)], .is 0, .nextFrame, .p⟩,
  ⟨0x0a, .u32, .any, .is 1000, .nextFrame, .p⟩,
  ⟨0x0b, .u16, .any, .is 256, .nextFrame, .p⟩,
  ⟨0x0c, .enum, .ivals [(0, 5)], .is 0, .nextFrame, .p⟩,
  ⟨0x0d, .bits, .mask 0x3fffffff, .is 0, .nextFrame, .p⟩,
  ⟨0x0e, .u8, .ivals [(0, 15), (255, 255)], .is 255, .nextFrame, .p⟩,
  ⟨0x0f, .u8, .ivals [(0, 15), (255, 255)], .is 255, .nextFrame, .p⟩,
  ⟨0x10, .u8, .ivals [(0, 15), (255, 255)], .is 255, .nextFrame, .p⟩,
  ⟨0x11, .u8, .ivals [(0, 15), (255, 255)], .is 255, .nextFrame, .p⟩,
  ⟨0x12, .u16, .ivals [(0, 65535)], .is 32768, .nextFrame, .p⟩,
  ⟨0x13, .enum, .ivals [(0, 2)], .is 0, .nextFrame, .p⟩,
  ⟨0x14, .u16, .ivals [(1, 65535)], .is 4096, .nextFrame, .p⟩,
  ⟨0x15, .u32, .ivals [(1, 16777216)], .is 4, .nextFrame, .p⟩,
  ⟨0x16, .u32, .ivals [(1, 16777216)], .is 65536, .nextFrame, .p⟩,
  ⟨0x17, .u16, .ivals [(1, 4096)], .is 256, .nextFrame, .p⟩]
/-- Item rows of class 0x48, instances 0x00 to 0x07: ctx_feature_prog, ctx_feature_cycles, ctx_frame, ctx_exp_carry, ctx_pipe_carry, ctx_frames_partial, ctx_frames_long, ctx_lines_dropped, ctx_frames_overflow, ctx_objects_dropped, ctx_width_errors, ctx_exp_unconfirmed, ctx_detections. -/
def rows48_0_1 : List ItemRow := [
  ⟨0x18, .u8, .ivals [(0, 15)], .is 0, .nextFrame, .p⟩,
  ⟨0x19, .u16, .ivals [(100, 60000)], .is 2000, .nextFrame, .p⟩,
  ⟨0x20, .u64, .any, .is 0, .immediate, .w⟩,
  ⟨0x21, .u32, .any, .is 0, .immediate, .w⟩,
  ⟨0x22, .u32, .any, .is 0, .immediate, .w⟩,
  ⟨0x23, .u32, .any, .is 0, .immediate, .w⟩,
  ⟨0x24, .u32, .any, .is 0, .immediate, .w⟩,
  ⟨0x25, .u32, .any, .is 0, .immediate, .w⟩,
  ⟨0x26, .u32, .any, .is 0, .immediate, .w⟩,
  ⟨0x27, .u32, .any, .is 0, .immediate, .w⟩,
  ⟨0x28, .u32, .any, .is 0, .immediate, .w⟩,
  ⟨0x29, .u32, .any, .is 0, .immediate, .w⟩,
  ⟨0x2a, .u32, .any, .is 0, .immediate, .w⟩]
/-- Item rows of class 0x48, instances 0x10 to 0x10: pipe_load_pct, pipe_admitted_kpx, pipe_admitted_kcycles, pipe_detection_rate, pipe_overflows. -/
def rows48_1_0 : List ItemRow := [
  ⟨0x00, .u8, .ivals [(0, 100)], .is 0, .immediate, .v⟩,
  ⟨0x01, .u32, .ivals [(0, 800000)], .is 0, .immediate, .v⟩,
  ⟨0x02, .u32, .ivals [(0, 5440000)], .is 0, .immediate, .v⟩,
  ⟨0x03, .u32, .any, .is 0, .immediate, .v⟩,
  ⟨0x04, .u32, .any, .is 0, .immediate, .w⟩]
/-- Item rows of class 0x48, instances 0x20 to 0x2f: tab_kind, tab_entries, tab_crc, tab_build. -/
def rows48_2_0 : List ItemRow := [
  ⟨0x00, .enum, .ivals [(0, 4)], .is 0, .immediate, .p⟩,
  ⟨0x01, .u32, .ivals [(0, 65536)], .is 0, .immediate, .p⟩,
  ⟨0x02, .u32, .any, .is 0, .immediate, .p⟩,
  ⟨0x03, .u32, .any, .is 0, .immediate, .p⟩]
/-- The item tables of class 0x48. -/
def class48 : List ItemBlock := [⟨0x00, 8, rows48_0_0 ++ rows48_0_1⟩,
  ⟨0x10, 1, rows48_1_0⟩,
  ⟨0x20, 16, rows48_2_0⟩]
/-- Item rows of class 0x50, instances 0x00 to 0x00: tk_enable, tk_align_us, tk_batch_us, tk_default_speed_um, tk_accel, tk_w_pos, tk_w_time, tk_w_size, tk_w_feat, tk_w_class, tk_feat_mask, tk_miss_cost, tk_birth_cost, tk_contra_action, tk_primary_view, tk_track_life_ms, tk_eject_enable, tk_eject_w_um, tk_eject_map, tk_eject_profile, tk_eject_margin, tk_wide_eject, tk_live, tk_births. -/
def rows50_0_0 : List ItemRow := [
  ⟨0x00, .enum, .ivals [(0, 1)], .is 0, .atCarry, .p⟩,
  ⟨0x01, .u32, .ivals [(100, 60000000)], .is 2000, .nextCycle, .p⟩,
  ⟨0x02, .u16, .ivals [(20, 10000)], .is 200, .nextCycle, .p⟩,
  ⟨0x03, .q16, .ivals [(656, 2147418112)], .is 6553600, .nextCycle, .p⟩,
  ⟨0x04, .q16, .ivals [(0, 2147418112)], .is 0, .nextCycle, .p⟩,
  ⟨0x05, .q16, .ivals [(0, 1048576)], .is 65536, .nextCycle, .p⟩,
  ⟨0x06, .q16, .ivals [(0, 1048576)], .is 65536, .nextCycle, .p⟩,
  ⟨0x07, .q16, .ivals [(0, 1048576)], .is 0, .nextCycle, .p⟩,
  ⟨0x08, .q16, .ivals [(0, 1048576)], .is 0, .nextCycle, .p⟩,
  ⟨0x09, .q16, .ivals [(0, 1048576)], .is 0, .nextCycle, .p⟩,
  ⟨0x0a, .bits, .mask 0xff, .is 0, .nextCycle, .p⟩,
  ⟨0x0b, .u16, .ivals [(0, 65534)], .is 2048, .nextCycle, .p⟩,
  ⟨0x0c, .u16, .ivals [(0, 65534)], .is 2048, .nextCycle, .p⟩,
  ⟨0x0d, .enum, .ivals [(0, 2)], .is 0, .nextCycle, .p⟩,
  ⟨0x0e, .u8, .ivals [(0, 3)], .is 0, .nextCycle, .p⟩,
  ⟨0x0f, .u16, .ivals [(1, 10000)], .is 100, .nextCycle, .p⟩,
  ⟨0x10, .enum, .ivals [(0, 1)], .is 0, .nextCycle, .p⟩,
  ⟨0x11, .s32, .any, .is 150000, .nextCycle, .p⟩,
  ⟨0x12, .u8, .ivals [(0, 7), (255, 255)], .is 255, .nextCycle, .p⟩,
  ⟨0x13, .u8, .ivals [(0, 31)], .is 0, .nextCycle, .p⟩,
  ⟨0x14, .q16, .ivals [(0, 2147418112)], .is 0, .nextCycle, .p⟩,
  ⟨0x15, .enum, .ivals [(0, 1)], .is 0, .nextCycle, .p⟩,
  ⟨0x20, .u16, .ivals [(0, 16384)], .is 0, .immediate, .v⟩,
  ⟨0x21, .u32, .any, .is 0, .immediate, .w⟩]
/-- Item rows of class 0x50, instances 0x00 to 0x00: tk_decided, tk_ejects, tk_contradictions, tk_births_refused, tk_unmatched, tk_expired, tk_solve_truncated, tk_solve_late, tk_solves_per_s, tk_solve_max_ns, tk_next_track_id. -/
def rows50_0_1 : List ItemRow := [
  ⟨0x22, .u32, .any, .is 0, .immediate, .w⟩,
  ⟨0x23, .u32, .any, .is 0, .immediate, .w⟩,
  ⟨0x24, .u32, .any, .is 0, .immediate, .w⟩,
  ⟨0x25, .u32, .any, .is 0, .immediate, .w⟩,
  ⟨0x26, .u32, .any, .is 0, .immediate, .w⟩,
  ⟨0x27, .u32, .any, .is 0, .immediate, .w⟩,
  ⟨0x28, .u32, .any, .is 0, .immediate, .w⟩,
  ⟨0x29, .u32, .any, .is 0, .immediate, .w⟩,
  ⟨0x2a, .u32, .any, .is 0, .immediate, .v⟩,
  ⟨0x2b, .u32, .any, .is 0, .immediate, .v⟩,
  ⟨0x2c, .u32, .any, .is 0, .immediate, .v⟩]
/-- Item rows of class 0x50, instances 0x10 to 0x13: tk_view_ctx, tk_view_table, tk_view_birth, tk_view_gate_u, tk_view_gate_t, tk_view_t_offset, tk_view_px_area, tk_view_units_per_line, tk_view_eject_classes, tk_view_test_feat, tk_view_test_op, tk_view_test_level, tk_view_state, tk_view_offset_ns, tk_view_unaligned, tk_view_dropped. -/
def rows50_1_0 : List ItemRow := [
  ⟨0x00, .u8, .ivals [(0, 7), (255, 255)], .is 255, .nextCycle, .p⟩,
  ⟨0x01, .u8, .ivals [(0, 7)], .is 0, .nextCycle, .p⟩,
  ⟨0x02, .enum, .ivals [(0, 1)], .is 0, .nextCycle, .p⟩,
  ⟨0x03, .u32, .ivals [(1, 1000000)], .is 2000, .nextCycle, .p⟩,
  ⟨0x04, .q16, .ivals [(4096, 2147418112)], .is 1310720, .nextCycle, .p⟩,
  ⟨0x05, .q16, .any, .is 0, .nextCycle, .p⟩,
  ⟨0x06, .q16, .ivals [(0, 2147418112)], .is 655, .nextCycle, .p⟩,
  ⟨0x07, .q16, .ivals [(0, 2147418112)], .is 65536, .nextCycle, .p⟩,
  ⟨0x08, .bits, .mask 0xffffffff, .is 0, .nextCycle, .p⟩,
  ⟨0x09, .u8, .ivals [(0, 7), (255, 255)], .is 255, .nextCycle, .p⟩,
  ⟨0x0a, .enum, .ivals [(0, 1)], .is 0, .nextCycle, .p⟩,
  ⟨0x0b, .q16, .any, .is 0, .nextCycle, .p⟩,
  ⟨0x20, .enum, .ivals [(1, 2)], .is 1, .immediate, .v⟩,
  ⟨0x21, .u32, .any, .is 0, .immediate, .v⟩,
  ⟨0x22, .u32, .any, .is 0, .immediate, .w⟩,
  ⟨0x23, .u32, .any, .is 0, .immediate, .w⟩]
/-- The item tables of class 0x50. -/
def class50 : List ItemBlock := [⟨0x00, 1, rows50_0_0 ++ rows50_0_1⟩,
  ⟨0x10, 4, rows50_1_0⟩]
/-- Item rows of class 0x58, instances 0x00 to 0x1f: st_source, st_scale, st_offset, st_delay_us, st_max_rate, st_reduce, st_class_mask, st_can_id, st_can_offset, st_can_width, st_can_signed, st_filter, st_low, st_high, st_hyst_pct, st_stale_ms, st_state, st_guard, st_value, st_offset_ns, st_reentry, st_unaligned, st_dropped, st_late. -/
def rows58_0_0 : List ItemRow := [
  ⟨0x00, .enum, .ivals [(0, 40)], .is 0, .nextCycle, .p⟩,
  ⟨0x01, .q16, .any, .is 65536, .nextCycle, .p⟩,
  ⟨0x02, .q16, .any, .is 0, .nextCycle, .p⟩,
  ⟨0x03, .u32, .ivals [(0, 60000000)], .is 0, .nextCycle, .p⟩,
  ⟨0x04, .u32, .ivals [(1, 1000000)], .is 1000, .nextCycle, .p⟩,
  ⟨0x05, .enum, .ivals [(0, 8)], .is 1, .nextCycle, .p⟩,
  ⟨0x06, .bits, .mask 0xffffffff, .is 0, .nextCycle, .p⟩,
  ⟨0x07, .bits, .mask 0x3fffffff, .is 0, .nextCycle, .p⟩,
  ⟨0x08, .u8, .ivals [(0, 63)], .is 0, .nextCycle, .p⟩,
  ⟨0x09, .enum, .ivals [(1, 2), (4, 4), (0x81, 0x82), (0x84, 0x84)], .is 2, .nextCycle, .p⟩,
  ⟨0x0a, .enum, .ivals [(0, 1)], .is 0, .nextCycle, .p⟩,
  ⟨0x0b, .u8, .ivals [(0, 15)], .is 0, .nextCycle, .p⟩,
  ⟨0x0c, .q16, .any, .is 2147483648, .nextCycle, .p⟩,
  ⟨0x0d, .q16, .any, .is 2147418112, .nextCycle, .p⟩,
  ⟨0x0e, .u8, .ivals [(0, 50)], .is 5, .nextCycle, .p⟩,
  ⟨0x0f, .u16, .ivals [(1, 60000)], .is 500, .nextCycle, .p⟩,
  ⟨0x20, .enum, .ivals [(0, 2)], .is 0, .immediate, .v⟩,
  ⟨0x21, .enum, .ivals [(0, 4)], .is 3, .immediate, .v⟩,
  ⟨0x22, .q16, .any, .is 0, .immediate, .v⟩,
  ⟨0x23, .u32, .any, .is 0, .immediate, .v⟩,
  ⟨0x24, .u8, .ivals [(0, 8)], .is 0, .immediate, .v⟩,
  ⟨0x25, .u32, .any, .is 0, .immediate, .w⟩,
  ⟨0x26, .u32, .any, .is 0, .immediate, .w⟩,
  ⟨0x27, .u32, .any, .is 0, .immediate, .w⟩]
/-- Item rows of class 0x58, instances 0x20 to 0x3f: fu_level, fu_streams, fu_groups, fu_greduce, fu_basis, fu_window, fu_align_us, fu_agree_abs, fu_agree_rel, fu_primary, fu_contra_action, fu_hold_ms, fu_min_active, fu_value, fu_quality, fu_flags, fu_window_end, fu_cell, fu_carry, fu_contradictions, fu_outliers, fu_agree_count. -/
def rows58_1_0 : List ItemRow := [
  ⟨0x00, .enum, .ivals [(0, 3)], .is 0, .nextCycle, .p⟩,
  ⟨0x01, .bits, .mask 0xffffffff, .is 0, .nextCycle, .p⟩,
  ⟨0x02, .bits, .mask 0xffffffff, .is 0, .nextCycle, .p⟩,
  ⟨0x03, .enum, .ivals [(0, 8)], .is 1, .nextCycle, .p⟩,
  ⟨0x04, .enum, .ivals [(0, 1)], .is 0, .nextCycle, .p⟩,
  ⟨0x05, .u32, .ivals [(1, 4294967295)], .is 100000, .nextCycle, .p⟩,
  ⟨0x06, .u32, .ivals [(100, 60000000)], .is 2000, .nextCycle, .p⟩,
  ⟨0x07, .q16, .ivals [(0, 2147418112)], .is 0, .nextCycle, .p⟩,
  ⟨0x08, .q16, .ivals [(0, 65536)], .is 3277, .nextCycle, .p⟩,
  ⟨0x09, .u8, .ivals [(0, 7), (255, 255)], .is 255, .nextCycle, .p⟩,
  ⟨0x0a, .enum, .ivals [(0, 1)], .is 1, .nextCycle, .p⟩,
  ⟨0x0b, .u16, .ivals [(0, 60000)], .is 500, .nextCycle, .p⟩,
  ⟨0x0c, .u8, .ivals [(1, 8)], .is 1, .nextCycle, .p⟩,
  ⟨0x20, .q16, .any, .is 0, .immediate, .v⟩,
  ⟨0x21, .enum, .any, .is 4, .immediate, .v⟩,
  ⟨0x22, .bits, .any, .is 0, .immediate, .v⟩,
  ⟨0x23, .u64, .any, .is 0, .immediate, .v⟩,
  ⟨0x24, .u64, .any, .is 0, .immediate, .w⟩,
  ⟨0x25, .u32, .any, .is 0, .immediate, .v⟩,
  ⟨0x26, .u32, .any, .is 0, .immediate, .w⟩,
  ⟨0x27, .u32, .any, .is 0, .immediate, .w⟩,
  ⟨0x28, .u8, .ivals [(0, 8)], .is 0, .immediate, .v⟩]
/-- Item rows of class 0x58, instances 0x40 to 0x47: ft_kind, ft_entries, ft_crc, ft_build. -/
def rows58_2_0 : List ItemRow := [
  ⟨0x00, .enum, .ivals [(0, 3)], .is 0, .immediate, .p⟩,
  ⟨0x01, .u32, .ivals [(0, 16641)], .is 0, .immediate, .p⟩,
  ⟨0x02, .u32, .any, .is 0, .immediate, .p⟩,
  ⟨0x03, .u32, .any, .is 0, .immediate, .p⟩]
/-- Item rows of class 0x58, instances 0x50 to 0x50: fu_load_pct, fu_admitted_kcycles, fu_buffer_kb, fu_buffer_peak_kb. -/
def rows58_3_0 : List ItemRow := [
  ⟨0x00, .u8, .ivals [(0, 100)], .is 0, .immediate, .v⟩,
  ⟨0x01, .u32, .ivals [(0, 1360000)], .is 0, .immediate, .v⟩,
  ⟨0x02, .u32, .ivals [(0, 4096)], .is 0, .immediate, .v⟩,
  ⟨0x03, .u32, .ivals [(0, 4096)], .is 0, .immediate, .v⟩]
/-- The item tables of class 0x58. -/
def class58 : List ItemBlock := [⟨0x00, 32, rows58_0_0⟩,
  ⟨0x20, 32, rows58_1_0⟩,
  ⟨0x40, 8, rows58_2_0⟩,
  ⟨0x50, 1, rows58_3_0⟩]
/-- Item rows of class 0x60, instances 0x00 to 0x0f: bank_enable, bank_rate_decl, bank_dwell_ms, bank_state, bank_safe_cause, bank_fault, bank_sag_tier, boost_v, boost_ready, bank_current_a, bank_reserved_a, bank_limit_a, queue_depth, queue_peak, beads_started, beads_late, bank_conflicts, beads_sag, beads_boost_low, beads_fault, beads_duplicate, beads_queue_full, beads_flushed, hs_trips. -/
def rows60_0_0 : List ItemRow := [
  ⟨0x00, .enum, .ivals [(0, 1)], .is 0, .atCarry, .p⟩,
  ⟨0x01, .u32, .ivals [(0, 100000)], .is 1000, .atCarry, .p⟩,
  ⟨0x02, .u16, .ivals [(1, 1000)], .is 50, .atCarry, .p⟩,
  ⟨0x20, .enum, .ivals [(0, 3)], .is 0, .immediate, .v⟩,
  ⟨0x21, .bits, .mask 0xf, .is 0, .immediate, .w⟩,
  ⟨0x22, .bits, .mask 0x3, .is 0, .immediate, .w⟩,
  ⟨0x23, .enum, .ivals [(0, 3)], .is 0, .immediate, .v⟩,
  ⟨0x24, .q16, .ivals [(0, 7208960)], .is 0, .immediate, .v⟩,
  ⟨0x25, .enum, .ivals [(0, 1)], .is 0, .immediate, .v⟩,
  ⟨0x26, .q16, .any, .is 0, .immediate, .v⟩,
  ⟨0x27, .q16, .ivals [(0, 1310720)], .is 0, .immediate, .v⟩,
  ⟨0x28, .q16, .ivals [(0, 786432)], .is 786432, .immediate, .p⟩,
  ⟨0x29, .u16, .ivals [(0, 1024)], .is 0, .immediate, .v⟩,
  ⟨0x2a, .u16, .ivals [(0, 1024)], .is 0, .immediate, .w⟩,
  ⟨0x2b, .u32, .any, .is 0, .immediate, .w⟩,
  ⟨0x2c, .u32, .any, .is 0, .immediate, .w⟩,
  ⟨0x2d, .u32, .any, .is 0, .immediate, .w⟩,
  ⟨0x2e, .u32, .any, .is 0, .immediate, .w⟩,
  ⟨0x2f, .u32, .any, .is 0, .immediate, .w⟩,
  ⟨0x30, .u32, .any, .is 0, .immediate, .w⟩,
  ⟨0x31, .u32, .any, .is 0, .immediate, .w⟩,
  ⟨0x32, .u32, .any, .is 0, .immediate, .w⟩,
  ⟨0x33, .u32, .any, .is 0, .immediate, .w⟩,
  ⟨0x34, .u32, .any, .is 0, .immediate, .w⟩]
/-- Item rows of class 0x60, instances 0x10 to 0x13: drv_mains_v, drv_temp_c, drv_lane, drv_timeouts. -/
def rows60_1_0 : List ItemRow := [
  ⟨0x00, .q16, .any, .is 0, .immediate, .v⟩,
  ⟨0x01, .q16, .ivals [(-3276800, 11468800)], .is 0, .immediate, .v⟩,
  ⟨0x02, .enum, .ivals [(0, 2)], .is 0, .immediate, .v⟩,
  ⟨0x03, .u32, .any, .is 0, .immediate, .w⟩]
/-- The item tables of class 0x60. -/
def class60 : List ItemBlock := [⟨0x00, 16, rows60_0_0⟩,
  ⟨0x10, 4, rows60_1_0⟩]
/-- Item rows of class 0x68, instances 0x00 to 0x7f: ch_mode, ch_profile, ch_peak_a, ch_hold_a, ch_setpoint_a, ch_imax_a, ch_safe, ch_safe_a, ch_retry_n, ch_retry_ms, ch_r_nom, ch_l_nom, ch_coil_tol_pct, ch_state, ch_current_a, ch_sp_in_use_a, ch_fault, ch_parallel_with, ch_r_ohm, ch_l_mh, ch_coil_guard, ch_t_boost_ns, ch_lateness_us, ch_pulses. -/
def rows68_0_0 : List ItemRow := [
  ⟨0x00, .enum, .ivals [(0, 2)], .is 0, .nextEvent, .p⟩,
  ⟨0x01, .u8, .ivals [(0, 31)], .is 0, .nextEvent, .p⟩,
  ⟨0x02, .q16, .ivals [(32768, 393216)], .is 131072, .nextEvent, .p⟩,
  ⟨0x03, .q16, .ivals [(6554, 163840)], .is 32768, .nextEvent, .p⟩,
  ⟨0x04, .q16, .ivals [(0, 163840)], .is 0, .nextEvent, .p⟩,
  ⟨0x05, .q16, .ivals [(6554, 163840)], .is 65536, .nextEvent, .p⟩,
  ⟨0x06, .enum, .ivals [(0, 1)], .is 0, .atCarry, .p⟩,
  ⟨0x07, .q16, .ivals [(6554, 163840)], .is 6554, .atCarry, .p⟩,
  ⟨0x08, .u8, .ivals [(0, 15)], .is 3, .atCarry, .p⟩,
  ⟨0x09, .u16, .ivals [(1, 10000)], .is 100, .atCarry, .p⟩,
  ⟨0x0a, .q16, .ivals [(32768, 65536000)], .is 655360, .atCarry, .p⟩,
  ⟨0x0b, .q16, .ivals [(6554, 65536000)], .is 655360, .atCarry, .p⟩,
  ⟨0x0c, .u8, .ivals [(1, 50)], .is 20, .atCarry, .p⟩,
  ⟨0x20, .enum, .ivals [(0, 9)], .is 0, .immediate, .v⟩,
  ⟨0x21, .q16, .any, .is 0, .immediate, .v⟩,
  ⟨0x22, .q16, .ivals [(0, 393216)], .is 0, .immediate, .v⟩,
  ⟨0x23, .enum, .ivals [(0, 5)], .is 0, .immediate, .w⟩,
  ⟨0x24, .u8, .ivals [(0, 127), (255, 255)], .is 255, .immediate, .w⟩,
  ⟨0x25, .q16, .any, .is 0, .immediate, .w⟩,
  ⟨0x26, .q16, .any, .is 0, .immediate, .w⟩,
  ⟨0x27, .enum, .ivals [(0, 2)], .is 0, .immediate, .w⟩,
  ⟨0x28, .u32, .any, .is 0, .immediate, .v⟩,
  ⟨0x29, .u16, .any, .is 0, .immediate, .v⟩,
  ⟨0x2a, .u32, .any, .is 0, .immediate, .w⟩]
/-- Item rows of class 0x68, instances 0x00 to 0x7f: ch_trips, ch_open_loads, ch_sp_clamped, ch_restarts. -/
def rows68_0_1 : List ItemRow := [
  ⟨0x2b, .u32, .any, .is 0, .immediate, .w⟩,
  ⟨0x2c, .u32, .any, .is 0, .immediate, .w⟩,
  ⟨0x2d, .u32, .any, .is 0, .immediate, .w⟩,
  ⟨0x2e, .u32, .any, .is 0, .immediate, .w⟩]
/-- The item tables of class 0x68. -/
def class68 : List ItemBlock := [⟨0x00, 128, rows68_0_0 ++ rows68_0_1⟩]
/-- Item rows of class 0x6c, instances 0x00 to 0x1f: prof_kind, prof_open_lead, prof_late_us, prof_boost_max_us, prof_stretch_pct, prof_peak_dwell_us, prof_hold_min_us, prof_hold_max_ms, prof_quench, prof_kp, prof_ki, prof_dither_hz, prof_dither_a, prof_slew. -/
def rows6c_0_0 : List ItemRow := [
  ⟨0x00, .enum, .ivals [(1, 2)], .is 1, .nextEvent, .p⟩,
  ⟨0x01, .q16, .ivals [(0, 2147418112)], .is 0, .nextEvent, .p⟩,
  ⟨0x02, .u16, .ivals [(0, 10000)], .is 100, .nextEvent, .p⟩,
  ⟨0x03, .u16, .ivals [(10, 2000)], .is 200, .nextEvent, .p⟩,
  ⟨0x04, .u8, .ivals [(0, 100)], .is 25, .nextEvent, .p⟩,
  ⟨0x05, .u16, .ivals [(0, 10000)], .is 200, .nextEvent, .p⟩,
  ⟨0x06, .u16, .ivals [(0, 60000)], .is 0, .nextEvent, .p⟩,
  ⟨0x07, .u16, .ivals [(0, 60000)], .is 100, .nextEvent, .p⟩,
  ⟨0x08, .enum, .ivals [(0, 1)], .is 0, .nextEvent, .p⟩,
  ⟨0x09, .q16, .ivals [(0, 6553600)], .is 32768, .nextEvent, .p⟩,
  ⟨0x0a, .q16, .ivals [(0, 2147418112)], .is 131072000, .nextEvent, .p⟩,
  ⟨0x0b, .u16, .ivals [(0, 0), (50, 1000)], .is 0, .nextEvent, .p⟩,
  ⟨0x0c, .q16, .ivals [(0, 32768)], .is 0, .nextEvent, .p⟩,
  ⟨0x0d, .q16, .ivals [(0, 2147418112)], .is 0, .nextEvent, .p⟩]
/-- The item tables of class 0x6c. -/
def class6c : List ItemBlock := [⟨0x00, 32, rows6c_0_0⟩]
/-- Item rows of class 0x70, instances 0x00 to 0x2f: di_invert, di_filter_us, di_break_detect, di_rate_low, di_rate_high, di_hyst_pct, di_stale_ms, di_level, di_guard, di_rate, di_edges, di_breaks, di_edges_lost. -/
def rows70_0_0 : List ItemRow := [
  ⟨0x00, .enum, .ivals [(0, 1)], .is 0, .atCarry, .p⟩,
  ⟨0x01, .u16, .ivals [(0, 10000)], .is 50, .atCarry, .p⟩,
  ⟨0x02, .enum, .ivals [(0, 1)], .is 0, .atCarry, .p⟩,
  ⟨0x03, .u32, .ivals [(0, 40000)], .is 0, .atCarry, .p⟩,
  ⟨0x04, .u32, .ivals [(0, 40000)], .is 40000, .atCarry, .p⟩,
  ⟨0x05, .u8, .ivals [(0, 50)], .is 5, .atCarry, .p⟩,
  ⟨0x06, .u16, .ivals [(0, 60000)], .is 0, .atCarry, .p⟩,
  ⟨0x20, .enum, .ivals [(0, 1)], .is 0, .immediate, .v⟩,
  ⟨0x21, .enum, .ivals [(0, 4)], .is 3, .immediate, .v⟩,
  ⟨0x22, .u32, .any, .is 0, .immediate, .v⟩,
  ⟨0x23, .u32, .any, .is 0, .immediate, .w⟩,
  ⟨0x24, .u32, .any, .is 0, .immediate, .w⟩,
  ⟨0x25, .u32, .any, .is 0, .immediate, .w⟩]
/-- Item rows of class 0x70, instances 0x40 to 0x4f: do_cmd, do_safe, do_retry_n, do_retry_ms, do_open_detect, do_state, do_fault, do_trips, do_pulses. -/
def rows70_1_0 : List ItemRow := [
  ⟨0x00, .enum, .ivals [(0, 1)], .is 0, .nextCycle, .w⟩,
  ⟨0x01, .enum, .ivals [(0, 1)], .is 0, .nextCycle, .p⟩,
  ⟨0x02, .u8, .ivals [(0, 15)], .is 3, .atCarry, .p⟩,
  ⟨0x03, .u16, .ivals [(10, 10000)], .is 1000, .atCarry, .p⟩,
  ⟨0x04, .enum, .ivals [(0, 1)], .is 0, .atCarry, .p⟩,
  ⟨0x20, .enum, .ivals [(0, 5)], .is 0, .immediate, .v⟩,
  ⟨0x21, .enum, .ivals [(0, 4)], .is 0, .immediate, .w⟩,
  ⟨0x22, .u32, .any, .is 0, .immediate, .w⟩,
  ⟨0x23, .u32, .any, .is 0, .immediate, .w⟩]
/-- Item rows of class 0x70, instances 0x60 to 0x60: iso_link_a, iso_link_b, iso_crc_errors_a, iso_crc_errors_b, iso_frames_lost_a, iso_frames_lost_b, iso_latency_ns, iso_generation, iso_out_timeouts, field_supply_v, field_low_count. -/
def rows70_2_0 : List ItemRow := [
  ⟨0x00, .enum, .ivals [(0, 1)], .is 0, .immediate, .v⟩,
  ⟨0x01, .enum, .ivals [(0, 1)], .is 0, .immediate, .v⟩,
  ⟨0x02, .u32, .any, .is 0, .immediate, .w⟩,
  ⟨0x03, .u32, .any, .is 0, .immediate, .w⟩,
  ⟨0x04, .u32, .any, .is 0, .immediate, .w⟩,
  ⟨0x05, .u32, .any, .is 0, .immediate, .w⟩,
  ⟨0x06, .u32, .any, .is 0, .immediate, .v⟩,
  ⟨0x07, .u8, .any, .is 0, .immediate, .v⟩,
  ⟨0x08, .u32, .any, .is 0, .immediate, .w⟩,
  ⟨0x09, .q16, .ivals [(0, 2621440)], .is 0, .immediate, .v⟩,
  ⟨0x0a, .u32, .any, .is 0, .immediate, .w⟩]
/-- The item tables of class 0x70. -/
def class70 : List ItemBlock := [⟨0x00, 48, rows70_0_0⟩,
  ⟨0x40, 16, rows70_1_0⟩,
  ⟨0x60, 1, rows70_2_0⟩]
/-- Item rows of class 0x74, instances 0x00 to 0x0f: ai_mode, ai_scale, ai_offset, ai_filter, ai_low, ai_high, ai_hyst_pct, ai_stale_ms, ai_raw, ai_value, ai_guard, ai_breaks, ai_overloads. -/
def rows74_0_0 : List ItemRow := [
  ⟨0x00, .enum, .ivals [(0, 2)], .is 1, .nextCycle, .p⟩,
  ⟨0x01, .q16, .any, .is 65536, .atCarry, .p⟩,
  ⟨0x02, .q16, .any, .is 0, .atCarry, .p⟩,
  ⟨0x03, .u8, .ivals [(0, 15)], .is 0, .atCarry, .p⟩,
  ⟨0x04, .q16, .any, .is 2147483648, .atCarry, .p⟩,
  ⟨0x05, .q16, .any, .is 2147418112, .atCarry, .p⟩,
  ⟨0x06, .u8, .ivals [(0, 50)], .is 5, .atCarry, .p⟩,
  ⟨0x07, .u16, .ivals [(1, 60000)], .is 10, .atCarry, .p⟩,
  ⟨0x20, .u16, .any, .is 0, .immediate, .v⟩,
  ⟨0x21, .q16, .any, .is 0, .immediate, .v⟩,
  ⟨0x22, .enum, .ivals [(0, 4)], .is 3, .immediate, .v⟩,
  ⟨0x23, .u32, .any, .is 0, .immediate, .w⟩,
  ⟨0x24, .u32, .any, .is 0, .immediate, .w⟩]
/-- The item tables of class 0x74. -/
def class74 : List ItemBlock := [⟨0x00, 16, rows74_0_0⟩]
/-- Item rows of class 0x78, instances 0x00 to 0x07: ls_enable, ls_gain, ls_trig_level, ls_dead_us, ls_min_amp, ls_rate_low, ls_rate_high, ls_hyst_pct, ls_stale_ms, ls_hist_ms, ls_guard, ls_rate, ls_hw_count, ls_impacts, ls_entries_lost, ls_tests_failed. -/
def rows78_0_0 : List ItemRow := [
  ⟨0x00, .enum, .ivals [(0, 1)], .is 0, .nextCycle, .p⟩,
  ⟨0x01, .enum, .ivals [(0, 3)], .is 1, .nextCycle, .p⟩,
  ⟨0x02, .u16, .ivals [(1, 65534)], .is 4096, .nextCycle, .p⟩,
  ⟨0x03, .u16, .ivals [(20, 10000)], .is 100, .nextCycle, .p⟩,
  ⟨0x04, .u16, .ivals [(0, 65535)], .is 0, .atCarry, .p⟩,
  ⟨0x05, .u32, .ivals [(0, 50000)], .is 0, .atCarry, .p⟩,
  ⟨0x06, .u32, .ivals [(0, 50000)], .is 50000, .atCarry, .p⟩,
  ⟨0x07, .u8, .ivals [(0, 50)], .is 5, .atCarry, .p⟩,
  ⟨0x08, .u16, .ivals [(1, 60000)], .is 2000, .atCarry, .p⟩,
  ⟨0x09, .u16, .ivals [(10, 60000)], .is 1000, .atCarry, .p⟩,
  ⟨0x20, .enum, .ivals [(0, 4)], .is 3, .immediate, .v⟩,
  ⟨0x21, .u32, .any, .is 0, .immediate, .v⟩,
  ⟨0x22, .u32, .any, .is 0, .immediate, .w⟩,
  ⟨0x23, .u32, .any, .is 0, .immediate, .w⟩,
  ⟨0x24, .u32, .any, .is 0, .immediate, .w⟩,
  ⟨0x25, .u32, .any, .is 0, .immediate, .w⟩]
/-- The item tables of class 0x78. -/
def class78 : List ItemBlock := [⟨0x00, 8, rows78_0_0⟩]
/-- Item rows of class 0x80, instances 0x00 to 0x05: can_mode, can_fd, can_nbrp, can_ntseg1, can_ntseg2, can_nsjw, can_dbrp, can_dtseg1, can_dtseg2, can_dsjw, can_tdc, can_tdc_offset, can_pex, can_busoff_policy, can_term, can_tx_masters, can_wake, can_state, can_tec, can_rec, can_tdc_value, can_rx_seq, can_rx_frames, can_rx_unmatched. -/
def rows80_0_0 : List ItemRow := [
  ⟨0x00, .enum, .ivals [(0, 2)], .is 0, .atCarry, .p⟩,
  ⟨0x01, .enum, .ivals [(0, 1)], .is 1, .atCarry, .p⟩,
  ⟨0x02, .u8, .ivals [(1, 32)], .is 2, .atCarry, .p⟩,
  ⟨0x03, .u16, .ivals [(2, 256)], .is 63, .atCarry, .p⟩,
  ⟨0x04, .u8, .ivals [(1, 128)], .is 16, .atCarry, .p⟩,
  ⟨0x05, .u8, .ivals [(1, 128)], .is 16, .atCarry, .p⟩,
  ⟨0x06, .u8, .ivals [(1, 32)], .is 2, .atCarry, .p⟩,
  ⟨0x07, .u8, .ivals [(1, 32)], .is 15, .atCarry, .p⟩,
  ⟨0x08, .u8, .ivals [(1, 16)], .is 4, .atCarry, .p⟩,
  ⟨0x09, .u8, .ivals [(1, 16)], .is 4, .atCarry, .p⟩,
  ⟨0x0a, .enum, .ivals [(0, 1)], .is 1, .atCarry, .p⟩,
  ⟨0x0b, .u8, .ivals [(0, 127)], .is 32, .atCarry, .p⟩,
  ⟨0x0c, .enum, .ivals [(0, 1)], .is 1, .atCarry, .p⟩,
  ⟨0x0d, .enum, .ivals [(0, 1)], .is 0, .atCarry, .p⟩,
  ⟨0x0e, .enum, .ivals [(0, 1)], .is 0, .atCarry, .p⟩,
  ⟨0x0f, .bits, .mask 0xffff, .is 15, .atCarry, .p⟩,
  ⟨0x10, .enum, .ivals [(0, 1)], .is 0, .atPark, .p⟩,
  ⟨0x20, .enum, .ivals [(0, 6)], .is 0, .immediate, .v⟩,
  ⟨0x21, .u16, .ivals [(0, 256)], .is 0, .immediate, .v⟩,
  ⟨0x22, .u8, .ivals [(0, 128)], .is 0, .immediate, .v⟩,
  ⟨0x23, .u8, .ivals [(0, 127)], .is 0, .immediate, .v⟩,
  ⟨0x24, .u32, .any, .is 0, .immediate, .v⟩,
  ⟨0x25, .u32, .any, .is 0, .immediate, .w⟩,
  ⟨0x26, .u32, .any, .is 0, .immediate, .w⟩]
/-- Item rows of class 0x80, instances 0x00 to 0x05: can_tx_frames, can_errors, can_arb_lost, can_busoff_count, can_tx_pending, can_bus_load_pm. -/
def rows80_0_1 : List ItemRow := [
  ⟨0x27, .u32, .any, .is 0, .immediate, .w⟩,
  ⟨0x28, .u32, .any, .is 0, .immediate, .w⟩,
  ⟨0x29, .u32, .any, .is 0, .immediate, .w⟩,
  ⟨0x2a, .u32, .any, .is 0, .immediate, .w⟩,
  ⟨0x2b, .u8, .ivals [(0, 32)], .is 0, .immediate, .v⟩,
  ⟨0x2c, .u16, .ivals [(0, 1000)], .is 0, .immediate, .v⟩]
/-- Item rows of class 0x80, instances 0x20 to 0x7f: flt_enable, flt_id, flt_mask, flt_format, flt_type, flt_action, flt_masters, flt_hits. -/
def rows80_1_0 : List ItemRow := [
  ⟨0x00, .enum, .ivals [(0, 1)], .is 0, .atCarry, .p⟩,
  ⟨0x01, .bits, .mask 0x1fffffff, .is 0, .atCarry, .p⟩,
  ⟨0x02, .bits, .mask 0x1fffffff, .is 0, .atCarry, .p⟩,
  ⟨0x03, .enum, .ivals [(0, 2)], .is 0, .atCarry, .p⟩,
  ⟨0x04, .enum, .ivals [(0, 2)], .is 0, .atCarry, .p⟩,
  ⟨0x05, .enum, .ivals [(0, 1)], .is 1, .atCarry, .p⟩,
  ⟨0x06, .bits, .mask 0xffff, .is 0, .atCarry, .p⟩,
  ⟨0x20, .u32, .any, .is 0, .immediate, .w⟩]
/-- Item rows of class 0x80, instances 0x80 to 0xaf: hp_enable, hp_id, hp_mask, hp_partition, hp_count, hp_overwrites. -/
def rows80_2_0 : List ItemRow := [
  ⟨0x00, .enum, .ivals [(0, 1)], .is 0, .atCarry, .p⟩,
  ⟨0x01, .bits, .mask 0x3fffffff, .is 0, .atCarry, .p⟩,
  ⟨0x02, .bits, .mask 0x3fffffff, .is 1073741823, .atCarry, .p⟩,
  ⟨0x03, .u8, .ivals [(0, 3), (255, 255)], .is 255, .atCarry, .p⟩,
  ⟨0x20, .u32, .any, .is 0, .immediate, .w⟩,
  ⟨0x21, .u32, .any, .is 0, .immediate, .w⟩]
/-- The item tables of class 0x80. -/
def class80 : List ItemBlock := [⟨0x00, 6, rows80_0_0 ++ rows80_0_1⟩,
  ⟨0x20, 96, rows80_1_0⟩,
  ⟨0x80, 48, rows80_2_0⟩]
/-- Item rows of class 0x88, instances 0x00 to 0x00: ring_enable, ring_node, ring_expected, ring_join_delay_ms, ring_state, ring_members, bypass_state, bypass_cycles, ring_breaks, ring_duplicates, ring_hop_expired, ring_tx_seq, ring_index_retries. -/
def rows88_0_0 : List ItemRow := [
  ⟨0x00, .enum, .ivals [(0, 1)], .is 1, .atCarry, .p⟩,
  ⟨0x01, .u16, .ivals [(1, 64)], .is 1, .atRestart, .p⟩,
  ⟨0x02, .u8, .ivals [(0, 68)], .is 0, .atCarry, .p⟩,
  ⟨0x03, .u16, .ivals [(0, 10000)], .is 200, .atCarry, .p⟩,
  ⟨0x20, .enum, .ivals [(0, 3)], .is 0, .immediate, .v⟩,
  ⟨0x21, .u8, .ivals [(0, 68)], .is 0, .immediate, .v⟩,
  ⟨0x22, .enum, .ivals [(0, 3)], .is 0, .immediate, .v⟩,
  ⟨0x23, .u32, .any, .is 0, .immediate, .p⟩,
  ⟨0x24, .u32, .any, .is 0, .immediate, .w⟩,
  ⟨0x25, .u32, .any, .is 0, .immediate, .w⟩,
  ⟨0x26, .u32, .any, .is 0, .immediate, .w⟩,
  ⟨0x27, .u16, .any, .is 0, .immediate, .w⟩,
  ⟨0x28, .u32, .any, .is 0, .immediate, .w⟩]
/-- Item rows of class 0x88, instances 0x10 to 0x11: port_state, port_frames_rx, port_frames_tx, port_crc_errors, port_code_errors, port_downs. -/
def rows88_1_0 : List ItemRow := [
  ⟨0x00, .enum, .ivals [(0, 2)], .is 0, .immediate, .v⟩,
  ⟨0x01, .u32, .any, .is 0, .immediate, .w⟩,
  ⟨0x02, .u32, .any, .is 0, .immediate, .w⟩,
  ⟨0x03, .u32, .any, .is 0, .immediate, .w⟩,
  ⟨0x04, .u32, .any, .is 0, .immediate, .w⟩,
  ⟨0x05, .u32, .any, .is 0, .immediate, .w⟩]
/-- The item tables of class 0x88. -/
def class88 : List ItemBlock := [⟨0x00, 1, rows88_0_0⟩,
  ⟨0x10, 2, rows88_1_0⟩]
/-- Item rows of class 0x90, instances 0x00 to 0x00: red_preferred_lane, red_auto_restart, red_restart_delay_ms, red_restart_limit, red_restart_window_min, red_diverge_limit, red_tenant_critical, red_start_wait_ms, role, role_accept, failovers, switches, last_cause, last_detect_ns, last_gap_ns, max_gap_ns, copy_cycle, copy_bytes_peak, copy_failures, copy_deferrals, lane_link. -/
def rows90_0_0 : List ItemRow := [
  ⟨0x00, .enum, .ivals [(0, 1)], .is 0, .atRestart, .p⟩,
  ⟨0x01, .enum, .ivals [(0, 1)], .is 1, .nextCycle, .p⟩,
  ⟨0x02, .u16, .ivals [(0, 10000)], .is 100, .nextCycle, .p⟩,
  ⟨0x03, .u8, .ivals [(1, 10)], .is 3, .nextCycle, .p⟩,
  ⟨0x04, .u16, .ivals [(1, 1440)], .is 60, .nextCycle, .p⟩,
  ⟨0x05, .u16, .ivals [(1, 10000)], .is 100, .nextCycle, .p⟩,
  ⟨0x06, .bits, .mask 0xf, .is 0, .nextCycle, .p⟩,
  ⟨0x07, .u16, .ivals [(10, 5000)], .is 500, .atRestart, .p⟩,
  ⟨0x20, .enum, .ivals [(0, 1)], .is 0, .immediate, .w⟩,
  ⟨0x21, .enum, .ivals [(0, 1)], .is 0, .immediate, .w⟩,
  ⟨0x22, .u32, .any, .is 0, .immediate, .w⟩,
  ⟨0x23, .u32, .any, .is 0, .immediate, .w⟩,
  ⟨0x24, .enum, .ivals [(0, 17)], .is 0, .immediate, .w⟩,
  ⟨0x25, .u32, .any, .is 0, .immediate, .w⟩,
  ⟨0x26, .u32, .any, .is 0, .immediate, .w⟩,
  ⟨0x27, .u32, .any, .is 0, .immediate, .w⟩,
  ⟨0x28, .u64, .any, .is 0, .immediate, .v⟩,
  ⟨0x29, .u32, .ivals [(0, 36864)], .is 0, .immediate, .v⟩,
  ⟨0x2a, .u32, .any, .is 0, .immediate, .w⟩,
  ⟨0x2b, .u32, .any, .is 0, .immediate, .w⟩,
  ⟨0x2c, .enum, .ivals [(0, 1)], .is 0, .immediate, .v⟩]
/-- Item rows of class 0x90, instances 0x10 to 0x11: lane_state, lane_cause, lane_faults, lane_restarts, lane_restarts_window, diverge_cycles, state_divergences, tenant_restarts. -/
def rows90_1_0 : List ItemRow := [
  ⟨0x00, .enum, .ivals [(0, 6)], .is 0, .immediate, .w⟩,
  ⟨0x01, .enum, .ivals [(0, 17)], .is 0, .immediate, .w⟩,
  ⟨0x02, .u32, .any, .is 0, .immediate, .w⟩,
  ⟨0x03, .u32, .any, .is 0, .immediate, .w⟩,
  ⟨0x04, .u8, .ivals [(0, 10)], .is 0, .immediate, .w⟩,
  ⟨0x05, .u16, .ivals [(0, 10000)], .is 0, .immediate, .v⟩,
  ⟨0x06, .u32, .any, .is 0, .immediate, .w⟩,
  ⟨0x07, .u32, .any, .is 0, .immediate, .w⟩]
/-- The item tables of class 0x90. -/
def class90 : List ItemBlock := [⟨0x00, 1, rows90_0_0⟩,
  ⟨0x10, 2, rows90_1_0⟩]
/-- Item rows of class 0x98, instances 0x00 to 0x00: start_state, park_wake, park_timer_s, op_state, main_v, ka_v, sag_tier, holdup_ms, holdup_reserve_ms, holdup_decision_ms, last_start_kind, last_wake, last_shutdown, starts, power_fails, sag_events, supply_over, retained_lost, wakes_no_main, park_replan_skipped. -/
def rows98_0_0 : List ItemRow := [
  ⟨0x00, .enum, .ivals [(0, 1)], .is 0, .atRestart, .p⟩,
  ⟨0x01, .bits, .mask 0x7, .is 3, .atPark, .p⟩,
  ⟨0x02, .u32, .ivals [(0, 0), (60, 2592000)], .is 0, .atPark, .p⟩,
  ⟨0x20, .enum, .ivals [(0, 3)], .is 0, .immediate, .v⟩,
  ⟨0x21, .q16, .ivals [(0, 7208960)], .is 0, .immediate, .v⟩,
  ⟨0x22, .q16, .ivals [(0, 2621440)], .is 0, .immediate, .v⟩,
  ⟨0x23, .enum, .ivals [(0, 3)], .is 0, .immediate, .v⟩,
  ⟨0x24, .q16, .ivals [(0, 6553600)], .is 1966080, .immediate, .p⟩,
  ⟨0x25, .q16, .ivals [(0, 6553600)], .is 524288, .immediate, .p⟩,
  ⟨0x26, .q16, .ivals [(0, 6553600)], .is 327680, .immediate, .p⟩,
  ⟨0x27, .enum, .ivals [(0, 3)], .is 0, .immediate, .p⟩,
  ⟨0x28, .enum, .ivals [(0, 4)], .is 0, .immediate, .p⟩,
  ⟨0x29, .enum, .ivals [(0, 4)], .is 0, .immediate, .p⟩,
  ⟨0x2a, .u32, .any, .is 0, .immediate, .p⟩,
  ⟨0x2b, .u32, .any, .is 0, .immediate, .p⟩,
  ⟨0x2c, .u32, .any, .is 0, .immediate, .w⟩,
  ⟨0x2d, .u32, .any, .is 0, .immediate, .w⟩,
  ⟨0x2e, .u32, .any, .is 0, .immediate, .p⟩,
  ⟨0x2f, .u32, .any, .is 0, .immediate, .p⟩,
  ⟨0x30, .u32, .any, .is 0, .immediate, .p⟩]
/-- The item tables of class 0x98. -/
def class98 : List ItemBlock := [⟨0x00, 1, rows98_0_0⟩]
/-- Item rows of class 0xa0, instances 0x00 to 0x00: upd_confirm_mode, upd_confirm_s, upd_state, upd_session, upd_blocks_missing, upd_mixed, upd_done, upd_fallbacks, recovery_boots, recovery_cause. -/
def rowsa0_0_0 : List ItemRow := [
  ⟨0x00, .enum, .ivals [(0, 1)], .is 0, .atCarry, .p⟩,
  ⟨0x01, .u16, .ivals [(10, 3600)], .is 60, .atCarry, .p⟩,
  ⟨0x20, .enum, .ivals [(0, 7)], .is 0, .immediate, .v⟩,
  ⟨0x21, .u32, .any, .is 0, .immediate, .v⟩,
  ⟨0x22, .u32, .ivals [(0, 16384)], .is 0, .immediate, .v⟩,
  ⟨0x23, .enum, .ivals [(0, 1)], .is 0, .immediate, .v⟩,
  ⟨0x24, .u32, .any, .is 0, .immediate, .p⟩,
  ⟨0x25, .u32, .any, .is 0, .immediate, .p⟩,
  ⟨0x26, .u32, .any, .is 0, .immediate, .p⟩,
  ⟨0x27, .enum, .ivals [(0, 4)], .is 0, .immediate, .p⟩]
/-- Item rows of class 0xa0, instances 0x10 to 0x11: boot_bank, bank0_state, bank1_state, bank0_seq, bank1_seq, fw_version, fuse_sv_querik, fuse_sv_maker. -/
def rowsa0_1_0 : List ItemRow := [
  ⟨0x00, .enum, .ivals [(0, 1)], .is 0, .immediate, .v⟩,
  ⟨0x01, .enum, .ivals [(0, 4)], .is 0, .immediate, .p⟩,
  ⟨0x02, .enum, .any, .is 0, .immediate, .p⟩,
  ⟨0x03, .u32, .any, .is 0, .immediate, .p⟩,
  ⟨0x04, .u32, .any, .is 0, .immediate, .p⟩,
  ⟨0x05, .u32, .any, .is 0, .immediate, .v⟩,
  ⟨0x06, .u8, .ivals [(0, 63)], .fused, .immediate, .f⟩,
  ⟨0x07, .u8, .ivals [(0, 63)], .fused, .immediate, .f⟩]
/-- The item tables of class 0xa0. -/
def classa0 : List ItemBlock := [⟨0x00, 1, rowsa0_0_0⟩,
  ⟨0x10, 2, rowsa0_1_0⟩]
/-- Item rows of class 0xa8, instances 0x00 to 0x00: rec_cells_mask, rec_ls_mask, rec_newest_h, rec_oldest_h, rec_newest_a, rec_oldest_a, rec_dropped, rec_overwritten, rec_queue_peak_kb. -/
def rowsa8_0_0 : List ItemRow := [
  ⟨0x00, .bits, .mask 0xffffffff, .is 4294967295, .atCarry, .p⟩,
  ⟨0x01, .bits, .mask 0xff, .is 255, .atCarry, .p⟩,
  ⟨0x20, .u32, .any, .is 0, .immediate, .p⟩,
  ⟨0x21, .u32, .any, .is 0, .immediate, .p⟩,
  ⟨0x22, .u32, .any, .is 0, .immediate, .p⟩,
  ⟨0x23, .u32, .any, .is 0, .immediate, .p⟩,
  ⟨0x24, .u32, .any, .is 0, .immediate, .w⟩,
  ⟨0x25, .u32, .any, .is 0, .immediate, .p⟩,
  ⟨0x26, .u32, .ivals [(0, 1024)], .is 0, .immediate, .v⟩]
/-- Item rows of class 0xa8, instances 0x10 to 0x2f: rec_kind, rec_key, rec_every_k, rec_window_s, rec_bin_low, rec_bin_width, rec_samples. -/
def rowsa8_1_0 : List ItemRow := [
  ⟨0x00, .enum, .ivals [(0, 3)], .is 0, .atCarry, .p⟩,
  ⟨0x01, .u32, .any, .is 0, .atCarry, .p⟩,
  ⟨0x02, .u16, .ivals [(1, 10000)], .is 10, .atCarry, .p⟩,
  ⟨0x03, .u32, .ivals [(1, 86400)], .is 3600, .atCarry, .p⟩,
  ⟨0x04, .q16, .any, .is 0, .atCarry, .p⟩,
  ⟨0x05, .q16, .any, .is 65536, .atCarry, .p⟩,
  ⟨0x20, .u32, .any, .is 0, .immediate, .v⟩]
/-- The item tables of class 0xa8. -/
def classa8 : List ItemBlock := [⟨0x00, 1, rowsa8_0_0⟩,
  ⟨0x10, 32, rowsa8_1_0⟩]
/-- Item rows of class 0xb0, instances 0x00 to 0x00: age_derate_enable, age_relay_limit_mohm, age_trend_h, age_plan_starts_warn, age_plan_number, age_plan_starts, age_plan_flags, age_holdup_uf, age_holdup_esr_mohm, age_relay_we_mohm, age_relay_ww_mohm. -/
def rowsb0_0_0 : List ItemRow := [
  ⟨0x00, .enum, .ivals [(0, 1)], .is 1, .atPark, .p⟩,
  ⟨0x01, .u16, .ivals [(10, 1000)], .is 100, .atPark, .p⟩,
  ⟨0x02, .u16, .ivals [(1, 168)], .is 1, .atCarry, .p⟩,
  ⟨0x03, .u16, .ivals [(1, 1000)], .is 20, .atCarry, .p⟩,
  ⟨0x20, .u32, .any, .is 0, .immediate, .p⟩,
  ⟨0x21, .u16, .any, .is 0, .immediate, .p⟩,
  ⟨0x22, .bits, .mask 0x1ff, .is 0, .immediate, .p⟩,
  ⟨0x23, .q16, .ivals [(0, 65536000)], .is 0, .immediate, .p⟩,
  ⟨0x24, .q16, .ivals [(0, 655360000)], .is 0, .immediate, .p⟩,
  ⟨0x25, .q16, .ivals [(0, 655360000)], .is 0, .immediate, .p⟩,
  ⟨0x26, .q16, .ivals [(0, 655360000)], .is 0, .immediate, .p⟩]
/-- Item rows of class 0xb0, instances 0x10 to 0x11: age_core_offset_mv, age_sram_offset_mv, age_sram_margin_mv, age_canary_ps, age_canary_min_ps. -/
def rowsb0_1_0 : List ItemRow := [
  ⟨0x00, .q16, .ivals [(0, 3276800)], .is 0, .immediate, .p⟩,
  ⟨0x01, .q16, .ivals [(0, 2621440)], .is 0, .immediate, .p⟩,
  ⟨0x02, .q16, .any, .is 0, .immediate, .p⟩,
  ⟨0x03, .q16, .any, .is 0, .immediate, .v⟩,
  ⟨0x04, .q16, .any, .is 0, .immediate, .v⟩]
/-- Item rows of class 0xb0, instances 0x20 to 0x2f: age_hs_ron_ref_mohm, age_hs_ron_mohm, age_boost_esr_mohm, age_bank_plan_a, age_boost_lead_us, age_boost_lead_t1_us. -/
def rowsb0_2_0 : List ItemRow := [
  ⟨0x00, .q16, .any, .fused, .immediate, .f⟩,
  ⟨0x01, .q16, .ivals [(0, 65536000)], .is 0, .immediate, .p⟩,
  ⟨0x02, .q16, .ivals [(0, 655360000)], .is 0, .immediate, .p⟩,
  ⟨0x03, .q16, .ivals [(0, 786432)], .is 786432, .immediate, .p⟩,
  ⟨0x04, .q16, .ivals [(0, 655360000)], .is 0, .immediate, .p⟩,
  ⟨0x05, .q16, .ivals [(0, 655360000)], .is 0, .immediate, .p⟩]
/-- Item rows of class 0xb0, instances 0x40 to 0xbf: age_ls_ron_mohm, age_ls_ron_ref_mohm. -/
def rowsb0_3_0 : List ItemRow := [
  ⟨0x00, .q16, .ivals [(0, 655360000)], .is 0, .immediate, .p⟩,
  ⟨0x01, .q16, .any, .fused, .immediate, .f⟩]
/-- The item tables of class 0xb0. -/
def classb0 : List ItemBlock := [⟨0x00, 1, rowsb0_0_0⟩,
  ⟨0x10, 2, rowsb0_1_0⟩,
  ⟨0x20, 16, rowsb0_2_0⟩,
  ⟨0x40, 128, rowsb0_3_0⟩]
/-- Item rows of class 0xb8, instances 0x00 to 0x00: panel_page, panel_park_page, panel_clear_every, panel_vcom_mv, panel_state, panel_band, panel_temp_c, panel_shown, panel_crack_ohm, panel_updates, panel_suspects, panel_interrupted, panel_skipped. -/
def rowsb8_0_0 : List ItemRow := [
  ⟨0x00, .u8, .ivals [(0, 15)], .is 0, .nextEvent, .p⟩,
  ⟨0x01, .u8, .ivals [(0, 15), (255, 255)], .is 255, .nextEvent, .p⟩,
  ⟨0x02, .u8, .ivals [(1, 100)], .is 20, .nextEvent, .p⟩,
  ⟨0x03, .s32, .ivals [(-3000, 0)], .fused, .immediate, .f⟩,
  ⟨0x20, .enum, .ivals [(0, 3)], .is 0, .immediate, .v⟩,
  ⟨0x21, .u8, .ivals [(0, 7)], .is 0, .immediate, .v⟩,
  ⟨0x22, .q16, .ivals [(-3276800, 6553600)], .is 0, .immediate, .v⟩,
  ⟨0x23, .u8, .ivals [(0, 15), (255, 255)], .is 255, .immediate, .p⟩,
  ⟨0x24, .q16, .ivals [(0, 2147418112)], .is 0, .immediate, .v⟩,
  ⟨0x25, .u32, .any, .is 0, .immediate, .p⟩,
  ⟨0x26, .u32, .any, .is 0, .immediate, .p⟩,
  ⟨0x27, .u32, .any, .is 0, .immediate, .p⟩,
  ⟨0x28, .u32, .any, .is 0, .immediate, .p⟩]
/-- The item tables of class 0xb8. -/
def classb8 : List ItemBlock := [⟨0x00, 1, rowsb8_0_0⟩]
/-- Item rows of class 0xc0, instances 0x00 to 0x05: lt_state, lt_pattern, lt_bits, lt_errors, lt_sync_losses, fi_action, fi_altered. -/
def rowsc0_0_0 : List ItemRow := [
  ⟨0x00, .enum, .ivals [(0, 2)], .is 0, .immediate, .v⟩,
  ⟨0x01, .enum, .ivals [(0, 2)], .is 0, .immediate, .v⟩,
  ⟨0x02, .u64, .any, .is 0, .immediate, .v⟩,
  ⟨0x03, .u64, .any, .is 0, .immediate, .v⟩,
  ⟨0x04, .u32, .any, .is 0, .immediate, .v⟩,
  ⟨0x05, .enum, .ivals [(0, 3)], .is 0, .immediate, .v⟩,
  ⟨0x06, .u32, .any, .is 0, .immediate, .v⟩]
/-- The item tables of class 0xc0. -/
def classc0 : List ItemBlock := [⟨0x00, 6, rowsc0_0_0⟩]

/-- The item tables of a class; a class that no chapter lists has none (R7). -/
def classBlocks (cls : Nat) : List ItemBlock :=
  if cls = 0x10 then class10
  else if cls = 0x18 then class18
  else if cls = 0x20 then class20
  else if cls = 0x28 then class28
  else if cls = 0x30 then class30
  else if cls = 0x38 then class38
  else if cls = 0x40 then class40
  else if cls = 0x48 then class48
  else if cls = 0x50 then class50
  else if cls = 0x58 then class58
  else if cls = 0x60 then class60
  else if cls = 0x68 then class68
  else if cls = 0x6c then class6c
  else if cls = 0x70 then class70
  else if cls = 0x74 then class74
  else if cls = 0x78 then class78
  else if cls = 0x80 then class80
  else if cls = 0x88 then class88
  else if cls = 0x90 then class90
  else if cls = 0x98 then class98
  else if cls = 0xa0 then classa0
  else if cls = 0xa8 then classa8
  else if cls = 0xb0 then classb0
  else if cls = 0xb8 then classb8
  else if cls = 0xc0 then classc0
  else []

/-- The classes that the chapters list (R7). -/
def allClasses : List Nat := [0x10, 0x18, 0x20, 0x28, 0x30, 0x38, 0x40, 0x48, 0x50, 0x58, 0x60, 0x68, 0x6c, 0x70, 0x74, 0x78, 0x80, 0x88, 0x90, 0x98, 0xa0, 0xa8, 0xb0, 0xb8, 0xc0]

/-- The row that describes an item, if the item exists (R7). -/
def findRow (k : Nat) : Option ItemRow :=
  let cls := k / 65536
  let ins := k / 256 % 256
  let fld := k % 256
  (classBlocks cls).findSome? fun b =>
    if b.ins0 ≤ ins ∧ ins < b.ins0 + b.count then b.rows.find? (fun r => r.fld == fld) else none

/-- A raw value of a width of 32 bits read as a signed number (Table 0.5, R9). -/
def signed32 (v : Nat) : Int := if v < 2147483648 then (v : Int) else (v : Int) - 4294967296

/-- The number a raw value stands for in the units of its range: two's complement for `s32` and `q16.16` (R9). -/
def rawInt (ty : ItemType) (v : Nat) : Int :=
  match ty with
  | .s32 | .q16 => signed32 v
  | _ => (v : Int)

/-- How many bytes an item type takes in a payload (Table 0.5, R9). -/
def ItemType.bytes (ty : ItemType) : Nat :=
  match ty with
  | .u8 => 1
  | .u16 | .enum => 2
  | .u32 | .s32 | .q16 | .bits => 4
  | .u64 | .q48 => 8

/-- A raw value lies in the range of its row (R10). -/
def ItemRow.inRange (r : ItemRow) (v : Nat) : Bool :=
  decide (v < 2 ^ (8 * r.ty.bytes)) &&
  match r.rng with
  | .any => true
  | .ivals l => l.any (fun p => decide (p.1 ≤ rawInt r.ty v) && decide (rawInt r.ty v ≤ p.2))
  | .mask m => (v &&& m) == v

/-- An open number brought into the range of a row: a fused or calibrated value lies in its Range column (R2, R10).
Log entry: 2 DESIGN CHOICE. -/
def ItemRow.fusedIn (r : ItemRow) (v : Nat) : Nat :=
  match r.rng with
  | .ivals ((lo, hi) :: _) => ((lo + (v % (hi - lo + 1).toNat : Nat)) % (2 ^ (8 * r.ty.bytes) : Nat)).toNat
  | .mask m => v &&& m
  | _ => v % 2 ^ (8 * r.ty.bytes)

/-- The Default of an item on one ordering variant (0 = HV, 1 = SL; R1, R14). An item that does not exist reads 0.
Log entry: 2 DESIGN CHOICE. -/
def itemDefault (variant k : Nat) : Nat :=
  match findRow k with
  | none => 0
  | some r =>
    match r.dflt with
    | .is n => n
    | .byVariant hv sl => if variant = 0 then hv else sl
    | .fused => if k = It.variant then variant else r.fusedIn (Config.fused k)

end Sys2Proof.Machine
end

