-- ==== Sys2Proof/Machine/State.lean ====
section
/-! DEFINITION. The state of the module as plain data, by chapter of the spec, and the state at reset. Every item of the
item tables that has no other home in a field is held in the item store; the fields hold what the spec gives beside
the items and the statuses that `State.statusAtK` writes at a K. -/

namespace Sys2Proof.Machine

/-- No command stops the module with a fault: the spec gives every command an effect.
Log entry: 165 DESIGN CHOICE. -/
inductive Fault where
  /-- Raised by nothing; the type has one constructor so that it is inhabited. Safe: no step answers it. -/
  | none
  deriving DecidableEq, Repr

/-- Why a command has no meaning. Log entry: 165 DESIGN CHOICE. -/
inductive Refusal where
  /-- Raised by an arm of `exec` whose command has no meaning yet; safe, the run stops. -/
  | notModelled (mnemonic : String)
  deriving DecidableEq, Repr

/-- The item store: pairs of key and raw value, keys strictly rising, no value equal to the item's default. -/
abbrev Store := List (Nat × Nat)

/-- The time base. `mtime` is the active lane's module time in ns (R50); `wall` counts ns from power-on and never
restarts, for PARK (R59, R353); `kLast` is the number of the last base-cycle boundary (R25) and `tickNext` that of the
next internal tally tick, the first of an epoch falling on its mtime 0. -/
structure Clock where
  mtime : Nat := 0
  wall : Nat := 0
  kLast : Nat := 0
  tickNext : Nat := 0
  deriving DecidableEq, Repr

/-! ## Tally and time (spec 02) -/

/-- tally_state (R40). -/
inductive TallyState where
  | running | stalled | reverse
  deriving DecidableEq, Repr

/-- The counting state of one counter of the tally: a lane's or a drive die's follower (R37, R39). `tLast` is the mtime
of the last unit and `pLast` the interval between the last two units. `latched` is the integer latched at the K of
mtime `latchAt`, and `near` the edge-near-K flag of that latch (R46). -/
structure Counter where
  int : Nat := 0
  frac : Nat := 0
  acc : Int := 0
  debt : Nat := 0
  tLast : Nat := 0
  pLast : Option Nat := none
  st : TallyState := .stalled
  latchAt : Nat := 0
  latched : Nat := 0
  near : Bool := false
  deriving DecidableEq, Repr, Inhabited

/-- One encoder input (R35, R36, R48): the filtered levels of its lines, the mtimes and direction of the last counted edges, the
illegal transitions of this base cycle, the run of clean cycles, and the state of the range window, which holds beneath STALE
and BROKEN too. -/
structure Encoder where
  a : Bool := false
  b : Bool := false
  last : Option Nat := none
  prev : Option Nat := none
  forward : Bool := true
  illegal : Nat := 0
  clean : Nat := 0
  broken : Bool := false
  win : Nat := 0
  deriving DecidableEq, Repr, Inhabited

/-- One latency monitor (R57): samples seen since the window was cleared, the last raw count with its unwrapped value,
the minima of the complete blocks and the samples of the block in progress (each a pair of g and x, x in 1/65536 ns). -/
structure LatMon where
  seen : Nat := 0
  lastCount : Option (Nat × Nat) := none
  lastAt : Option Nat := none
  blocks : List (Nat × Int) := []
  part : List (Nat × Int) := []
  deriving DecidableEq, Repr, Inhabited

/-- A unit of a tally: its integer, its instant, the interval P_last that interpolates after it, and the instant at which the tally
left RUNNING before the next unit (R39, R40). -/
structure TallyUnit where
  int : Nat
  at_ : Nat
  p : Option Nat := none
  stop : Option Nat := none
  deriving DecidableEq, Repr, Inhabited

/-- The followers of one drive die (R21, R46, R52): its counter, the settings it counts with, its mtime offset, the
correction found by the last comparison with the cycle of that comparison, the instant of the last cycle-start message,
the epoch it follows, its units, newest first (R231: the lateness history of 4096 units), and the positions before and after
each forward correction among them. Instants of a die are counted in ns since power-on, since its followers run free through a
warm module reset (R53). -/
structure Follower where
  cnt : Counter := {}
  src : Nat := 0
  prescale : Nat := 1
  discard : Bool := false
  off : Int := 0
  corr : Option (Int × Nat) := none
  lastMsg : Nat := 0
  epoch : Nat := 0
  hist : List TallyUnit := []
  jumps : List (Nat × Nat) := []
  deriving DecidableEq, Repr, Inhabited

/-- Tally, encoders, latency monitors and calendar time. `standby` is the standby lane's counter and `standbyOff` its mtime
minus the active lane's in ns (R51). `hist` holds the past units, newest first, for the conversion of an event time into a
position (R163). -/
structure TimeState where
  lane : Counter := {}
  standby : Counter := {}
  standbyOff : Int := 0
  dies : List Follower := List.replicate 4 {}
  hist : List TallyUnit := []
  enc : List Encoder := List.replicate 8 {}
  lat : List LatMon := List.replicate 32 {}
  calBase : Nat := 0
  calAt : Nat := 0
  deriving DecidableEq, Repr

/-! ## Mailboxes and ownership (spec 03) -/

/-- What a response waits for before it is released (R81, R77, and the rules of the commands that answer later). -/
inductive Wait where
  | ready | copy (cycle : Nat) | claim | accept | cancel (slate : Nat) | canCancel (ch buf : Nat) | coil (ch : Nat)
  deriving DecidableEq, Repr, Inhabited

/-- A response not yet wholly placed in the RSP ring: what it answers, and how many of its payload bytes are placed. -/
structure Resp where
  seq : Nat
  op : Nat
  status : Nat
  slate : Nat
  payload : List Byte
  wait : Wait
  cycle : Nat
  changing : Bool
  placed : Nat := 0
  deriving DecidableEq, Repr, Inhabited

/-- A frame that the module has placed in an RSP or EVT ring. -/
structure OutFrame where
  flags : Nat
  seq : Nat
  op : Nat
  status : Nat
  slate : Nat
  payload : List Byte
  deriving DecidableEq, Repr, Inhabited

/-- Producer and consumer index of a ring (R66). -/
structure RingIdx where
  prod : Nat := 0
  cons : Nat := 0
  deriving DecidableEq, Repr, Inhabited

/-- A BLK frame as it was observed: its sequence, payload and mtime (R103), and whether it carries a flag, which Table 3.5 defines
for no BLK frame (R72). -/
structure BlkSeen where
  seq : Nat
  payload : List Byte
  at_ : Nat
  flagged : Bool := false
  deriving DecidableEq, Repr, Inhabited

/-- The mailbox of one master (R65 to R77, R98). `taken` holds the commands consumed since the last acknowledged copy: cycle,
sequence, opcode (R82). `cmdWord` and `blkWord` are the producer index words that a partition writes (Table 3.3). `gwOut` holds
the slots of the frame that the CAN gateway is sending (R69). -/
structure Master where
  cmd : RingIdx := {}
  rsp : RingIdx := {}
  evt : RingIdx := {}
  blk : RingIdx := {}
  waiting : List Frame := []
  blks : List BlkSeen := []
  outq : List Resp := []
  rspFrames : List OutFrame := []
  evtFrames : List OutFrame := []
  cache : List Resp := []
  taken : List (Nat × Nat × Nat) := []
  evtSeq : Nat := 0
  evtLost : Bool := false
  held : List (Nat × List Byte) := []
  lastFrame : Nat := 0
  irq : Nat := 0
  hpIrq : Nat := 0
  slots : List (Nat × List Byte) := []
  gwPart : List Byte := []
  gwOut : List (List Byte) := []
  gwAt : Nat := 0
  cmdWord : Nat := 0
  blkWord : Nat := 0
  deriving DecidableEq, Repr, Inhabited

/-- A pending offer of ownership (R91): target, keep_slates, its instant, and the number of the K before the target's
acceptance. -/
structure Offer where
  target : Nat
  keep : Bool
  at_ : Nat
  accepted : Option Nat := none
  deriving DecidableEq, Repr

/-- The Reckoner (R83): whether it serves, when its restart began, and the mtimes of its watchdog expiries. -/
structure Reckoner where
  up : Bool := true
  since : Nat := 0
  expiries : List Nat := []
  deriving DecidableEq, Repr

/-- Mailboxes, sessions and ownership. `window` and `grace` hold the mtimes at which the election window and the
ownerless grace timer end; `graceOver` that the grace timer has ended with its action due at the next K; `claims` the
masters whose OWN_CLAIM is held, with the number of the K before it; `lapseFrom` the start of the owner's lapse timer. -/
structure Mail where
  masters : List Master := List.replicate 16 {}
  owner : Option Nat := none
  offer : Option Offer := none
  window : Option Nat := none
  grace : Option Nat := none
  graceOver : Bool := false
  claims : List (Nat × Nat) := []
  lapseFrom : Nat := 0
  resume : Bool := false
  lastServed : Nat := 15
  reck : Reckoner := {}
  deriving DecidableEq, Repr

/-! ## Slates, carry and snapshots (spec 04) -/

/-- Slate states (Table 4.1). -/
inductive SlateState where
  | free | opened | committed | prepared
  deriving DecidableEq, Repr

/-- One slate (R100 to R122). `instant` is raw q48.16 or mtime by `basis` (0 tally, 1 mtime, 2 next K, whose instant is
the mtime of that K); `order` is its place in the order of commits; `cancelK` the number of the K before a cancel that waits for
the next K. -/
structure Slate where
  st : SlateState := .free
  entries : List (Nat × Nat) := []
  basis : Nat := 0
  instant : Nat := 0
  txn : Nat := 0
  deadline : Nat := 0
  build : Nat := 0
  order : Nat := 0
  ringWide : Bool := false
  cancelK : Option Nat := none
  deriving DecidableEq, Repr, Inhabited

/-- A snapshot (R124). -/
structure Snap where
  cycle : Nat := 0
  carry : Nat := 0
  items : Store := []
  deriving DecidableEq, Repr

/-- A pinned snapshot (R126). -/
structure Pin where
  handle : Nat
  master : Nat
  at_ : Nat
  snap : Snap
  deriving DecidableEq, Repr

/-- A carry that has been released and whose SLATE_CARRIED waits for the next K (R110 step 7). -/
structure Carried where
  slate : Nat
  basis : Nat
  number : Nat
  mtime : Nat
  tally : Nat
  late : Nat
  deriving DecidableEq, Repr

/-- Slates, the carry and snapshots. `before` holds the mtime C of each carry of the last 100 ms, oldest first, with the items
before it (R119). `stored` is what the store holds of the P items, `txnOpen` the open
store transactions, oldest first, each with its values, `storedCarry`, `ceiling` and `closed` its carry number, carry ceiling and closed mark (R433); `gone` the
pin handles that are freed and `lost` those of a departed lane, with their masters (R126); `expired` the transactions whose
deadline passed without a decision (R122); `atStart` the slates freed by an entry into PARK, with their transactions, whose
SLATE_DISCARDED waits for the next start (R100). -/
structure SlateBank where
  slates : List Slate := List.replicate 8 {}
  nextOrder : Nat := 0
  snap : Snap := {}
  pins : List Pin := []
  gone : List (Nat × Nat) := []
  lost : List (Nat × Nat) := []
  nextHandle : Nat := 0
  carried : List Carried := []
  stored : Store := []
  before : List (Nat × Store) := []
  txnOpen : List (List (Nat × Nat)) := []
  storedCarry : Nat := 0
  ceiling : Nat := 1024
  closed : Bool := true
  expired : List Nat := []
  atStart : List (Nat × Nat) := []
  deriving DecidableEq, Repr


/-! ## CAN channels (spec 10) -/

/-- A transmit buffer in use (R290): its index, its owner (a master, or 0xfe internal), frame, handle, tag, the order in
which it became eligible (none while it waits for the copy of cycle `cyc`), attempts, the mtime of the last attempt's
start, a latched cancel, and the gateway master it serves. -/
structure TxBuf where
  idx : Nat
  src : Nat
  frame : CanFrame
  handle : Nat
  tag : Nat
  oneShot : Bool
  el : Option Nat
  cyc : Nat
  attempts : Nat := 0
  sofAt : Nat := 0
  cancel : Bool := false
  gw : Option Nat := none
  deriving DecidableEq, Repr, Inhabited

/-- A high-priority buffer (R287): its sequence, the record of the latest frame, and whether it has been read. -/
structure HpBuf where
  seq : Nat := 0
  record : List Byte := []
  unread : Bool := false
  deriving DecidableEq, Repr, Inhabited

/-- A frame received after the last acknowledged copy: cycle, frame, record and the masters it was delivered to (R289,
R298). -/
structure CanSeen where
  cycle : Nat
  frame : CanFrame
  record : List Byte
  masters : List Nat
  deriving DecidableEq, Repr, Inhabited

/-- A CAN channel: buffers in use, the buffer in an attempt, held by the ownerless action, bit timing to be taken at the
next bus idle, high-priority buffers and the frames since the last acknowledged copy. -/
structure CanCh where
  bufs : List TxBuf := []
  attempt : Option Nat := none
  held : Bool := false
  retime : Bool := false
  nextHandle : Nat := 1
  nextEl : Nat := 0
  hp : List HpBuf := List.replicate 8 {}
  recent : List CanSeen := []
  deriving DecidableEq, Repr, Inhabited

/-- The six CAN channels. -/
structure CanBank where
  chs : List CanCh := List.replicate 6 {}
  deriving DecidableEq, Repr


/-! ## Camera ports and pixel pipeline (spec 05) -/

/-- One pixel of an object: row counted over the port, column from the region's left edge, and its three channels after
stage 4 with the background of its column. -/
structure ObjPixel where
  row : Nat
  col : Nat
  c0 : Nat
  c1 : Nat
  c2 : Nat
  bg : Nat
  deriving DecidableEq, Repr

/-- The stamps of a line (R137): its row on the port, mtime and tally position, with the estimated latency of the port at that
line and whether it was unverified (R56, R58). -/
structure LineStamp where
  row : Nat
  mtime : Nat
  tally : Nat
  lat : Nat × Bool
  deriving DecidableEq, Repr, Inhabited

/-- An open object of the pixel pipeline (R143): its pixels, the stamps of its rows, and its runs in the previous and in the
current line. -/
structure CamObj where
  pix : List ObjPixel
  stamps : List LineStamp
  prev : List (Nat × Nat)
  cur : List (Nat × Nat)
  deriving DecidableEq, Repr, Inhabited

/-- The statistics of a frame of a port while they accumulate and until they are kept (Table 5.7). `ready` says that the record
may become final (R153). -/
structure CamStats where
  port : Nat
  frame : Nat
  flags : Nat := 0
  mtime : Nat
  tally : Nat
  pipeCarry : Nat
  expCarry : Nat := 0
  exposure : Nat := 0
  gain : Nat := 0
  height : Nat
  lines : Nat := 0
  dropped : Nat := 0
  widthErrs : Nat := 0
  sum : Nat := 0
  count : Nat := 0
  lo : Nat := 65535
  hi : Nat := 0
  sat : Nat := 0
  dets : Nat := 0
  objDrops : Nat := 0
  hist : List Nat := List.replicate 32 0
  mean : Nat := 0
  ready : Bool := false
  deriving DecidableEq, Repr, Inhabited

/-- A detection (Table 5.4), positions and features raw q16.16; `roiX` is the left edge of the region of interest of its frame
(R169). -/
structure Detection where
  ctx : Nat
  flags : Nat
  cls : Nat
  frame : Nat
  mtime : Nat
  tally : Nat
  col : Int
  row : Int
  width : Nat
  height : Nat
  count : Nat
  feats : List Nat
  expCarry : Nat
  roiX : Nat := 0
  deriving DecidableEq, Repr, Inhabited

/-- A closed object waiting to be emitted (R143, R144): its detection but for the exposure, the stamp of its first line, its port,
the latency of its stamp and whether it was unverified. -/
structure ClosedObj where
  det : Detection
  first : LineStamp
  port : Nat
  lat : Nat × Bool
  deriving DecidableEq, Repr, Inhabited

/-- One exposure delivery of a context (R151): how it was delivered, the port, the CAN channel and identifier of its frame, its
target frame, carry number and values, and its confirmation: pending, confirmed or unconfirmed. -/
structure Delivery where
  mode : Nat
  port : Nat
  ch : Nat := 0
  id : Nat := 0
  target : Nat
  carry : Nat
  exposure : Nat
  gain : Nat
  confirmed : Option Bool
  deriving DecidableEq, Repr, Inhabited

/-- A buffer of a frame ring (R139): frame number, context, its stored lines as bytes, and whether it is in use or
was last taken by a grab. -/
structure FrameBuf where
  frame : Nat
  ctx : Nat
  lines : List (List Byte)
  inUse : Bool
  grab : Bool := false
  deriving DecidableEq, Repr, Inhabited

/-- A calibration table slot (R145): kind and entries, each entry a list of numbers. -/
structure CamTable where
  kind : Nat := 0
  entries : List (List Nat) := []
  deriving DecidableEq, Repr, Inhabited

/-- The open frame of a port (R133): number and owning context; the items and tables it takes at its start (R13, R150); its
start-of-frame stamps with the latency; lines seen; row of its first image line; whether it is dropped; the output of the
previous image line; its statistics in progress. -/
structure CamFrame where
  n : Nat
  ctx : Option Nat
  cfg : Store
  tables : List CamTable := []
  sof : LineStamp
  emb : Nat := 0
  img : Nat := 0
  dropped : Bool := false
  prevLine : List (Nat × Nat × Nat) := []
  stats : CamStats
  deriving DecidableEq, Repr, Inhabited

/-- A trigger pulse commanded for a port (R146, R149): its mtime, the frame it triggers, and the items in force at its instant with
their carry number. -/
structure TrigPulse where
  start : Nat
  frame : Nat
  carry : Nat
  cfg : Store
  deriving DecidableEq, Repr, Inhabited

/-- A camera port: PCLK present, the open frame, the frame closed and waiting for its following VSYNC, the objects of each context
that are open on the port, line-start times of the last 10 ms, the row counter, the frame ring, the last trigger mark, the pulses
whose frame has not opened, and the state of the window beneath STALE and BROKEN (R136). -/
structure CamPort where
  clock : Bool := false
  frame : Option CamFrame := none
  after : Option CamFrame := none
  opened : List (List CamObj) := List.replicate 8 []
  lineTimes : List Nat := []
  lastLine : Option Nat := none
  row : Nat := 0
  ring : List FrameBuf := []
  lastTrig : Option Nat := none
  trigs : List TrigPulse := []
  win : Nat := 0
  deriving DecidableEq, Repr, Inhabited

/-- A context of the pipeline (R140): closed objects to be emitted, the stamp of the latest line processed, the statistics
waiting to become final, the kept records and the exposure deliveries. -/
structure CamCtx where
  queue : List ClosedObj := []
  last : Option LineStamp := none
  waiting : List CamStats := []
  kept : List CamStats := []
  deliv : List Delivery := []
  deriving DecidableEq, Repr, Inhabited

/-- A pulse command of the lane for the isolated section: output, start (mtime), width in µs, the port and context and
target frame of a camera trigger. -/
structure PulseCmd where
  out : Nat
  start : Nat
  width : Nat
  port : Nat
  ctx : Option (Nat × Nat)
  deriving DecidableEq, Repr, Inhabited

/-- Camera ports, contexts and calibration tables; pulse commands that wait for an output frame; the mtimes of the detections
of the last 10 ms. -/
structure CamBank where
  ports : List CamPort := List.replicate 4 {}
  ctxs : List CamCtx := List.replicate 8 {}
  tables : List CamTable := List.replicate 16 {}
  pulses : List PulseCmd := []
  detTimes : List Nat := []
  deriving DecidableEq, Repr



/-! ## Tracking, alignment and fusion (spec 06) -/

/-- A sample in an alignment buffer (R165, R166): member code, order of arrival, event time, event tally (raw q48.16),
value (raw q16.16), whether it was taken with guard OK and unsaturated, the quality of a group's output, and the detection
of a view. -/
structure Sample where
  mem : Nat
  arr : Nat
  e : Int
  tally : Nat
  value : Nat
  ok : Bool
  quality : Nat := 0
  det : Option Detection := none
  deriving DecidableEq, Repr, Inhabited

/-- The alignment state of a member (R165, R167): aligned, the run of aligned samples while UNALIGNED, and the event time of
its latest sample. -/
structure Mem where
  aligned : Bool := false
  count : Nat := 0
  mark : Int := 0
  deriving DecidableEq, Repr, Inhabited

/-- The alignment of a consumer (R166): members by their code (a stream's number, 32 plus a group's number, a view's number),
horizon and buffer. -/
structure Align where
  mems : List Mem := List.replicate 64 {}
  horizon : Int := 0
  buf : List Sample := []
  deriving DecidableEq, Repr, Inhabited

/-- A stream's own state (R162, R164): arrival stamps of the last 10 ms, filtered value, the stamp of its latest sample, and the
state of the window beneath STALE. -/
structure Stream where
  recent : List Nat := []
  y : Option Int := none
  last : Option Nat := none
  win : Nat := 0
  deriving DecidableEq, Repr, Inhabited

/-- The items of classes 0x50 and 0x58 in use from a K on, with the carry number at that K (R189). -/
structure FuCfg where
  k : Nat
  carry : Nat
  items : Store
  deriving DecidableEq, Repr, Inhabited

/-- What a group does after a contradiction (R185): nothing, or hold and fallback since a window end. -/
inductive Contra where
  | agreed | since (t : Nat)
  deriving DecidableEq, Repr, Inhabited

/-- A fusion group (R183 to R187): the start of its open window in ns or units with the mtime of that start once the tally has reached it, the next
cell index, released samples, the last agreed value, the state of R185 with its run of agreeing windows, and the kept cells, each
with the cycle of its close (R190). -/
structure Group where
  start : Option (Nat × Option Nat) := none
  cell : Nat := 0
  rel : List Sample := []
  agreed : Option Nat := none
  contra : Contra := .agreed
  run : Nat := 0
  cells : List (Nat × Nat × List Byte) := []
  deriving DecidableEq, Repr, Inhabited

/-- A detection placed in the spatial frame (R169, R171). -/
structure Placed where
  d : Detection
  e : Int
  t : Nat
  u : Int
  w : Int
  area : Nat
  deriving DecidableEq, Repr, Inhabited

/-- A batch of a view (R174). -/
structure Batch where
  view : Nat
  seq : Nat
  dets : List Placed
  closedAt : Nat := 0
  deriving DecidableEq, Repr, Inhabited

/-- A track (R171, R172, Table 6.6). `s` and `du` are exact fractions in µm per unit. `seen` holds each view's placed
detection. -/
structure Track where
  id : Nat
  st : Nat := 0
  birthView : Nat
  birth : Placed
  t0 : Nat
  u0 : Int
  w0 : Int
  s : Int × Nat
  du : Int × Nat
  latest : Placed
  seen : List (Option Placed)
  votes : Nat := 0
  decision : Nat := 0
  flags : Nat := 0
  tbead : Nat := 0
  chans : List Nat := []
  carry : Nat := 0
  deriving DecidableEq, Repr, Inhabited

/-- A solve in progress (R177, R178): its batch, the candidate tracks in row order, the cost matrix, and the miss and birth cost at
its start (R189). -/
structure Solve where
  batch : Batch
  rows : List Nat
  cost : List (List Nat)
  miss : Nat
  birth : Nat
  truncated : Bool
  deriving DecidableEq, Repr, Inhabited

/-- A fusion table slot (Table 6.2): knot spacings, numbers of knots, the line's w, knots (u, w), and ejector map entries
(u_lo, u_hi, bank, channel). -/
structure FuTable where
  kind : Nat := 0
  kx : Nat := 1
  ky : Nat := 1
  nx : Nat := 0
  ny : Nat := 0
  knots : List (Int × Int) := []
  map : List (Int × Int × Nat × Nat) := []
  deriving DecidableEq, Repr, Inhabited

/-- Tracker, fusion groups, streams and fusion tables. `batches` are the open batches by view, `closed` the closed batches
whose solve has not started, `solve` the solve in progress, `records` the latest solve record of each view, `solves` the
mtimes of the solves of the last second, `history` the track history. -/
structure FuBank where
  tracker : Align := {}
  groups : List Align := List.replicate 32 {}
  gst : List Group := List.replicate 32 {}
  streams : List Stream := List.replicate 32 {}
  cfgs : List FuCfg := []
  arr : Nat := 0
  tables : List FuTable := List.replicate 8 {}
  tracks : List Track := []
  history : List Track := []
  batches : List Batch := []
  seqs : List Nat := List.replicate 4 0
  closed : List Batch := []
  solve : Option Solve := none
  records : List (Option (List Byte)) := List.replicate 4 none
  solves : List Nat := []
  deriving DecidableEq, Repr


/-! ## Rod engines, loops, beams and cascades (spec 07) -/

/-- Why a loop's next run initialises bumplessly (R212): after enable, after its destination follows again, or after
FAILSAFE ended by ROD_RESET or a carry. -/
inductive RodInit where
  | enable | dest | failsafe
  deriving DecidableEq, Repr, Inhabited

/-- The values of a loop whose change is bumpless (R212), raw. -/
structure Gains where
  kp : Int
  ti : Int
  weight : Int
  kff : Int
  bias : Int
  deriving DecidableEq, Repr, Inhabited

/-- A run of a loop: the mtime, tally and carry number of its release, and its execution time in ns (R199, R218). -/
structure RodRun where
  at_ : Nat
  tally : Nat
  carry : Nat
  ns : Nat
  deriving DecidableEq, Repr, Inhabited

/-- A run that an engine executes (R199): its slot, the ns still to do, none for a run that its deadline will end, and whether it
has begun. -/
structure RodJob where
  slot : Nat
  left : Option Nat
  begun : Bool := false
  deriving DecidableEq, Repr, Inhabited

/-- A loop beside its items (R202, R204, R209 to R212): set-point and filtered derivative; p and rest of the latest run; the
output before the latest run with the instant of the latest output; the mtime of the latest release; the mtime of the release of
the latest completed run, with its tally, carry number and whether that run completed in RUN; consecutive invalid, abandoned and
good runs; a pending bumpless initialisation and the gains before a change; whether the destination did not follow; u_fs with the
channel held safe; the next release unit of a tally-clocked loop; a run that does not complete, until its deadline; a pending
end of FAILSAFE with the K before and its cause; the clamp of the latest run (1 at rod_out_max, -1 at rod_out_min). -/
structure Rod where
  sp : Int := 0
  d : Int := 0
  p : Int := 0
  rest : Int := 0
  prev : Int := 0
  outAt : Option Nat := none
  relAt : Option Nat := none
  runAt : Option Nat := none
  tally : Nat := 0
  carry : Nat := 0
  okRun : Bool := false
  inval : Nat := 0
  overs : Nat := 0
  good : Nat := 0
  init : Option RodInit := none
  old : Option Gains := none
  nofollow : Bool := false
  fs : Int := 0
  fsChan : Option Nat := none
  npos : Nat := 0
  running : Option RodRun := none
  ending : Option (Nat × Nat) := none
  sat : Int := 0
  deriving DecidableEq, Repr, Inhabited

/-- A beam beside its items (R205, R218): the output before the latest evaluation with its instant, the record of that
evaluation, and winner changes since the last BEAM_WINNER with its mtime. -/
structure Beam where
  prev : Int := 0
  at_ : Option Nat := none
  carry : Nat := 0
  members : Nat := 0
  limit : Nat := 0
  outs : List Nat := []
  chg : Nat := 0
  evAt : Option Nat := none
  deriving DecidableEq, Repr, Inhabited

/-- The trace buffer (R218): its master, loop, how many runs it captures, and the runs captured. -/
structure RodTrace where
  master : Nat
  loop : Nat
  want : Nat
  runs : List (List Byte) := []
  deriving DecidableEq, Repr

/-- Loops, beams, the trace buffer, and per engine the runs of the last 10 ms with their execution times. -/
structure RodBank where
  rods : List Rod := List.replicate 128 {}
  beams : List Beam := List.replicate 16 {}
  trace : Option RodTrace := none
  load : List (List (Nat × Nat)) := List.replicate 8 []
  jobs : List (List RodJob) := List.replicate 8 []
  jobsAt : List Nat := List.replicate 8 0
  deriving DecidableEq, Repr


/-! ## Valve and solenoid drive (spec 08) -/

/-- A profile running on a channel (R232): its bead, start in the die's mtime and in ns since power-on,
carry number, lateness [ns] and sag tier at the start, the
channel and profile values latched there, and the boost's result. Currents and gains are raw q16.16, times in ns; `boostMax`
is the boost timeout at the tier of the start. -/
structure ProfRun where
  bead : Bead
  start : Nat
  begun : Nat
  carry : Nat
  late : Nat
  tier : Nat
  peak : Nat
  hold : Nat
  boostMax : Nat
  dwell : Nat
  holdMin : Nat
  holdMax : Nat
  slow : Bool
  kp : Nat
  ki : Nat
  boost : Nat := 0
  timedOut : Bool := false
  cut : Bool := false
  deriving DecidableEq, Repr, Inhabited

/-- Where a channel stands in its safe state (R239, R434): its current decaying through the quench path, de-energised, finishing a
boost, waiting for the boost gate, in its boost, its peak or its hold. -/
inductive SafePhase where
  | none | quench | off | finish | wait | boost | peak | hold
  deriving DecidableEq, Repr, Inhabited

/-- The values that the latest boost of a channel uses, latched at its start (R224, R232, R434): the peak current, the boost timeout
and the dwell in ns, and the gains. -/
structure BoostVals where
  peak : Nat := 0
  limit : Nat := 0
  dwell : Nat := 0
  kp : Nat := 0
  ki : Nat := 0
  deriving DecidableEq, Repr, Inhabited

/-- A channel (R223, R225, R237, R239, R243, R244, R248): the profile it runs, the instant of its present phase, of the start of
HOLD and of the latest measurement of its resistance, the values of its latest boost, its safe phase, whether a loop in FAILSAFE
holds it in its safe state, consecutive trips, current-loop duty and integral, the set-point received from a loop or beam, the part
of a slew step not yet taken [10^-6 of the last place], the run of parallel-wire evidence with its partner and the run of
twice-set-point periods, and a measurement in progress. -/
structure Chan where
  run : Option ProfRun := none
  at_ : Nat := 0
  holdAt : Nat := 0
  ohmAt : Nat := 0
  vals : BoostVals := {}
  frac : Nat := 0
  safe : SafePhase := .none
  rodSafe : Bool := false
  trips : Nat := 0
  duty : Nat := 0
  integ : Int := 0
  sp : Option Nat := none
  par : Nat × Nat := (255, 0)
  overs : Nat := 0
  measuring : Bool := false
  deriving DecidableEq, Repr, Inhabited

/-- A queued bead (R230, R231): the instant it became due, whether that is older than the lateness history, and the reason
of its last deferral (3 conflict, 4 sag, 5 boost low). -/
structure QBead where
  bead : Bead
  due : Option Nat := none
  beyond : Bool := false
  reason : Option Nat := none
  deriving DecidableEq, Repr, Inhabited

/-- A bank (R221, R226, R230, R235, R240, R245, R247): queue, keys of the last started beads, bead log, the channel that holds the
boost gate, a recovery in progress (its start, and whether the die's rails are awaited together), whether it returns at the
next K, since when the rail is not ready, whether it is held as disabled in IDLE, and the rail target of the boost converter [V], 0
while the converter is stopped. -/
structure VBank where
  queue : List QBead := []
  started : List (Bool × Nat × Nat) := []
  log : List (List Byte) := []
  gate : Option Nat := none
  wait : Option (Nat × Bool) := none
  go : Bool := false
  notReady : Option Nat := none
  idle : Bool := false
  target : Nat := 0
  deriving DecidableEq, Repr, Inhabited

/-- The configuration of a drive die: the items of classes 0x60, 0x68 and 0x6c released at its own follower and the carry
number of the latest release (Table 4.7 step 4). -/
structure Die where
  cfg : Store := []
  carry : Nat := 0
  deriving DecidableEq, Repr, Inhabited

/-- The entries of a committed or prepared slate staged for a drive die, and whether the cycle-start message has brought them with
the carry instant to the die (Table 4.7 steps 2 and 4). -/
structure DieStage where
  loaded : Bool := false
  slate : Nat
  die : Nat
  order : Nat
  basis : Nat
  instant : Nat
  number : Option Nat
  entries : List (Nat × Nat)
  deriving DecidableEq, Repr, Inhabited

/-- Valve banks. `outbound` holds the beads that the active lane has written and that have not yet arrived at a drive die,
`written` every bead of the tracker that no acknowledged state copy holds yet, with its cycle (R182), `waiting` the beads
of VALVE_BEAD whose response is not yet released, with its cycle (R251), `setOut` the set-points on their way to channels
(R203), and `clears` the accepted VALVE_CLEARs: bank, channel or 0xff, and the K before. -/
structure ValveBank where
  banks : List VBank := List.replicate 16 {}
  chans : List Chan := List.replicate 128 {}
  dies : List Die := List.replicate 4 {}
  stage : List DieStage := []
  outbound : List Bead := []
  written : List (Nat × Bead) := []
  waiting : List (Nat × Bead) := []
  setOut : List (Nat × Nat) := []
  clears : List (Nat × Nat × Nat) := []
  deriving DecidableEq, Repr


/-! ## Isolated digital, analog and loss inputs (spec 09) -/

/-- A digital input on a lane (R256, R260, R261): the level after the fixed filter, the level that the latest accepted edge has set,
an edge that waits for di_filter_us (stamp and level), the stamps of the edges accepted in the last 100 ms, the latest, the
wire-break bit, and the state of the range window, which holds beneath STALE and BROKEN. -/
structure Di where
  raw : Bool := false
  level : Bool := false
  win : Nat := 0
  pend : Option (Nat × Bool) := none
  times : List Nat := []
  last : Option Nat := none
  brk : Bool := false
  deriving DecidableEq, Repr, Inhabited

/-- An analog input (R256, R263, R264): the stamp of the latest sample, the mode it was taken in, the class-specific fault of that
sample, since when its shunt is open (ns since power-on), and the state of the range window. -/
structure Ai where
  last : Option Nat := none
  mode : Nat := 0
  bad : Bool := false
  win : Nat := 0
  shunt : Option Nat := none
  deriving DecidableEq, Repr, Inhabited

/-- A loss histogram window in progress (R268). -/
structure LsWin where
  start : Nat
  carry : Nat
  hw : Nat := 0
  n : Nat := 0
  unlisted : Bool := false
  notOk : Bool := false
  bins : List Nat := List.replicate 32 0
  deriving DecidableEq, Repr, Inhabited

/-- A loss input (R256, R265 to R268): the last hardware count, the state of the range window, the stamps of the samples of the last
100 ms, the latest, failed test, the window in progress and the last complete record; at the section, its hardware count and last
detection (ns since power-on). -/
structure Ls where
  hw : Nat := 0
  range : Nat := 0
  times : List Nat := []
  last : Option Nat := none
  bad : Bool := false
  win : Option LsWin := none
  done : Option (List Byte) := none
  count : Nat := 0
  hit : Option Nat := none
  deriving DecidableEq, Repr, Inhabited

/-- A digital output (R269, R271): consecutive trips with the instant of the latest and of the latest retry (ns since
power-on), RETRY_WAIT, LATCHED, readback and low current as last received, pulses pending at the section (start counter,
width) and the end of a running pulse. -/
structure Do where
  trips : Nat := 0
  tripAt : Nat := 0
  retryAt : Nat := 0
  retry : Bool := false
  latched : Bool := false
  readback : Bool := false
  low : Bool := false
  pend : List (Nat × Nat) := []
  busy : Option Nat := none
  deriving DecidableEq, Repr, Inhabited

/-- A lane's end of its isolation link (R253 to R255): the arrival of the last valid input frame (ns since power-on), its
sequence, the section counter with the mtime it stands for, how many of the section's frames had been sent when the latest one
reached the lane, the sequence of the next output frame, the instant of the latest one (ns since power-on), and the frames sent at the
latest tick. -/
structure IsoLane where
  got : Nat := 0
  outAt : Option Nat := none
  lastRx : Option Nat := none
  inSeq : Option Nat := none
  conv : Option (Nat × Int) := none
  outSeq : Nat := 0
  frames : List (List Byte) := []
  deriving DecidableEq, Repr, Inhabited

/-- A settings generation arriving at the section (R275): its number, the values received and the sequence of the last frame
that carried it. -/
structure GenPart where
  gen : Nat
  vals : List Nat
  seq : Nat
  deriving DecidableEq, Repr

/-- An impact detected at the section (R265): its channel, its amplitude, and its instant (ns since power-on). -/
structure Impact where
  ch : Nat
  amplitude : Nat
  at_ : Nat
  deriving DecidableEq, Repr, Inhabited

/-- The isolated section (R253 to R255, R265, R271 to R275): whether it has taken a kind 2 frame, commanded levels and force-safe bits,
opened outputs, the output timeout, the instant of the last valid kind 2 frame, the settings in use with the generation
on its way, outputs off since FS+ was low, whether FS+ is low, refusals since the last input frame, until when impact
detection is blanked, whether the generation in use is new since the last input frame, the impacts since then, how many input frames
have been sent, the latest with its instant (ns since power-on), and the output frames discarded. -/
structure Section where
  fresh : Bool := false
  impacts : List Impact := []
  made : Nat := 0
  frame : List Byte := []
  frameAt : Nat := 0
  errors : Nat := 0
  have_ : Bool := false
  levels : Nat := 0
  force : Nat := 0
  opened : Nat := 0
  timedout : Bool := false
  lastFrame : Nat := 0
  words : List Nat := List.replicate 21 0
  gen : Nat := 0
  part : Option GenPart := none
  fsOff : Bool := false
  fsLow : Bool := false
  refused : Nat := 0
  blank : Nat := 0
  deriving DecidableEq, Repr

/-- A pulse entry sent in an output frame: the command, the sequence of the frame, and what the section did with it: not seen,
accepted or refused (R271). -/
structure SentPulse where
  cmd : PulseCmd
  seq : Nat
  seen : Option Bool := none
  deriving DecidableEq, Repr, Inhabited

/-- What an output frame carries beside its sequence (Table 9.2, R254). -/
structure OutContent where
  cycle : Nat := 0
  levels : Nat := 0
  force : Nat := 0
  clear : Nat := 0
  pulses : List PulseCmd := []
  gen : Nat := 0
  words : List Nat := []
  slice : Nat := 4
  deriving DecidableEq, Repr, Inhabited

/-- Field I/O. On the active lane: the force-safe bits by cause (ownerless action, sag tier 3, orderly park), clear bits to be
sent, what an output frame would have carried before the last K, the settings generation with the next slice to send and
the input frames since its last slice, the analog modes in use, pulse entries sent and not yet judged by an input frame,
accepted DO_CLEARs with the K before, and the trip bits last received. -/
structure IoBank where
  dis : List Di := List.replicate 48 {}
  ais : List Ai := List.replicate 16 {}
  lss : List Ls := List.replicate 8 {}
  dos : List Do := List.replicate 16 {}
  links : List IsoLane := List.replicate 2 {}
  sec : Section := {}
  forceOwner : Nat := 0
  forceTier : Bool := false
  forcePark : Bool := false
  clear : Nat := 0
  before : OutContent := {}
  gen : Nat := 0
  words : List Nat := []
  slice : Nat := 4
  awaited : Nat := 0
  modes : List Nat := List.replicate 16 0
  sent : List SentPulse := []
  clears : List (Nat × Nat) := []
  tripBits : Nat := 0
  deriving DecidableEq, Repr


/-! ## Pending changes of the operating state (spec 13) -/

/-- A requested change that takes effect at the first K after its response is released (R362): 0 RUN, 1 IDLE, 2 PARK, 3 warm
module reset, 4 recovery boot into ROM recovery mode, 5 the warm module reset of an activation, 6 the end of ROM recovery mode; the cycle of its execution,
and the number of the K at or before the release. -/
structure PendingState where
  what : Nat
  cycle : Nat
  released : Option Nat := none
  deriving DecidableEq, Repr



/-! ## Wavilo ring and link test (spec 11) -/

/-- A node known on the ring (R308, R309): its address, the sequences taken from it, newest first, and the mtimes of its latest
STATUS on each port. -/
structure RingNode where
  node : Nat
  seqs : List Nat := []
  east : Option Nat := none
  west : Option Nat := none
  deriving DecidableEq, Repr, Inhabited

/-- A fault injection on a link's transmitter (R319): action, kind, depth, period, count, bit offset, its end, and the frames
of the selected kind it has seen. -/
structure Inject where
  action : Nat
  kind : Nat
  depth : Nat
  every : Nat
  count : Nat
  bit_ : Nat
  until_ : Nat
  seen : Nat := 0
  deriving DecidableEq, Repr, Inhabited

/-- The ring: known nodes, the end of the join wait, per ring of each master (4·master + code) the index last published and
the mtime of that or of the latest consumer index, whether every producer index is to be announced, the frames put on the
ports since the last K (port, bytes), and per link the end of a test, an injection, and the frames held by a reorder with the
number of frames still to pass. -/
structure RingBank where
  nodes : List RingNode := []
  join : Option Nat := none
  pub : List Nat := List.replicate 64 0
  idxAt : List Nat := List.replicate 64 0
  announce : Bool := false
  sent : List (Nat × List Byte) := []
  tests : List (Option Nat) := List.replicate 6 none
  injects : List (Option Inject) := List.replicate 6 none
  holding : List (List (Nat × List Byte)) := List.replicate 6 []
  deriving DecidableEq, Repr



/-! ## History recorder and ageing (spec 15) -/

/-- The window in progress of a recorder channel (R387, R388): its start, the carry number and epoch at the start, whether
it is partial, and what it has gathered (values in q16.16). -/
structure RecWin where
  start : Nat
  carry : Nat
  part : Bool
  n : Nat := 0
  below : Nat := 0
  above : Nat := 0
  bins : List Nat := List.replicate 32 0
  lo : Option (Int × Nat) := none
  hi : Option (Int × Nat) := none
  sum : Int := 0
  deriving DecidableEq, Repr, Inhabited

/-- A closed record in the record queue (R385, R391): everything of its header but the sequence, its body, and the
cycle in which it closed. -/
structure Record where
  kind : Nat
  epoch : Nat
  carry : Nat
  start : Nat
  fin : Nat
  calendar : Nat
  lane : Nat
  flags : Nat
  chan : Nat
  body : List Byte
  cycle : Nat
  deriving DecidableEq, Repr, Inhabited

/-- A record as the store holds it: its sequence and its bytes. -/
structure Stored where
  seq : Nat
  bytes : List Byte
  deriving DecidableEq, Repr, Inhabited

/-- The samples of an ageing monitor's instance since its last record (R394). -/
structure AgeSum where
  mon : Nat
  inst : Nat
  latest : Nat
  lo : Nat
  hi : Nat
  n : Nat
  deriving DecidableEq, Repr, Inhabited

/-- The history recorder and the ageing monitors: windows, those of a standby lane that joined within a window and whether one has
joined since the last K (R392), record queue, the regions of the store, sums of the monitors, canary minima since start, last
warnings, the mtime of the last trend, the plan record in force, the newest one stored since, and whether a plan waits for the
next start (R398). -/
structure HistBank where
  wins : List (Option RecWin) := List.replicate 32 none
  late : List (Option RecWin) := List.replicate 32 none
  joined : Bool := false
  queue : List Record := []
  hist : List Stored := []
  age : List Stored := []
  sums : List AgeSum := []
  canary : List (Option Nat) := [none, none]
  warned : List (Nat × Nat × Nat) := []
  lastTrend : Nat := 0
  plan : Option (List Byte) := none
  nextPlan : Option (List Byte) := none
  newPlan : Bool := false
  deriving DecidableEq, Repr


/-! ## Firmware banks and update (spec 14) -/

/-- A manifest (Table 14.2): its bytes, signer, security version, build, hw_revision range and flags. `factory` marks the one
of the image delivered with the module. -/
structure Man where
  bytes : List Byte := []
  signer : Nat := 0
  sv : Nat := 0
  build : Nat := 0
  hwLo : Nat := 0
  hwHi : Nat := 0xffff
  flags : Nat := 0
  factory : Bool := false
  deriving DecidableEq, Repr, Inhabited

/-- A component (Table 14.3): kind, version, size, level provided, copy levels accepted, requirements (kind, lowest and highest
level), SHA-384, the manifest that covers it, and its bytes. -/
structure Comp where
  kind : Nat
  version : Nat := 0x01000000
  size : Nat := 0
  level : Nat := 1
  copyLo : Nat := 0
  copyHi : Nat := 0
  reqs : List (Nat × Nat × Nat) := []
  hash : Nat := 0
  man : Man := { build := 1, factory := true }
  data : List Byte := []
  deriving DecidableEq, Repr, Inhabited

/-- A bank of an image flash (R365): state (0 EMPTY, 1 INVALID, 2 WRITTEN, 3 TRIAL, 4 CONFIRMED), bank sequence, boot-once,
components. -/
structure FwBank where
  st : Nat := 0
  seq : Nat := 0
  once : Bool := false
  comps : List Comp := []
  deriving DecidableEq, Repr, Inhabited

/-- The components of the delivered image. Log entry: 20 DESIGN CHOICE. -/
def factoryComps : List Comp :=
  [{ kind := 1 }, { kind := 2, copyLo := 1, copyHi := 1 }, { kind := 3 }, { kind := 4 }, { kind := 5 }, { kind := 6 }]

/-- The image flash of a lane, and the bank it runs. Log entry: 20 DESIGN CHOICE. -/
structure LaneFw where
  banks : List FwBank := [{ st := 4, seq := 1, comps := factoryComps }, {}]
  boot : Nat := 0
  deriving DecidableEq, Repr, Inhabited

/-- An update session (R369 to R379): identifier, mode, manifest with its components, blocks received (component, block,
bytes), components verified, per lane whether its bank is written and read back, the lane that alone is written (R377), the
lane of the new image, the cycle of UPD_ACTIVATE while its response is awaited, the end of the confirmation window, whether
UPD_CONFIRM has come, reckoner_restarts at step 4 of Table 14.5, the instant of the last UPD_BLOCKS (both ns since power-on),
and whether the new lane is to hand back. -/
structure UpdSession where
  id : Nat
  mode : Nat
  man : Man
  comps : List Comp
  blocks : List (Nat × Nat × List Byte) := []
  verified : List Nat := []
  written : List Bool := [false, false]
  lag : Option Nat := none
  lane : Nat := 0
  start : Option Nat := none
  until_ : Nat := 0
  confirm : Bool := false
  restarts : Nat := 0
  lastBlk : Nat := 0
  back : Bool := false
  deriving DecidableEq, Repr

/-- Image flash of both lanes, the components that the drive dies and the isolated section run (kinds 5 and 6), the session,
a session ended by a module start whose UPD_END is still to be sent (identifier, outcome, lane), RCVY held low at the start,
the instant of the latest recovery boot under R336 (ns since power-on), whether the start that is due is that of a mode 1
activation, and whether it selects ROM recovery mode. -/
structure UpdBank where
  lanes : List LaneFw := [{}, {}]
  shared : List Comp := [{ kind := 5 }, { kind := 6 }]
  ses : Option UpdSession := none
  ended : Option (Nat × Nat × Nat) := none
  rcvy : Bool := false
  lastRecovery : Option Nat := none
  trialReset : Bool := false
  forced : Bool := false
  deriving DecidableEq, Repr



/-! ## Lanes (spec 12) -/

/-- What commands of the mailbox change beside items, mailboxes, slates and CAN buffers, as it stood when a copy was taken, so that
a command answered LANE_CHANGED has had no effect (R82): the calendar, latency monitors, loops, camera and fusion tables, panel
pages and requests, the stored records, accepted clears and measurements, the force-safe bits of the ownerless action, link tests
and injections, and the update session. Log entry: 135 DEDUCED. -/
structure CmdState where
  calBase : Nat
  calAt : Nat
  lat : List LatMon
  rods : List Rod
  camTables : List CamTable
  fuTables : List FuTable
  pages : List (List Byte)
  want : Bool
  clear : Bool
  hist : List Stored
  vClears : List (Nat × Nat × Nat)
  doClears : List (Nat × Nat)
  coils : List Bool
  forceOwner : Nat
  tests : List (Option Nat)
  injects : List (Option Inject)
  ses : Option UpdSession
  deriving DecidableEq, Repr

/-- The records of a cycle's copy that the standby lane does not compute itself (Table 12.3), as they stood at the K that
ended the cycle: items, mailboxes and ownership, slates, CAN buffers, entries staged in the drive dies, a pending state
change or reset, and the further effects of commands. Log entries: 14 DEDUCED, 169 DESIGN CHOICE. -/
structure Copy where
  cycle : Nat
  items : Store
  mail : Mail
  sb : SlateBank
  can : CanBank
  stage : List DieStage
  pend : Option PendingState
  cmds : CmdState
  deriving DecidableEq, Repr

/-- The rings of a tenant partition on the lane that is not active (R70): the producer indices that its doorbells have published,
the index words as it has written them, and the frames that it has placed. -/
structure PartRing where
  cmdProd : Nat := 0
  blkProd : Nat := 0
  cmdWord : Nat := 0
  blkWord : Nat := 0
  cmds : List Frame := []
  blks : List Frame := []
  deriving DecidableEq, Repr, Inhabited

/-- A queued bead taken out by BEAD_CANCEL in a cycle whose copy is not yet acknowledged (R82): the cycle, the bank, the bead. -/
structure Cancelled where
  cycle : Nat
  bank : Nat
  bead : QBead
  deriving DecidableEq, Repr

/-- The latch is HOLDING after a departure or a yield (R325, R335): the lane, its cause and detection time, the instant (ns
since power-on), whether the quiet time has passed, whether it yielded, and whether the handover bound has passed. -/
structure Gap where
  lane : Nat
  cause : Nat
  detect : Nat
  at_ : Nat
  quiet : Bool := false
  yielded : Bool := false
  late : Bool := false
  deriving DecidableEq, Repr

/-- A planned switch (Table 12.5): target lane, initiator (0 LANE_SWITCH, 1 firmware activation), the cycle in which it was
executed, and the number of K_s once it has passed. -/
structure Switch where
  target : Nat
  initiator : Nat
  cycle : Nat
  ks : Option Nat := none
  deriving DecidableEq, Repr

/-- A change of the active lane whose step 7 of Table 12.4 is due at the next K: from, to, cause, detection and gap in ns,
whether it was a planned switch, and the last copied cycle. -/
structure Takeover where
  src : Nat
  dst : Nat
  cause : Nat
  detect : Nat
  gap : Nat
  planned : Bool
  copied : Nat
  deriving DecidableEq, Repr

/-- The lanes and the output arbitration section: the lane the role latch names (R29) and whether it is ACCEPTING (R324), the
marks (1 departed, 2 yielded), whether mailbox frames are consumed (R338), the give-up causes that monitors have found
(R327), per lane the instant its start self-test passed, the instant its restart is due, the instants of its restarts in
the window (all ns since power-on) and whether its full sync is done, consecutive failed copies, divergence found in this
cycle ([0] ingress, [1] tally, [2] state), the copy on its way and the last one acknowledged, the gap and the planned
switch in progress, a change of the active lane that the next K completes, the copy budget used in this cycle, and the
carries released since the last acknowledged copy (cycle, slate, entries), and per lane the items of its last restart (Apply
"at restart") and whether it has booted since; the rings of the tenant partitions on the lane that is not active, the beads
cancelled since the last acknowledged copy, whether an injection has altered the copy on its way, and per lane whether it yielded
and has not restarted since. Log entry: 169 DESIGN CHOICE. -/
structure LaneBank where
  latch : Nat := 0
  accepting : Bool := false
  marks : List Nat := [0, 0]
  consuming : Bool := false
  found : List (Nat × Nat) := []
  passed : List (Option Nat) := [none, none]
  due : List (Option Nat) := [none, none]
  starts : List (List Nat) := [[], []]
  synced : List Bool := [false, false]
  fails : Nat := 0
  div : Nat := 0
  flight : Option Copy := none
  copied : Option Copy := none
  gap : Option Gap := none
  sw : Option Switch := none
  takeover : Option Takeover := none
  used : Nat := 0
  carriedSince : List (Nat × Nat × List (Nat × Nat)) := []
  restartCfg : List Store := [[], []]
  booted : List Bool := [false, false]
  parts : List PartRing := List.replicate 4 {}
  cancelled : List Cancelled := []
  spoiled : Bool := false
  yielded : List Bool := [false, false]
  deriving DecidableEq, Repr



/-! ## Power and operating states (spec 13) -/

/-- The holdup test of an orderly park (Table 15.6 step 4): from and to, in ns since power-on, and the sag tier at its start once that
tier has changed since. -/
structure HoldTest where
  from_ : Nat
  to_ : Nat
  tier : Option Nat := none
  deriving DecidableEq, Repr, Inhabited

/-- The power stage and the always-on domain. MAIN+ and KA+ as measured (q16.16 V). The holdup decision timer: what it has
counted, since when it runs, and since when MAIN+ has stood outside tier 3 (ns since power-on); MAIN+ above the operating
maximum; KA+ lost; a pending change; MAIN+ stood below the start threshold since the entry into PARK; the wake that waits
for MAIN+ with its instant; a wake latched in an orderly park; the instant of the entry into PARK and the calendar time
there; the kind of start that is due with its wake source; whether the always-on domain has lost its supply; the state
change that the first K after a start completes (its cause); what the re-plan of the orderly park in progress finds, and its holdup
test; and whether step 2 of the power-fail shut-down in progress is complete (Table 13.4). -/
structure PowerBank where
  main : Nat := 35 * 65536
  ka : Nat := 0
  counted : Nat := 0
  running : Option Nat := none
  outside : Option Nat := none
  overs : Bool := false
  kaLost : Bool := true
  pend : Option PendingState := none
  below : Bool := false
  wake : Option (Nat × Nat) := none
  latched : Option Nat := none
  parkAt : Nat := 0
  parkCal : Nat := 0
  startKind : Nat := 0
  wakeSrc : Nat := 1
  lost : Bool := true
  startK : Option Nat := none
  replan : Option Replan := none
  test : Option HoldTest := none
  stepTwo : Bool := false
  deriving DecidableEq, Repr



/-! ## Status panel (spec 16) -/

/-- A panel update in progress (R405 to R409): target page and its image, clearing, the levels before it where they are known,
latched band, frames started and frames in all, start (mtime), and whether it is suspect. -/
structure PanelUpd where
  target : Nat
  image : List Byte
  clearing : Bool
  prev : Option (List Byte)
  band : Nat
  frame : Nat := 0
  total : Nat
  start : Nat
  suspect : Bool := false
  deriving DecidableEq, Repr

/-- The panel: the stored pages, the image on the glass where it is known, the in-progress record (target page, clearing,
panel_shown), a request for panel_page, one for a clearing update, the target of a clearing update that must come first, the
request of the final update of an orderly park, updates since the last clearing one, the update in progress, the mtime of
the last update end, whether a temperature has been read since the start, and the edge loop as the start found it (q16.16 Ω). -/
structure PanelBank where
  pages : List (List Byte) := List.replicate 16 []
  glass : Option (List Byte) := none
  rec_ : Option (Nat × Bool × Nat) := none
  want : Bool := false
  clear : Bool := false
  first : Option Nat := none
  final : Bool := false
  since : Nat := 0
  upd : Option PanelUpd := none
  lastEnd : Nat := 0
  read : Bool := false
  bootOhms : Nat := 0
  deriving DecidableEq, Repr



/-! ## The whole state -/

/-- What the module as a whole is doing (R351, Table 13.4 to 13.8): powered off, in PARK, starting (before the start
carry), serving, in the power-fail shut-down, in the orderly park, in ROM recovery mode. -/
inductive Phase where
  | off | park | starting | up | shuttingDown | parking | recovery
  deriving DecidableEq, Repr

/-- The state of the block. `pending` is the queue of waiting commands, first in first out; `free` counts the free values
used (log entry 1; the model's own field); `variant` is the fused ordering variant, 0 HV and 1 SL (R1). `cfgK` holds
the items in use since the last K (Apply "next cycle"), `cfgPark` and `cfgRestart` those since the last park and
restart (R12). -/
structure State where
  pending : List Instr := []
  clk : Clock := {}
  free : Nat := 0
  variant : Nat := 0
  phase : Phase := .starting
  items : Store := []
  cfgK : Store := []
  cfgPark : Store := []
  cfgRestart : Store := []
  time : TimeState := {}
  mail : Mail := {}
  sb : SlateBank := {}
  lanes : LaneBank := {}
  cam : CamBank := {}
  can : CanBank := {}
  hist : HistBank := {}
  fus : FuBank := {}
  valve : ValveBank := {}
  rods : RodBank := {}
  io : IoBank := {}
  ring : RingBank := {}
  power : PowerBank := {}
  fw : UpdBank := {}
  panel : PanelBank := {}
  deriving DecidableEq, Repr

/-- The module at the start trigger of a cold start (R357): every item at its default, nothing served yet, every buffer,
queue and ring empty. Log entries: 1 DESIGN CHOICE, 2 DESIGN CHOICE, 11 DESIGN CHOICE, 20 DESIGN CHOICE. -/
def State.reset : State := {}

end Sys2Proof.Machine
end

