-- ==== Sys2Proof/Machine/Operands.lean ====
section
/-! DEFINITION. Operand forms: byte order, bit fields, signed numbers, check values and the mailbox frame header. -/

namespace Sys2Proof.Machine

/-- The little-endian number in a byte string (R9). -/
def leNat : List Byte → Nat
  | [] => 0
  | b :: r => b.toNat + 256 * leNat r

/-- `n` bytes of a number, little-endian (R9). -/
def toLE : Nat → Nat → List Byte
  | 0, _ => []
  | n + 1, v => BitVec.ofNat 8 v :: toLE n (v / 256)

/-- The little-endian number of `n` bytes at offset `o` of a payload. -/
def leAt (p : List Byte) (o n : Nat) : Nat := leNat ((p.drop o).take n)

/-- One byte of a payload. -/
def u8At (p : List Byte) (o : Nat) : Nat := leAt p o 1

/-- One u16 of a payload. -/
def u16At (p : List Byte) (o : Nat) : Nat := leAt p o 2

/-- One u32 of a payload. -/
def u32At (p : List Byte) (o : Nat) : Nat := leAt p o 4

/-- One u64 of a payload. -/
def u64At (p : List Byte) (o : Nat) : Nat := leAt p o 8

/-- The big-endian number in a byte string. -/
def beNat (l : List Byte) : Nat := leNat l.reverse

/-- Bits `hi` down to `lo` of a number. -/
def bitsOf (v hi lo : Nat) : Nat := v / 2 ^ lo % 2 ^ (hi + 1 - lo)

/-- Bit `i` of a number. -/
def bit (v i : Nat) : Bool := v.testBit i

/-- Two's complement of a signed number in `w` bits. -/
def twos (w : Nat) (i : Int) : Nat := (i % (2 ^ w : Nat)).toNat

/-- A raw value of `w` bits read as a signed number. -/
def signedOf (w v : Nat) : Int := if v < 2 ^ (w - 1) then (v : Int) else (v : Int) - (2 ^ w : Nat)

/-- A signed number limited to a range. -/
def clampInt (lo hi i : Int) : Int := if i < lo then lo else if hi < i then hi else i

/-- Integer division rounded toward minus infinity. -/
def fdiv (a : Int) (b : Int) : Int := Int.fdiv a b

/-- A boolean as a number. -/
def b2n (b : Bool) : Nat := if b then 1 else 0

/-- One shift of the reflected CRC-32C register, repeated. -/
def crc32Shift : Nat → Nat → Nat
  | 0, c => c
  | n + 1, c => crc32Shift n (if c % 2 = 1 then (c / 2) ^^^ 0x82f63b78 else c / 2)

/-- CRC-32C of a byte string (R71): polynomial 0x1edc6f41 reflected, initial value and final XOR 0xffffffff. -/
def crc32c (l : List Byte) : Nat :=
  (l.foldl (fun c b => crc32Shift 8 (c ^^^ b.toNat)) 0xffffffff) ^^^ 0xffffffff

/-- One shift of the CRC-16 register, repeated. -/
def crc16Shift : Nat → Nat → Nat
  | 0, c => c
  | n + 1, c => crc16Shift n (if 0x8000 ≤ c then ((c * 2) % 65536) ^^^ 0x1021 else c * 2)

/-- CRC-16 of the isolation link (R255): polynomial 0x1021, initial value 0xffff, not reflected. -/
def crc16 (l : List Byte) : Nat :=
  l.foldl (fun c b => crc16Shift 8 (c ^^^ (b.toNat * 256))) 0xffff

/-- How many slots a frame with a payload of `len` bytes takes (R66). -/
def frameSlots (len : Nat) : Nat := (16 + len + 63) / 64

/-- Words 0 to 2 of a frame header as bytes (Table 3.4). -/
def headerBytes (version m ring flags seq op len slate rsv status : Nat) : List Byte :=
  toLE 4 (version * 2 ^ 28 + m * 2 ^ 24 + ring * 2 ^ 22 + flags * 2 ^ 16 + seq) ++
  toLE 4 (op * 2 ^ 16 + len) ++ toLE 4 (slate * 2 ^ 24 + rsv * 2 ^ 16 + status)

/-- The check word that a received frame should carry (R71). -/
def expectedCheck (f : Frame) : Nat :=
  crc32c (headerBytes f.h.version.toNat f.h.mfield.toNat f.h.ring.toNat f.h.flags.toNat f.h.seq.toNat
    f.op.toNat f.p.length f.h.slate.toNat f.h.rsv.toNat f.h.status.toNat ++ f.p)

/-- A frame of the module as bytes, on the ring of a master (R71). -/
def OutFrame.bytes (f : OutFrame) (m ring : Nat) : List Byte :=
  let hd := headerBytes 1 m ring f.flags f.seq f.op f.payload.length f.slate 0 f.status
  hd ++ toLE 4 (crc32c (hd ++ f.payload)) ++ f.payload

/-- A frame read from the bytes of its slots (R66, R71): header, then as many payload bytes as it names. -/
def frameOfBytes (l : List Byte) : Frame :=
  let w0 := u32At l 0
  let w1 := u32At l 4
  let w2 := u32At l 8
  { op := BitVec.ofNat 16 (bitsOf w1 31 16)
    h := { version := BitVec.ofNat 4 (bitsOf w0 31 28), mfield := BitVec.ofNat 4 (bitsOf w0 27 24)
           ring := BitVec.ofNat 2 (bitsOf w0 23 22), flags := BitVec.ofNat 6 (bitsOf w0 21 16)
           seq := BitVec.ofNat 16 (bitsOf w0 15 0), slate := BitVec.ofNat 8 (bitsOf w2 31 24)
           rsv := BitVec.ofNat 8 (bitsOf w2 23 16), status := BitVec.ofNat 16 (bitsOf w2 15 0)
           check := BitVec.ofNat 32 (u32At l 12) }
    p := (l.drop 16).take (bitsOf w1 15 0) }

/-- Every byte of a stretch of a payload is zero (R15, R430). -/
def zeroAt (p : List Byte) (o n : Nat) : Bool := leAt p o n == 0

/-- A list cut into pieces of `n`, with `fuel` pieces at most. -/
def chunks (n : Nat) : Nat → List α → List (List α)
  | 0, _ => []
  | _ + 1, [] => []
  | f + 1, a :: l => (a :: l).take n :: chunks n f ((a :: l).drop n)

/-- The data length that a DLC stands for in an FD frame (R279); DLC 0 to 8 stand for themselves in every frame. -/
def dlcLen (dlc : Nat) : Nat :=
  match dlc with
  | 9 => 12 | 10 => 16 | 11 => 20 | 12 => 24 | 13 => 32 | 14 => 48 | 15 => 64
  | n => n

end Sys2Proof.Machine
end

