-- ==== Sys2Proof/Machine/Flags.lean ====
section
/-! DEFINITION. Status codes of responses and the uniform guard with its state codes. -/

namespace Sys2Proof.Machine

/-! Status codes (Table 3.7, R78). -/

@[reducible] def stOk : Nat := 0x0000
@[reducible] def stStaged : Nat := 0x0001
@[reducible] def stNotOwner : Nat := 0x0010
@[reducible] def stNoItem : Nat := 0x0011
@[reducible] def stRange : Nat := 0x0012
@[reducible] def stConflict : Nat := 0x0013
@[reducible] def stBusy : Nat := 0x0014
@[reducible] def stTimeout : Nat := 0x0015
@[reducible] def stAdmission : Nat := 0x0016
@[reducible] def stTooLate : Nat := 0x0017
@[reducible] def stNoSession : Nat := 0x0018
@[reducible] def stNoOpcode : Nat := 0x0019
@[reducible] def stLength : Nat := 0x001a
@[reducible] def stVersion : Nat := 0x001b
@[reducible] def stDenied : Nat := 0x001c
@[reducible] def stIntegrity : Nat := 0x0020
@[reducible] def stRollback : Nat := 0x0021
@[reducible] def stSignature : Nat := 0x0022
@[reducible] def stIncompatible : Nat := 0x0023
@[reducible] def stAborted : Nat := 0x0024
@[reducible] def stLaneChanged : Nat := 0x0030

/-! Guard codes (enc_guard, Table 2.5; R256). -/

@[reducible] def gOk : Nat := 0
@[reducible] def gBelow : Nat := 1
@[reducible] def gAbove : Nat := 2
@[reducible] def gStale : Nat := 3
@[reducible] def gBroken : Nat := 4

/-- The range window of the uniform guard (R256): from the old state and the guarded quantity `q`, with limits `low` and
`high` and hysteresis `h` percent of the limit. -/
def windowState (old : Nat) (q low high h : Int) : Nat :=
  if q < low then gBelow
  else if high < q then gAbove
  else if old = gBelow ∧ q * 100 < low * 100 + (low.natAbs : Int) * h then gBelow
  else if old = gAbove ∧ high * 100 - (high.natAbs : Int) * h < q * 100 then gAbove
  else gOk

/-- The state a guard reports: the highest code of those that hold (R256). -/
def guardState (window : Nat) (stale broken : Bool) : Nat :=
  if broken then gBroken else if stale then gStale else window

/-- A counter that saturates at 2^32 − 1 (R33). -/
def sat32 (n : Nat) : Nat := if n < 4294967295 then n else 4294967295

end Sys2Proof.Machine
end

