-- ==== Sys2Proof/Machine/Ops.lean ====
section
/-! DEFINITION. The named operations of every chapter: items, time, lists by index, events and responses. -/

namespace Sys2Proof.Machine

/-! ## Items -/

/-- The value a store lists for a key. -/
def Store.find (st : Store) (k : Nat) : Option Nat :=
  match st with
  | [] => none
  | (a, v) :: r => if a = k then some v else Store.find r k

/-- A store without a key. -/
def Store.erase (st : Store) (k : Nat) : Store := st.filter (fun p => p.1 != k)

/-- A store with a pair put before the first greater key. -/
def Store.ins (k v : Nat) : Store → Store
  | [] => [(k, v)]
  | (a, w) :: r => if k < a then (k, v) :: (a, w) :: r else (a, w) :: Store.ins k v r

/-- A store with a value written; writing the default `d` of the key lists nothing. -/
def Store.put (st : Store) (k d v : Nat) : Store :=
  if v = d then st.erase k else Store.ins k v (st.erase k)

/-- The canonical form: keys strictly rising and no value equal to the default of its key. -/
def Store.wf (variant : Nat) : Store → Bool
  | [] => true
  | [(a, v)] => v != itemDefault variant a
  | (a, v) :: (b, w) :: r => decide (a < b) && (v != itemDefault variant a) && Store.wf variant ((b, w) :: r)

/-- An item read from one store. -/
def Store.read (variant : Nat) (st : Store) (k : Nat) : Nat := (st.find k).getD (itemDefault variant k)

/-- The value of an item (R14: its default where nothing was written). -/
def State.get (s : State) (k : Nat) : Nat := s.items.read s.variant k

/-- The value of an item in force at an mtime: that before the first carry after it (R119). -/
def State.getAt (s : State) (t k : Nat) : Nat :=
  match s.sb.before.find? fun x => decide (t < x.1) with
  | some x => x.2.read s.variant k
  | none => s.get k

/-- As `getAt`, read as a signed number. -/
def State.getiAt (s : State) (t k : Nat) : Int := signed32 (s.getAt t k)

/-- The value of an item in the latest complete snapshot, from which reads of item values are served (R124).
Log entry: 54 DESIGN CHOICE. -/
def State.shown (s : State) (k : Nat) : Nat := s.sb.snap.items.read s.variant k

/-- The value of an item of type s32 or q16.16 as a signed number (R9). -/
def State.geti (s : State) (k : Nat) : Int := signed32 (s.get k)

/-- The state with an item's value set. -/
def State.set (k v : Nat) (s : State) : State := { s with items := s.items.put k (itemDefault s.variant k) v }

/-- The state with an item of type s32 or q16.16 set to a signed number. -/
def State.seti (k : Nat) (v : Int) (s : State) : State := s.set k (twos 32 v)

/-- A counter item increased by `n`, saturating (R33). -/
def State.bumpBy (k n : Nat) (s : State) : State := s.set k (sat32 (s.get k + n))

/-- A counter item increased by one, saturating (R33). -/
def State.bump (k : Nat) (s : State) : State := s.bumpBy k 1

/-- The value in use since the last base-cycle boundary (Apply "next cycle", R12). -/
def State.useK (s : State) (k : Nat) : Nat := s.cfgK.read s.variant k

/-- As `useK`, read as a signed number. -/
def State.useKi (s : State) (k : Nat) : Int := signed32 (s.useK k)

/-- The value in use since the last entry into PARK (Apply "at park", R12). -/
def State.usePark (s : State) (k : Nat) : Nat := s.cfgPark.read s.variant k

/-- The value in use since the last restart (Apply "at restart", R12). -/
def State.useRestart (s : State) (k : Nat) : Nat := s.cfgRestart.read s.variant k

/-! ## Lists by index -/

/-- The element at an index, or the type's default outside the list. -/
def nth [Inhabited α] (l : List α) (i : Nat) : α := l.getD i default

/-- The list with the element at an index changed. -/
def upd (l : List α) (i : Nat) (f : α → α) : List α := l.modify i f

/-! ## Time -/

/-- Time passing: module time and elapsed time advance by the same number of ns (R50). Log entry: 5 DESIGN CHOICE. -/
def Clock.advance (dt : Nat) (c : Clock) : Clock := { c with mtime := c.mtime + dt, wall := c.wall + dt }

/-- The state after `dt` ns. Log entry: 5 DESIGN CHOICE. -/
def State.advance (dt : Nat) (s : State) : State := { s with clk := s.clk.advance dt }

/-- The module time (R50). -/
@[reducible] def State.now (s : State) : Nat := s.clk.mtime

/-- The ns since power-on: the time base of what runs on through a reset of the lanes (R53). -/
@[reducible] def State.up (s : State) : Nat := s.clk.wall

/-- The cycle number (R25). -/
def State.cycle (s : State) : Nat := s.clk.mtime / 100000

/-- A command that happens `dt` ns after the one before: time passes, then the operation acts. The operation changes
neither the clock nor the queue. Log entry: 5 DESIGN CHOICE. -/
def timedAny (dt : Nat) (f : State → State) (s : State) : Host.Outcome State Fault Refusal :=
  let a := s.advance dt
  .next { f a with clk := a.clk, pending := a.pending }

/-- The module's engines run: it is serving or in its orderly park (R351, R354). -/
def State.live (s : State) : Bool :=
  match s.phase with
  | .up | .parking => true
  | _ => false

/-- The engines of the active lane run: also in the power-fail shut-down, whose first step stops the mailbox service, the carries,
the standby lane, the tenant cores and the pixel pipeline alone (Table 13.4). Log entry: 145 DEDUCED. -/
def State.runs (s : State) : Bool := s.live || s.phase == .shuttingDown

/-- The module serves its mailbox: it is live, or in ROM recovery mode (R381). -/
def State.speaks (s : State) : Bool := s.live || s.phase == .recovery

/-- A command of a module that serves its mailbox, ROM recovery mode among it. -/
def timedRom (dt : Nat) (f : State → State) (s : State) : Host.Outcome State Fault Refusal :=
  timedAny dt (fun a => if a.speaks then f a else a) s

/-- A command of a running module: while the module does not serve, only time passes.
Log entries: 17 DEDUCED, 168 DESIGN CHOICE. -/
def timed (dt : Nat) (f : State → State) (s : State) : Host.Outcome State Fault Refusal :=
  timedAny dt (fun a => if a.live then f a else a) s

/-- A command of an engine that runs on in a power-fail shut-down: while the engines do not run, only time passes.
Log entries: 17 DEDUCED, 168 DESIGN CHOICE. -/
def timedRun (dt : Nat) (f : State → State) (s : State) : Host.Outcome State Fault Refusal :=
  timedAny dt (fun a => if a.runs then f a else a) s

/-- The drive dies are powered: they run on through a warm module reset (R53). -/
def State.powered (s : State) : Bool :=
  match s.phase with
  | .off | .park => false
  | _ => true

/-- A command of a powered drive die or isolated section. Log entry: 17 DEDUCED. -/
def timedDie (dt : Nat) (f : State → State) (s : State) : Host.Outcome State Fault Refusal :=
  timedAny dt (fun a => if a.powered then f a else a) s

/-- A command that reaches the drive dies and the lanes alike: the drive dies alone while the lanes do not run (R53).
Log entry: 13 DEDUCED. -/
def timedLines (dt : Nat) (f dies : State → State) (s : State) : Host.Outcome State Fault Refusal :=
  timedAny dt (fun a => if a.runs then f a else if a.powered then dies a else a) s

/-- A free value and the state that has used it. Log entry: 1 DESIGN CHOICE. -/
def State.fresh (s : State) : Nat × State := (Config.freeValue s.free, { s with free := s.free + 1 })

/-- A q16.16 field that reports a computed number: outside the range of Table 0.5 the spec states no result, and the
field is the free value of the count `n`. Log entry: 62 DESIGN CHOICE. -/
def q16Open (n : Nat) (i : Int) : Nat :=
  if -2147483648 ≤ i ∧ i ≤ 2147483647 then twos 32 i else Config.freeValue n % 4294967296

/-- The state that has used `n` free values. Log entry: 1 DESIGN CHOICE. -/
def State.useFree (n : Nat) (s : State) : State := { s with free := s.free + n }

/-! ## Updates by chapter -/

def State.modTime (f : TimeState → TimeState) (s : State) : State := { s with time := f s.time }
def State.modMail (f : Mail → Mail) (s : State) : State := { s with mail := f s.mail }
def State.modSb (f : SlateBank → SlateBank) (s : State) : State := { s with sb := f s.sb }

/-- The mailbox of one master. -/
def State.master (s : State) (m : Nat) : Master := nth s.mail.masters m

/-- The mailbox of one master changed. -/
def State.modMaster (m : Nat) (f : Master → Master) (s : State) : State :=
  s.modMail fun ml => { ml with masters := upd ml.masters m f }

/-- The session of a master is open: OPEN, OWNER or YIELDING (R84). -/
def State.sessionOpen (s : State) (m : Nat) : Bool := s.get (It.sessionState m) != 0

/-! ## Rings, events and responses -/

/-- Slots in use between consumer and producer (R66). -/
def RingIdx.used (r : RingIdx) : Nat := (r.prod + 65536 - r.cons) % 65536

/-- The ring has room for a frame of so many slots (R66). -/
def RingIdx.fits (r : RingIdx) (slots : Nat) : Bool := decide (r.used + slots ≤ 256)

/-- The producer index moved on by a frame (R66). -/
def RingIdx.produce (r : RingIdx) (slots : Nat) : RingIdx := { r with prod := (r.prod + slots) % 65536 }

/-- The consumer index moved on by a frame (R66). -/
def RingIdx.consume (r : RingIdx) (slots : Nat) : RingIdx := { r with cons := (r.cons + slots) % 65536 }

/-- The consumer index moved up to the producer index. -/
def RingIdx.drain (r : RingIdx) : RingIdx := { r with cons := r.prod }

/-- The masters 12 and 13 use the CAN gateway (Table 3.1). -/
def isGateway (m : Nat) : Bool := m == 12 || m == 13

/-- The flag SERVED_B of Table 3.5, as a bit of the flags field. -/
def servedFlag (s : State) : Nat := if s.lanes.latch = 1 then 4 else 0

/-- The frame of one event (R73, R98): its sequence, the flags SERVED_B and EVT_LOST. -/
def evtFrame (served : Nat) (ma : Master) (code : Nat) (p : List Byte) : OutFrame :=
  { flags := served + (if ma.evtLost then 8 else 0), seq := ma.evtSeq, op := code, status := 0, slate := 0xff, payload := p }

/-- One event placed in the EVT ring of a master, or dropped and counted when the ring is full (R98). It is placed also between the
frames of one response, which go to the RSP ring. Log entry: 175 DESIGN CHOICE. -/
def State.placeEvt (m code : Nat) (p : List Byte) (s : State) : State :=
  let ma := s.master m
  if ma.evt.fits (frameSlots p.length) then
    s.modMaster m fun ma => { ma with
      evt := ma.evt.produce (frameSlots p.length), evtFrames := ma.evtFrames ++ [evtFrame (servedFlag s) ma code p]
      evtSeq := (ma.evtSeq + 1) % 65536, evtLost := false, irq := ma.irq ||| 2 }
  else (s.modMaster m fun ma => { ma with evtLost := true }).bump (It.eventsLost m)

/-- One event for a master: placed, or held while the Reckoner restarts, at most 256 of them (R83, R98). No event is
placed while the module does not serve or from the power-fail shut-down on (R83). -/
def State.evtTo (m code : Nat) (p : List Byte) (s : State) : State :=
  if s.speaks then
    if s.mail.reck.up then s.placeEvt m code p
    else if (s.master m).held.length < 256 then s.modMaster m fun ma => { ma with held := ma.held ++ [(code, p)] }
    else (s.modMaster m fun ma => { ma with evtLost := true }).bump (It.eventsLost m)
  else s

/-- A master takes an event of a code: its session is open, and the event is of 0x0180 to 0x018f or its mask admits the
range (R98). -/
def State.wants (s : State) (code m : Nat) : Bool :=
  s.sessionOpen m && ((decide (0x0180 ≤ code) && decide (code ≤ 0x018f)) || bit (s.get (It.evtMask m)) (code / 256 - 1))

/-- An event sent to every session that takes it (R98). -/
def State.emit (code : Nat) (p : List Byte) (s : State) : State :=
  ((List.range 16).filter (s.wants code)).foldl (fun s m => s.evtTo m code p) s

/-- The next frame of the response at the head of a master's queue, when it may be placed: it waits for nothing, and the
RSP ring has room (R76, R77, R98). -/
def placeResp (served : Nat) (ma : Master) : Option Master :=
  match ma.outq with
  | [] => none
  | r :: rest =>
    if r.wait = .ready then
      let part := (r.payload.drop r.placed).take 1008
      let more := r.placed + part.length < r.payload.length
      if ma.rsp.fits (frameSlots part.length) then
        some { ma with
          rsp := ma.rsp.produce (frameSlots part.length)
          rspFrames := ma.rspFrames ++ [{ flags := served + (if more then 1 else 0), seq := r.seq, op := r.op,
                                          status := r.status, slate := r.slate, payload := part }]
          irq := ma.irq ||| 1
          outq := if more then { r with placed := r.placed + part.length } :: rest else rest
          cache := if more then ma.cache else (ma.cache ++ [{ r with placed := 0 }]).drop (ma.cache.length + 1 - 16) }
      else none
    else none

/-- Placing frames of responses as long as possible, at most `n` of them. -/
def flushN (served : Nat) : Nat → Master → Master
  | 0, ma => ma
  | n + 1, ma =>
    match placeResp served ma with
    | none => ma
    | some ma' => flushN served n ma'

/-- How many frames the responses of a queue take at most. -/
def outFrames (q : List Resp) : Nat := (q.map (fun r => r.payload.length / 1008 + 1)).sum

/-- The released responses of a master placed in order (R77, R98); not during a Reckoner restart (R83). -/
def State.flush (m : Nat) (s : State) : State :=
  if s.mail.reck.up then
    s.modMaster m fun ma => flushN (servedFlag s) (outFrames ma.outq) ma
  else s

/-- The waits of a master's responses changed. -/
def State.rewait (m : Nat) (f : Resp → Resp) (s : State) : State :=
  (s.modMaster m fun ma => { ma with outq := ma.outq.map f }).flush m

/-- The state copy of the cycles up to `c` is acknowledged, or ended without a standby lane: the responses that waited for
it are released (R81). -/
def State.releaseCopies (c : Nat) (s : State) : State :=
  (List.range 16).foldl (fun s m => s.rewait m fun r =>
    match r.wait with
    | .copy n => if n ≤ c then { r with wait := .ready } else r
    | _ => r) s

/-- A response queued for a master and placed as soon as it may be (R77). -/
def State.respond (m : Nat) (r : Resp) (s : State) : State :=
  (s.modMaster m fun ma => { ma with outq := ma.outq ++ [r] }).flush m

/-- The held responses of a master that wait for `w` answered: their status and payload set, released after the copy
of the cycle in which they are decided (R81). -/
def State.answer (m : Nat) (w : Wait) (status : Nat) (p : List Byte) (s : State) : State :=
  s.rewait m fun r =>
    if r.wait = w then
      { r with status := status, payload := p, cycle := s.cycle, wait := if r.changing then .copy s.cycle else .ready }
    else r

/-- As `answer`, released at once (R114). -/
def State.answerNow (m : Nat) (w : Wait) (status : Nat) (s : State) : State :=
  s.rewait m fun r => if r.wait = w then { r with status := status, wait := .ready } else r

/-- As `answer`, for every master. -/
def State.answerAll (w : Wait) (status : Nat) (p : List Byte) (s : State) : State :=
  (List.range 16).foldl (fun s m => s.answer m w status p) s

/-- An operation repeated over numbers. -/
def State.each (l : List Nat) (f : Nat → State → State) (s : State) : State := l.foldl (fun s n => f n s) s

/-- What executing a command answers: the status, the payload, the slate field of the header, and what the response waits
for beside the rules of R81. -/
structure Reply where
  status : Nat := stOk
  payload : List Byte := []
  slate : Option Nat := none
  wait : Wait := .ready
  deriving DecidableEq, Repr

/-- The execution of one opcode: the sending master, the frame and the state. -/
abbrev OpFn := Nat → Frame → State → State × Reply

/-- A refusal: no effect, and a response with a status (R78). -/
def refuse (status : Nat) (s : State) : State × Reply := (s, { status := status })

/-- An accepted command with a payload in its response. -/
def reply (p : List Byte) (s : State) : State × Reply := (s, { payload := p })

end Sys2Proof.Machine
end

