-- ==== Sys2Proof/Machine/Tally.lean ====
section
/-! DEFINITION. Tally, module time, latency monitors and calendar time (spec 02). -/

namespace Sys2Proof.Machine

/-! ## Positions (R39, R43, R44) -/

/-- The interpolated fraction of a counter at an mtime, in 1/65536 unit (R39, R40). -/
def Counter.fraction (c : Counter) (t : Nat) : Nat :=
  match c.st, c.pLast with
  | .running, some p => min ((t - c.tLast) * 65536 / p) 65535
  | .running, none => 0
  | _, _ => c.frac

/-- The position of a counter at an mtime, raw q48.16 (R39). -/
def Counter.pos (c : Counter) (t : Nat) : Nat := c.int * 65536 + c.fraction t

/-- The signed distance from position `b` to position `a` (R43). -/
def posDiff (a b : Nat) : Int := signedOf 64 ((a + 2 ^ 64 - b) % 2 ^ 64)

/-- A counter has reached a position: its own is equal to or after it (R43, R44). -/
def Counter.reached (c : Counter) (t position : Nat) : Bool := decide (0 ≤ posDiff (c.pos t) position)

/-- A position lies within the scheduling horizon of 2^40 units (R43). -/
def withinTally (c : Counter) (t position : Nat) : Bool := (posDiff position (c.pos t)).natAbs ≤ 2 ^ 56

/-- An mtime lies within the scheduling horizon of 2^46 ns (R43). -/
def withinTime (t m : Nat) : Bool := decide (((m : Int) - t).natAbs ≤ 2 ^ 46)

/-- The position of the active lane's tally now. -/
def State.pos (s : State) : Nat := s.time.lane.pos s.now

/-- tally_rate: the last interval in thousandths of a unit per second, 0 while not RUNNING or no interval exists (R41). -/
def Counter.rate (c : Counter) : Nat :=
  match c.st, c.pLast with
  | .running, some p => 1000000000000 / p
  | _, _ => 0

/-- The time in ns that a distance of raw q48.16 takes at a rate of thousandths of a unit per second (R45, R62). -/
def distanceNs (d : Int) (rate : Nat) : Int := d * 1000000000000 / (65536 * (rate : Int))

/-! ## Counting (R37 to R40) -/

/-- The counter frozen at an mtime in a state other than RUNNING: the fraction kept, the interval discarded (R39, R40). -/
def Counter.freeze (c : Counter) (t : Nat) (st : TallyState) : Counter :=
  { c with frac := c.fraction t, pLast := none, st := st }

/-- A whole forward unit: the integer advances, the fraction starts again, the interval is measured when the counter was
RUNNING (R37, R39, R40); a unit within 250 ns of the latch sets its edge-near-K flag (R46). -/
def Counter.unit (c : Counter) (t : Nat) : Counter :=
  { c with
    acc := 0, int := (c.int + 1) % 2 ^ 48, frac := 0, tLast := t
    pLast := if c.st = .running then some (t - c.tLast) else none
    st := .running
    near := c.near || decide (t - c.latchAt ≤ 250) }

/-- One counted edge (R37): with reverse_policy discard, reverse edges are ignored. -/
def Counter.edge (prescale : Nat) (discard forward : Bool) (t : Nat) (c : Counter) : Counter :=
  if discard && !forward then c
  else
    let acc := c.acc + (if forward then 1 else -1)
    if acc = (prescale : Int) then
      if 0 < c.debt then
        { c with acc := 0, debt := c.debt - 1, st := if c.debt = 1 then .stalled else c.st }
      else c.unit t
    else if acc = -(prescale : Int) then
      { c.freeze t .reverse with acc := 0, debt := min (c.debt + 1) 4294967295 }
    else { c with acc := acc }

/-- No unit for tally_stall_ms: the counter stalls (R40). -/
def Counter.stall (limitMs t : Nat) (c : Counter) : Counter :=
  if c.st = .running ∧ limitMs * 1000000 ≤ t - c.tLast then c.freeze t .stalled else c

/-- The latch of a base-cycle boundary (R46). -/
def Counter.latch (t : Nat) (c : Counter) : Counter :=
  { c with latched := c.int, latchAt := t, near := decide (0 < c.tLast) && decide (t - c.tLast ≤ 250) }

/-- A change of source or prescale: the position kept, the fraction frozen, accumulator and debt cleared, STALLED
(R42, Table 2.3 step 2). -/
def Counter.changeSource (t : Nat) (c : Counter) : Counter := { c.freeze t .stalled with acc := 0, debt := 0 }

/-- The code of tally_state. -/
def TallyState.code : TallyState → Nat
  | .running => 0 | .stalled => 1 | .reverse => 2

/-- TALLY_STATE when the state of the active lane's counter has changed (R40). -/
def State.tallyEvent (old : TallyState) (s : State) : State :=
  if s.time.lane.st = old then s
  else s.emit 0x0580 (toLE 2 s.time.lane.st.code ++ toLE 6 0 ++ toLE 8 s.now ++ toLE 8 s.pos)

/-- A history of the latest `n` units, from which an event time is converted into a position (R163) and a lateness is
read (R231), after a counter has changed at an instant. -/
def pushUnit (n t : Nat) (before after : Counter) (h : List TallyUnit) : List TallyUnit :=
  if after.int ≠ before.int then ({ int := after.int, at_ := after.tLast, p := after.pLast } :: h).take n
  else if before.st = .running ∧ after.st ≠ .running then
    match h with
    | u :: r => { u with stop := some t } :: r
    | [] => []
  else h

/-- The active lane's counter replaced at this instant, with its history. -/
def State.setCount (c : Counter) (s : State) : State :=
  s.modTime fun tm => { tm with lane := c, hist := pushUnit 65536 s.now tm.lane c tm.hist }

/-- A follower's counter replaced at an instant, with its history. -/
def Follower.setCnt (t : Nat) (c : Counter) (f : Follower) : Follower := { f with cnt := c, hist := pushUnit 4096 t f.cnt c f.hist }

/-- The fraction after a unit at an mtime (R39, R40). -/
def TallyUnit.fraction (u : TallyUnit) (t : Nat) : Nat :=
  match u.p with
  | some p => min ((min t (u.stop.getD t) - u.at_) * 65536 / p) 65535
  | none => 0

/-- The tally position at an mtime from the units of the history; none before the oldest of them (R163). -/
def State.tallyAt (s : State) (t : Nat) : Option Nat :=
  (s.time.hist.find? fun u => decide (u.at_ ≤ t)).map fun u => u.int * 65536 + u.fraction t

/-- The tally position of a stamp, which lies at or before now (R54). -/
def State.posAt (s : State) (t : Nat) : Nat :=
  match s.tallyAt t, s.time.hist.getLast? with
  | some x, _ => x
  | none, some u => (u.int + 2 ^ 48 - 1) % 2 ^ 48 * 65536
  | none, none => s.pos

/-- One counted edge at a drive die's follower, with its unit instants (R37, R231). A unit that comes before the die's own K,
while the lane's K has passed, enters the latch of that K (R46). -/
def Follower.count (forward : Bool) (t : Nat) (f : Follower) : Follower :=
  let c := f.cnt.edge f.prescale f.discard forward t
  f.setCnt t { c with latched := if t ≤ f.cnt.latchAt then c.int else c.latched }

/-- The latch of a drive die at K as its own mtime follower gives it (R46): its K comes `off` ns before the lane's, so that
units counted since are not in it. -/
def Follower.latch (t : Nat) (f : Follower) : Follower :=
  let k := ((t : Int) - f.off).toNat
  let since := (f.hist.takeWhile fun u => decide (k < u.at_)).length
  { f with cnt := { f.cnt with
      latched := (f.cnt.int + 2 ^ 48 - since) % 2 ^ 48, latchAt := k
      near := decide (0 < f.cnt.tLast) && decide (((f.cnt.tLast : Int) - k).natAbs ≤ 250) } }

/-- One edge of a source reaching the counters named in `seen`: bit 0 the active lane, bit 1 the standby lane, bits 2 to 5
the drive dies. A counter counts it when the source is the one it has selected (R34). Log entry: 8 DESIGN CHOICE. -/
def State.tallyEdge (src : Nat) (forward : Bool) (seen : Nat) (s : State) : State :=
  let t := s.now
  let old := s.time.lane
  let here := s.get It.tallySource = src
  let go := Counter.edge (s.get It.tallyPrescale) (s.get It.reversePolicy == 1) forward t
  let s := (s.setCount (if here ∧ bit seen 0 then go old else old)).modTime fun tm => { tm with
    standby := if here ∧ bit seen 1 then go tm.standby else tm.standby
    dies := tm.dies.mapIdx fun k f =>
      if f.src = src ∧ bit seen (2 + k) then f.count forward s.up else f }
  s.tallyEvent old.st

/-- The edge at the drive dies alone, whose followers run free while no lane runs (R53).
Log entry: 8 DESIGN CHOICE. -/
def State.dieEdge (src : Nat) (forward : Bool) (seen : Nat) (s : State) : State :=
  let go := fun (k : Nat) (f : Follower) => if f.src = src ∧ bit seen (2 + k) then f.count forward s.up else f
  s.modTime fun tm => { tm with dies := tm.dies.mapIdx go }

/-! ## Encoders (R35, R36, R48) -/

/-- Decoding of one transition of the filtered levels, the B levels after enc_invert: the direction of the counted edge,
forward true (Table 2.2, R35). Log entry: 7 DEDUCED. -/
def decodeEdge (mode : Nat) (pa pb a b : Bool) : Option Bool :=
  match mode with
  | 1 => if !pa && a then some true else none
  | 2 | 3 => if !pa && a then some (!b) else none
  | 4 => if pa != a then some (a != b) else none
  | 5 =>
    if pa != a then some (a != b)
    else if pb != b then some (a == b)
    else none
  | _ => none

/-- A transition in which both lines change within one filter window, in a quadrature mode (R36).
Log entry: 7 DEDUCED. -/
def illegalEdge (mode : Nat) (pa pb a b : Bool) : Bool := decide (3 ≤ mode) && (pa != a) && (pb != b)

/-- The absolute edge rate from the interval of the last two counted edges (R48). Log entry: 6 DESIGN CHOICE. -/
def Encoder.rate (e : Encoder) : Nat :=
  match e.last, e.prev with
  | some l, some p => if p < l then 1000000000 / (l - p) else 1000000000
  | _, _ => 0

/-- An encoder with no edge for enc_stale_ms (R48). -/
def Encoder.stale (e : Encoder) (t ms : Nat) : Bool :=
  match e.last with
  | none => true
  | some l => decide (ms * 1000000 ≤ t - l)

/-- A guard item set, with its event when it has changed. -/
def State.setGuard (k g code : Nat) (p : List Byte) (s : State) : State :=
  if s.get k = g then s else (s.set k g).emit code p

/-- The guard of an encoder judged (R48, R36). The state of the window holds beneath STALE and BROKEN, and a rate above the
limit of Table 2.6 gives ABOVE whatever it is. Log entry: 6 DESIGN CHOICE. -/
def State.judgeEncoder (n : Nat) (s : State) : State :=
  let e := nth s.time.enc n
  let stale := e.stale s.now (s.get (It.encStaleMs n))
  let r := if stale then 0 else e.rate
  let w := windowState e.win r (s.get (It.encRateLow n)) (s.get (It.encRateHigh n)) (s.get (It.encHystPct n))
  let g := guardState (if 2000000 < r then gAbove else w) stale e.broken
  let s := s.modTime fun tm => { tm with enc := upd tm.enc n fun e => { e with win := w } }
  (s.seti (It.encRate n) (clampInt (-2000000) 2000000 (if e.forward then r else -(r : Int)))).setGuard (It.encGuard n) g
    0x0585 (toLE 1 n ++ toLE 1 0 ++ toLE 2 g ++ toLE 4 0 ++ toLE 8 s.now)

/-- The filtered levels of an encoder change (R35 to R38, R48). Log entry: 13 DEDUCED. -/
def State.encoderEdge (n : Nat) (a b : Bool) (seen : Nat) (s : State) : State :=
  let e := nth s.time.enc n
  let mode := s.get (It.encMode n)
  let inv := s.get (It.encInvert n) == 1
  let keep := fun (e : Encoder) => { e with a := a, b := b }
  if illegalEdge mode e.a (e.b != inv) a (b != inv) then
    let bad := e.illegal + 1
    ((s.modTime fun tm => { tm with enc := upd tm.enc n fun e =>
        { keep e with illegal := bad, clean := 0, broken := e.broken || decide (3 < bad) } }).bump
      (It.encQuadErrors n)).judgeEncoder n
  else
    match decodeEdge mode e.a (e.b != inv) a (b != inv) with
    | none => s.modTime fun tm => { tm with enc := upd tm.enc n keep }
    | some forward =>
      let s := s.modTime fun tm => { tm with enc := upd tm.enc n fun e =>
        { keep e with prev := e.last, last := some s.now, forward := forward } }
      let count := s.get (It.encCount n)
      let s := s.set (It.encCount n) ((if forward then count + 1 else count + 4294967295) % 4294967296)
      (s.judgeEncoder n).tallyEdge n forward seen

/-- The filtered levels of an encoder change while no lane runs: the drive dies count them. Log entry: 13 DEDUCED. -/
def State.encoderAtDies (n : Nat) (a b : Bool) (seen : Nat) (s : State) : State :=
  let e := nth s.time.enc n
  let inv := s.get (It.encInvert n) == 1
  let mode := s.get (It.encMode n)
  let step := if illegalEdge mode e.a (e.b != inv) a (b != inv) then none else decodeEdge mode e.a (e.b != inv) a (b != inv)
  let s := s.modTime fun tm => { tm with enc := upd tm.enc n fun e => { e with a := a, b := b } }
  match step with
  | some forward => s.dieEdge n forward seen
  | none => s

/-- The end of a base cycle for an encoder: ten consecutive cycles without an illegal transition end BROKEN (R36). -/
def Encoder.endCycle (e : Encoder) : Encoder :=
  if e.illegal = 0 then
    { e with clean := if e.broken then e.clean + 1 else 0, broken := e.broken && decide (e.clean + 1 < 10) }
  else { e with illegal := 0, clean := 0 }

/-- Log entry: 8 DESIGN CHOICE. -/
def execEncoderEdge (dt : Nat) (n : Fin 8) (a b : Bool) (seen : BitVec 6) (s : State) :
    Host.Outcome State Fault Refusal :=
  timedLines dt (State.encoderEdge n a b seen.toNat) (State.encoderAtDies n a b seen.toNat) s

/-- One edge at an mtime multiple of 1000 when the source is the internal 1 MHz (Table 2.1 code 12).
Log entries: 5 DESIGN CHOICE, 16 DEDUCED. -/
def execInternalTallyTick (s : State) : Host.Outcome State Fault Refusal :=
  let t := max (s.clk.tickNext * 1000) ((s.now + 999) / 1000 * 1000)
  let a := { s with clk := { s.clk with mtime := t, wall := s.clk.wall + (t - s.now), tickNext := t / 1000 + 1 } }
  .next { (if a.runs then a.tallyEdge 12 true 0x3f else if a.powered then a.dieEdge 12 true 0x3f else a) with clk := a.clk, pending := a.pending }

/-- No unit for tally_stall_ms stalls every counter concerned (R40); the internal source never stalls (Table 2.1).
Log entry: 9 DEDUCED. -/
def State.tallyStall (s : State) : State :=
  let limit := s.get It.tallyStallMs
  let t := s.now
  let old := s.time.lane.st
  let inner := s.get It.tallySource == 12
  ((s.setCount (if inner then s.time.lane else s.time.lane.stall limit t)).modTime fun tm => { tm with
    standby := if inner then tm.standby else tm.standby.stall limit t
    dies := tm.dies.map fun f => if f.src = 12 then f else f.setCnt s.up (f.cnt.stall limit s.up) }).tallyEvent old

/-- The drive dies' counters stall by themselves while no lane runs. Log entry: 9 DEDUCED. -/
def State.dieStall (s : State) : State :=
  let go := fun (f : Follower) => if f.src = 12 then f else f.setCnt s.up (f.cnt.stall (s.get It.tallyStallMs) s.up)
  s.modTime fun tm => { tm with dies := tm.dies.map go }

def execTallyStall (dt : Nat) (s : State) : Host.Outcome State Fault Refusal :=
  timedLines dt State.tallyStall State.dieStall s

def execEncoderStale (dt : Nat) (n : Fin 8) (s : State) : Host.Outcome State Fault Refusal :=
  timedRun dt (State.judgeEncoder n) s

/-! ## Followers and lanes (R46, R47, R51, R52) -/

/-- The difference of two latched integers as a signed number of units. -/
def unitDiff (a b : Nat) : Int := signedOf 48 ((a + 2 ^ 48 - b) % 2 ^ 48)

/-- Two latched values agree: they are equal, or differ by one with an edge near K on either side (R46). -/
def latchAgrees (a b : Counter) : Bool :=
  unitDiff a.latched b.latched == 0 || ((unitDiff a.latched b.latched).natAbs == 1 && (a.near || b.near))

/-- The correction of a follower at the next K after a mismatch (Table 2.4 step 4); the latched value of that K has it, so
that the message of that K finds the follower corrected. Log entry: 10 DEDUCED. -/
def State.followerCorrection (die : Nat) (s : State) : State :=
  match (nth s.time.dies die).corr with
  | some (d, k) =>
    if k < s.clk.kLast then
      s.modTime fun tm => { tm with dies := upd tm.dies die fun f =>
        let c := { f.cnt with int := twos 48 (f.cnt.int + d), latched := twos 48 (f.cnt.latched + d) }
        { f with corr := none, cnt := c, jumps := if 0 < d then ((f.cnt.pos s.up, c.pos s.up) :: f.jumps).take 4096 else f.jumps } }
    else s
  | none => s

/-- The comparison of a drive die with the lane's latched value in a cycle-start message (Table 2.4 step 3), which steers the
die's mtime follower: `off`, where its oscillator has carried it, is brought within ±200 ns (R52, Table 2.10). The first message
of a new epoch loads the lane's count (R53). A correction that is due is made first.
Log entries: 10 DEDUCED, 17 DEDUCED, 166 DESIGN CHOICE. -/
def State.followerCheck (die : Nat) (off : Int) (s : State) : State :=
  let s := s.followerCorrection die
  let f := nth s.time.dies die
  let epoch := s.get It.mtimeEpoch
  let lane := s.time.lane
  let s := s.modTime fun tm => { tm with dies := upd tm.dies die fun f =>
    { f with off := clampInt (-200) 200 off, lastMsg := s.up, epoch := epoch } }
  if f.epoch ≠ epoch then
    s.modTime fun tm => { tm with dies := upd tm.dies die fun f => { f with
      cnt := { lane with tLast := lane.tLast + (s.up - s.now), latchAt := lane.latchAt + (s.up - s.now) }
      corr := none, hist := [], jumps := [] } }
  else if latchAgrees lane f.cnt then s
  else
    let d := unitDiff lane.latched f.cnt.latched
    ((s.modTime fun tm => { tm with dies := upd tm.dies die fun f => { f with corr := some (d, s.clk.kLast) } }).bump
      It.followerMismatch).emit 0x0581 (toLE 1 die ++ toLE 3 0 ++ toLE 4 (twos 32 d) ++ toLE 8 s.cycle)

def execFollowerCorrection (dt : Nat) (die : Fin 4) (s : State) : Host.Outcome State Fault Refusal :=
  timedRun dt (State.followerCorrection die) s

/-! ## Latency monitors (R57, R58) -/

/-- The width in bytes of a sensor count and whether it is big-endian, from lm_ts_width (Table 2.9). -/
def countOf (width : Nat) (l : List Byte) : Nat :=
  if 0x80 ≤ width then beNat l else leNat l

/-- The points of the fit: the minima of the complete blocks, or the lowest sample while no block is complete (R57). Of several
samples with the lowest x the newest gives the g. Log entry: 170 DESIGN CHOICE. -/
def LatMon.points (m : LatMon) : List (Nat × Int) :=
  match m.blocks with
  | [] =>
    match m.part with
    | [] => []
    | p :: r => [r.foldl (fun best q => if q.2 < best.2 then q else best) p]
  | bs => bs

/-- The least-squares slope through the points as a fraction, 0/1 while fewer than two points exist (R57). -/
def slope (ps : List (Nat × Int)) : Int × Int :=
  let n : Int := ps.length
  let sg := (ps.map (fun p => (p.1 : Int))).sum
  let sx := (ps.map (fun p => p.2)).sum
  let sgg := (ps.map (fun p => (p.1 : Int) * p.1)).sum
  let sgx := (ps.map (fun p => (p.1 : Int) * p.2)).sum
  let den := n * sgg - sg * sg
  if ps.length < 2 ∨ den = 0 then (0, 1) else (n * sgx - sg * sx, den)

/-- The g of the newest point; points are held newest first. -/
def newestG (ps : List (Nat × Int)) : Nat := (ps.head?.map (·.1)).getD 0

/-- The largest offset below every point, times the denominator of the slope (R57). -/
def lowerLine (ps : List (Nat × Int)) (r : Int × Int) : Int :=
  match ps with
  | [] => 0
  | p :: q =>
    let g0 : Int := newestG ps
    let at_ := fun (x : Nat × Int) => x.2 * r.2 - r.1 * ((x.1 : Int) - g0)
    q.foldl (fun m x => min m (at_ x)) (at_ p)

/-- The fitted offset at an mtime, in 1/65536 ns (R57). -/
def LatMon.predict (m : LatMon) (g : Nat) : Int :=
  let ps := m.points
  let r := slope ps
  fdiv (lowerLine ps r + r.1 * ((g : Int) - newestG ps)) r.2

/-- A sample added to the window: blocks of 32, 256 samples at most (R57); the 257th drops the oldest block as a whole.
Log entry: 170 DESIGN CHOICE. -/
def LatMon.add (m : LatMon) (g : Nat) (x : Int) : LatMon :=
  let part := (g, x) :: m.part
  let lowest := part.foldl (fun best q => if q.2 < best.2 then q else best) (g, x)
  if part.length = 32 then { m with seen := m.seen + 1, part := [], blocks := (lowest :: m.blocks).take 8 }
  else { m with seen := m.seen + 1, part := part, blocks := m.blocks.take 7 }

/-- The window cleared. -/
def LatMon.clear (m : LatMon) : LatMon := { m with seen := 0, blocks := [], part := [] }

/-- A count extended to 64 bits from the one before (R57). -/
def unwrapCount (bytes : Nat) (last : Option (Nat × Nat)) (c : Nat) : Nat :=
  match last with
  | none => c
  | some (raw, full) => full + (c + 2 ^ (8 * bytes) - raw) % 2 ^ (8 * bytes)

/-- lm_state set, with LATENCY_STATE at a change (R58). -/
def State.setLm (n st : Nat) (s : State) : State :=
  s.setGuard (It.lmState n) st 0x0583 (toLE 1 n ++ toLE 1 0 ++ toLE 2 st ++ toLE 4 0 ++ toLE 8 s.now)

/-- A gap since the sample before of more than half the wrap period of the count, which is treated as a step (R57). -/
def LatMon.longGap (m : LatMon) (bytes tick g : Nat) : Bool :=
  match m.lastAt with
  | some l => decide (2 ^ (8 * bytes) * tick < 2 * (g - l) * 65536)
  | none => false

/-- One sample of a latency monitor with ingress stamp `g` and raw count `c` (R57), under the settings in force at its stamp (R119). States: 1 LEARNING, 2 LOCKED,
3 DRIFT, 4 STEP, 5 SILENT. The first sample after SILENT starts LEARNING afresh (R58). -/
def State.lmSample (n g c : Nat) (s : State) : State :=
  let old := s.get (It.lmState n)
  let m := if old = 5 then {} else nth s.time.lat n
  let st := if old = 5 ∨ old = 0 then 1 else old
  let bytes := s.getAt g (It.lmTsWidth n) % 0x80
  let tick := s.getAt g (It.lmTsTick n)
  let full := unwrapCount bytes m.lastCount c
  let decl := s.getAt g (It.lmDeclLatencyUs n) * 1000
  let x : Int := (g * 65536 : Nat) - (full * tick : Nat)
  let put := fun (m : LatMon) (s : State) => s.modTime fun tm => { tm with
    lat := upd tm.lat n fun _ => { m with lastCount := some (c, full), lastAt := some g } }
  let learning := st == 1 || st == 4
  let p := m.predict g
  if m.longGap bytes tick g ∨ (!learning ∧ s.getAt g (It.lmStepUs n) * 1000 * 65536 < (x - p).natAbs) then
    (((put m.clear s).set (It.lmLatencyNs n) (sat32 decl)).bump (It.lmSteps n)).setLm n 4
  else
    let m' := m.add g x
    let s := put m' s
    if learning then
      (s.set (It.lmLatencyNs n) (sat32 decl)).setLm n (if 8 ≤ m'.seen then 2 else st)
    else
      let r := slope m'.points
      let ppm := fdiv (r.1 * 1000000) r.2
      let s := s.set (It.lmLatencyNs n) (sat32 (decl + (max 0 (fdiv (x - p) 65536)).toNat))
      let s := (s.set (It.lmDriftPpm n) (q16Open s.free ppm)).useFree 1
      s.setLm n (if (s.getAt g (It.lmDriftLimitPpm n) : Int) * 65536 < ppm.natAbs then 3 else 2)

/-- The samples of a monitor carry the latency-unverified flag (R58). -/
def lmUnverified (st : Nat) : Bool := st == 1 || st == 4 || st == 5

/-- The estimated latency of a sample and whether it is unverified, from the lowest-numbered monitor that a condition
selects; zero without one (R56, R58, R163). -/
def State.latency (s : State) (sel : Nat → Bool) : Nat × Bool :=
  match (List.range 32).find? sel with
  | some n => (s.get (It.lmLatencyNs n), lmUnverified (s.get (It.lmState n)))
  | none => (0, false)

/-- The latency of a camera port's samples. -/
def State.portLatency (s : State) (p : Nat) : Nat × Bool := s.latency fun n => s.get (It.lmSource n) == p + 1

/-- A monitor with no sample for lm_stale_ms becomes SILENT (R58); one that has had no sample yet counts from mtime 0.
Log entry: 171 DESIGN CHOICE. -/
def State.lmSilent (n : Nat) (s : State) : State :=
  let st := s.get (It.lmState n)
  if st = 0 ∨ st = 5 ∨ s.get (It.lmSource n) = 0 then s
  else if s.get (It.lmStaleMs n) * 1000000 ≤ s.now - (nth s.time.lat n).lastAt.getD 0 then s.setLm n 5
  else s

def execLatencyMonitorSilent (dt : Nat) (n : Fin 32) (s : State) : Host.Outcome State Fault Refusal :=
  timedRun dt (State.lmSilent n) s

/-- A count of a monitor read from the bytes of a frame; a frame too short to hold it is no sample (R57). -/
def State.lmFrom (n g : Nat) (data : List Byte) (s : State) : State :=
  let width := s.getAt g (It.lmTsWidth n)
  let o := s.getAt g (It.lmTsOffset n)
  if data.length < o + width % 0x80 then s
  else s.lmSample n g (countOf width ((data.drop o).take (width % 0x80)))

/-- The monitors that watch a source take a frame's bytes (R57). -/
def State.lmFeed (sel : State → Nat → Bool) (g : Nat) (data : List Byte) (s : State) : State :=
  ((List.range 32).filter (sel s)).foldl (fun s n => s.lmFrom n g data) s

/-! ## Calendar time (R59 to R61) and the opcodes of Table 2.11 -/

/-- The calendar time of an mtime stamp, before or after the instant at which it was last latched or set (R59). -/
def State.calendarOf (s : State) (t : Nat) : Nat := ((s.time.calBase : Int) + ((t : Int) - s.time.calAt)).toNat

/-- Calendar time now (R59). -/
def State.calendar (s : State) : Nat := s.calendarOf s.now

def opTimeRead : OpFn := fun _ _ s =>
  reply (toLE 8 s.now ++ toLE 8 s.pos ++ toLE 8 s.calendar ++ toLE 8 s.cycle ++ toLE 4 s.time.lane.rate ++
    toLE 4 (s.get It.mtimeEpoch) ++ toLE 2 s.time.lane.st.code ++ toLE 2 (s.get It.calendarValid) ++ toLE 4 0) s

def opCalendarSet : OpFn := fun _ f s =>
  let cal := u64At f.p 0
  let valid := u64At f.p 8
  if s.now < valid ∨ 10000000000 < s.now - valid ∨ cal < 1577836800000000000 then refuse stRange s
  else
    reply [] (((s.modTime fun tm => { tm with calBase := cal + (s.now - valid), calAt := s.now }).set
      It.calendarValid 1).bump It.calendarSets)

def opTallyForecast : OpFn := fun _ f s =>
  let t := u64At f.p 0
  let d := posDiff t s.pos
  let rate := s.time.lane.rate
  let reached := if d ≤ 0 then 2 else 0
  if !withinTally s.time.lane s.now t then refuse stRange s
  else if rate = 0 then
    let (v, s) := s.fresh
    reply (toLE 8 v ++ toLE 2 (1 + reached) ++ toLE 6 0) s
  else reply (toLE 8 (twos 64 (s.now + distanceNs d rate)) ++ toLE 2 reached ++ toLE 6 0) s

def opLatencyRelearn : OpFn := fun _ f s =>
  let n := u8At f.p 0
  if 31 < n ∨ !zeroAt f.p 1 3 then refuse stRange s
  else if s.get (It.lmSource n) = 0 then refuse stConflict s
  else reply [] ((s.modTime fun tm => { tm with lat := upd tm.lat n LatMon.clear }).setLm n 1)

end Sys2Proof.Machine
end

