-- ==== Sys2Proof/Machine/Session.lean ====
section
/-! DEFINITION. Mailboxes, sessions and ownership (spec 03): the checks of a command, its service, the session table and
the ownership of the module. -/

namespace Sys2Proof.Machine

/-! ## Opcodes (R75 checks 5, 7, 8, 9, 10) -/

/-- The payload length that an opcode defines, given the payload; `none` for an opcode that does not exist. -/
def opLength (op : Nat) (p : List Byte) : Option Nat :=
  match op with
  | 0x0100 => some 12 | 0x0101 => some 0 | 0x0102 => some 0 | 0x0103 => some 0 | 0x0104 => some 0
  | 0x0105 => some 4 | 0x0106 => some 4 | 0x0107 => some 0 | 0x0108 => some 0 | 0x0109 => some 4
  | 0x0200 => some (4 + 4 * u16At p 0) | 0x0201 => some (4 + 16 * u16At p 0)
  | 0x0300 => some 0 | 0x0301 => some 16 | 0x0302 => some 0 | 0x0303 => some 16 | 0x0304 => some 0
  | 0x0305 => some 0 | 0x0306 => some 4 | 0x0310 => some 24 | 0x0311 => some 8
  | 0x0400 => some 0 | 0x0401 => some (4 + 4 * u16At p 2) | 0x0402 => some 4
  | 0x0500 => some 0 | 0x0501 => some 16 | 0x0502 => some 8 | 0x0503 => some 4
  | 0x0600 => some 4 | 0x0601 => some 4 | 0x0602 => some 4 | 0x0603 => some 4 | 0x0604 => some 0
  | 0x0700 => some 16 | 0x0701 => some 16 | 0x0702 => some 16
  | 0x0800 => some 8 | 0x0801 => some 4 | 0x0802 => some 16 | 0x0803 => some 16
  | 0x0900 => some (4 + 24 * u16At p 0) | 0x0901 => some 8 | 0x0902 => some 8 | 0x0903 => some 4
  | 0x0904 => some 4 | 0x0905 => some 4
  | 0x0a00 => some 4 | 0x0a01 => some 4
  | 0x0b00 => some (if 15 < u8At p 2 ∨ (8 < u8At p 2 ∧ !bit (u8At p 1) 0) then max 12 p.length else 12 + dlcLen (u8At p 2))
  | 0x0b01 => some 8 | 0x0b02 => some 4 | 0x0b03 => some 4 | 0x0b04 => some 4
  | 0x0c00 => some 0 | 0x0c01 => some 4
  | 0x0d00 => some 0 | 0x0d01 => some 4 | 0x0d02 => some 4
  | 0x0e00 => some 0 | 0x0e01 => some 4 | 0x0e02 => some 4
  | 0x0f00 => some 12 | 0x0f01 => some 8 | 0x0f02 => some 0 | 0x0f03 => some 0 | 0x0f04 => some 0
  | 0x0f05 => some 4 | 0x0f06 => some 0 | 0x0f07 => some 0
  | 0x1000 => some 8 | 0x1001 => some 4 | 0x1100 => some 0 | 0x1101 => some 4
  | 0x1200 => some 16 | 0x1201 => some 0 | 0x1202 => some 0
  | 0x1300 => some 8 | 0x1301 => some 4 | 0x1302 => some 4 | 0x1303 => some 16
  | _ => none

/-- The opcodes whose table lists NOT_OWNER (R87). -/
def ownerOnly : List Nat :=
  [0x0104, 0x0105, 0x0107, 0x0201, 0x0300, 0x0301, 0x0302, 0x0303, 0x0304, 0x0310, 0x0311, 0x0501, 0x0503, 0x0601,
   0x0702, 0x0802, 0x0900, 0x0901, 0x0904, 0x0905, 0x0a01, 0x0b03, 0x0c01, 0x0d01, 0x0d02, 0x0e01, 0x0e02, 0x0f00,
   0x0f01, 0x0f02, 0x0f03, 0x0f04, 0x0f06, 0x0f07, 0x1001, 0x1200, 0x1202, 0x1300, 0x1301, 0x1303]

/-- The opcodes that concern a slate (R75 check 5). -/
def slateOp (op : Nat) : Bool := [0x0201, 0x0300, 0x0301, 0x0302, 0x0303, 0x0304, 0x0305, 0x0306, 0x0310, 0x0311].contains op

/-- The opcodes that need a BLK transfer (R69). -/
def blkOp (op : Nat) : Bool := [0x0301, 0x0702, 0x0802, 0x0f00, 0x0f01, 0x1200].contains op

/-- A command that changes module state: owner-only, SESSION_OPEN, SESSION_CLOSE or an OWN_ opcode (R81). -/
def changingOp (op : Nat) : Bool := ownerOnly.contains op || [0x0100, 0x0101, 0x0103, 0x0106].contains op

/-- Never answered BUSY because of load (R80). -/
def loadExempt (op : Nat) : Bool := [0x0100, 0x0101, 0x0102, 0x0103, 0x0106].contains op

/-- The keys an ITEM_READ names are all identity items: those of Table 0.3 (R2, R85). -/
def identityRead (p : List Byte) : Bool :=
  decide (0 < u16At p 0) && (List.range (u16At p 0)).all fun i =>
    decide (0x100000 ≤ u32At p (4 + 4 * i)) && decide (u32At p (4 + 4 * i) ≤ 0x100005)

/-! ## The checks of a command (Table 3.6) -/

/-- The outcome of checks 1 to 6: the frame is discarded, refused, or accepted. -/
inductive Front where
  | discard | refuse (status : Nat) | accept
  deriving DecidableEq, Repr

/-- Checks 1 to 6 of Table 3.6 (R75). Log entries: 18 DEDUCED, 31 DEDUCED. -/
def frontCheck (m : Nat) (f : Frame) (s : State) : Front :=
  if f.h.check.toNat ≠ expectedCheck f then .refuse stIntegrity
  else if f.h.version.toNat ≠ 1 then .refuse stVersion
  else if f.h.mfield.toNat ≠ m ∨ f.h.ring.toNat ≠ 0 then .discard
  else if 16 < frameSlots f.p.length then .refuse stLength
  else if (7 < f.h.slate.toNat ∧ f.h.slate.toNat ≠ 0xff) ∨
      ((opLength f.op.toNat f.p).isSome ∧ !slateOp f.op.toNat ∧ f.h.slate.toNat ≠ 0xff) ∨
      f.h.status.toNat ≠ 0 ∨ (f.h.flags.toNat ≠ 0 ∧ f.h.flags.toNat ≠ 2) then .refuse stRange
  else if s.sessionOpen m || f.op.toNat == 0x0100 || (f.op.toNat == 0x0200 && identityRead f.p) then .accept
  else .refuse stNoSession

/-- Outstanding commands of a master: consumed and not yet answered (R80). -/
def State.outstanding (s : State) (m : Nat) : Nat := (s.master m).outq.length

/-- Back-pressure (R80): the limit of outstanding commands, or Reckoner load for a master that is not the owner. -/
def State.busy (s : State) (m op : Nat) : Bool :=
  let owner := s.mail.owner == some m
  decide ((if owner then 32 else 8) ≤ s.outstanding m) ||
    (!owner && decide (80 ≤ s.get It.reckonerLoadPct) && !loadExempt op)

/-- The opcodes served in ROM recovery mode (R381). -/
def romOps : List Nat := [0x0100, 0x0101, 0x0102, 0x0103, 0x0200, 0x0f00, 0x0f01, 0x0f02, 0x0f05, 0x0f07]

/-- Checks 7 to 10 of Table 3.6: the status of the first that fails. Log entry: 31 DEDUCED. -/
def backCheck (m : Nat) (f : Frame) (s : State) : Option Nat :=
  let op := f.op.toNat
  match opLength op f.p with
  | none => some stNoOpcode
  | some n =>
    if s.phase = .recovery ∧ !romOps.contains op then some stNoOpcode
    else if f.p.length ≠ n then some stLength
    else if (isGateway m && blkOp op) || (m == 15 && op == 0x0100 && s.get It.testAccess != 1) ||
        (m == 14 && op == 0x0103) then some stDenied
    else if ownerOnly.contains op ∧ s.mail.owner ≠ some m then some stNotOwner
    else none

/-- A standby lane is in service (R323): the latch is ACCEPTING and the other lane is STANDBY. -/
def State.standby (s : State) : Bool := s.lanes.accepting && s.get (It.laneState (1 - s.lanes.latch)) == 3

/-- The copy budget of this cycle allows another state-changing command (R332). Log entry: 26 DESIGN CHOICE. -/
def State.mayStart (s : State) (op : Nat) : Bool :=
  !(changingOp op && s.standby && decide (36864 ≤ s.lanes.used))

/-- The records that a state-changing command adds to the copy of this cycle; their size is a free value (R332).
Log entry: 26 DESIGN CHOICE. -/
def State.useBudget (op : Nat) (s : State) : State :=
  if changingOp op && s.standby then
    let (v, s) := s.fresh
    let used := min (s.lanes.used + v % 36865) 36864
    { s.set It.copyBytesPeak (max used (s.get It.copyBytesPeak)) with lanes := { s.lanes with used := used } }
  else s

/-- The payload of a response: SLATE_CHECK, SLATE_COMMIT and RING_PREPARE are answered with a check report whatever their status
(R127), one that no check has filled where the command did not come so far. Log entry: 40 DEDUCED. -/
def payloadOf (op : Nat) (p : List Byte) : List Byte :=
  if p.isEmpty && [0x0302, 0x0303, 0x0310].contains op then toLE 2 0xffff ++ toLE 22 0 else p

/-- The response to a command: it repeats sequence, opcode and, where the execution names no other, slate; a command that
changes module state waits for the copy of this cycle (R71, R73, R81), but in ROM recovery mode, which runs no lane's copy, it is
released at once. Log entry: 176 DESIGN CHOICE. -/
def State.answerCmd (m : Nat) (f : Frame) (r : Reply) (s : State) : State :=
  let s := s.modMaster m fun ma => { ma with taken := ma.taken ++ [(s.cycle, f.h.seq.toNat, f.op.toNat)] }
  s.respond m { seq := f.h.seq.toNat, op := f.op.toNat, status := r.status, slate := r.slate.getD f.h.slate.toNat,
                payload := payloadOf f.op.toNat r.payload, cycle := s.cycle, changing := changingOp f.op.toNat
                wait := if r.wait = .ready then (if changingOp f.op.toNat && s.live then .copy s.cycle else .ready) else r.wait }

/-- An accepted frame keeps the session alive and restarts the owner's lapse timer (R84, R90). -/
def State.accepted (m : Nat) (s : State) : State :=
  (s.modMaster m fun ma => { ma with lastFrame := s.now }).modMail fun ml =>
    { ml with lapseFrom := if ml.owner = some m then s.now else ml.lapseFrom }

/-- The BUSY retry hint lies in 500 to 20 000 µs; the value is free (R80). Log entry: 25 DESIGN CHOICE. -/
def busyHint (v : Nat) : Nat := 500 + v % 19501

/-- A frame taken from a CMD ring: checked, and executed when it passes every check (R74, R75, R80).
Log entries: 19 DEDUCED, 25 DESIGN CHOICE. -/
def State.takeFrame (op : OpFn) (m : Nat) (f : Frame) (s : State) : State :=
  let s := (s.modMaster m fun ma => { ma with cmd := ma.cmd.consume (frameSlots f.p.length) }).bump (It.framesRx m)
  match frontCheck m f s with
  | .discard => s.bump (It.frameErrors m)
  | .refuse st =>
    (if st = stIntegrity then s.bump (It.frameErrors m) else s).answerCmd m f { status := st }
  | .accept =>
    let s := s.accepted m
    match (if f.h.flags.toNat = 2 then (s.master m).cache.reverse.find? (fun r => r.seq == f.h.seq.toNat) else none) with
    | some r => s.respond m { r with wait := .ready, placed := 0 }
    | none =>
      match backCheck m f s with
      | some st => s.answerCmd m f { status := st }
      | none =>
        if s.busy m f.op.toNat then
          let (v, s) := s.fresh
          (s.bump (It.busySent m)).answerCmd m f { status := stBusy, payload := toLE 4 (busyHint v) }
        else
          let (s, r) := op m f s
          (s.useBudget f.op.toNat).answerCmd m f r

/-- The module takes mailbox frames of a master: it is live, its Reckoner serves and the active lane consumes (R83, R338); in ROM
recovery mode those of master 4 (R381). Log entry: 30 DEDUCED. -/
def State.serves (s : State) (m : Nat) : Bool :=
  (s.live && s.mail.reck.up && s.lanes.consuming) || (s.phase == .recovery && m == 4)

/-- A master's RSP ring has the 16 free slots that taking a command needs (R98). -/
def State.rspRoom (s : State) (m : Nat) : Bool := (s.master m).rsp.fits 16

/-- A frame taken, with the place of the round of R79: the owner's frames do not move it. -/
def State.takeNext (op : OpFn) (m : Nat) (f : Frame) (s : State) : State :=
  let owner := s.mail.owner
  (s.takeFrame op m f).modMail fun ml => { ml with lastServed := if owner = some m then ml.lastServed else m }

/-- A command frame arrives on a master's CMD ring and is observed: it is taken at once, or it waits in the ring while it
cannot be taken (R79, R83, R98). Log entry: 30 DEDUCED. -/
def State.submit (op : OpFn) (m : Nat) (f : Frame) (s : State) : State :=
  let s := s.modMaster m fun ma => { ma with cmd := ma.cmd.produce (frameSlots f.p.length) }
  if s.serves m && s.rspRoom m && (s.master m).waiting.isEmpty then
    if s.mayStart f.op.toNat then s.takeNext op m f
    else (s.bump It.copyDeferrals).modMaster m fun ma => { ma with waiting := ma.waiting ++ [f] }
  else s.modMaster m fun ma => { ma with waiting := ma.waiting ++ [f] }

/-- The meaning of an opcode row: the frame with this opcode arrives after `dt` ns. -/
def cmdRow (op : OpFn) (code : Nat) (dt : Nat) (m : Fin 16) (h : Hdr) (p : List Byte) (s : State) :
    Host.Outcome State Fault Refusal :=
  timedRom dt (State.submit op m { op := BitVec.ofNat 16 code, h := h, p := p }) s

/-! ## Update sessions discarded (R379) -/

/-- upd_state set, with UPD_STATE (Table 14.9): causes 0 progress, 1 component hash, 2 read-back, 3 fall-back. -/
def State.setUpd (st cause : Nat) (s : State) : State :=
  let id := (s.fw.ses.map (·.id)).getD 0
  (s.set It.updState st).emit 0x0f80 (toLE 1 st ++ toLE 1 cause ++ toLE 2 0 ++ toLE 4 id ++ toLE 8 s.cycle)

/-- UPD_END (Table 14.9): outcomes 0 done, 1 fell back, 2 ownership, 3 module event, 4 mixed. -/
def State.updEnd (id outcome lane : Nat) (s : State) : State :=
  s.emit 0x0f81 (toLE 4 id ++ toLE 1 outcome ++ toLE 1 lane ++ toLE 2 0 ++ toLE 8 s.cycle)

/-- A lane's inactive bank changed. -/
def State.modSpare (x : Nat) (f : FwBank → FwBank) (s : State) : State :=
  { s with fw := { s.fw with lanes := upd s.fw.lanes x fun l => { l with banks := upd l.banks (1 - l.boot) f } } }

/-- The session ends: upd_state IDLE with its cause, UPD_END with its outcome. -/
def State.endSession (outcome cause : Nat) (s : State) : State :=
  match s.fw.ses with
  | none => s
  | some u =>
    let s := s.setUpd 0 cause
    ((({ s with fw := { s.fw with ses := none } } : State).set It.updSession 0).set It.updBlocksMissing 0).updEnd u.id outcome u.lane

/-- A session that has not been activated is discarded; a bank being written becomes INVALID (Table 14.7).
Log entry: 150 DEDUCED. -/
def State.updDiscard (outcome : Nat) (s : State) : State :=
  match s.fw.ses with
  | none => s
  | some u =>
    if 3 < s.get It.updState then s
    else
      let writing := s.get It.updState == 2
      let s := [0, 1].foldl (fun s x =>
        if writing && !(nth u.written x) && u.lag.all (· == x) then s.modSpare x fun b => { b with st := 1 } else s) s
      s.endSession outcome 0

/-! ## Slates freed without a carry (R100) -/

/-- The responses that wait for the cancel of a slate released (R114). -/
def State.cancelAnswer (i st : Nat) (s : State) : State :=
  s.each (List.range 16) fun m s => s.answerNow m (.cancel i) st

/-- A slate freed, counted and reported with its cause (Table 4.1). A cancel that waits for it has what it asked for.
Log entry: 46 DEDUCED. -/
def State.discardSlate (i cause : Nat) (s : State) : State :=
  let sl := nth s.sb.slates i
  let s := if sl.cancelK.isSome then s.cancelAnswer i stOk else s
  ((s.modSb fun b => { b with slates := upd b.slates i fun _ => {} }).bump It.slatesDiscarded).emit 0x0381
    (toLE 1 i ++ toLE 1 0 ++ toLE 2 cause ++ toLE 4 sl.txn ++ toLE 8 s.cycle)

/-- The slates in one of some states. -/
def State.slatesIn (s : State) (sts : List SlateState) : List Nat :=
  (List.range 8).filter fun i => sts.contains (nth s.sb.slates i).st

/-! ## Ownership (R84 to R94) -/

/-- owner_state (R431). -/
def State.ownerState (s : State) : Nat :=
  match s.mail.owner, s.mail.offer, s.mail.window with
  | some _, none, _ => 0
  | some _, some _, _ => 3
  | none, _, some _ => 1
  | none, _, none => 2

/-- The owner as a byte, 0xff none. -/
def State.ownerByte (s : State) : Nat := s.mail.owner.getD 0xff

/-- session_state set: 0 CLOSED, 1 OPEN, 2 OWNER, 3 YIELDING. -/
def State.setSession (m st : Nat) (s : State) : State := s.set (It.sessionState m) st

/-- An event to every open session whatever its mask: codes 0x0180 to 0x018f (R98). -/
def State.ownerChanged (old new cause : Nat) (s : State) : State :=
  s.emit 0x0180 (toLE 1 old ++ toLE 1 new ++ toLE 2 cause ++ toLE 4 0 ++ toLE 8 s.cycle)

/-- HANDOVER (R91): phase 0 offered, 1 declined, 2 expired, 3 withdrawn, 4 ended by the module. -/
def State.handoverEvent (target phase : Nat) (s : State) : State :=
  s.emit 0x0182 (toLE 1 s.ownerByte ++ toLE 1 target ++ toLE 2 phase ++ toLE 4 0 ++ toLE 8 s.cycle)

/-- A pending offer ended without a switch: the owner's session is OWNER again, a held OWN_ACCEPT is answered CONFLICT, and
HANDOVER is sent with its phase (Table 3.10 steps 5 to 7). Log entry: 22 DEDUCED. -/
def State.endOffer (phase : Nat) (s : State) : State :=
  match s.mail.offer with
  | none => s
  | some o =>
    let s := match s.mail.owner with
      | some w => s.setSession w 2
      | none => s
    ((s.modMail fun ml => { ml with offer := none }).answer o.target .accept stConflict []).handoverEvent o.target phase

/-- Ownership falls vacant or a start leaves no owner: OWNER_VACANT, the election window and the grace timer (Table 3.11
steps 2 and 3, R432). Log entry: 38 DEDUCED. -/
def State.openElection (former : Nat) (s : State) : State :=
  let w := s.get It.electionWindowMs
  let s := s.modMail fun ml => { ml with
    window := some (s.now + w * 1000000), grace := some (s.now + s.get It.ownerlessGraceMs * 1000000), graceOver := false }
  s.emit 0x0181 (toLE 1 former ++ toLE 1 0 ++ toLE 2 w ++ toLE 4 0 ++ toLE 8 s.cycle)

/-- A vacancy (R92, Table 3.11): cause 2 release, 3 lapse, 4 session closed, 5 session replaced; `st` is the state the
former owner's session takes. Log entry: 22 DEDUCED. -/
def State.vacate (cause st : Nat) (s : State) : State :=
  match s.mail.owner with
  | none => s
  | some w =>
    let s := s.endOffer 4
    let s := (s.modMail fun ml => { ml with owner := none }).setSession w st
    let s := s.each (s.slatesIn [.opened]) (fun i s => s.discardSlate i 1)
    let s := (if cause = 3 then s.bump It.ownerLapses else s).updDiscard 2
    (s.ownerChanged w 0xff cause).openElection w

/-- Ownership granted to a claimant (R88): its claim is answered OK, every other held claim CONFLICT; the grace timer stops
(Table 3.11 step 4). Log entry: 38 DEDUCED. -/
def State.grant (w : Nat) (s : State) : State :=
  let others := (s.mail.claims.map (·.1)).filter (· != w)
  let s := s.modMail fun ml => { ml with
    owner := some w, window := none, grace := none, graceOver := false, claims := [], lapseFrom := s.now }
  let s := (s.setSession w 2).answer w .claim stOk (toLE 4 w)
  let s := s.each others fun m s => s.answer m .claim stConflict (toLE 4 w)
  s.ownerChanged 0xff w 0

/-- The claimant of highest own_priority, the lowest master number at a tie (R88). Log entry: 21 DEDUCED. -/
def State.bestClaim (s : State) : Option Nat :=
  (s.mail.claims.map (·.1)).foldl (fun best m =>
    match best with
    | none => some m
    | some b =>
      let pb := s.get (It.ownPriority b)
      let pm := s.get (It.ownPriority m)
      if pb < pm ∨ (pb = pm ∧ m < b) then some m else some b) none

/-- A held claim of a master withdrawn with CONFLICT. Log entry: 23 DEDUCED. -/
def State.dropClaim (m : Nat) (s : State) : State :=
  (s.modMail fun ml => { ml with claims := ml.claims.filter (fun c => c.1 != m) }).answer m .claim stConflict
    (toLE 4 s.ownerByte)

/-- The target's session of a pending offer closes or is replaced: the offer ends (Table 3.10 step 7). -/
def State.targetGone (m : Nat) (s : State) : State :=
  match s.mail.offer with
  | some o => if o.target = m then s.endOffer 4 else s
  | none => s

/-- A session closes (R84): a pending offer to it ends, a held claim is withdrawn, its trace buffer is freed
(R218), ownership falls vacant with its cause. Log entry: 23 DEDUCED. -/
def State.closeSession (m cause : Nat) (s : State) : State :=
  let s := (s.targetGone m).dropClaim m
  let s := { s with rods := { s.rods with trace := s.rods.trace.filter fun t => t.master != m } }
  if s.mail.owner = some m then s.vacate cause 0 else s.setSession m 0

/-- Log entries: 38 DEDUCED, 177 DESIGN CHOICE. -/
def execElectionWindowEnd (dt : Nat) (s : State) : Host.Outcome State Fault Refusal :=
  timed dt (fun s =>
    match s.mail.window with
    | some w =>
      if s.now < w then s
      else match s.mail.owner, s.bestClaim with
        | none, some m => s.grant m
        | _, _ => s.modMail fun ml => { ml with window := none }
    | none => s) s

/-- A claim made while ownership is vacant and no window is open is granted at the next K; the earliest of several (R88).
Log entry: 21 DEDUCED. -/
def State.grantAtK (s : State) : State :=
  match s.mail.owner, s.mail.window, s.mail.claims with
  | none, none, (m, k) :: _ => if k < s.clk.kLast then s.grant m else s
  | _, _, _ => s

/-- Log entry: 177 DESIGN CHOICE. -/
def execOwnershipGrantAtK (dt : Nat) (s : State) : Host.Outcome State Fault Refusal := timed dt State.grantAtK s

/-- The switch of an accepted offer at the next K (Table 3.10 steps 3 and 4). Log entry: 24 DEDUCED. -/
def State.ownershipSwitch (s : State) : State :=
  match s.mail.owner, s.mail.offer with
  | some w, some o =>
    match o.accepted with
    | some k =>
      if k < s.clk.kLast then
        let s := (s.setSession w 1).setSession o.target 2
        let s := s.modMail fun ml => { ml with owner := some o.target, offer := none, lapseFrom := s.now }
        let s := if o.keep then s else (s.each (s.slatesIn [.opened, .prepared]) (fun i s => s.discardSlate i 2)).updDiscard 2
        ((s.ownerChanged w o.target 1).bump It.handovers).answer o.target .accept stOk []
      else s
    | none => s
  | _, _ => s

/-- Log entry: 177 DESIGN CHOICE. -/
def execOwnershipSwitch (dt : Nat) (s : State) : Host.Outcome State Fault Refusal := timed dt State.ownershipSwitch s

/-- The acceptance window of 200 ms has passed without acceptance (Table 3.10 step 5). -/
def State.offerExpiry (s : State) : State :=
  match s.mail.offer with
  | some o => if o.accepted = none ∧ o.at_ + 200000000 ≤ s.now then s.endOffer 2 else s
  | none => s

/-- Log entry: 177 DESIGN CHOICE. -/
def execOfferExpiry (dt : Nat) (s : State) : Host.Outcome State Fault Refusal := timed dt State.offerExpiry s

/-- The ownership lapse time of 500 ms has passed; the timer is held during a Reckoner restart (R83, R90, R92).
Log entry: 34 DEDUCED. -/
def State.ownershipLapse (s : State) : State :=
  if s.mail.owner.isSome ∧ s.mail.reck.up ∧ s.mail.lapseFrom + 500000000 ≤ s.now then s.vacate 3 1 else s

/-- Log entry: 34 DEDUCED. -/
def execOwnershipLapse (dt : Nat) (s : State) : Host.Outcome State Fault Refusal := timedRom dt State.ownershipLapse s

/-- An OPEN session without an accepted frame for session_idle_s closes (R84). Log entry: 34 DEDUCED. -/
def State.sessionIdle (m : Nat) (s : State) : State :=
  if s.get (It.sessionState m) = 1 ∧ (s.master m).lastFrame + s.get It.sessionIdleS * 1000000000 ≤ s.now then
    s.closeSession m 4
  else s

/-- Log entries: 34 DEDUCED, 177 DESIGN CHOICE. -/
def execSessionIdleExpiry (dt : Nat) (m : Fin 16) (s : State) : Host.Outcome State Fault Refusal :=
  timedRom dt (State.sessionIdle m) s

/-- The grace timer ends with no owner: the ownerless action is due at the next K (Table 3.11 step 5). -/
def State.graceExpiry (s : State) : State :=
  match s.mail.grace with
  | some g =>
    if g ≤ s.now ∧ s.mail.owner = none then s.modMail fun ml => { ml with grace := none, graceOver := true } else s
  | none => s

/-- Log entry: 177 DESIGN CHOICE. -/
def execOwnerlessGraceExpiry (dt : Nat) (s : State) : Host.Outcome State Fault Refusal := timed dt State.graceExpiry s

/-! ## The opcodes of Table 3.14 -/

/-- Log entry: 36 DESIGN CHOICE. -/
def opSessionOpen : OpFn := fun m f s =>
  let flags := u16At f.p 0
  let mask := u32At f.p 8
  if 1 < flags ∨ !zeroAt f.p 2 2 ∨ 2 ^ 19 ≤ mask then refuse stRange s
  else
    let resume := flags == 1 && u32At f.p 4 == s.get (It.sessionId m)
    let s := s.targetGone m
    let s := if s.mail.owner = some m then (if resume then s else s.vacate 5 1) else (s.dropClaim m).setSession m 1
    let (v, s) := s.fresh
    let id := v % 4294967296
    let s := ((s.set (It.sessionId m) id).set (It.evtMask m) mask).modMaster m fun ma => { ma with lastFrame := s.now }
    reply (toLE 4 id ++ toLE 1 s.ownerByte ++ toLE 1 s.ownerState ++ toLE 2 (s.get (It.sessionState m)) ++
      toLE 8 s.cycle) s

def opSessionClose : OpFn := fun m _ s => reply [] (s.closeSession m 4)

/-- Time to lapse in ms, 0 for a master that is not the owner. -/
def State.toLapse (s : State) (m : Nat) : Nat :=
  if s.mail.owner = some m then (s.mail.lapseFrom + 500000000 - s.now) / 1000000 else 0

def opHeartbeat : OpFn := fun m _ s =>
  reply (toLE 1 s.ownerByte ++ toLE 1 (s.get It.reckonerLoadPct) ++ toLE 2 (s.get (It.sessionState m)) ++
    toLE 4 (s.toLapse m)) s

def opOwnClaim : OpFn := fun m _ s =>
  if s.get (It.ownPriority m) = 0 then (s, { status := stDenied, payload := toLE 4 s.ownerByte })
  else if s.mail.owner.isSome then (s, { status := stConflict, payload := toLE 4 s.ownerByte })
  else if s.phase = .recovery then reply (toLE 4 m) (s.grant m)
  else (s.modMail fun ml => { ml with claims := ml.claims ++ [(m, s.clk.kLast)] }, { wait := .claim })

def opOwnRelease : OpFn := fun _ _ s => reply [] (s.vacate 2 1)

def opOwnOffer : OpFn := fun m f s =>
  let target := u8At f.p 0
  let flags := u8At f.p 1
  if (15 < target ∧ target ≠ 0xff) ∨ 1 < flags ∨ !zeroAt f.p 2 2 then refuse stRange s
  else if target = 0xff then
    if s.mail.offer.isSome then reply [] (s.endOffer 3) else refuse stConflict s
  else if !s.sessionOpen target ∨ s.get (It.ownPriority target) = 0 ∨ s.mail.offer.isSome then refuse stConflict s
  else
    let s := (s.modMail fun ml => { ml with
      offer := some { target := target, keep := flags == 1, at_ := s.now } }).setSession m 3
    reply [] (s.handoverEvent target 0)

/-- Log entry: 24 DEDUCED. -/
def opOwnAccept : OpFn := fun m f s =>
  let flags := u8At f.p 0
  if 1 < flags ∨ !zeroAt f.p 1 3 then refuse stRange s
  else
    match s.mail.offer with
    | none => refuse stConflict s
    | some o =>
      if o.target ≠ m then refuse stConflict s
      else if flags = 1 then reply [] (s.endOffer 1)
      else (s.modMail fun ml => { ml with offer := some { o with accepted := some s.clk.kLast } }, { wait := .accept })

def opOutputsResume : OpFn := fun _ _ s =>
  if s.get It.ownerlessApplied = 0 then refuse stConflict s
  else reply [] (s.modMail fun ml => { ml with resume := true })

def opSessionList : OpFn := fun _ _ s =>
  reply ((List.range 16).flatMap fun m =>
    let rd := s.sb.snap.items.read s.variant
    toLE 1 m ++ toLE 1 (rd (It.sessionState m)) ++ toLE 1 (rd (It.ownPriority m)) ++ toLE 1 0 ++
      toLE 4 (rd (It.sessionId m))) s

def opEvtMaskSet : OpFn := fun m f s =>
  if 2 ^ 19 ≤ u32At f.p 0 then refuse stRange s else reply [] (s.set (It.evtMask m) (u32At f.p 0))

/-! ## ITEM_READ (R95, R96) -/

/-- The type codes of Table 3.12. Log entry: 35 DEDUCED. -/
def ItemType.code : ItemType → Nat
  | .u8 => 0 | .u16 => 1 | .u32 => 2 | .u64 => 3 | .s32 => 4 | .q16 => 5 | .q48 => 6 | .enum => 7 | .bits => 8

/-- One entry of an ITEM_READ response: key, status, type code, size and value, padded to a multiple of 4 (Table 3.13); `rom` in
ROM recovery mode, which serves two classes (R381). Log entry: 35 DEDUCED. -/
def readEntry (variant : Nat) (rom : Bool) (items : Store) (k : Nat) : List Byte :=
  match (if k < 2 ^ 24 ∧ (!rom ∨ k / 65536 = 0x10 ∨ k / 65536 = 0xa0) then findRow k else none) with
  | none => toLE 4 k ++ toLE 2 stNoItem ++ toLE 2 0
  | some r =>
    let n := r.ty.bytes
    toLE 4 k ++ toLE 2 stOk ++ toLE 1 r.ty.code ++ toLE 1 n ++ toLE n (items.read variant k) ++ toLE ((4 - n % 4) % 4) 0

/-- The response of ITEM_READ and SNAPSHOT_READ from one snapshot (Table 3.13). Log entry: 54 DESIGN CHOICE. -/
def readPayload (variant : Nat) (rom : Bool) (sn : Snap) (keys : List Nat) : List Byte :=
  toLE 8 sn.cycle ++ toLE 4 sn.carry ++ toLE 2 keys.length ++ toLE 2 0 ++ keys.flatMap (readEntry variant rom sn.items)

/-- The keys of a read request: `n` of them from offset 4. -/
def readKeys (p : List Byte) (n : Nat) : List Nat := (List.range n).map fun i => u32At p (4 + 4 * i)

/-- Log entry: 35 DEDUCED. -/
def opItemRead : OpFn := fun _ f s =>
  let n := u16At f.p 0
  if n = 0 ∨ 62 < n ∨ !zeroAt f.p 2 2 then refuse stRange s
  else reply (readPayload s.variant (s.phase == .recovery) s.sb.snap (readKeys f.p n)) s

/-! ## The tenant window and the gateway (R67, R69) -/

/-- Frames removed from a ring as its consumer index moves on by `n` slots. -/
def dropSlots : Nat → List OutFrame → List OutFrame
  | _, [] => []
  | n, f :: r => if frameSlots f.payload.length ≤ n then dropSlots (n - frameSlots f.payload.length) r else f :: r

/-- The consumer index of an RSP ring as the master writes it. -/
def Master.consumeRsp (v : Nat) (ma : Master) : Master :=
  { ma with rspFrames := dropSlots ((v + 65536 - ma.rsp.cons) % 65536) ma.rspFrames, rsp := { ma.rsp with cons := v } }

/-- The consumer index of an EVT ring as the master writes it. -/
def Master.consumeEvt (v : Nat) (ma : Master) : Master :=
  { ma with evtFrames := dropSlots ((v + 65536 - ma.evt.cons) % 65536) ma.evtFrames, evt := { ma.evt with cons := v } }

/-- The interrupt status word: writing 1 clears a bit (Table 3.3). Nothing is placed in the rings of the lane that is not active, so
that its status word has no bit to clear (R70). Log entry: 28 DEDUCED. -/
def execMailboxIrqClear (dt : Nat) (part : TenantPort) (bits : BitVec 32) (s : State) :
    Host.Outcome State Fault Refusal :=
  timed dt (fun s => if part.lane = s.lanes.latch then s.modMaster part.part fun ma => { ma with irq := ma.irq &&& (3 ^^^ (bits.toNat % 4)) }
    else s) s

/-- The inter-slot limit of 10 ms expires within a gateway frame (R69). -/
def State.gatewayGap (m : Nat) (s : State) : State :=
  let ma := s.master m
  if !ma.gwPart.isEmpty ∧ ma.gwAt + 10000000 < s.now then
    (s.modMaster m fun ma => { ma with gwPart := [] }).bump (It.frameErrors m)
  else s

/-- Log entry: 33 DEDUCED. -/
def execGatewaySlotGap (dt : Nat) (gw : Fin 2) (s : State) : Host.Outcome State Fault Refusal :=
  timed dt (State.gatewayGap (12 + gw)) s

/-! ## The Reckoner's restart (R83) -/

/-- A watchdog expiry counted: more than three within 60 s are a self-diagnosis fault of the lane, cause 6.
Log entry: 37 DEDUCED. -/
def State.expiry (s : State) : State :=
  let recent := (s.mail.reck.expiries.filter fun t => s.now < t + 60000000000) ++ [s.now]
  let s := s.modMail fun ml => { ml with reck := { up := false, since := s.now, expiries := recent } }
  if 3 < recent.length then { s with lanes := { s.lanes with found := s.lanes.found ++ [(s.lanes.latch, 6)] } } else s

/-- The watchdog is not served in time: the command in execution is answered ABORTED without effect, and the Reckoner
restarts. The watchdog is not armed during a restart. Log entry: 37 DEDUCED. -/
def State.watchdog (inExec : Option (Fin 16 × Frame)) (s : State) : State :=
  if s.mail.reck.up then
    match inExec with
    | some (m, f) =>
      (s.expiry.modMaster m fun ma => { ma with cmd := ma.cmd.produce (frameSlots f.p.length) }).takeFrame
        (fun _ _ s => (s, { status := stAborted })) m f
    | none => s.expiry
  else s

def execReckonerWatchdogExpiry (dt : Nat) (inExec : Option (Fin 16 × Frame)) (s : State) :
    Host.Outcome State Fault Refusal :=
  timed dt (State.watchdog inExec) s

/-- A restart that has not resumed within 50 ms counts as a further expiry and begins again.
Log entry: 37 DEDUCED. -/
def State.restartTimeout (s : State) : State :=
  if !s.mail.reck.up ∧ s.mail.reck.since + 50000000 ≤ s.now then s.expiry else s

def execReckonerRestartTimeout (dt : Nat) (s : State) : Host.Outcome State Fault Refusal :=
  timed dt State.restartTimeout s

/-- The held events of a master placed in order (R83). -/
def State.releaseHeld (m : Nat) (s : State) : State :=
  let h := (s.master m).held
  h.foldl (fun s e => s.placeEvt m e.1 e.2) (s.modMaster m fun ma => { ma with held := [] })

/-- The Reckoner resumes: held events first, then RECKONER_RESTART to every open session; the owner's lapse timer restarts
from zero; held responses are placed. Log entry: 37 DEDUCED. -/
def State.reckonerUp (s : State) : State :=
  let s := s.modMail fun ml => { ml with reck := { ml.reck with up := true }, lapseFrom := s.now }
  let s := (s.each (List.range 16) State.releaseHeld).bump It.reckonerRestarts
  let s := s.emit 0x0183 (toLE 4 (s.get It.reckonerRestarts) ++ toLE 4 0 ++ toLE 8 s.now)
  s.each (List.range 16) State.flush

end Sys2Proof.Machine
end

