-- ==== Sys2Proof/Machine/Project.lean ====
section
/-! DEFINITION. The projected state of a slate (R106), the failures of its checks (R107), and transfers on the BLK ring
(R103). -/

namespace Sys2Proof.Machine

/-- A store with entries written in order. -/
def Store.putAll (variant : Nat) (es : List (Nat × Nat)) (st : Store) : Store :=
  es.foldl (fun st e => st.put e.1 (itemDefault variant e.1) e.2) st

/-- An enable item of default 0 stands at 1. -/
def Store.on (st : Store) (k : Nat) : Bool := st.find k == some 1

/-- One instant lies before another of the same basis. Log entry: 45 DEDUCED. -/
def instantBefore (basis a b : Nat) : Bool := if basis = 0 then decide (posDiff a b < 0) else decide (a < b)

/-- A carry comes before another of the same basis: its instant is earlier, or the same and its commit earlier (R108, R112).
Log entry: 45 DEDUCED. -/
def carriesBefore (basis a n b k : Nat) : Bool := instantBefore basis a b || (!instantBefore basis b a && decide (n < k))

/-- A slate put in its place by the order of carries. -/
def insertSlate (x : Slate) : List Slate → List Slate
  | [] => [x]
  | y :: r => if carriesBefore x.basis x.instant x.order y.instant y.order then x :: y :: r else y :: insertSlate x r

/-- The slates COMMITTED, in the order in which they carry (R106, R108). -/
def State.committed (s : State) : List Slate :=
  (s.sb.slates.filter (fun x => x.st == .committed)).foldr insertSlate []

/-- The projected state: what is in force with the direct writes accepted so far, every COMMITTED slate in carry order,
then some entries (R106). -/
def State.projected (s : State) (es : List (Nat × Nat)) : Store :=
  Store.putAll s.variant es (s.committed.foldl (fun st x => Store.putAll s.variant x.entries st) s.items)

/-- A failed check: the item concerned, the rule number, and for a resource its code, demand and amount available
(R107). Log entry: 41 DEDUCED. -/
structure Failure where
  key : Nat
  rule : Nat
  res : Nat := 0
  demand : Nat := 0
  avail : Nat := 0
  deriving DecidableEq, Repr

/-- A failure when a condition over some items does not hold, one per item: a report names the item whose entry comes first
in the slate, or the first of the list where the slate holds none of them (R107). Log entry: 41 DEDUCED. -/
def require (c : Bool) (keys : List Nat) (rule : Nat) : List Failure :=
  if c then [] else keys.map fun k => { key := k, rule := rule }

/-- A failure when a demand exceeds what is available, one per item that the demand is made of. -/
def admission (demand avail : Nat) (keys : List Nat) (rule res : Nat) : List Failure :=
  if demand ≤ avail then [] else keys.map fun k => { key := k, rule := rule, res := res, demand := demand, avail := avail }

/-- The sum of fractions rounded up to a whole unit (R157). Log entry: 66 DEDUCED. -/
def ceilSum (l : List (Nat × Nat)) : Nat :=
  let q := l.foldl (fun a x => (a.1 * x.2 + x.1 * a.2, a.2 * x.2)) (0, 1)
  (q.1 + q.2 - 1) / q.2

/-- The BLK frames of a transfer, from a sequence on, `n` of them (R73, R103). Log entry: 29 DEDUCED. -/
def State.blkFrames (s : State) (m first n : Nat) : Option (List BlkSeen) :=
  (List.range n).mapM fun i => (s.master m).blks.find? (fun b => b.seq == (first + i) % 65536)

/-- The image that a transfer carries: present within 100 ms from its first to its last frame, without a flag (R72), of the named
length, with the named CRC-32C (R103). Log entry: 29 DEDUCED. -/
def State.blkImage (s : State) (m first n bytes crc : Nat) : Except Nat (List Byte) :=
  match s.blkFrames m first n with
  | none => .error stTimeout
  | some fs =>
    let ts := fs.map (·.at_)
    if 100000000 < ts.foldl max 0 - ts.foldl min (ts.headD 0) then .error stTimeout
    else if fs.any (·.flagged) then .error stRange
    else
      let img := fs.flatMap (·.payload)
      if img.length ≠ bytes then .error stRange
      else if crc32c img ≠ crc then .error stIntegrity
      else .ok img

/-- The BLK frames of an accepted transfer are no longer held. Log entry: 29 DEDUCED. -/
def State.blkConsume (m first n : Nat) (s : State) : State :=
  s.modMaster m fun ma => { ma with blks := ma.blks.filter (fun b => !((b.seq + 65536 - first) % 65536 < n)) }

end Sys2Proof.Machine
end

