-- ==== Sys2Proof/Machine/Can.lean ====
section
/-! DEFINITION. CAN FD channels (spec 10): buffers, arbitration, error states, reception and the opcodes of Table 10.7. -/

namespace Sys2Proof.Machine

def State.modCan (ch : Nat) (f : CanCh → CanCh) (s : State) : State :=
  { s with can := { s.can with chs := upd s.can.chs ch f } }

/-- One channel. -/
def State.canCh (s : State) (ch : Nat) : CanCh := nth s.can.chs ch

/-- CAN_STATE (R295): causes 0 warning, 1 passive, 2 bus-off, 3 recovered, 4 active, 5 integration. -/
def State.canEvent (ch cause : Nat) (s : State) : State :=
  s.emit 0x0b82 (toLE 1 ch ++ toLE 1 (s.get (It.canState ch)) ++ toLE 2 cause ++ toLE 1 (min (s.get (It.canTec ch)) 255) ++
    toLE 1 (s.get (It.canRec ch)) ++ toLE 2 0 ++ toLE 8 s.now)

/-! ## Arbitration (R290 to R294) -/

/-- The arbitration field of a frame as a number whose order is the order of arbitration, with RTR or RRS, SRR and IDE
(R292). -/
def CanFrame.arb (f : CanFrame) : Nat :=
  let rtr := b2n f.remote
  if f.ext then bitsOf f.id.toNat 28 18 * 2 ^ 21 + 2 ^ 20 + 2 ^ 19 + bitsOf f.id.toNat 17 0 * 2 + rtr
  else f.id.toNat % 2048 * 2 ^ 21 + rtr * 2 ^ 20

/-- A better candidate comes first: the lower arbitration field, then the earlier eligibility (R292).
Log entry: 68 DEDUCED. -/
def betterBuf (a b : TxBuf) : TxBuf :=
  if CanFrame.arb b.frame < CanFrame.arb a.frame ∨
    (CanFrame.arb b.frame = CanFrame.arb a.frame ∧ b.el.getD 0 < a.el.getD 0) then b else a

/-- The channel may start a frame: normal operation, ERROR_ACTIVE or ERROR_PASSIVE, not held by the ownerless action, and
its transmit line connected to the bus (R280, R295, R297). -/
def State.canDrives (s : State) (ch : Nat) : Bool :=
  let st := s.get (It.canState ch)
  s.get (It.canMode ch) == 1 && (st == 2 || st == 3) && !(s.canCh ch).held && s.lanes.accepting

/-- A channel with can_fd 0 carries classic frames only (R284). -/
def State.canCarries (s : State) (ch : Nat) (f : CanFrame) : Bool := !f.fd || s.get (It.canFd ch) == 1

/-- An opportunity to start a frame: without an attempt in progress, the controller selects among its eligible buffers
(R292). A frame that it would start while the latch takes none is counted (R29). Log entries: 33 DEDUCED, 68 DEDUCED. -/
def State.canStart (ch : Nat) (s : State) : State :=
  let c := s.canCh ch
  if c.attempt.isNone && s.canDrives ch then
    match c.bufs.filter fun b => b.el.isSome && s.canCarries ch b.frame with
    | [] => s
    | b :: r =>
      let x := r.foldl betterBuf b
      s.modCan ch fun c => { c with
        attempt := some x.idx
        bufs := c.bufs.map fun b => if b.idx = x.idx then { b with attempts := b.attempts + 1, sofAt := s.now } else b }
  else if c.attempt.isNone && !s.lanes.accepting && s.live && s.get (It.canMode ch) == 1 && !c.held && c.bufs.any (·.el.isSome) then
    s.bump It.arbitrationDiscards
  else s

/-- The lowest free buffer number of a channel. -/
def CanCh.freeIdx (c : CanCh) : Option Nat := (List.range 32).find? fun i => c.bufs.all fun b => b.idx != i

/-- A buffer filled; an internal one is eligible at once (R291). -/
def State.canFill (ch : Nat) (b : TxBuf) (s : State) : State :=
  match (s.canCh ch).freeIdx with
  | none => s
  | some i =>
    (s.modCan ch fun c => { c with
      bufs := c.bufs ++ [{ b with idx := i, handle := c.nextHandle, el := b.el.map fun _ => c.nextEl }]
      nextHandle := c.nextHandle % 4294967295 + 1, nextEl := c.nextEl + 1 }).canStart ch

/-- CAN_TX_DONE for a master's buffer: outcome 0 transmitted, 1 cancelled, 2 arbitration lost, 3 error, 4 flushed,
5 interrupted (R293). -/
def State.txDone (ch : Nat) (b : TxBuf) (outcome flags : Nat) (s : State) : State :=
  if b.src ≤ 15 then
    s.emit 0x0b81 (toLE 1 ch ++ toLE 1 outcome ++ toLE 1 flags ++ toLE 1 0 ++ toLE 4 b.tag ++ toLE 4 b.handle ++
      toLE 4 b.attempts ++ toLE 8 b.sofAt)
  else s

/-- A buffer freed with its outcome. Log entry: 71 DEDUCED. -/
def State.canFree (ch : Nat) (b : TxBuf) (outcome flags : Nat) (s : State) : State :=
  (s.modCan ch fun c => { c with
    bufs := c.bufs.filter (fun x => x.idx != b.idx)
    attempt := if c.attempt = some b.idx then none else c.attempt }).txDone ch b outcome flags

/-- Every buffer of a channel freed as flushed (R297); a cancel waiting on one is answered OK.
Log entry: 71 DEDUCED. -/
def State.canFlush (ch : Nat) (s : State) : State :=
  (s.canCh ch).bufs.foldl (fun s b => (s.canFree ch b 4 0).answerAll (.canCancel ch b.idx) stOk []) s

/-- The state copies up to cycle `c` are acknowledged: the buffers they hold become eligible (R291). -/
def State.canEligible (c : Nat) (s : State) : State :=
  s.each (List.range 6) fun ch s =>
    let new := (s.canCh ch).bufs.filter fun b => b.el.isNone && decide (b.cyc ≤ c)
    if new.isEmpty then s
    else (s.modCan ch fun x => { x with
      nextEl := x.nextEl + new.length
      bufs := x.bufs.map fun b =>
        if b.el.isNone && decide (b.cyc ≤ c) then { b with el := some (x.nextEl + (new.findIdx fun y => y.idx == b.idx)) }
        else b }).canStart ch

/-! ## Error states (R295, R296, R299) -/

/-- The state that the counters give: 2 ERROR_ACTIVE, 3 ERROR_PASSIVE, 4 BUS_OFF (R295). -/
def errState (tec rec : Nat) : Nat := if 255 < tec then 4 else if 128 ≤ tec ∨ 128 ≤ rec then 3 else 2

/-- Counters set, with the warning when one reaches 96, and the error state that follows from them; entry into BUS_OFF
counts and recovers by can_busoff_policy (R295, R296). Log entry: 69 DESIGN CHOICE. -/
def State.canCounters (ch tec rec : Nat) (s : State) : State :=
  let t0 := s.get (It.canTec ch)
  let r0 := s.get (It.canRec ch)
  let st0 := s.get (It.canState ch)
  let s := (s.set (It.canTec ch) (min tec 256)).set (It.canRec ch) (min rec 128)
  let s := if (t0 < 96 ∧ 96 ≤ tec) ∨ (r0 < 96 ∧ 96 ≤ rec) then s.canEvent ch 0 else s
  if st0 = 2 ∨ st0 = 3 then
    let st := errState tec rec
    if st = st0 then s
    else if st = 4 then
      let s := ((s.set (It.canState ch) 4).bump (It.canBusoffCount ch)).canEvent ch 2
      if s.get (It.canBusoffPolicy ch) = 0 then s.set (It.canState ch) 5 else s
    else (s.set (It.canState ch) st).canEvent ch (if st = 3 then 1 else 4)
  else s

/-- A CAN error is detected: can_errors counts it and the counter of the error's kind rises as ISO 11898-1 gives it; a
monitoring controller counts nothing (R280, R295). Log entry: 69 DESIGN CHOICE. -/
def State.canError (ch : Nat) (e : CanError) (s : State) : State :=
  let s := s.bump (It.canErrors ch)
  if s.get (It.canMode ch) ≠ 1 then s
  else
    let t := s.get (It.canTec ch)
    let r := s.get (It.canRec ch)
    match e with
    | .receive => s.canCounters ch t (r + 1)
    | .receiveDominant => s.canCounters ch t (r + 8)
    | .transmit => s.canCounters ch (t + 8) r

/-- Log entry: 69 DESIGN CHOICE. -/
def execCanBusError (dt : Nat) (ch : Fin 6) (err : CanError) (s : State) : Host.Outcome State Fault Refusal :=
  timedRun dt (fun s => if s.get (It.canMode ch) = 0 then s else s.canError ch err) s

/-- 128 × 11 recessive bits counted: ERROR_ACTIVE with both counters 0, and arbitration from the buffers (R296). -/
def State.busoffRecovered (ch : Nat) (s : State) : State :=
  if s.get (It.canState ch) = 5 then
    ((((s.set (It.canTec ch) 0).set (It.canRec ch) 0).set (It.canState ch) 2).canEvent ch 3).canStart ch
  else s

def execCanBusoffRecovered (dt : Nat) (ch : Fin 6) (s : State) : Host.Outcome State Fault Refusal :=
  timedRun dt (State.busoffRecovered ch) s

/-- The controller enters INTEGRATING. Log entry: 72 DEDUCED. -/
def State.integrate (ch : Nat) (s : State) : State := (s.set (It.canState ch) 1).canEvent ch 5

/-- Bus idle: with new bit timing the controller enters INTEGRATING; an integrating controller has seen its 11 recessive
bits and continues in the state its counters give (R284, R299). Log entry: 72 DEDUCED. -/
def State.busIdle (ch : Nat) (s : State) : State :=
  if s.get (It.canMode ch) = 0 then s.modCan ch fun c => { c with retime := false }
  else if (s.canCh ch).retime then (s.modCan ch fun c => { c with retime := false }).integrate ch
  else if s.get (It.canState ch) = 1 then
    if s.get (It.canMode ch) = 2 then s.set (It.canState ch) 6
    else
    let st := errState (s.get (It.canTec ch)) (s.get (It.canRec ch))
    ((s.set (It.canState ch) st).canEvent ch (if st = 2 then 4 else if st = 3 then 1 else 2)).canStart ch
  else s

/-- Log entry: 72 DEDUCED. -/
def execCanBusIdleIntegration (dt : Nat) (ch : Fin 6) (s : State) : Host.Outcome State Fault Refusal :=
  timedRun dt (State.busIdle ch) s

/-- An FD frame that the controller may not take, with can_pex 1: the protocol exception state, no error flag and no error
counter; with can_pex 0 it is a form error (R284). Log entry: 72 DEDUCED. -/
def State.protocolException (ch : Nat) (s : State) : State :=
  if s.get (It.canMode ch) = 0 then s
  else if s.get (It.canPex ch) = 0 then s.canError ch .receive
  else s.integrate ch

def execCanProtocolException (dt : Nat) (ch : Fin 6) (s : State) : Host.Outcome State Fault Refusal :=
  timedRun dt (State.protocolException ch) s

/-! ## The end of an attempt (R293, R294) -/

/-- The transmit attempt in progress ends. Log entry: 68 DEDUCED. -/
def State.attemptEnd (ch : Nat) (o : TxOutcome) (s : State) : State :=
  match (s.canCh ch).attempt with
  | none => s
  | some i =>
    match (s.canCh ch).bufs.find? (fun b => b.idx == i) with
    | none => s
    | some b =>
      let s := s.modCan ch fun c => { c with attempt := none }
      let s := match o with
        | .success =>
          let t := s.get (It.canTec ch)
          let s := (s.canCounters ch (t - 1) (s.get (It.canRec ch))).bump (It.canTxFrames ch)
          (s.canFree ch b 0 (b2n b.cancel)).answerAll (.canCancel ch i) stTooLate []
        | .lostArbitration =>
          let s := s.bump (It.canArbLost ch)
          if b.cancel then (s.canFree ch b 1 0).answerAll (.canCancel ch i) stOk []
          else if b.oneShot then s.canFree ch b 2 0 else s
        | .error =>
          if b.cancel then (s.canFree ch b 1 0).answerAll (.canCancel ch i) stOk []
          else if b.oneShot then s.canFree ch b 3 0 else s
      s.canStart ch

/-! ## The gateway's slots out (R69) -/

/-- The bytes of a frame as slots of 64 bytes (R66). Log entry: 33 DEDUCED. -/
def slotsOf (l : List Byte) : List (List Byte) :=
  (chunks 64 256 l).map fun c => c ++ List.replicate (64 - c.length) 0

/-- A gateway identifier with its format bit as a frame of one slot. -/
def gatewayFrame (id : Nat) (slot : List Byte) : CanFrame :=
  { id := BitVec.ofNat 29 (id % 2 ^ 29), ext := bit id 29, fd := true, brs := true, remote := false, dlc := 15, data := slot }

/-- The gateway takes the next frame from the rings of its master once it has sent the one before, a response before an event, and
the consumer index passes it (R66, R69). Log entry: 33 DEDUCED. -/
def gatewayLoad (m : Nat) (ma : Master) : Master :=
  if ma.gwOut.isEmpty then
    match ma.rspFrames, ma.evtFrames with
    | f :: r, _ => { ma with gwOut := slotsOf (f.bytes m 1), rspFrames := r, rsp := ma.rsp.consume (frameSlots f.payload.length) }
    | [], f :: r => { ma with gwOut := slotsOf (f.bytes m 2), evtFrames := r, evt := ma.evt.consume (frameSlots f.payload.length) }
    | [], [] => ma
  else ma

/-- One slot of a gateway master handed to its channel, when one of its two transmit buffers there is free (R69, R290). -/
def State.gatewaySend (m : Nat) (s : State) : State :=
  let ch := s.get (It.gwCanChannel m)
  if 5 < ch ∨ s.get (It.canMode ch) ≠ 1 ∨ (s.canCh ch).held ∨ 2 ≤ ((s.canCh ch).bufs.filter fun b => b.gw == some m).length then s
  else
    let s := s.modMaster m (gatewayLoad m)
    match (s.master m).gwOut with
    | [] => s
    | slot :: rest =>
      (s.modMaster m fun ma => { ma with gwOut := rest }).canFill ch
        { idx := 0, src := 0xfe, frame := gatewayFrame (s.get (It.gwRspId m)) slot, handle := 0, tag := 0, oneShot := false
          el := some 0, cyc := s.cycle, gw := some m }

/-- Frames placed in the rings of a gateway master leave as slots on its channel, two buffers at a time (R69, R290). -/
def State.gatewayPump (m : Nat) (s : State) : State := ((s.gatewaySend m).gatewaySend m).flush m

/-- Both gateway masters. -/
def State.gateways (s : State) : State := (s.gatewayPump 12).gatewayPump 13

def execCanTxAttemptEnd (dt : Nat) (ch : Fin 6) (outcome : TxOutcome) (s : State) : Host.Outcome State Fault Refusal :=
  timedRun dt (fun s => (s.attemptEnd ch outcome).gateways) s

/-! ## Reception (R285 to R289) -/

/-- The flags of a received frame record. -/
def CanFrame.flags (f : CanFrame) : Nat := b2n f.fd + 2 * b2n f.brs + 4 * b2n f.ext + 8 * b2n f.remote + 16 * b2n f.esi

/-- The received frame record (Table 10.2). -/
def canRecord (ch decider : Nat) (f : CanFrame) (seq mtime tally : Nat) : List Byte :=
  toLE 1 ch ++ toLE 1 (CanFrame.flags f) ++ toLE 1 f.dlc ++ toLE 1 decider ++ toLE 4 f.id.toNat ++ toLE 4 seq ++ toLE 4 0 ++
    toLE 8 mtime ++ toLE 8 tally ++ f.data

/-- A frame carries an identifier of 29 bits with its format at bit 29. Log entry: 70 DEDUCED. -/
def CanFrame.isId (f : CanFrame) (id : Nat) : Bool := f.id.toNat == id % 2 ^ 29 && f.ext == bit id 29

/-- Filter `i` of a channel matches a frame whose start-of-frame is stamped `g` (R286, R119). Log entry: 73 DEDUCED. -/
def State.filterMatches (s : State) (g ch i : Nat) (f : CanFrame) : Bool :=
  let mask := s.getAt g (It.fltMask ch i)
  let fmt := s.getAt g (It.fltFormat ch i)
  let ty := s.getAt g (It.fltType ch i)
  s.getAt g (It.fltEnable ch i) == 1 && (f.id.toNat &&& mask) == (s.getAt g (It.fltId ch i) &&& mask) &&
    (fmt == 0 || (fmt == 2) == f.ext) && (ty == 0 || (ty == 2) == f.fd)

/-- High-priority buffer `h` of a channel matches a frame whose start-of-frame is stamped `g` (R287, R119). Log entry: 73 DEDUCED. -/
def State.hpMatches (s : State) (g ch h : Nat) (f : CanFrame) : Bool :=
  let mask := s.getAt g (It.hpMask ch h)
  let id := s.getAt g (It.hpId ch h)
  s.getAt g (It.hpEnable ch h) == 1 && (f.id.toNat &&& (mask % 2 ^ 29)) == (id &&& (mask % 2 ^ 29)) &&
    (!bit mask 29 || bit id 29 == f.ext)

/-- A high-priority buffer takes a frame: the sequence advances by two around the record, an unread record is overwritten
and counted, and the interrupt of its partition is raised (R287). Log entry: 73 DEDUCED. -/
def State.hpTake (ch h : Nat) (record : List Byte) (s : State) : State :=
  let s := if (nth (s.canCh ch).hp h).unread then s.bump (It.hpOverwrites ch h) else s
  let s := (s.modCan ch fun c => { c with hp := upd c.hp h fun b =>
    { seq := (b.seq + 2) % 4294967296, record := record, unread := true } }).bump (It.hpCount ch h)
  let part := s.get (It.hpPartition ch h)
  if part ≤ 3 then s.modMaster part fun ma => { ma with hpIrq := ma.hpIrq ||| 2 ^ (ch * 8 + h) } else s

/-- An event for named masters, each subject to its session and mask (R286, R98). -/
def State.emitMasters (ms : List Nat) (code : Nat) (p : List Byte) (s : State) : State :=
  s.each (ms.filter (s.wants code)) fun m s => s.evtTo m code p

/-- Masters named by a bit mask. -/
def maskMasters (v : Nat) : List Nat := (List.range 16).filter (bit v)

/-- A valid frame takes the next receive sequence; a frame of another node lowers the receive error counter (R285, R295).
Log entry: 69 DESIGN CHOICE. -/
def State.canCount (ch : Nat) (f : CanFrame) (s : State) : State :=
  let s := (s.set (It.canRxSeq ch) ((s.get (It.canRxSeq ch) + 1) % 4294967296)).bump (It.canRxFrames ch)
  let c := s.canCh ch
  let own : Bool := match c.attempt with
    | some i => c.bufs.any fun b => b.idx == i && b.frame == f
    | none => false
  let r := s.get (It.canRec ch)
  if own ∨ r = 0 ∨ s.get (It.canMode ch) ≠ 1 then s
  else if r ≤ 127 then s.canCounters ch (s.get (It.canTec ch)) (r - 1)
  else
    let (v, s) := s.fresh
    s.canCounters ch (s.get (It.canTec ch)) (119 + v % 9)

/-- Steps 3 and 4 of the reception order: the lowest-numbered matching high-priority buffer takes the frame, and the first
matching filter decides it (R285 to R287); `g` is the mtime of its start-of-frame (R54). Log entry: 73 DEDUCED. -/
def State.canOffer (ch g : Nat) (f : CanFrame) (s : State) : State :=
  let filt := (List.range 16).find? fun i => s.filterMatches g ch i f
  let hp := (List.range 8).find? fun h => s.hpMatches g ch h f
  let seq := s.get (It.canRxSeq ch)
  let decider := match filt, hp with
    | some i, _ => i
    | none, some h => 0x80 + h
    | none, none => 0xff
  let record := canRecord ch decider f seq g (s.posAt g)
  let s := match hp with
    | some h => s.hpTake ch h record
    | none => s
  let ms := match filt with
    | some i => if s.getAt g (It.fltAction ch i) = 1 then maskMasters (s.getAt g (It.fltMasters ch i)) else []
    | none => []
  let s := match filt with
    | some i => s.bump (It.fltHits ch i)
    | none => s.bump (It.canRxUnmatched ch)
  (s.modCan ch fun c => { c with recent := c.recent ++ [{ cycle := s.cycle, frame := f, record := record, masters := ms }] }).emitMasters
    ms 0x0b80 record

def execCanHpIrqWordRead (dt : Nat) (part : Fin 4) (s : State) : Host.Outcome State Fault Refusal :=
  timed dt (State.modMaster part fun ma => { ma with hpIrq := 0 }) s

/-! ## The opcodes of Table 10.7 -/

/-- Buffers reserved for the module's own transmissions on a channel (R290). -/
def reservedBufs (rd : Nat → Nat) (ch : Nat) : Nat :=
  2 * ([12, 13].filter fun m => rd (It.gwCanChannel m) == ch).length +
    ((List.range 8).filter fun c => rd (It.ctxEnable c) == 1 && rd (It.ctxExpMode c) == 1 && rd (It.ctxExpCan c) == ch).length

/-- Log entry: 70 DEDUCED. -/
def opCanTx : OpFn := fun m f s =>
  let ch := u8At f.p 0
  let fl := u8At f.p 1
  let dlc := u8At f.p 2
  let id := u32At f.p 4
  if 5 < ch ∨ 31 < fl ∨ 15 < dlc ∨ (8 < dlc ∧ !bit fl 0) ∨ (bit fl 3 ∧ bit fl 0) ∨ !zeroAt f.p 3 1 ∨ 2 ^ 29 ≤ id ∨
      (!bit fl 2 ∧ 2047 < id) then refuse stRange s
  else if !bit (s.get (It.canTxMasters ch)) m then refuse stDenied s
  else if s.get (It.canMode ch) ≠ 1 ∨ (s.canCh ch).held ∨ (bit fl 0 ∧ s.get (It.canFd ch) = 0) then refuse stConflict s
  else
    let c := s.canCh ch
    let mine := (c.bufs.filter fun b => decide (b.src ≤ 15)).length
    match c.freeIdx with
    | some i =>
      if mine < 32 - reservedBufs s.get ch then
        let b : TxBuf :=
          { idx := i, src := m, handle := c.nextHandle, tag := u32At f.p 8, oneShot := bit fl 4, el := none, cyc := s.cycle
            frame := { id := BitVec.ofNat 29 id, ext := bit fl 2, fd := bit fl 0, brs := bit fl 1, remote := bit fl 3
                       dlc := Fin.ofNat 16 dlc, data := if bit fl 3 then [] else f.p.drop 12 } }
        (s.modCan ch fun c => { c with bufs := c.bufs ++ [b], nextHandle := c.nextHandle % 4294967295 + 1 },
          { payload := toLE 1 i ++ toLE 3 0 ++ toLE 4 b.handle, wait := .copy s.cycle })
      else
        let (v, s) := s.fresh
        (s, { status := stBusy, payload := toLE 4 (busyHint v) })
    | none =>
      let (v, s) := s.fresh
      (s, { status := stBusy, payload := toLE 4 (busyHint v) })

/-- Log entry: 70 DEDUCED. -/
def opCanTxCancel : OpFn := fun m f s =>
  let ch := u8At f.p 0
  let h := u32At f.p 4
  if 5 < ch ∨ !zeroAt f.p 1 3 then refuse stRange s
  else
    match (s.canCh ch).bufs.find? (fun b => b.handle == h) with
    | none => refuse stConflict s
    | some b =>
      if b.src ≠ m ∧ s.mail.owner ≠ some m then refuse stDenied s
      else if (s.canCh ch).attempt = some b.idx then
        (s.modCan ch fun c => { c with bufs := c.bufs.map fun x => if x.idx = b.idx then { x with cancel := true } else x },
          { wait := .canCancel ch b.idx })
      else reply [] (s.canFree ch b 1 0)

/-- One entry of CAN_TX_LIST: buffer, owner, state 0 free, 1 waiting for copy, 2 eligible, 3 in attempt.
Log entry: 70 DEDUCED. -/
def txEntry (c : CanCh) (i : Nat) : List Byte :=
  match c.bufs.find? (fun b => b.idx == i) with
  | none => toLE 1 i ++ toLE 1 0xff ++ toLE 14 0
  | some b =>
    let st := if c.attempt = some i then 3 else if b.el.isSome then 2 else 1
    let fl := b2n b.frame.fd + 2 * b2n b.frame.brs + 4 * b2n b.frame.ext + 8 * b2n b.frame.remote + 16 * b2n b.oneShot
    toLE 1 i ++ toLE 1 b.src ++ toLE 1 st ++ toLE 1 fl ++ toLE 4 b.frame.id.toNat ++ toLE 4 b.handle ++ toLE 4 b.attempts

def opCanTxList : OpFn := fun _ f s =>
  let ch := u8At f.p 0
  if 5 < ch ∨ !zeroAt f.p 1 3 then refuse stRange s
  else
    let c := s.canCh ch
    reply (toLE 2 c.bufs.length ++ toLE 2 0 ++ (List.range 32).flatMap (txEntry c)) s

def opCanRecover : OpFn := fun _ f s =>
  let ch := u8At f.p 0
  if 5 < ch ∨ !zeroAt f.p 1 3 then refuse stRange s
  else if s.get (It.canState ch) ≠ 4 then refuse stConflict s
  else reply [] (s.set (It.canState ch) 5)

def opCanHpRead : OpFn := fun _ f s =>
  let ch := u8At f.p 0
  let h := u8At f.p 1
  if 5 < ch ∨ 7 < h ∨ !zeroAt f.p 2 2 then refuse stRange s
  else
    let b := nth (s.canCh ch).hp h
    if s.get (It.hpEnable ch h) ≠ 1 ∨ b.seq = 0 then refuse stConflict s
    else reply (toLE 4 b.seq ++ toLE 4 0 ++ b.record ++ List.replicate (96 - b.record.length) 0)
      (s.modCan ch fun c => { c with hp := upd c.hp h fun b => { b with unread := false } })

/-! ## Carries (R299), consistency (R301) and admission (R300) -/

/-- The items whose change takes new bit timing at the next bus idle (R299). -/
def timingKeys (ch : Nat) : List Nat :=
  [It.canFd ch, It.canNbrp ch, It.canNtseg1 ch, It.canNtseg2 ch, It.canNsjw ch, It.canDbrp ch, It.canDtseg1 ch,
   It.canDtseg2 ch, It.canDsjw ch, It.canPex ch]

/-- What a carry does on a channel, from the items before it (R297, R299). Log entry: 72 DEDUCED. -/
def State.canCarry (old : Nat → Nat) (ch : Nat) (s : State) : State :=
  let m := s.get (It.canMode ch)
  let s := if (timingKeys ch).any (fun k => old k != s.get k) then s.modCan ch fun c => { c with retime := true } else s
  if m = old (It.canMode ch) then s
  else if m = 1 then s.integrate ch
  else (s.canFlush ch).set (It.canState ch) (if m = 2 then 6 else 0)

/-- The nominal bit time in units of 12.5 ns (R281). -/
def nominalTq (rd : Nat → Nat) (ch : Nat) : Nat :=
  rd (It.canNbrp ch) * (1 + rd (It.canNtseg1 ch) + rd (It.canNtseg2 ch))

/-- The data bit time in units of 12.5 ns (R281). -/
def dataTq (rd : Nat → Nat) (ch : Nat) : Nat :=
  rd (It.canDbrp ch) * (1 + rd (It.canDtseg1 ch) + rd (It.canDtseg2 ch))

/-- A channel that rule 0x13 of Table 10.6 wants in normal operation. -/
def channelRule (rd : Nat → Nat) (key ch : Nat) (monitor gateway : Bool) : List Failure :=
  let m := rd (It.canMode ch)
  require ((m == 1 || (monitor && m == 2)) && (!gateway || rd (It.canFd ch) == 1)) (key :: It.canMode ch :: if gateway then [It.canFd ch] else []) 0x13

/-- The consistency rules of Table 10.6 (R301). Bit rates in bit/s are 80 000 000 divided by the bit time in quanta. -/
def canRules (rd : Nat → Nat) : List Failure :=
  ((List.range 6).filter (fun ch => rd (It.canMode ch) != 0)).flatMap (fun ch =>
    let n := nominalTq rd ch
    let d := dataTq rd ch
    require (decide (rd (It.canNsjw ch) ≤ rd (It.canNtseg2 ch)) && decide (rd (It.canNsjw ch) ≤ rd (It.canNtseg1 ch)) &&
      decide (rd (It.canDsjw ch) ≤ rd (It.canDtseg2 ch)) && decide (rd (It.canDsjw ch) ≤ rd (It.canDtseg1 ch))) [It.canNsjw ch, It.canNtseg1 ch, It.canNtseg2 ch, It.canDsjw ch, It.canDtseg1 ch, It.canDtseg2 ch, It.canMode ch] 0x10 ++
    require (decide (80 ≤ n) && decide (n ≤ 8000) && (rd (It.canFd ch) == 0 || (decide (16 ≤ d) && decide (d ≤ n)))) 
      [It.canNbrp ch, It.canNtseg1 ch, It.canNtseg2 ch, It.canDbrp ch, It.canDtseg1 ch, It.canDtseg2 ch, It.canFd ch, It.canMode ch] 0x11 ++
    require (decide (rd (It.canTdcOffset ch) < d)) [It.canTdcOffset ch, It.canDbrp ch, It.canDtseg1 ch, It.canDtseg2 ch, It.canMode ch] 0x12 ++
    (List.range 8).flatMap fun h =>
      require (rd (It.hpEnable ch h) != 1 || decide (rd (It.hpPartition ch h) ≤ 3) || rd (It.hpPartition ch h) == 255)
        [It.hpPartition ch h, It.hpEnable ch h, It.canMode ch] 0x14) ++
  ([12, 13].filter (fun m => decide (rd (It.gwCanChannel m) ≤ 5))).flatMap (fun m =>
    channelRule rd (It.gwCanChannel m) (rd (It.gwCanChannel m)) false true) ++
  ((List.range 8).filter (fun c => rd (It.ctxEnable c) == 1 && rd (It.ctxExpMode c) == 1)).flatMap (fun c =>
    channelRule rd (It.ctxExpCan c) (rd (It.ctxExpCan c)) false false) ++
  ((List.range 32).filter (fun n => decide (33 ≤ rd (It.stSource n)) && decide (rd (It.stSource n) ≤ 38))).flatMap (fun n =>
    channelRule rd (It.stSource n) (rd (It.stSource n) - 33) true false) ++
  ((List.range 32).filter (fun n => decide (5 ≤ rd (It.lmSource n)))).flatMap (fun n =>
    channelRule rd (It.lmSource n) (rd (It.lmSource n) - 5) true false)

/-- The frame rate of a context as a fraction: cam_max_line_rate over cam_height × ctx_frame_mod (R157).
Log entry: 67 DEDUCED. -/
def frameRate (rd : Nat → Nat) (c : Nat) : Nat × Nat :=
  let p := rd (It.ctxPort c)
  (rd (It.camMaxLineRate p), rd (It.camHeight p) * rd (It.ctxFrameMod c))

/-- CAN admission (Table 10.5, R300). Log entry: 67 DEDUCED. -/
def canAdmission (rd : Nat → Nat) : List Failure :=
  (List.range 6).flatMap fun ch =>
    let ex := (List.range 8).filter fun c => rd (It.ctxEnable c) == 1 && rd (It.ctxExpMode c) == 1 && rd (It.ctxExpCan c) == ch
    let load := ceilSum (ex.map fun c =>
      let r := frameRate rd c
      (r.1 * 160 * nominalTq rd ch * 25, r.2 * 2 * 1000000))
    admission (reservedBufs rd ch) 24
      (It.gwCanChannel 12 :: It.gwCanChannel 13 :: (List.range 8).flatMap fun c => [It.ctxExpCan c, It.ctxExpMode c, It.ctxEnable c]) 0x20 9 ++
    admission load 300
      (ex.flatMap fun c => [It.ctxExpCan c, It.ctxExpMode c, It.ctxEnable c, It.ctxFrameMod c, It.camMaxLineRate (rd (It.ctxPort c)),
        It.camHeight (rd (It.ctxPort c)), It.canNbrp ch, It.canNtseg1 ch, It.canNtseg2 ch]) 0x21 9

end Sys2Proof.Machine
end

