-- ==== Sys2Proof/Machine/Camera.lean ====
section
/-! DEFINITION. Camera ports and pixel pipeline (spec 05). Detections leave the pipeline in `Fusion`. -/

namespace Sys2Proof.Machine

def State.modPort (p : Nat) (f : CamPort → CamPort) (s : State) : State :=
  { s with cam := { s.cam with ports := upd s.cam.ports p f } }

def State.modCtx (c : Nat) (f : CamCtx → CamCtx) (s : State) : State :=
  { s with cam := { s.cam with ctxs := upd s.cam.ctxs c f } }

def State.port (s : State) (p : Nat) : CamPort := nth s.cam.ports p
def State.ctx (s : State) (c : Nat) : CamCtx := nth s.cam.ctxs c

/-! ## State and guard of a port (R135, R136) -/

/-- cam_state: 0 OFF, 1 NO_CLOCK, 2 SEARCHING, 3 CAPTURING (R135). Log entry: 57 DEDUCED. -/
def State.camStateOf (s : State) (p : Nat) : Nat :=
  if s.get (It.camEnable p) = 0 then 0
  else if !(s.port p).clock then 1
  else if (s.port p).frame.isNone then 2 else 3

/-- cam_line_rate: line-start edges of the last 10 ms per second. Log entry: 57 DEDUCED. -/
def CamPort.rate (c : CamPort) (t : Nat) : Nat := (c.lineTimes.filter fun x => t < x + 10000000).length * 100

/-- The port's state and guard judged; the state of the window holds beneath STALE and BROKEN; a change of cam_state or cam_guard
sends CAM_PORT_STATE (R136). Log entry: 57 DEDUCED. -/
def State.camJudge (p : Nat) (s : State) : State :=
  let st := s.camStateOf p
  let c := s.port p
  let r := c.rate s.now
  let stale := match c.lastLine with
    | none => true
    | some l => decide (s.get (It.camStaleMs p) * 1000000 ≤ s.now - l)
  let broken := st == 1 || decide (s.get (It.camPclkMaxKhz p) * 102 < s.get (It.camPclkKhz p) * 100)
  let w := windowState c.win r (s.get (It.camRateLow p)) (s.get (It.camRateHigh p)) (s.get (It.camHystPct p))
  let g := guardState w stale broken
  let old := (s.get (It.camState p), s.get (It.camGuard p))
  let s := (((s.modPort p fun x => { x with win := w }).set (It.camState p) st).set (It.camGuard p) g).set (It.camLineRate p) r
  if old = (st, g) then s
  else s.emit 0x0780 (toLE 1 p ++ toLE 1 0 ++ toLE 2 st ++ toLE 2 g ++ toLE 2 0 ++ toLE 8 s.now)

/-! ## Pipeline stages 1 to 6 (Table 5.3) -/

/-- Pixels of format yuv422: chroma shared by an even pixel and the odd one after it, counted from the first image pixel after the
metadata. Log entry: 55 DEDUCED. -/
def unpackYuv : List Nat → List (Nat × Nat × Nat)
  | a :: b :: r =>
    (a % 256 * 256, a / 256 * 256, b / 256 * 256) :: (b % 256 * 256, a / 256 * 256, b / 256 * 256) :: unpackYuv r
  | [a] => [(a % 256 * 256, a / 256 * 256, 0)]
  | [] => []

/-- The pixels of pixel words, channels left-aligned to 16 bits (Table 5.2, R130). Log entry: 55 DEDUCED. -/
def unpackWords (fmt : Nat) (ws : List Nat) : List (Nat × Nat × Nat) :=
  match fmt with
  | 0 => ws.flatMap fun w => [(w % 256 * 256, 0, 0), (w / 256 * 256, 0, 0)]
  | 1 => ws.map fun w => (w % 1024 * 64, 0, 0)
  | 2 => ws.map fun w => (w % 4096 * 16, 0, 0)
  | 3 => ws.map fun w => (w, 0, 0)
  | 4 => ws.map fun w => (bitsOf w 15 11 * 2048, bitsOf w 10 5 * 1024, bitsOf w 4 0 * 2048)
  | _ => unpackYuv ws

/-- Column and row are listed in a defect table; row 0xffff lists the whole column (Table 5.5). -/
def CamTable.lists (t : CamTable) (col row : Nat) : Bool :=
  t.entries.any fun e => e.headD 0 == col && (e.getD 1 0 == row || e.getD 1 0 == 0xffff)

/-- The mean of two channel values. Log entry: 56 DEDUCED. -/
def mean2 (a b : Nat × Nat × Nat) : Nat × Nat × Nat := ((a.1 + b.1) / 2, (a.2.1 + b.2.1) / 2, (a.2.2 + b.2.2) / 2)

/-- Stage 2 on one line within the region of interest whose left edge is column `x0` (Table 5.3).
Log entry: 56 DEDUCED. -/
def defectLine (t : CamTable) (x0 row : Nat) (prev : List (Nat × Nat × Nat)) (l : List (Nat × Nat × Nat)) :
    List (Nat × Nat × Nat) :=
  l.mapIdx fun i c =>
    if t.lists (x0 + i) row then
      let left := (List.range i).reverse.find? fun j => !t.lists (x0 + j) row
      let right := (List.range (l.length - i - 1)).find? fun j => !t.lists (x0 + i + 1 + j) row
      match left, right with
      | some a, some b => mean2 (l.getD a (0, 0, 0)) (l.getD (i + 1 + b) (0, 0, 0))
      | some a, none => l.getD a (0, 0, 0)
      | none, some b => l.getD (i + 1 + b) (0, 0, 0)
      | none, none => prev.getD i (0, 0, 0)
    else c

/-- A channel value limited to 16 bits. Log entry: 56 DEDUCED. -/
def clamp16 (i : Int) : Nat := (clampInt 0 65535 i).toNat

/-- Stage 3 on one channel of a column. Log entry: 56 DEDUCED. -/
def flatField (t : CamTable) (x c : Nat) : Nat :=
  let e := t.entries.getD x []
  clamp16 (fdiv (((c : Int) - e.headD 0) * e.getD 1 0) 4096)

/-- Stage 4 on one pixel; the matrix and offsets are q16.16. Log entry: 56 DEDUCED. -/
def colour (t : CamTable) (c : Nat × Nat × Nat) : Nat × Nat × Nat :=
  let m := fun i => signed32 ((t.entries.getD i []).headD 0)
  let out := fun k => clamp16 (fdiv (m (3 * k) * c.1 + m (3 * k + 1) * c.2.1 + m (3 * k + 2) * c.2.2 + m (9 + k)) 65536)
  (out 0, out 1, out 2)

/-- Stage 5: a pixel is foreground (ctx_seg_mode against background `b`). -/
def foreground (mode thr b c0 : Nat) : Bool :=
  match mode with
  | 1 => decide (thr ≤ b - c0) && decide (c0 ≤ b)
  | 2 => decide (thr ≤ c0 - b) && decide (b ≤ c0)
  | _ => decide (thr ≤ (c0 - b) + (b - c0))

/-- The runs of foreground in a line, first to last column. -/
def runsOf (l : List Bool) : List (Nat × Nat) :=
  let r := l.mapIdx (fun i b => (i, b)) |>.foldl (fun (a : List (Nat × Nat) × Option Nat) x =>
    match a.2, x.2 with
    | none, true => (a.1, some x.1)
    | some j, false => (a.1 ++ [(j, x.1 - 1)], none)
    | o, _ => (a.1, o)) (([] : List (Nat × Nat)), none)
  match r.2 with
  | some j => r.1 ++ [(j, l.length - 1)]
  | none => r.1

/-- Two runs of neighbouring lines are 8-connected. -/
def touches (a b : Nat × Nat) : Bool := decide (a.1 ≤ b.2 + 1) && decide (b.1 ≤ a.2 + 1)

/-- One run joined to every open object it is 8-connected to (stage 6). -/
def joinRun (stamp : LineStamp) (pix : List ObjPixel) (objs : List CamObj) (r : Nat × Nat) : List CamObj :=
  let hit := objs.filter fun o => o.prev.any (touches r)
  let rest := objs.filter fun o => !o.prev.any (touches r)
  let mine := pix.filter fun q => decide (r.1 ≤ q.col) && decide (q.col ≤ r.2)
  let joined : CamObj := hit.foldl (fun a o =>
      { pix := a.pix ++ o.pix, stamps := a.stamps ++ o.stamps.filter (fun x => !a.stamps.contains x)
        prev := a.prev ++ o.prev, cur := a.cur ++ o.cur })
    { pix := [], stamps := [], prev := [], cur := [] }
  rest ++ [{ joined with
    pix := joined.pix ++ mine, cur := joined.cur ++ [r]
    stamps := if joined.stamps.contains stamp then joined.stamps else joined.stamps ++ [stamp] }]

/-- One line of stage 6: the objects still open, and those that close because no run of the line touches them (R143).
Log entry: 64 DEDUCED. -/
def componentLine (stamp : LineStamp) (pix : List ObjPixel) (runs : List (Nat × Nat)) (objs : List CamObj) :
    List CamObj × List CamObj :=
  let objs := runs.foldl (joinRun stamp pix) (objs.map fun o => { o with cur := [] })
  ((objs.filter (fun o => !o.cur.isEmpty)).map (fun o => { o with prev := o.cur, cur := [] }),
   objs.filter (fun o => o.cur.isEmpty))

/-! ## Closing objects (R143, R144) -/

/-- The least element of a list of numbers. -/
def minOf (l : List Nat) : Nat := l.foldl min (l.headD 0)

/-- The greatest element of a list of numbers. -/
def maxOf (l : List Nat) : Nat := l.foldl max 0

/-- A port's open frame changed. -/
def State.modFrame (p : Nat) (f : CamFrame → CamFrame) (s : State) : State := s.modPort p fun x => { x with frame := x.frame.map f }

/-- The statistics of a port's open frame changed. -/
def State.modStats (p : Nat) (f : CamStats → CamStats) (s : State) : State := s.modFrame p fun x => { x with stats := f x.stats }

/-- The stamp of the first line of an object. -/
def CamObj.first (o : CamObj) : Option LineStamp :=
  o.stamps.foldl (fun a x => if a.any fun y => decide (y.mtime ≤ x.mtime) then a else some x) none

/-- An object that closes in a frame of a port, with its detection (Table 5.4) under the frame's settings. The factory
microprogram's means of the channels and its fractions of pixels below and above the background are computed; what other
features and class codes a microprogram gives is fixed by the firmware. Log entries: 4 DESIGN CHOICE, 65 DEDUCED. -/
def State.closedObj (s : State) (p c : Nat) (fr : CamFrame) (flags : Nat) (o : CamObj) : ClosedObj :=
  let rd := fr.cfg.read s.variant
  let n := o.pix.length
  let cols := o.pix.map (·.col)
  let rows := o.pix.map (·.row)
  let line := (o.stamps.find? fun t => t.row == rows.sum / n).getD fr.sof
  let stamp := if rd (It.camScan p) = 1 then fr.sof else line
  let px := o.pix.flatMap fun q => [q.row, q.col, q.c0, q.c1, q.c2, q.bg]
  let prog := rd (It.ctxFeatureProg c)
  let mean := fun (k : Nat) (f : ObjPixel → Nat) =>
    let m := (o.pix.map f).sum * 65536 / n
    if m < 2 ^ 31 then m else Config.feature prog px k % 4294967296
  let feat := fun k =>
    if prog = 0 ∧ k = 0 then mean 0 ObjPixel.c0
    else if prog = 0 ∧ k = 1 then mean 1 ObjPixel.c1
    else if prog = 0 ∧ k = 2 then mean 2 ObjPixel.c2
    else if prog = 0 ∧ k = 6 then (o.pix.filter fun q => decide (q.c0 < q.bg)).length * 65536 / n
    else if prog = 0 ∧ k = 7 then (o.pix.filter fun q => decide (q.bg < q.c0)).length * 65536 / n
    else Config.feature prog px k % 4294967296
  let edge := cols.contains 0 || cols.contains (rd (It.ctxRoiW c) - 1)
  { det :=
      { ctx := c, flags := flags + 16 * b2n edge, cls := if prog = 0 then 0 else Config.feature prog px 8 % 65536
        frame := fr.n, mtime := stamp.mtime, tally := stamp.tally
        col := (cols.sum * 65536 / n : Nat), row := ((rows.sum * 65536 / n : Nat) : Int) - fr.sof.row * 65536
        width := maxOf cols - minOf cols + 1, height := maxOf rows - minOf rows + 1, count := n
        feats := (List.range 8).map feat, expCarry := 0, roiX := rd (It.ctxRoiX c) }
    first := o.first.getD stamp, port := p, lat := stamp.lat }

/-- An object of a context closes in the open frame of a port: outside the area limits it is discarded without a count, beyond
ctx_max_objects it is discarded and counted, else it waits to be emitted. Log entry: 64 DEDUCED. -/
def State.closeObj (p c flags : Nat) (s : State) (o : CamObj) : State :=
  match (s.port p).frame with
  | none => s
  | some fr =>
    let rd := fr.cfg.read s.variant
    if o.pix.length < rd (It.ctxMinArea c) ∨ rd (It.ctxMaxArea c) < o.pix.length then s
    else if rd (It.ctxMaxObjects c) ≤ fr.stats.dets then
      (s.modStats p fun t => { t with objDrops := t.objDrops + 1, flags := t.flags ||| 64 }).bump (It.ctxObjectsDropped c)
    else (s.modCtx c fun x => { x with queue := x.queue ++ [s.closedObj p c fr flags o] }).modStats p fun t => { t with dets := t.dets + 1 }

/-- Objects close in their order. -/
def State.closeObjs (p c flags : Nat) (objs : List CamObj) (s : State) : State := objs.foldl (State.closeObj p c flags) s

/-- The pixels of an image line of a frame: unpacked, without metadata, surplus cut and missing ones 0 (Table 5.3 stage 1,
Table 5.8). -/
def linePixels (rd : Nat → Nat) (p : Nat) (words : List Nat) : List (Nat × Nat × Nat) :=
  let px := unpackWords (rd (It.camFormat p)) (words.drop (rd (It.camMetaPx p)))
  (px ++ List.replicate (rd (It.camWidth p) - px.length) (0, 0, 0)).take (rd (It.camWidth p))

/-- Stages 2 to 4 on a line within the region of interest: the output of stage 2, which the next line may take, and that of
stage 4 (Table 5.3). -/
def lineStages (rd tab : Nat → Nat) (tables : List CamTable) (c img : Nat) (prev roi : List (Nat × Nat × Nat)) :
    List (Nat × Nat × Nat) × List (Nat × Nat × Nat) :=
  let x0 := rd (It.ctxRoiX c)
  let on := fun (k : Nat) => decide (tab k < 16)
  let tbl := fun (k : Nat) => nth tables (tab k)
  let l2 := if on 0 then defectLine (tbl 0) x0 img prev roi else roi
  let l3 := if on 1 then
      l2.mapIdx fun i q => (flatField (tbl 1) (x0 + i) q.1, flatField (tbl 1) (x0 + i) q.2.1, flatField (tbl 1) (x0 + i) q.2.2)
    else l2
  (l2, if on 2 then l3.map (colour (tbl 2)) else l3)

/-- The statistics of a frame after the output of stage 4 of one line (R153). -/
def CamStats.line (l : List (Nat × Nat × Nat)) (t : CamStats) : CamStats :=
  { t with
    sum := t.sum + (l.map (·.1)).sum, count := t.count + l.length
    lo := l.foldl (fun a q => min a q.1) t.lo, hi := l.foldl (fun a q => max a q.1) t.hi
    sat := t.sat + (l.filter fun q => q.1 == 65535 || q.2.1 == 65535 || q.2.2 == 65535).length
    hist := l.foldl (fun h q => upd h (q.1 / 2048) (· + 1)) t.hist }

/-- The runs of a line reach stage 6 of a context on a port: objects open, continue and close. -/
def State.objectLine (p c : Nat) (stamp : LineStamp) (pix : List ObjPixel) (runs : List (Nat × Nat)) (s : State) : State :=
  let (opened, closed) := componentLine stamp pix runs (nth (s.port p).opened c)
  (s.modPort p fun x => { x with opened := upd x.opened c fun _ => opened }).closeObjs p c 0 closed

/-- One image line of an owned frame through stages 1 to 6 with its statistics (R142, R153); `img` is its number in the
frame. A line outside the region of interest has no run, so that open objects close at it (R143). Log entry: 64 DEDUCED. -/
def State.pipeLine (p c : Nat) (fr : CamFrame) (img : Nat) (words : List Nat) (stamp : LineStamp) (s : State) : State :=
  let rd := fr.cfg.read s.variant
  let s := (s.modStats p fun t => { t with lines := t.lines + 1 }).modCtx c fun x => { x with last := some stamp }
  if img < rd (It.ctxRoiY c) ∨ rd (It.ctxRoiY c) + rd (It.ctxRoiH c) ≤ img then s.objectLine p c stamp [] []
  else
    let x0 := rd (It.ctxRoiX c)
    let tab := fun k => rd (match k with
      | 0 => It.ctxDefectTable c
      | 1 => It.ctxFfTable c
      | 2 => It.ctxColourTable c
      | _ => It.ctxBgTable c)
    let (l2, l4) := lineStages rd tab fr.tables c img fr.prevLine (((linePixels rd p words).drop x0).take (rd (It.ctxRoiW c)))
    let bg := fun i => if tab 3 < 16 then ((nth fr.tables (tab 3)).entries.getD (x0 + i) []).headD 0 else rd (It.ctxBgLevel c)
    let fg := l4.mapIdx fun i q => foreground (rd (It.ctxSegMode c)) (rd (It.ctxThreshold c)) (bg i) q.1
    let pix := l4.mapIdx fun i q => ({ row := stamp.row, col := i, c0 := q.1, c1 := q.2.1, c2 := q.2.2, bg := bg i } : ObjPixel)
    let s := s.modFrame p fun x => { x with prevLine := l2, stats := x.stats.line l4 }
    s.objectLine p c stamp pix (runsOf fg)

/-! ## Frames (R133, R134, R140, R148 to R155) -/

/-- The enabled context that owns frame `n` of a port under some items (R140). Log entry: 64 DEDUCED. -/
def ownerCtx (rd : Nat → Nat) (p n : Nat) : Option Nat :=
  (List.range 8).find? fun c => rd (It.ctxEnable c) == 1 && rd (It.ctxPort c) == p &&
    n % rd (It.ctxFrameMod c) == rd (It.ctxFramePhase c)

/-- FRAME_FAULT of a context from the statistics of the frame (Table 5.7, R155). -/
def State.frameFault (c : Nat) (t : CamStats) (s : State) : State :=
  s.emit 0x0781 (toLE 1 c ++ toLE 1 t.flags ++ toLE 2 t.lines ++ toLE 2 (min t.dropped 65535) ++ toLE 2 0 ++ toLE 8 t.frame)

/-- A fault of a port's open frame: its counter, its flag in the statistics record and its event. -/
def State.faultOn (p c flag counter : Nat) (s : State) : State :=
  let s := (s.bump counter).modStats p fun t => { t with flags := t.flags ||| flag }
  s.frameFault c (((s.port p).frame.map (·.stats)).getD default)

/-- An unconfirmed delivery: counted and reported (R151). -/
def State.unconfirmed (c : Nat) (d : Delivery) (s : State) : State :=
  (s.bump (It.ctxExpUnconfirmed c)).emit 0x0782 (toLE 1 d.port ++ toLE 1 c ++ toLE 2 0 ++ toLE 4 d.carry ++ toLE 8 d.target)

/-- The CAN deliveries on a port that are still pending at its next start-of-frame are unconfirmed (R151). -/
def State.judgeDeliveries (p : Nat) (s : State) : State :=
  s.each (List.range 8) fun c s =>
    let late := fun (d : Delivery) => d.confirmed.isNone && d.mode == 1 && d.port == p
    ((s.ctx c).deliv.filter late).foldl (fun s d => s.unconfirmed c d) (s.modCtx c fun x => { x with deliv := x.deliv.map fun d =>
      if (late d) then { d with confirmed := some false } else d })

/-- The confirmed delivery of a frame: the greatest target at or below it, the later-sent of two (R152).
Log entry: 61 DEDUCED. -/
def expDelivery (ds : List Delivery) (n : Nat) : Option Delivery :=
  ds.foldl (fun best d =>
    if d.confirmed = some true ∧ d.target ≤ n then
      match best with
      | none => some d
      | some b => if b.target ≤ d.target then some d else some b
    else best) none

/-- The frame's own delivery was unconfirmed (R152). Log entry: 61 DEDUCED. -/
def expUnconfirmed (ds : List Delivery) (n : Nat) : Bool :=
  ds.any (fun d => d.target == n && d.confirmed == some false) && !ds.any (fun d => d.target == n && d.confirmed == some true)

/-- The deliveries that a frame may still name: the latest 32, and before them the confirmed one of the greatest target (R152). -/
def keepDeliveries (l : List Delivery) : List Delivery :=
  (expDelivery (l.take (l.length - 32)) (2 ^ 64)).toList ++ l.drop (l.length - 32)

/-- A delivery recorded. -/
def State.deliver (c : Nat) (d : Delivery) (s : State) : State :=
  s.modCtx c fun x => { x with deliv := keepDeliveries (x.deliv ++ [d]) }

/-- The data of a CAN exposure frame (R148). -/
def Delivery.data (d : Delivery) : List Byte := toLE 4 d.exposure ++ toLE 2 d.gain ++ toLE 2 d.target

/-- The exposure deliveries at the start-of-frame of frame `n` (R148, R149, R151): declared values count at once, CAN frames
are sent one-shot and wait for confirmation. -/
def State.exposures (p n : Nat) (s : State) : State :=
  s.each (List.range 8) fun c s =>
    let mode := s.get (It.ctxExpMode c)
    let target := n + s.get (It.ctxExpLatency c)
    if s.get (It.ctxEnable c) = 1 ∧ s.get (It.ctxPort c) = p ∧ mode ≠ 2 ∧
        target % s.get (It.ctxFrameMod c) = s.get (It.ctxFramePhase c) then
      let ch := s.get (It.ctxExpCan c)
      let id := s.get (It.ctxExpCanId c)
      let d : Delivery := { mode := mode, port := p, ch := ch, id := id, target := target, carry := s.get It.carryNumber
                            exposure := s.get (It.ctxExposure c), gain := s.get (It.ctxGain c)
                            confirmed := if mode = 0 then some true else none }
      let s := s.deliver c d
      if mode = 1 ∧ s.lanes.accepting ∧ s.get (It.canMode ch) = 1 ∧ !(s.canCh ch).held then
        s.canFill ch { idx := 0, src := 0xfe, handle := 0, tag := 0, oneShot := true, el := some 0, cyc := s.cycle
                       frame := { id := BitVec.ofNat 29 (id % 2 ^ 29), ext := bit id 29, fd := false, brs := false
                                  remote := false, dlc := 8, data := d.data } }
      else s
    else s

/-- A CAN exposure frame seen complete on the bus confirms its delivery (R151). -/
def State.confirmCan (ch : Nat) (f : CanFrame) (s : State) : State :=
  s.each (List.range 8) fun c s =>
    s.modCtx c fun x => { x with deliv := x.deliv.map fun d =>
      if d.confirmed = none ∧ d.mode = 1 ∧ d.ch = ch ∧ CanFrame.isId f d.id ∧ f.data = d.data then { d with confirmed := some true } else d }

/-- A grab of a stored frame is in progress: its response is not wholly placed (R159). Log entry: 59 DEDUCED. -/
def State.grabbing (s : State) : Bool := s.mail.masters.any fun ma => ma.outq.any fun r => r.op == 0x0701 && r.status == 0

/-- A frame buffer taken from a port's ring of `limit` buffers (R139): the oldest free ones give way; none when those in use leave
no room. A buffer that a grab holds is not free (R159). Log entry: 59 DEDUCED. -/
def takeBuf (limit : Nat) (grabbing : Bool) (b : FrameBuf) (ring : List FrameBuf) : Option (List FrameBuf) :=
  let free := ring.filter fun x => !x.inUse && !(x.grab && grabbing)
  let need := ring.length + 1 - limit
  if free.length < need then none
  else some (ring.filter (fun y => !(free.take need).contains y) ++ [b])

/-- The objects of a context that are open on a port close truncated in its open frame. -/
def State.truncate (p c flags : Nat) (s : State) : State :=
  (s.modPort p fun x => { x with opened := upd x.opened c fun _ => [] }).closeObjs p c flags (nth (s.port p).opened c)

/-- The open frame of a port closes (R133, R155): with the flags of its fault, 0 at its last image line. On a VSYNC-framed port,
and in a frame cut short, open objects close truncated. The record may become final at the next start-of-frame, or at once with
internal framing (R153). Log entry: 58 DEDUCED. -/
def State.frameClose (p : Nat) (flag : Nat) (s : State) : State :=
  match (s.port p).frame with
  | none => s
  | some fr =>
    let internal := fr.cfg.read s.variant (It.camFraming p) == 1
    let s := match fr.ctx with
      | none => s
      | some c =>
        let s := if flag = 0 then s else s.faultOn p c flag (It.ctxFramesPartial c)
        let s := if internal && flag == 0 then s else s.truncate p c (if flag = 0 then 1 else 3)
        s.modCtx c fun x => { x with
          waiting := x.waiting ++ ((s.port p).frame.map fun (f : CamFrame) => { f.stats with ready := internal }).toList }
    s.modPort p fun x => { x with frame := none, after := if internal ∨ flag ≠ 0 then none else some fr }

/-- The settings of a frame: those of its port, and those of its contexts (classes 0x40 and 0x48). -/
def frameCfg (port ctx : Store) : Store := (port.filter fun e => e.1 / 65536 == 0x40) ++ ctx.filter fun e => e.1 / 65536 == 0x48

/-- The owner of a new frame of a port, with the settings of its context and their carry number: those in force now, and for a
context in trigger-width mode those at the frame's trigger instant (R140, R149, R150). Log entry: 60 DEDUCED. -/
def State.frameOwner (s : State) (p n : Nat) : Option Nat × Store × Nat :=
  let rd := fun (t : TrigPulse) => t.cfg.read s.variant
  let byTrig := ((s.port p).trigs.find? fun t => t.frame == n).bind fun t =>
    ((ownerCtx (rd t) p n).filter fun c => rd t (It.ctxExpMode c) == 2).map fun c => (some c, t.cfg, t.carry)
  byTrig.getD (ownerCtx s.get p n, s.items, s.get It.carryNumber)

/-- The start-of-frame of a port (R133, R134, R139, R140, Table 5.12 step 1). Log entry: 58 DEDUCED. -/
def State.frameStart (p : Nat) (s : State) : State :=
  let n := s.get (It.camPortFrame p) + 1
  let s := (s.set (It.camPortFrame p) n).judgeDeliveries p
  let s := s.each (List.range 8) fun c s => s.modCtx c fun x => { x with waiting := x.waiting.map fun t =>
    if t.port = p then { t with ready := true } else t }
  let (own, cfg, carry) := s.frameOwner p n
  let st : CamStats := { port := p, frame := n, mtime := s.now, tally := s.pos, pipeCarry := carry, height := s.get (It.camHeight p) }
  let fr : CamFrame := { n := n, ctx := own, cfg := frameCfg s.items cfg, tables := s.cam.tables, stats := st
                         sof := { row := (s.port p).row, mtime := s.now, tally := s.pos, lat := s.portLatency p } }
  let s := s.modPort p fun x => { x with after := none, frame := some fr, trigs := x.trigs.filter fun t => decide (s.now < t.start) }
  let s := match own with
    | none => s
    | some c =>
      if s.get (It.camPath p) = 1 then s
      else
        match takeBuf (s.get (It.camRingFrames p)) s.grabbing { frame := n, ctx := c, lines := [], inUse := true } (s.port p).ring with
        | some ring => s.modPort p fun x => { x with ring := ring }
        | none => ((s.modFrame p fun f => { f with dropped := true }).faultOn p c 4 (It.ctxFramesOverflow c)).bump It.pipeOverflows
  s.exposures p n

/-- The bytes of a line in a frame ring: its metadata words of two bytes and its image pixels (Table 5.2), rounded up to a multiple
of 64 (R139). Log entry: 181 DEDUCED. -/
def ringLineBytes (fmt meta_ width : Nat) : Nat := (2 * meta_ + width * (if fmt = 0 then 1 else 2) + 63) / 64 * 64

/-- A line as it is stored in a frame ring. -/
def ringLine (fmt meta_ width : Nat) (bytes : List Byte) : List Byte :=
  let n := ringLineBytes fmt meta_ width
  (bytes ++ List.replicate (n - bytes.length) 0).take n

/-- The bytes of a line: its pixel words, each little-endian (R138). -/
def lineBytes (ws : List Nat) : List Byte := ws.flatMap (toLE 2)

/-- A line after the last image line of a VSYNC-framed frame: dropped and counted; the first makes it a long frame (R155). -/
def State.longLine (fr : CamFrame) (c : Nat) (s : State) : State :=
  let mine := fun (t : CamStats) => t.frame == fr.n && t.port == fr.stats.port
  let first := ((s.ctx c).waiting.find? mine).any fun t => t.dropped == 0
  let s := (s.bump (It.ctxLinesDropped c)).modCtx c fun x => { x with waiting := x.waiting.map fun t =>
    if (mine t) then { t with dropped := t.dropped + 1, flags := t.flags ||| 2 } else t }
  if first then (s.bump (It.ctxFramesLong c)).frameFault c (((s.ctx c).waiting.find? mine).getD default) else s

/-- A line that a memory-path port stores in the buffer of its open frame (R139). -/
def State.storeLine (p : Nat) (fr : CamFrame) (ws : List Nat) (s : State) : State :=
  let rd := fr.cfg.read s.variant
  if rd (It.camPath p) = 1 ∨ fr.ctx = none ∨ fr.dropped then s
  else
    let line := ringLine (rd (It.camFormat p)) (rd (It.camMetaPx p)) (rd (It.camWidth p)) (lineBytes ws)
    s.modPort p fun x => { x with ring := x.ring.map fun b => if b.frame = fr.n then { b with lines := b.lines ++ [line] } else b }

/-- The path of a frame cannot accept a line: the remainder of the frame is dropped, its open objects discarded and counted
(Table 5.8). -/
def State.lineOverflow (p c : Nat) (s : State) : State :=
  let n := (nth (s.port p).opened c).length
  let s := (s.modFrame p fun f => { f with dropped := true }).modPort p fun x => { x with opened := upd x.opened c fun _ => [] }
  ((s.faultOn p c 4 (It.ctxFramesOverflow c)).bump It.pipeOverflows).bumpBy (It.ctxObjectsDropped c) n

/-- An image line of an owned frame that is not dropped, stored and processed; a line of another width is a fault (R155). -/
def State.imageLine (p c : Nat) (fr : CamFrame) (row : Nat) (ws : List Nat) (s : State) : State :=
  let rd := fr.cfg.read s.variant
  let got := (unpackWords (rd (It.camFormat p)) (ws.drop (rd (It.camMetaPx p)))).length
  let s := s.storeLine p fr ws
  let s := if ws.length < rd (It.camMetaPx p) ∨ got ≠ rd (It.camWidth p) then
      (s.modStats p fun t => { t with widthErrs := t.widthErrs + 1 }).faultOn p c 32 (It.ctxWidthErrors c)
    else s
  s.pipeLine p c fr fr.img ws { row := row, mtime := s.now, tally := s.pos, lat := s.portLatency p }

/-- A line of the open frame of a port (R131, R133, R155). -/
def State.frameLine (p : Nat) (ws : List Nat) (overflow : Bool) (s : State) : State :=
  match (s.port p).frame with
  | none =>
    match (s.port p).after with
    | some fr => match fr.ctx with
      | none => s
      | some c => s.longLine fr c
    | none => s
  | some fr =>
    let rd := fr.cfg.read s.variant
    let embedded := decide (fr.emb < rd (It.camEmbeddedLines p))
    let row := (s.port p).row
    let s := if embedded then s.modFrame p fun f => { f with emb := f.emb + 1 }
      else s.modPort p fun x => { x with frame := x.frame.map fun f => { f with img := f.img + 1 }, row := x.row + 1 }
    let s := match fr.ctx with
      | none => s
      | some c =>
        if fr.dropped then s
        else if overflow then s.lineOverflow p c
        else if embedded then s.storeLine p fr ws
        else s.imageLine p c fr row ws
    if !embedded && fr.img + 1 == rd (It.camHeight p) then s.frameClose p 0 else s

/-- The framing of a port: that of its open frame, which completes with it, else that in force (R13, R150). -/
def State.framing (s : State) (p : Nat) : Nat :=
  match (s.port p).frame with
  | some fr => fr.cfg.read s.variant (It.camFraming p)
  | none => s.get (It.camFraming p)

/-- The first line of a frame reaches the latency monitors of the port, and its latency is that of the frame (R57, R138). -/
def State.firstLine (p : Nat) (ws : List Nat) (s : State) : State :=
  if (s.port p).frame.any fun fr => fr.emb == 0 && fr.img == 0 then
    let s := s.lmFeed (fun s n => s.get (It.lmSource n) == p + 1) s.now (lineBytes ws)
    s.modFrame p fun f => { f with sof := { f.sof with lat := s.portLatency p } }
  else s

/-- A line-start edge of a camera port with the words of its line (R131 to R138): the tally counts it whatever the port's
state; an enabled port forms frames. -/
def State.cameraLine (p : Nat) (ws : List Nat) (overflow : Bool) (s : State) : State :=
  let s := s.modPort p fun x => { x with
    clock := true, lastLine := some s.now
    lineTimes := s.now :: x.lineTimes.filter fun t => s.now < t + 10000000 }
  let s := s.tallyEdge (8 + p) true 0x3f
  let s := if s.get (It.camEnable p) = 0 then s
    else
      let s := if (s.port p).frame = none ∧ s.get (It.camFraming p) = 1 then s.frameStart p else s
      (s.firstLine p ws).frameLine p ws overflow
  s.camJudge p

/-- In a power-fail shut-down the pixel pipeline is stopped and the line is an edge of the tally alone (Table 13.4).
Log entry: 8 DESIGN CHOICE. -/
def execCameraLineStart (dt : Nat) (port : Fin 4) (px : List (BitVec 16)) (overflow : Bool) (s : State) :
    Host.Outcome State Fault Refusal :=
  timedLines dt (fun s => if s.live then s.cameraLine port (px.map BitVec.toNat) overflow else s.tallyEdge (8 + port) true 0x3f)
    (State.dieEdge (8 + port) true 0x3f) s

/-- An active edge of VSYNC (R133): it closes the frame in progress, short when its last image line has not come, and opens
the next; with internal framing it is ignored. Log entry: 58 DEDUCED. -/
def State.vsync (p : Nat) (s : State) : State :=
  if s.get (It.camEnable p) = 0 ∨ s.framing p = 1 then s
  else
    let s := s.modPort p fun x => { x with clock := true }
    ((s.frameClose p 1).frameStart p).camJudge p

/-- Log entry: 58 DEDUCED. -/
def execCameraFrameStart (dt : Nat) (port : Fin 4) (s : State) : Host.Outcome State Fault Refusal :=
  timed dt (State.vsync port) s

/-- No PCLK edge for the clock-loss time: NO_CLOCK, and an open frame closes as a short frame with the clock-lost flag
(R135). -/
def State.clockLoss (p : Nat) (s : State) : State :=
  let s := s.modPort p fun x => { x with clock := false }
  (s.frameClose p 17).camJudge p

def execCameraClockLoss (dt : Nat) (port : Fin 4) (s : State) : Host.Outcome State Fault Refusal :=
  timed dt (State.clockLoss port) s

def execCameraClockReturn (dt : Nat) (port : Fin 4) (s : State) : Host.Outcome State Fault Refusal :=
  timed dt (fun s => (s.modPort port fun x => { x with clock := true }).camJudge port) s

def execCameraStale (dt : Nat) (port : Fin 4) (s : State) : Host.Outcome State Fault Refusal :=
  timed dt (State.camJudge port) s

/-- What a record holds of its exposure: that of the confirmed delivery, or free values while no delivery at or below the
frame was confirmed (R152). Log entry: 61 DEDUCED. -/
def State.exposureOf (s : State) (ds : List Delivery) (n : Nat) : Nat × Nat × Nat :=
  match expDelivery ds n with
  | some d => (d.carry, d.exposure, d.gain)
  | none => (Config.freeValue s.free % 2 ^ 32, Config.freeValue (s.free + 1) % 2 ^ 32, Config.freeValue (s.free + 2) % 2 ^ 16)

/-- The oldest statistics record that may become final does so (R153, R154): kept with its exposure carry, the context's
status items follow it, and its ring buffer is freed. Mean and extremes over no pixel are free values, as is a mean beyond
the range of q16.16. Log entry: 62 DESIGN CHOICE. -/
def State.statsFinal (c : Nat) (s : State) : State :=
  match (s.ctx c).waiting.find? (·.ready) with
  | none => s
  | some t =>
    let x := s.ctx c
    let e := s.exposureOf x.deliv t.frame
    let none_ := t.count == 0
    let t := { t with
      expCarry := e.1, exposure := e.2.1, gain := e.2.2
      mean := if none_ then Config.freeValue (s.free + 3) % 2 ^ 32 else q16Open (s.free + 3) (t.sum * 65536 / t.count : Nat)
      lo := if none_ then Config.freeValue (s.free + 4) % 2 ^ 16 else t.lo
      hi := if none_ then Config.freeValue (s.free + 5) % 2 ^ 16 else t.hi
      flags := t.flags ||| (if expUnconfirmed x.deliv t.frame then 8 else 0) }
    let s := (s.useFree 6).modCtx c fun x => { x with
      waiting := x.waiting.filter (fun y => y.frame != t.frame || y.port != t.port)
      kept := (x.kept ++ [t]).drop (x.kept.length + 1 - 16) }
    let s := ((s.set (It.ctxFrame c) t.frame).set (It.ctxExpCarry c) t.expCarry).set (It.ctxPipeCarry c) t.pipeCarry
    s.modPort t.port fun y => { y with ring := y.ring.map fun b =>
      if b.frame = t.frame then { b with inUse := false } else b }

/-- Log entry: 62 DESIGN CHOICE. -/
def execStatisticsFinal (dt : Nat) (ctx : Fin 8) (s : State) : Host.Outcome State Fault Refusal :=
  timed dt (State.statsFinal ctx) s

/-! ## Triggers (R146) -/

/-- The next trigger instant of a port that lies at least the trigger lead of 100 µs ahead: its mark (tally integer or
mtime) and its mtime. Log entry: 60 DEDUCED. -/
def State.nextTrigger (p : Nat) (s : State) : Option (Nat × Nat) :=
  match s.get (It.camTrigMode p) with
  | 2 =>
    let per := s.get (It.camTrigPeriodUs p) * 1000
    let t := (s.now + 100000 + per - 1) / per * per
    some (t, t)
  | 1 =>
    let rate := s.time.lane.rate
    if rate = 0 then none
    else
      let units := s.get (It.camTrigUnits p)
      let off := s.get (It.camTrigOffset p)
      let first := (s.pos + 65535 + 100000 * rate * 65536 / 1000000000000) / 65536
      let u := first + (off + units - first % units) % units
      some (u, (s.now + distanceNs (posDiff (u * 65536) s.pos) rate).toNat)
  | _ => none

/-- The delivery of a trigger-width pulse is confirmed by the section's acceptance, or unconfirmed by its refusal, and a pulse that
the section has not accepted is a missed trigger (R147, R151, R271). Log entry: 60 DEDUCED. -/
def State.pulseResult (accepted : Bool) (c : PulseCmd) (s : State) : State :=
  let s := if accepted then s
    else (s.bump (It.camTrigMissed c.port)).modPort c.port fun x => { x with trigs := x.trigs.filter fun t => t.start != c.start }
  match c.ctx with
  | none => s
  | some (x, n) =>
    let mine := fun (d : Delivery) => d.mode == 2 && d.port == c.port && d.target == n && d.confirmed.isNone
    let ds := (s.ctx x).deliv.filter mine
    let s := s.modCtx x fun y => { y with deliv := y.deliv.map fun d => if mine d then { d with confirmed := some accepted } else d }
    if accepted then s else ds.foldl (fun s d => s.unconfirmed x d) s

/-- The items in force at a coming mtime and tally position, with their carry number: the slates COMMITTED that carry by then (R13,
R149). Log entry: 60 DEDUCED. -/
def State.itemsBy (s : State) (t pos : Nat) : Store × Nat :=
  let l := s.committed.filter fun x => if x.basis = 0 then decide (posDiff x.instant pos ≤ 0) else decide (x.instant ≤ t)
  (l.foldl (fun st x => Store.putAll s.variant x.entries st) s.items, s.get It.carryNumber + l.length)

/-- A trigger falls due: one pulse command for its output, of cam_trig_width_us or of the exposure of a context in
trigger-width mode, as in force at the pulse's instant; in that mode the pulse is the delivery of the frame it triggers (R146,
R148, R149). Its frame is the next one after those of the pulses still ahead. While the latch takes no lane, the trigger is not
issued and is missed (R147). Log entry: 60 DEDUCED. -/
def State.cameraTrigger (p : Nat) (s : State) : State :=
  match s.nextTrigger p with
  | none => s
  | some (mark, t) =>
    if (s.port p).lastTrig = some mark then s
    else
      let s := s.modPort p fun x => { x with lastTrig := some mark }
      let (cfg, carry) := s.itemsBy t (if s.get (It.camTrigMode p) = 1 then mark * 65536
        else twos 64 ((s.pos + (t - s.now) * s.time.lane.rate * 65536 / 1000000000000 : Nat)))
      let rd := cfg.read s.variant
      let n := s.get (It.camPortFrame p) + 1 + (s.port p).trigs.length
      let own := (ownerCtx rd p n).filter fun c => rd (It.ctxExpMode c) == 2
      let cmd : PulseCmd := { out := s.get (It.camTrigDo p), start := t, port := p, ctx := own.map fun c => (c, n)
                              width := own.elim (rd (It.camTrigWidthUs p)) fun c => rd (It.ctxExposure c) }
      let s := match own with
        | some c => s.deliver c { mode := 2, port := p, target := n, carry := carry, exposure := rd (It.ctxExposure c)
                                  gain := rd (It.ctxGain c), confirmed := none }
        | none => s
      if s.lanes.accepting then
        let s := s.modPort p fun x => { x with trigs := x.trigs ++ [{ start := t, frame := n, cfg := cfg, carry := carry }] }
        { s with cam := { s.cam with pulses := s.cam.pulses ++ [cmd] } }
      else s.pulseResult false cmd

def execCameraTrigger (dt : Nat) (port : Fin 4) (s : State) : Host.Outcome State Fault Refusal :=
  timed dt (State.cameraTrigger port) s

/-! ## The opcodes of Table 5.13 -/

/-- The statistics record (Table 5.7). -/
def CamStats.bytes (t : CamStats) (c : Nat) : List Byte :=
  toLE 1 c ++ toLE 1 t.flags ++ toLE 2 0 ++ toLE 4 t.expCarry ++ toLE 4 t.pipeCarry ++ toLE 4 0 ++ toLE 8 t.frame ++
  toLE 8 t.mtime ++ toLE 8 t.tally ++ toLE 2 t.lines ++ toLE 2 t.height ++ toLE 2 (min t.dropped 65535) ++
  toLE 2 (min t.widthErrs 65535) ++ toLE 4 t.exposure ++ toLE 2 t.gain ++ toLE 2 0 ++
  toLE 4 t.mean ++ toLE 2 t.lo ++ toLE 2 t.hi ++ toLE 4 t.sat ++ toLE 4 t.dets ++
  toLE 4 t.objDrops ++ toLE 4 0 ++ t.hist.flatMap (toLE 4)

def opCamStatsRead : OpFn := fun _ f s =>
  let c := u8At f.p 0
  let n := u64At f.p 8
  if 7 < c ∨ !zeroAt f.p 1 7 then refuse stRange s
  else
    let kept := (s.ctx c).kept
    match (if n = 2 ^ 64 - 1 then kept.getLast? else kept.find? fun t => t.frame == n) with
    | none => refuse stRange s
    | some t => reply (t.bytes c) s

/-- Log entry: 59 DEDUCED. -/
def opCamFrameGrab : OpFn := fun _ f s =>
  let c := u8At f.p 0
  let first := u16At f.p 2
  let cnt := u16At f.p 4
  let n := u64At f.p 8
  if 7 < c ∨ !zeroAt f.p 1 1 ∨ cnt = 0 ∨ 1024 < cnt ∨ !zeroAt f.p 6 2 then refuse stRange s
  else if s.grabbing then
    let (v, s) := s.fresh
    (s, { status := stBusy, payload := toLE 4 (busyHint v) })
  else
    let p := s.get (It.ctxPort c)
    if s.get (It.camPath p) = 1 then refuse stConflict s
    else
      match (s.port p).ring.find? (fun b => b.frame == n && b.ctx == c) with
      | none => refuse stRange s
      | some b =>
        if b.lines.length < first + cnt then refuse stRange s
        else
          let ls := (b.lines.drop first).take cnt
          reply (toLE 8 n ++ toLE 2 first ++ toLE 2 cnt ++ toLE 2 (ls.headD []).length ++ toLE 2 0 ++ ls.flatten)
            (s.modPort p fun x => { x with ring := x.ring.map fun y => { y with grab := y.frame == n } })

/-- The entries of a calibration table image (Table 5.5): kind 1 in pairs of u16, 2 in pairs of u16, 3 in u32, 4 in u16. -/
def tableEntries (kind : Nat) (body : List Byte) : List (List Nat) :=
  match kind with
  | 1 | 2 => (chunks 4 body.length body).map fun e => [u16At e 0, u16At e 2]
  | 3 => (chunks 4 body.length body).map fun e => [u32At e 0]
  | _ => (chunks 2 body.length body).map fun e => [u16At e 0]

/-- A table image meets the content rules of Table 5.5. Log entry: 63 DEDUCED. -/
def tableOk (img : List Byte) : Bool :=
  let kind := u8At img 8
  let n := u32At img 12
  let size := if kind = 4 then 2 else 4
  u32At img 0 == 1 && u32At img 4 == 0x9648 && decide (1 ≤ kind) && decide (kind ≤ 4) && zeroAt img 9 3 &&
    img.length == 20 + size * n && decide (1 ≤ n) && decide (n ≤ 65536) && (kind != 3 || n == 12)

/-- The table items that name a slot from an enabled context, in one configuration (R145). Log entry: 63 DEDUCED. -/
def tableInUse (rd : Nat → Nat) (slot : Nat) : Bool :=
  (List.range 8).any fun c => rd (It.ctxEnable c) == 1 &&
    (rd (It.ctxDefectTable c) == slot || rd (It.ctxFfTable c) == slot || rd (It.ctxColourTable c) == slot ||
     rd (It.ctxBgTable c) == slot)

/-- The configurations that a table load must not disturb: the one in force and the projected state of every COMMITTED or
PREPARED slate (R145, R170). Log entry: 63 DEDUCED. -/
def State.configs (s : State) : List Store :=
  let com := s.committed
  s.items :: (List.range com.length).map (fun i =>
    (com.take (i + 1)).foldl (fun st x => Store.putAll s.variant x.entries st) s.items) ++
    (s.sb.slates.filter (fun x => x.st == .prepared)).map fun x => s.projected x.entries

/-- Log entry: 63 DEDUCED. -/
def opCamTableLoad : OpFn := fun m f s =>
  let slot := u8At f.p 0
  let first := u16At f.p 2
  let n := u16At f.p 4
  let crc := u32At f.p 12
  if 15 < slot ∨ !zeroAt f.p 1 1 ∨ n = 0 ∨ !zeroAt f.p 6 2 then refuse stRange s
  else
    match s.blkImage m first n (u32At f.p 8) crc with
    | .error st => refuse st s
    | .ok img =>
      if !tableOk img then refuse stRange s
      else if s.configs.any (fun st => tableInUse (st.read s.variant) slot) then refuse stConflict s
      else
        let kind := u8At img 8
        let s := { s with cam := { s.cam with tables := upd s.cam.tables slot fun _ =>
          { kind := kind, entries := tableEntries kind (img.drop 20) } } }
        let s := (s.set (It.tabKind slot) kind).set (It.tabEntries slot) (u32At img 12)
        reply [] (((s.set (It.tabCrc slot) crc).set (It.tabBuild slot) (u32At img 16)).blkConsume m first n)

/-! ## Consistency (Tables 4.5 and 5.10) and admission (Table 5.9) -/

/-- The enabled contexts of a configuration. -/
def ctxsOn (rd : Nat → Nat) : List Nat := (List.range 8).filter fun c => rd (It.ctxEnable c) == 1

/-- The rules of one context. -/
def ctxRules (s : State) (rd : Nat → Nat) (c : Nat) : List Failure :=
  let p := rd (It.ctxPort c)
  let mode := rd (It.ctxExpMode c)
  let l := rd (It.ctxExpLatency c)
  let w := rd (It.camWidth p)
  let tab := fun k kind => rd k == 255 || (nth s.cam.tables (rd k)).kind == kind
  let len := fun k => rd k == 255 || (nth s.cam.tables (rd k)).entries.length == w
  require (rd (It.camEnable p) == 1) [It.ctxPort c, It.ctxEnable c, It.camEnable p] 0x01 ++
  require (decide (rd (It.ctxMinArea c) ≤ rd (It.ctxMaxArea c))) [It.ctxMinArea c, It.ctxMaxArea c] 0x02 ++
  require (rd (It.camPath p) == 0 || rd (It.ctxFrameMod c) == 1) [It.ctxPort c, It.ctxEnable c, It.ctxFrameMod c, It.camPath p] 0x11 ++
  require (match mode with
    | 0 => true
    | 1 => decide (1 ≤ l)
    | _ => l == 0 && rd (It.camTrigMode p) != 0) [It.ctxExpLatency c, It.ctxExpMode c, It.ctxPort c, It.ctxEnable c, It.camTrigMode p] 0x12 ++
  require (decide (rd (It.ctxRoiX c) + rd (It.ctxRoiW c) ≤ w) && decide (rd (It.ctxRoiY c) + rd (It.ctxRoiH c) ≤ rd (It.camHeight p)))
    [It.ctxRoiX c, It.ctxRoiY c, It.ctxRoiW c, It.ctxRoiH c, It.ctxPort c, It.ctxEnable c, It.camWidth p, It.camHeight p] 0x13 ++
  require (tab (It.ctxDefectTable c) 1 && tab (It.ctxFfTable c) 2 && tab (It.ctxColourTable c) 3 && tab (It.ctxBgTable c) 4 &&
    len (It.ctxFfTable c) && len (It.ctxBgTable c) &&
    (rd (It.ctxDefectTable c) == 255 || (nth s.cam.tables (rd (It.ctxDefectTable c))).entries.all fun e => decide (e.headD 0 < w)))
    [It.ctxDefectTable c, It.ctxFfTable c, It.ctxColourTable c, It.ctxBgTable c, It.ctxPort c, It.ctxEnable c, It.camWidth p] 0x14 ++
  require (mode != 1 || [12, 13].all fun m => rd (It.gwCanChannel m) != rd (It.ctxExpCan c) ||
    (rd (It.gwReqId m) != rd (It.ctxExpCanId c) && rd (It.gwRspId m) != rd (It.ctxExpCanId c))) [It.ctxExpCanId c, It.ctxExpCan c, It.ctxExpMode c, It.ctxEnable c] 0x17

/-- The rules of one port; `old` is the configuration in force (rule 0x16). -/
def portRules (old rd : Nat → Nat) (p : Nat) : List Failure :=
  require (decide (rd (It.camRateLow p) ≤ rd (It.camRateHigh p))) [It.camRateLow p, It.camRateHigh p] 0x02 ++
  require (rd (It.camPath p) == 0 || (List.range 4).all fun q => q == p || rd (It.camPath q) == 0) [It.camPath p] 0x04 ++
  require (rd (It.camPath p) == 0 || ((ctxsOn rd).filter fun c => rd (It.ctxPort c) == p).length == 1)
    (It.camPath p :: ((List.range 8).map It.ctxEnable ++ (List.range 8).map It.ctxPort)) 0x11 ++
  require (rd (It.camFraming p) == 0 || (rd (It.camScan p) == 0 && rd (It.camEmbeddedLines p) == 0)) [It.camFraming p, It.camScan p, It.camEmbeddedLines p] 0x15 ++
  require (decide (rd (It.camTrigOffset p) < rd (It.camTrigUnits p))) [It.camTrigOffset p, It.camTrigUnits p] 0x15 ++
  require (rd (It.camTrigMode p) == 0 || (List.range 4).all fun q => q == p || rd (It.camTrigMode q) == 0 || rd (It.camTrigDo q) != rd (It.camTrigDo p))
    [It.camTrigDo p, It.camTrigMode p] 0x15 ++
  require (!(old It.tallySource == 8 + p || rd It.tallySource == 8 + p) ||
    (old (It.camHsyncPol p) == rd (It.camHsyncPol p) && old (It.camLineStart p) == rd (It.camLineStart p)))
    [It.camLineStart p, It.camHsyncPol p] 0x16

/-- The consistency rules of the camera classes (R158). -/
def camRules (s : State) (old rd : Nat → Nat) : List Failure :=
  (List.range 4).flatMap (portRules old rd) ++
  (ctxsOn rd).flatMap (ctxRules s rd) ++
  (ctxsOn rd).flatMap fun a => (ctxsOn rd).flatMap fun b =>
    let g := Nat.gcd (rd (It.ctxFrameMod a)) (rd (It.ctxFrameMod b))
    require (decide (b ≤ a) || rd (It.ctxPort a) != rd (It.ctxPort b) ||
      rd (It.ctxFramePhase a) % g != rd (It.ctxFramePhase b) % g) [It.ctxFramePhase a, It.ctxFramePhase b, It.ctxFrameMod a, It.ctxFrameMod b, It.ctxPort a, It.ctxPort b, It.ctxEnable a,
        It.ctxEnable b] 0x10

/-- Rule 0x20 in kpixel/s. Log entry: 66 DEDUCED. -/
def demandPixels (rd : Nat → Nat) : Nat :=
  ceilSum (((List.range 4).filter fun p => rd (It.camEnable p) == 1 && rd (It.camPath p) == 1 &&
      (ctxsOn rd).any fun c => rd (It.ctxPort c) == p).map (fun p =>
        (rd (It.camPclkMaxKhz p) * (if rd (It.camFormat p) = 0 then 2 else 1), 1)) ++
    ((ctxsOn rd).filter fun c => rd (It.camPath (rd (It.ctxPort c))) == 0).map fun c =>
      let p := rd (It.ctxPort c)
      (rd (It.camWidth p) * rd (It.camMaxLineRate p), 1000 * rd (It.ctxFrameMod c)))

/-- Rule 0x21 in kcycles/s. Log entry: 66 DEDUCED. -/
def demandCycles (rd : Nat → Nat) : Nat :=
  ceilSum ((ctxsOn rd).map fun c =>
    let r := frameRate rd c
    (rd (It.ctxMaxObjects c) * rd (It.ctxFeatureCycles c) * r.1, r.2 * 1000))

/-- Rule 0x22 in detections/s. Log entry: 66 DEDUCED. -/
def demandDetections (rd : Nat → Nat) : Nat :=
  ceilSum ((ctxsOn rd).map fun c =>
    let r := frameRate rd c
    (rd (It.ctxMaxObjects c) * r.1, r.2))

/-- Rule 0x23 in KB. Log entry: 66 DEDUCED. -/
def demandRings (rd : Nat → Nat) : Nat :=
  ceilSum (((List.range 4).filter fun p => rd (It.camPath p) == 0 && (ctxsOn rd).any fun c => rd (It.ctxPort c) == p).map fun p =>
    let line := ringLineBytes (rd (It.camFormat p)) (rd (It.camMetaPx p)) (rd (It.camWidth p))
    (rd (It.camRingFrames p) * (rd (It.camEmbeddedLines p) + rd (It.camHeight p)) * line, 1024))

/-- The items behind the demands of the camera pipeline. -/
def camDemandKeys (rd : Nat → Nat) : List Nat :=
  ((ctxsOn rd).flatMap fun c => [It.ctxEnable c, It.ctxPort c, It.ctxFrameMod c, It.ctxMaxObjects c, It.ctxFeatureCycles c]) ++
  (List.range 4).flatMap fun p => [It.camEnable p, It.camPath p, It.camFormat p, It.camWidth p, It.camHeight p, It.camMaxLineRate p,
    It.camPclkMaxKhz p, It.camRingFrames p, It.camEmbeddedLines p, It.camMetaPx p]

/-- Camera admission (R157). Log entry: 66 DEDUCED. -/
def camAdmission (rd : Nat → Nat) : List Failure :=
  admission (demandPixels rd) 800000 (camDemandKeys rd) 0x20 3 ++ admission (demandCycles rd) 5440000 (camDemandKeys rd) 0x21 3 ++
  admission (demandDetections rd) 1600000 (camDemandKeys rd) 0x22 3 ++ admission (demandRings rd) 2097152 (camDemandKeys rd) 0x23 4

/-- What a carry does on the ports: enabling and disabling take effect at C. A frame open on a port that goes OFF is cut short
there. Log entry: 182 DESIGN CHOICE. -/
def State.camCarry (old : Nat → Nat) (s : State) : State :=
  s.each (List.range 4) fun p s =>
    if old (It.camEnable p) = s.get (It.camEnable p) then s
    else (if s.get (It.camEnable p) = 0 then (s.frameClose p 1).modPort p fun x => { x with after := none } else s).camJudge p

end Sys2Proof.Machine
end

