-- ==== Sys2Proof/Machine/Ring.lean ====
section
/-! DEFINITION. The Wavilo ring, link test and fault injection (spec 11). What a taken mailbox frame does to the command
rings stands with the service of commands. -/

namespace Sys2Proof.Machine

def State.modRing (f : RingBank → RingBank) (s : State) : State := { s with ring := f s.ring }

/-- Masters that reach their rings through ring frames (Table 3.1). -/
def isRingMaster (m : Nat) : Bool := (decide (4 ≤ m) && decide (m ≤ 11)) || m == 15

/-- A node is the one bound to a ring master (R68). -/
def State.boundTo (s : State) (m node : Nat) : Bool :=
  isRingMaster m && s.get (It.bindNode m) == node && node != 0xffff

/-! ## Injection at a transmitter (R319, R320) -/

/-- An injection ended, with FAULT_INJECT_END. Log entry: 127 DEDUCED. -/
def State.endInject (link : Nat) (s : State) : State :=
  match nth s.ring.injects link with
  | none => s
  | some i =>
    ((s.modRing fun r => { r with injects := upd r.injects link fun _ => none }).set (It.fiAction link) 0).emit 0x1381
      (toLE 1 link ++ toLE 1 i.action ++ toLE 2 0 ++ toLE 4 (s.get (It.fiAltered link)) ++ toLE 8 s.now)

/-- A frame with one bit inverted, bits counted from the low bit of the first header byte; the frame unchanged where it has
no such bit. Log entry: 127 DEDUCED. -/
def flipBit (o : Nat) (f : List Byte) : List Byte := upd f (o / 8) fun b => b ^^^ BitVec.ofNat 8 (2 ^ (o % 8))

/-- The frames held by a reorder after one more frame has been sent: those that are due, and those that stay.
Log entry: 127 DEDUCED. -/
def releaseHold (q : List (Nat × List Byte)) : List (List Byte) × List (Nat × List Byte) :=
  let q := q.map fun x => (x.1 - 1, x.2)
  ((q.filter (·.1 == 0)).map (·.2), q.filter (·.1 != 0))

/-- The frame goes out unaltered or corrupted, followed by the held frames that are due.
Log entry: 121 DESIGN CHOICE. -/
def State.passOut (link : Nat) (f : List Byte) (s : State) : List (List Byte) × State :=
  let q := releaseHold (nth s.ring.holding link)
  (f :: q.1, s.modRing fun r => { r with holding := upd r.holding link fun _ => q.2 })

/-- A frame of a kind at a link's transmitter: the frames that go out for it, with every Nth of the selected kind dropped,
corrupted or held while an injection is on. Log entries: 121 DESIGN CHOICE, 127 DEDUCED. -/
def State.transmit (link kind : Nat) (f : List Byte) (s : State) : List (List Byte) × State :=
  match nth s.ring.injects link with
  | none => s.passOut link f
  | some i =>
    if i.kind ≠ 0xff ∧ i.kind ≠ kind then s.passOut link f
    else
      let i := { i with seen := i.seen + 1 }
      let s := s.modRing fun r => { r with injects := upd r.injects link fun _ => some i }
      if i.seen % i.every ≠ 0 then s.passOut link f
      else
        let s := s.bump (It.fiAltered link)
        let fs := match i.action with
          | 1 => ([], s)
          | 2 => s.passOut link (flipBit i.bit_ f)
          | _ => ([], s.modRing fun r => { r with holding := upd r.holding link fun q => q ++ [(i.depth, f)] })
        if i.count ≠ 0 ∧ i.seen / i.every = i.count then (fs.1, fs.2.endInject link) else fs

/-! ## Frames (R306, R307) -/

/-- A ring frame with its check (Table 11.1). -/
def ringBytes (kind flags hops dst src seq : Nat) (body : List Byte) : List Byte :=
  let l := toLE 1 kind ++ toLE 1 flags ++ toLE 1 hops ++ toLE 1 0 ++ toLE 2 dst ++ toLE 2 src ++ toLE 2 seq ++
    toLE 2 body.length ++ toLE 4 0 ++ body
  l ++ toLE 4 (crc32c l)

/-- A received frame is well formed: its check matches, its kind is known and its length is right (R306). -/
def ringValid (l : List Byte) : Bool :=
  decide (20 ≤ l.length) && u16At l 10 == l.length - 20 && u32At l (l.length - 4) == crc32c (l.take (l.length - 4)) &&
    decide (1 ≤ u8At l 0) && decide (u8At l 0 ≤ 3)

/-- A port is UP. -/
def State.portUp (s : State) (p : Nat) : Bool := s.get (It.portState p) == 1

/-- The ports UP as bits: [0] WE, [1] WW. -/
def State.portsUp (s : State) : Nat := b2n (s.portUp 0) + 2 * b2n (s.portUp 1)

/-- A frame handed to a port; one to a port that is not UP is discarded. -/
def State.putPort (p kind : Nat) (f : List Byte) (s : State) : State :=
  if s.portUp p then
    let (out, s) := s.transmit p kind f
    (s.modRing fun r => { r with sent := r.sent ++ out.map fun x => (p, x) }).bumpBy (It.portFramesTx p) out.length
  else s

/-- The module's own frames may enter the ring: a lane holds the role, or the ROM serves (R310, R381). -/
def State.inserts (s : State) : Bool := s.lanes.accepting || s.phase == .recovery

/-- A frame inserted twice, one copy eastward and one westward; only by the lane the latch names, not during an
interruption, and not by a module out of the ring (R307, R310). -/
def State.ringInsert (kind dst : Nat) (body : List Byte) (s : State) : State :=
  if s.get It.bypassState = 2 ∧ s.inserts ∧ s.portsUp ≠ 0 then
    let seq := s.get It.ringTxSeq
    let fl := (if dst = 0xff then 2 else 0) + 4 * s.lanes.latch
    let f := fun path => ringBytes kind (fl + path) 68 dst (s.useRestart It.ringNode) seq body
    ((s.set It.ringTxSeq ((seq + 1) % 65536)).putPort 0 kind (f 0)).putPort 1 kind (f 1)
  else if s.get It.bypassState = 2 ∧ s.portsUp ≠ 0 then s.bump It.arbitrationDiscards
  else s

/-! ## Members and state (R308, R309) -/

/-- An arrival within the member timeout. -/
def heard (now : Nat) (t : Option Nat) : Bool :=
  match t with
  | some t => decide (now < t + 3000000)
  | none => false

/-- The other nodes whose STATUS was taken within the member timeout. Log entry: 125 DEDUCED. -/
def State.ringPeers (s : State) : List RingNode :=
  s.ring.nodes.filter fun n => heard s.now n.east || heard s.now n.west

/-- ring_state by the rows of R309 in order. -/
def State.ringStateNow (s : State) : Nat :=
  let peers := s.ringPeers
  let expected := s.get It.ringExpected
  if s.portsUp = 0 then 0
  else if expected ≠ 0 ∧ peers.length + 1 < expected then 3
  else if s.portsUp ≠ 3 ∨ (peers.any fun n => !(heard s.now n.east && heard s.now n.west)) = true then 2
  else 1

/-- ring_members and ring_state re-evaluated; a change of state sends RING_STATE, each entry into BROKEN or SPLIT is counted
(R309). -/
def State.ringJudge (s : State) : State :=
  let s := s.set It.ringMembers (s.ringPeers.length + 1)
  let st := s.ringStateNow
  if s.get It.ringState = st then s
  else
    let s := s.set It.ringState st
    let s := if 2 ≤ st then s.bump It.ringBreaks else s
    s.emit 0x0c80 (toLE 1 st ++ toLE 1 (s.get It.ringMembers) ++ toLE 1 s.portsUp ++ toLE 1 0 ++
      toLE 4 (s.get It.ringBreaks) ++ toLE 8 s.now)

/-- A known node changed, or added. -/
def State.modNode (node : Nat) (f : RingNode → RingNode) (s : State) : State :=
  s.modRing fun r =>
    if r.nodes.any fun n => n.node == node then
      { r with nodes := r.nodes.map fun n => if n.node = node then f n else n }
    else { r with nodes := r.nodes ++ [f { node := node }] }

/-- A STATUS of another node has arrived on a port: 0 WE, 1 WW. -/
def State.statusSeen (src port : Nat) (s : State) : State :=
  if src = s.useRestart It.ringNode then s
  else s.modNode src fun n => if port = 0 then { n with east := some s.now } else { n with west := some s.now }

/-- A frame whose source and sequence are already held is discarded and counted; a new one is kept (R308). The flag says that
the frame is new. Log entry: 122 DEDUCED. -/
def State.takeSeq (src seq : Nat) (s : State) : State × Bool :=
  if s.ring.nodes.any fun n => n.node == src && n.seqs.contains seq then (s.bump It.ringDuplicates, false)
  else (s.modNode src fun n => { n with seqs := (seq :: n.seqs).take 256 }, true)

/-- A frame forwarded out of the other port with its hop count reduced, its check formed anew (R307).
Log entry: 122 DEDUCED. -/
def State.ringForward (port : Nat) (l : List Byte) (s : State) : State :=
  let hops := u8At l 2
  if hops ≤ 1 then s.bump It.ringHopExpired
  else s.putPort (1 - port) (u8At l 0)
    (ringBytes (u8At l 0) (u8At l 1) (hops - 1) (u16At l 4) (u16At l 6) (u16At l 8) ((l.drop 16).take (l.length - 20)))

/-- A frame received on a port (R306 to R308): the state with the frame removed, forwarded or discarded, and what is
taken for the module as kind, source and payload. A second copy of a STATUS counts as its arrival on that port.
Log entries: 120 DESIGN CHOICE, 122 DEDUCED. -/
def State.ringRx (port : Nat) (l : List Byte) (s : State) : State × Option (Nat × Nat × List Byte) :=
  if !s.portUp port then (s, none)
  else if !ringValid l then (s.bump (It.portCrcErrors port), none)
  else
    let s := s.bump (It.portFramesRx port)
    let src := u16At l 6
    let dst := u16At l 4
    let own := s.useRestart It.ringNode
    if src = own then (s, none)
    else
      let s := if dst = own then s else s.ringForward port l
      if dst = own ∨ dst = 0xff then
        let s := if u8At l 0 = 3 then s.statusSeen src port else s
        let (s, new) := s.takeSeq src (u16At l 8)
        if new then (s, some (u8At l 0, src, (l.drop 16).take (l.length - 20)))
        else ((if u8At l 0 = 3 then s.ringJudge else s), none)
      else (s, none)

/-- Log entry: 120 DESIGN CHOICE. -/
def execStatus (dt : Nat) (src : BitVec 16) (port : Fin 2) (_body : List Byte) (s : State) :
    Host.Outcome State Fault Refusal :=
  timedRom dt (fun s => (s.statusSeen src.toNat port).ringJudge) s

/-- STATUS broadcast by this module (Table 11.2). -/
def State.sendStatus (s : State) : State :=
  s.ringInsert 3 0xff (toLE 2 (s.useRestart It.ringNode) ++ toLE 1 (s.get It.bypassState) ++ toLE 1 s.portsUp ++
    toLE 2 (s.get It.ringMembers) ++ toLE 2 0)

def execStatusPeriod (dt : Nat) (s : State) : Host.Outcome State Fault Refusal :=
  timedRom dt (fun s => s.ringJudge.sendStatus) s

def execRingMemberTimeout (dt : Nat) (node : BitVec 16) (s : State) : Host.Outcome State Fault Refusal :=
  timedRom dt (fun s => if s.ringPeers.any fun n => n.node == node.toNat then s else s.ringJudge) s

/-! ## Ports and bypass (R305, R314, R315) -/

/-- A port holds symbol lock and idle for the link-up time. A port under test and a port of a module out of the ring carry
no line code. -/
def State.portComesUp (p : Nat) (s : State) : State :=
  if s.get (It.portState p) = 0 ∧ (s.get It.bypassState = 1 ∨ s.get It.bypassState = 2) then
    (s.set (It.portState p) 1).ringJudge
  else s

def execRingPortUp (dt : Nat) (port : Fin 2) (s : State) : Host.Outcome State Fault Refusal :=
  timedRom dt (State.portComesUp port) s

/-- A port goes DOWN. -/
def State.portGoesDown (p : Nat) (s : State) : State :=
  if s.portUp p then (s.set (It.portState p) 0).bump (It.portDowns p) else s

def execRingPortDown (dt : Nat) (port : Fin 2) (codeErrors : Nat) (s : State) : Host.Outcome State Fault Refusal :=
  timedRom dt (fun s => ((s.bumpBy (It.portCodeErrors port) codeErrors).portGoesDown port).ringJudge) s

/-- bypass_state set, with BYPASS_STATE at a change: 0 CLOSED, 1 OPENING, 2 OPEN, 3 CLOSING.
Log entry: 126 DEDUCED. -/
def State.setBypass (st : Nat) (s : State) : State :=
  s.setGuard It.bypassState st 0x0c81 (toLE 1 st ++ toLE 3 0 ++ toLE 4 (s.get It.bypassCycles) ++ toLE 8 s.now)

/-- The bypass relays close; each closing is counted (R314). Log entry: 126 DEDUCED. -/
def State.bypassClose (s : State) : State :=
  let s := s.modRing fun r => { r with join := none }
  if s.get It.bypassState = 0 ∨ s.get It.bypassState = 3 then s
  else (((s.bump It.bypassCycles).setBypass 3).portGoesDown 0 |>.portGoesDown 1).ringJudge


/-- Step 1 of Table 11.3: the staggered wait begins. -/
def State.ringJoin (s : State) : State :=
  if s.get It.ringEnable = 1 then
    let t := s.now + (s.get It.ringJoinDelayMs + 10 * s.useRestart It.ringNode) * 1000000
    s.modRing fun r => { r with join := some t }
  else s

/-- Step 2: the relays are switched. -/
def State.joinWaitEnd (s : State) : State :=
  match s.ring.join with
  | some t =>
    if t ≤ s.now then
      let s := s.modRing fun r => { r with join := none }
      if s.get It.bypassState = 0 then s.setBypass 1 else s
    else s
  | none => s

def execRingJoinWaitEnd (dt : Nat) (s : State) : Host.Outcome State Fault Refusal := timedRom dt State.joinWaitEnd s

/-- Steps 3 and 4: both ports have come UP, or the bound of step 3 has passed. Log entry: 126 DEDUCED. -/
def State.bypassSettled (up : Bool) (s : State) : State :=
  if s.get It.bypassState = 1 then
    let s := if up then (s.portComesUp 0).portComesUp 1 else s
    (s.setBypass 2).ringJudge.sendStatus
  else s

def execRingBypassSettled (dt : Nat) (up : Bool) (s : State) : Host.Outcome State Fault Refusal :=
  timedRom dt (State.bypassSettled up) s

/-! ## Mailbox traffic towards hosts (R311, R312) -/

/-- The place of a master's ring in the lists of `RingBank`. -/
def ringSlot (m ring : Nat) : Nat := 4 * m + ring

/-- The frames in an RSP (1) or EVT (2) ring, as slots of 64 bytes, with the index of the first. -/
def State.outSlots (s : State) (m ring : Nat) : Nat × List (List Byte) :=
  let ma := s.master m
  let fs := if ring = 1 then ma.rspFrames else ma.evtFrames
  let prod := if ring = 1 then ma.rsp.prod else ma.evt.prod
  let slots := fs.flatMap fun f =>
    let n := frameSlots f.payload.length
    chunks 64 n (f.bytes m ring ++ List.replicate (64 * n - (16 + f.payload.length)) 0)
  ((prod + 65536 - slots.length) % 65536, slots)

/-- The slots of an RSP or EVT ring from an index on. Log entry: 123 DEDUCED. -/
def State.slotsFrom (s : State) (m ring i : Nat) : List (List Byte) :=
  let x := s.outSlots m ring
  x.2.drop ((i + 65536 - x.1) % 65536)

/-- The producer index of an RSP or EVT ring. -/
def State.outProd (s : State) (m ring : Nat) : Nat := if ring = 1 then (s.master m).rsp.prod else (s.master m).evt.prod

/-- The consumer index of an RSP or EVT ring. -/
def State.outCons (s : State) (m ring : Nat) : Nat := if ring = 1 then (s.master m).rsp.cons else (s.master m).evt.cons

/-- An MBX_INDEX frame sent to the node bound to a master. -/
def State.sendIndex (m ring kind index crc : Nat) (s : State) : State :=
  s.ringInsert 2 (s.get (It.bindNode m))
    (toLE 1 m ++ toLE 1 ring ++ toLE 1 kind ++ toLE 1 0 ++ toLE 2 index ++ toLE 2 0 ++ toLE 4 crc)

/-- The producer index of a ring sent, with the check over the slots from an index on; the resend time starts anew. -/
def State.sendProducer (m ring start : Nat) (s : State) : State :=
  let p := s.outProd m ring
  (s.sendIndex m ring 0 p (crc32c (s.slotsFrom m ring start).flatten)).modRing fun r => { r with
    pub := upd r.pub (ringSlot m ring) fun _ => p, idxAt := upd r.idxAt (ringSlot m ring) fun _ => s.now }

/-- Slots from an index on sent in MBX_SLOTS frames of at most 16, followed by the producer index. -/
def State.sendSlots (m ring start : Nat) (s : State) : State :=
  let groups := chunks 16 16 (s.slotsFrom m ring start)
  let s := (groups.zipIdx).foldl (fun s g => s.ringInsert 1 (s.get (It.bindNode m))
    (toLE 1 m ++ toLE 1 ring ++ toLE 2 ((start + 16 * g.2) % 65536) ++ toLE 2 g.1.length ++ toLE 2 0 ++ g.1.flatten)) s
  s.sendProducer m ring start

/-- What one bound master is sent at a K: new RSP and EVT slots with their producer index, or that index alone after a
change of the active lane, and the consumer indices that have changed. -/
def State.ringPumpOne (m : Nat) (s : State) : State :=
  let out := fun ring (s : State) =>
    let k := ringSlot m ring
    if nth s.ring.pub k ≠ s.outProd m ring then s.sendSlots m ring (nth s.ring.pub k)
    else if s.ring.announce then s.sendProducer m ring (s.outCons m ring)
    else s
  let into := fun ring cons (s : State) =>
    let k := ringSlot m ring
    if nth s.ring.pub k ≠ cons then
      (s.sendIndex m ring 1 cons 0).modRing fun r => { r with pub := upd r.pub k fun _ => cons }
    else s
  let s := out 2 (out 1 s)
  into 3 (s.master m).blk.cons (into 0 (s.master m).cmd.cons s)

/-- Mailbox frames for ring hosts go out at a K (R311, R312), while the module may insert.
Log entry: 121 DESIGN CHOICE. -/
def State.ringPump (s : State) : State :=
  let s := s.modRing fun r => { r with sent := [] }
  if s.get It.bypassState = 2 ∧ s.inserts then
    let ms := (List.range 16).filter fun m => s.boundTo m (s.get (It.bindNode m))
    (s.each ms State.ringPumpOne).modRing fun r => { r with announce := false }
  else s

/-- No consumer index for the resend time: the producer index is sent again (R312). -/
def State.resendExpiry (m ring : Nat) (s : State) : State :=
  if (ring = 1 ∨ ring = 2) ∧ s.boundTo m (s.get (It.bindNode m)) ∧ s.outProd m ring ≠ s.outCons m ring ∧
      nth s.ring.idxAt (ringSlot m ring) + 2000000 ≤ s.now then s.sendProducer m ring (s.outCons m ring)
  else s

def execRingResendExpiry (dt : Nat) (m : Fin 16) (ring : Fin 4) (s : State) : Host.Outcome State Fault Refusal :=
  timedRom dt (State.resendExpiry m ring) s

/-! ## Mailbox traffic from hosts (R68, R311) -/

/-- Free slots of a CMD (0) or BLK (3) ring, and its producer index. -/
def State.inRing (s : State) (m ring : Nat) : RingIdx := if ring = 0 then (s.master m).cmd else (s.master m).blk

/-- A frame from a node that is not bound to the master it names (R68). -/
def State.strayFrame (m : Nat) (s : State) : State := if m < 16 then s.bump (It.frameErrors m) else s

/-- MBX_SLOTS: each slot within the free space is stored at its index (R311). Log entry: 123 DEDUCED. -/
def State.mbxSlots (src : Nat) (b : List Byte) (s : State) : State :=
  let m := u8At b 0
  let ring := u8At b 1
  let n := u16At b 4
  if !s.boundTo m src then s.strayFrame m
  else if (ring ≠ 0 ∧ ring ≠ 3) ∨ n = 0 ∨ 16 < n ∨ b.length ≠ 8 + 64 * n then s
  else
    let r := s.inRing m ring
    s.each (List.range n) fun j s =>
      let i := (u16At b 2 + j) % 65536
      if (i + 65536 - r.prod) % 65536 < 256 - r.used then
        s.modMaster m fun ma => { ma with
          slots := ma.slots.filter (fun x => x.1 != ring * 65536 + i) ++ [(ring * 65536 + i, (b.drop (8 + 64 * j)).take 64)] }
      else s

/-- Log entry: 120 DESIGN CHOICE. -/
def execMbxSlots (dt : Nat) (src : BitVec 16) (body : List Byte) (s : State) : Host.Outcome State Fault Refusal :=
  timedRom dt (State.mbxSlots src.toNat body) s

/-- The stored slots from the producer index up to a published one, when the index fits the free space, all are there and
their check matches. Log entry: 123 DEDUCED. -/
def State.publishedSlots (s : State) (m ring index crc : Nat) : Option (List Byte) :=
  let r := s.inRing m ring
  let n := (index + 65536 - r.prod) % 65536
  if 256 - r.used < n then none
  else
    match (List.range n).mapM fun j => (s.master m).slots.find? fun x => x.1 == ring * 65536 + (r.prod + j) % 65536 with
    | none => none
    | some xs =>
      let l := xs.flatMap (·.2)
      if crc32c l = crc then some l else none

/-- The slots of a master's ring that have been published are no longer held. -/
def State.dropPublished (m ring : Nat) (s : State) : State :=
  s.modMaster m fun ma => { ma with slots := ma.slots.filter fun x => x.1 / 65536 != ring }

/-- The mailbox frames in published slots, at most `n` of them (R66). -/
def framesOf : Nat → List Byte → List Frame
  | 0, _ => []
  | n + 1, l =>
    if l.length < 16 then []
    else
      let f := frameOfBytes l
      f :: framesOf n (l.drop (64 * frameSlots f.p.length))

/-- An index frame that cannot be taken is answered with a resend request for the producer index (R311).
Log entry: 123 DEDUCED. -/
def State.requestResend (m ring : Nat) (s : State) : State :=
  ((s.bump (It.frameErrors m)).bump It.ringIndexRetries).sendIndex m ring 2 (s.inRing m ring).prod 0

/-- A consumer index of an RSP or EVT ring from its host (R312). Log entry: 123 DEDUCED. -/
def State.hostConsumes (m ring index : Nat) (s : State) : State :=
  let r := if ring = 1 then (s.master m).rsp else (s.master m).evt
  if (index + 65536 - r.cons) % 65536 ≤ r.used then
    let s := s.modMaster m fun ma => if ring = 1 then ma.consumeRsp index else ma.consumeEvt index
    (s.modRing fun b => { b with idxAt := upd b.idxAt (ringSlot m ring) fun _ => s.now }).flush m
  else s

/-! ## Link test (R316 to R318) -/

/-- A link of Table 11.4 is under test: it carries no frames (R316). -/
def State.underTest (s : State) (link : Nat) : Bool := (nth s.ring.tests link).isSome

/-- A link test ended, with LINK_TEST_DONE; a port under test trains anew. Log entry: 128 DEDUCED. -/
def State.endTest (link : Nat) (s : State) : State :=
  match nth s.ring.tests link with
  | none => s
  | some _ =>
    let pattern := s.get (It.ltPattern link)
    let s := s.modRing fun r => { r with tests := upd r.tests link fun _ => none }
    let s := (s.set (It.ltState link) 0).set (It.ltPattern link) 0
    let s := if link < 2 then (s.set (It.portState link) 0).ringJudge else s
    s.emit 0x1380 (toLE 1 link ++ toLE 1 pattern ++ toLE 2 0 ++ toLE 4 (s.get (It.ltSyncLosses link)) ++
      toLE 8 (s.get (It.ltBits link)) ++ toLE 8 (s.get (It.ltErrors link)))

/-- The duration of a link test passes. -/
def State.testExpiry (link : Nat) (s : State) : State :=
  match nth s.ring.tests link with
  | some t => if t ≤ s.now then s.endTest link else s
  | none => s

def execLinkTestExpiry (dt : Nat) (link : Fin 6) (s : State) : Host.Outcome State Fault Refusal :=
  timed dt (State.testExpiry link) s

/-- A fault injection's duration passes. Log entry: 127 DEDUCED. -/
def State.injectExpiry (link : Nat) (s : State) : State :=
  match nth s.ring.injects link with
  | some i => if i.until_ ≤ s.now then s.endInject link else s
  | none => s

def execFaultInjectExpiry (dt : Nat) (link : Fin 6) (s : State) : Host.Outcome State Fault Refusal :=
  timed dt (State.injectExpiry link) s

/-- A u64 counter item increased, saturating. -/
def State.bump64 (k n : Nat) (s : State) : State := s.set k (min (s.get k + n) (2 ^ 64 - 1))

/-- The checker of a link under test becomes LOCKED, or reports what it has compared while LOCKED (R317).
Log entry: 129 DESIGN CHOICE. -/
def State.checkerLock (link bits errors : Nat) (s : State) : State :=
  match nth s.ring.tests link with
  | some _ => ((s.set (It.ltState link) 2).bump64 (It.ltBits link) bits).bump64 (It.ltErrors link) errors
  | none => s

/-- Log entry: 129 DESIGN CHOICE. -/
def execCheckerLock (dt : Nat) (link : Fin 6) (bits errors : Nat) (s : State) : Host.Outcome State Fault Refusal :=
  timed dt (State.checkerLock link bits errors) s

/-- A LOCKED checker loses synchronism after a further count of bits and errors (R317).
Log entry: 129 DESIGN CHOICE. -/
def State.checkerLoss (link bits errors : Nat) (s : State) : State :=
  if s.get (It.ltState link) = 2 then
    (((s.bump64 (It.ltBits link) bits).bump64 (It.ltErrors link) errors).set (It.ltState link) 1).bump (It.ltSyncLosses link)
  else s

/-- Log entry: 129 DESIGN CHOICE. -/
def execCheckerSyncLoss (dt : Nat) (link : Fin 6) (bits errors : Nat) (s : State) : Host.Outcome State Fault Refusal :=
  timed dt (State.checkerLoss link bits errors) s

/-- Every test and injection ends, as at any reset (R318, R320). Log entries: 127 DEDUCED, 128 DEDUCED. -/
def State.endTests (s : State) : State := (s.each (List.range 6) State.endTest).each (List.range 6) State.endInject

/-- The condition of Table 11.4 for a test of a link: 3 is the lane state STANDBY. Log entry: 128 DEDUCED. -/
def State.testAllowed (s : State) (link : Nat) : Bool :=
  let other := 1 - s.lanes.latch
  if link < 2 then s.get It.ringState == 1
  else if link < 4 then s.get (It.laneState other) != 3
  else link - 4 == other && s.get (It.laneState other) == 3

/-! ## Opcodes (Table 11.6) -/

/-- Log entry: 125 DEDUCED. -/
def opRingRead : OpFn := fun _ _ s =>
  let peers := s.ringPeers.take 68
  reply (toLE 1 (s.shown It.ringState) ++ toLE 1 (s.shown It.ringMembers) ++ toLE 1 (s.shown It.bypassState) ++ toLE 1 (s.shown (It.portState 0) % 2 + 2 * (s.shown (It.portState 1) % 2)) ++
    (peers.flatMap fun n => toLE 2 n.node ++ toLE 1 (b2n (heard s.now n.east) + 2 * b2n (heard s.now n.west)) ++ toLE 1 0) ++
    List.replicate (4 * (68 - peers.length)) 0) s

/-- Log entry: 126 DEDUCED. -/
def opRingBypass : OpFn := fun _ f s =>
  if 1 < u8At f.p 0 ∨ !zeroAt f.p 1 3 then refuse stRange s
  else if s.get It.ringEnable = 0 then refuse stConflict s
  else reply [] (if u8At f.p 0 = 1 then s.bypassClose else s.ringJoin)

/-- Log entry: 128 DEDUCED. -/
def opLinkTestStart : OpFn := fun _ f s =>
  let link := u8At f.p 0
  let pattern := u8At f.p 1
  let ms := u32At f.p 4
  if 5 < link ∨ pattern = 0 ∨ 2 < pattern ∨ !zeroAt f.p 2 2 ∨ ms = 0 ∨ 60000 < ms then refuse stRange s
  else if s.get It.testAccess = 0 ∨ (nth s.ring.tests link).isSome ∨ (nth s.ring.injects link).isSome ∨
      !s.testAllowed link then refuse stConflict s
  else
    let s := s.modRing fun r => { r with tests := upd r.tests link fun _ => some (s.now + ms * 1000000) }
    let s := ((((s.set (It.ltState link) 1).set (It.ltPattern link) pattern).set (It.ltBits link) 0).set
      (It.ltErrors link) 0).set (It.ltSyncLosses link) 0
    reply [] (if link < 2 then (s.set (It.portState link) 2).ringJudge else s)

def opLinkTestStop : OpFn := fun _ f s =>
  let link := u8At f.p 0
  if 5 < link ∨ !zeroAt f.p 1 3 then refuse stRange s
  else if s.get It.testAccess = 0 ∨ (nth s.ring.tests link).isNone then refuse stConflict s
  else reply [] (s.endTest link)

def opLinkTestRead : OpFn := fun _ f s =>
  let link := u8At f.p 0
  if 5 < link ∨ !zeroAt f.p 1 3 then refuse stRange s
  else reply (toLE 1 (s.shown (It.ltState link)) ++ toLE 1 (s.shown (It.ltPattern link)) ++ toLE 2 0 ++
    toLE 4 (s.shown (It.ltSyncLosses link)) ++ toLE 8 (s.shown (It.ltBits link)) ++ toLE 8 (s.shown (It.ltErrors link))) s

/-- Log entry: 127 DEDUCED. -/
def opFaultInject : OpFn := fun _ f s =>
  let link := u8At f.p 0
  let action := u8At f.p 1
  let depth := u8At f.p 3
  let every := u16At f.p 4
  if 5 < link ∨ 3 < action ∨ !zeroAt f.p 10 2 ∨ (action ≠ 0 ∧ (depth = 0 ∨ 8 < depth ∨ every = 0)) then refuse stRange s
  else if s.get It.testAccess = 0 then refuse stConflict s
  else if action = 0 then reply [] (s.endInject link)
  else if (nth s.ring.injects link).isSome ∨ (nth s.ring.tests link).isSome then refuse stConflict s
  else
    let i : Inject := { action := action, kind := u8At f.p 2, depth := depth, every := every, count := u16At f.p 6,
                        bit_ := u16At f.p 8, until_ := s.now + u32At f.p 12 * 1000000 }
    let s := s.modRing fun r => { r with injects := upd r.injects link fun _ => some i }
    reply [] ((s.set (It.fiAction link) action).set (It.fiAltered link) 0)

/-! ## Carry, fail-over and start -/

/-- test_access has gone to 0: tests and injections end (R318, R320); ring_enable 0 keeps the bypass closed.
Log entry: 126 DEDUCED. -/
def State.ringCarry (keys : List Nat) (s : State) : State :=
  let s := if keys.contains It.testAccess ∧ s.get It.testAccess = 0 then
      s.endTests
    else s
  if keys.contains It.ringEnable ∧ s.get It.ringEnable = 0 then s.bypassClose else s

/-- A lane takes the active role: its sequence goes on 0x1000 higher, it announces its producer indices, and injections end
(R310, R312, R320). Log entry: 124 DEDUCED. -/
def State.ringClaim (s : State) : State :=
  let s := s.each (List.range 6) State.endInject
  (s.set It.ringTxSeq ((s.get It.ringTxSeq + 0x1000) % 65536)).modRing fun r => { r with announce := true }

end Sys2Proof.Machine
end

