-- ==== Sys2Proof/Machine/History.lean ====
section
/-! DEFINITION. The history recorder and the ageing monitors in operation (spec 15). The re-plan at a park is in
`Ageing`. -/

namespace Sys2Proof.Machine

def State.modHist (f : HistBank → HistBank) (s : State) : State := { s with hist := f s.hist }

/-! ## Records and the store (R385, R390, R391) -/

/-- The bytes of a record: header (Table 15.1), body, zero padding and check field, a multiple of 8 long (R385). -/
def Record.bytes (r : Record) (seq : Nat) : List Byte :=
  let len := (48 + r.body.length + 4 + 7) / 8 * 8
  let head := toLE 2 r.kind ++ toLE 2 len ++ toLE 4 seq ++ toLE 4 r.epoch ++ toLE 4 r.carry ++ toLE 8 r.start ++
    toLE 8 r.fin ++ toLE 8 r.calendar ++ toLE 1 r.lane ++ toLE 1 r.flags ++ toLE 2 r.chan ++ toLE 4 0
  let all := head ++ r.body ++ List.replicate (len - 52 - r.body.length) 0
  all ++ toLE 4 (crc32c all)

/-- The length of a record in bytes (Table 15.2). -/
def Record.size (r : Record) : Nat := (48 + r.body.length + 4 + 7) / 8 * 8

/-- The region of a record: 0 history, 1 ageing (Table 15.2). -/
def Record.region (r : Record) : Nat := if 5 ≤ r.kind then 1 else 0

/-- The record queue in bytes. -/
def queueBytes (q : List Record) : Nat := (q.map Record.size).sum

/-- A closed record enters the record queue, or is dropped when it finds the queue full (R391). -/
def State.record (r : Record) (s : State) : State :=
  let n := queueBytes s.hist.queue + r.size
  if 1048576 < n then
    let s := s.bump It.recDropped
    s.emit 0x1080 (toLE 1 r.region ++ toLE 3 0 ++ toLE 4 (s.get It.recDropped) ++ toLE 8 s.now)
  else
    let kb := (n + 1023) / 1024
    (s.modHist fun h => { h with queue := h.queue ++ [r] }).set It.recQueuePeakKb (max (s.get It.recQueuePeakKb) kb)

/-- A record of this instant: epoch, lane, and calendar time at its end (R386). Log entry: 154 DEDUCED. -/
def State.newRecord (s : State) (kind carry start fin flags chan : Nat) (body : List Byte) : Record :=
  { kind := kind, epoch := s.get It.mtimeEpoch, carry := carry, start := start, fin := fin
    calendar := s.calendarOf fin, lane := s.lanes.latch
    flags := flags + s.get It.calendarValid, chan := chan, body := body, cycle := s.cycle }

/-- The stored records of a region that fit its size, the oldest given up first (R390); with the number given up. -/
def trimRegion (limit : Nat) (l : List Stored) : List Stored × Nat :=
  let keep := l.reverse.foldl (fun (a : List Stored × Nat × Bool) x =>
    if a.2.2 ∧ a.2.1 + x.bytes.length ≤ limit then (x :: a.1, a.2.1 + x.bytes.length, true) else (a.1, a.2.1, false)) ([], 0, true)
  (keep.1, l.length - keep.1.length)

/-- One record written whole to its region (R390, R391). -/
def State.storeRecord (r : Record) (s : State) : State :=
  let ageing := r.region = 1
  let newest := if ageing then It.recNewestA else It.recNewestH
  let oldest := if ageing then It.recOldestA else It.recOldestH
  let seq := (s.get newest + 1) % 4294967296
  let old := if ageing then s.hist.age else s.hist.hist
  let (l, lost) := trimRegion (if ageing then 3145728 else 20971520) (old ++ [{ seq := seq, bytes := r.bytes seq }])
  let s := s.modHist fun h => if ageing then { h with age := l, nextPlan := if r.kind = 6 then some (r.bytes seq) else h.nextPlan }
    else { h with hist := l }
  ((s.set newest seq).set oldest ((l.head?.map (·.seq)).getD seq)).bumpBy It.recOverwritten lost

/-- The oldest queued record reaches the store, unless a store transaction of P items takes precedence (R391); only the
lane named by the role latch writes (R24). -/
def State.recordWritten (s : State) : State :=
  match s.hist.queue with
  | [] => s
  | r :: q => if s.sb.txnOpen.isEmpty then (s.modHist fun h => { h with queue := q }).storeRecord r else s

/-- Records reach the store while the module runs and in its power-fail shut-down, and only from the lane that holds the role
(R24). -/
def execRecordWritten (dt : Nat) (s : State) : Host.Outcome State Fault Refusal :=
  timedRun dt (fun s => if s.lanes.accepting then s.recordWritten else s) s

/-! ## Recorder channels (R387, R388) -/

/-- An item's value in q16.16 units: q16.16 as it is, integers times 65536 (R387, rule 0x10 of Table 15.4). -/
def fixedOf (ty : ItemType) (v : Nat) : Int :=
  match ty with
  | .q16 => signed32 v
  | .s32 => signed32 v * 65536
  | _ => (v : Int) * 65536

/-- A sample taken into a window. -/
def RecWin.sample (low width x : Int) (at_ : Nat) (w : RecWin) : RecWin :=
  let bin := if width ≤ 0 then 0 else Int.fdiv (x - low) width
  { w with
    n := w.n + 1, sum := w.sum + x
    below := if x < low then w.below + 1 else w.below
    above := if low ≤ x ∧ 32 ≤ bin then w.above + 1 else w.above
    bins := if low ≤ x ∧ bin < 32 then upd w.bins bin.toNat (· + 1) else w.bins
    lo := match w.lo with
      | some m => if x < m.1 then some (x, at_) else w.lo
      | none => some (x, at_)
    hi := match w.hi with
      | some m => if m.1 < x then some (x, at_) else w.hi
      | none => some (x, at_) }

/-- A lane that has become STANDBY after a restart begins its windows at this K: of a window that started before, it holds a part
(R392). Log entry: 188 DEDUCED. -/
def State.recorderJoin (s : State) : State :=
  if s.hist.joined then s.modHist fun h => { h with
    joined := false
    late := h.wins.map fun w => w.map fun _ => ({ start := s.now, carry := s.get It.carryNumber, part := true } : RecWin) }
  else s

/-- The samples of a K: every channel whose rec_every_k divides the cycle number samples its item from the snapshot
(R387). -/
def State.recorderSample (s : State) : State :=
  s.recorderJoin.each (List.range 32) fun ch s =>
    match nth s.hist.wins ch, findRow (s.get (It.recKey ch)) with
    | some w, some row =>
      if s.sb.snap.cycle % s.get (It.recEveryK ch) = 0 then
        let x := fixedOf row.ty (s.sb.snap.items.read s.variant (s.get (It.recKey ch)))
        let take := RecWin.sample (s.geti (It.recBinLow ch)) (s.geti (It.recBinWidth ch)) x s.now
        let w' := take w
        (s.modHist fun h => { h with
          wins := upd h.wins ch fun _ => some w', late := upd h.late ch fun l => l.map take }).set (It.recSamples ch) (sat32 w'.n)
      else s
    | _, _ => s

/-- The body of a histogram record. -/
def RecWin.histBody (w : RecWin) (low width : Nat) : List Byte :=
  toLE 4 low ++ toLE 4 width ++ toLE 4 (sat32 w.n) ++ toLE 4 (sat32 w.below) ++ toLE 4 (sat32 w.above) ++
    w.bins.flatMap fun b => toLE 4 (sat32 b)

/-- The body of an extremes record; `n` counts the free values used before it. What a window without samples reports, and
a value beyond the range of q16.16, are free values. -/
def RecWin.extremesBody (n : Nat) (w : RecWin) : List Byte :=
  let v := fun k => Config.freeValue (n + k)
  let ext := fun (k : Nat) (m : Option (Int × Nat)) => match m with
    | some x => (q16Open (n + k) x.1, x.2)
    | none => (v k % 2 ^ 32, v (k + 2) % 2 ^ 64)
  toLE 4 (ext 0 w.lo).1 ++ toLE 4 (ext 1 w.hi).1 ++ toLE 8 (ext 0 w.lo).2 ++ toLE 8 (ext 1 w.hi).2 ++
    toLE 4 (if w.n = 0 then v 4 % 2 ^ 32 else q16Open (n + 4) (Int.fdiv w.sum w.n)) ++ toLE 4 (sat32 w.n)

/-- The window of a channel closes at an instant: its records are queued (R387, R388). -/
def State.closeWindow (ch fin flags : Nat) (low width : Nat) (kind : Nat) (s : State) : State :=
  match nth s.hist.wins ch with
  | none => s
  | some w =>
    let fl := flags + (if w.part then 8 else 0)
    let s := s.modHist fun h => { h with wins := upd h.wins ch fun _ => none, late := upd h.late ch fun _ => none }
    let s := if kind = 1 ∨ kind = 3 then s.record (s.newRecord 1 w.carry w.start fin fl ch (w.histBody low width)) else s
    if kind = 2 ∨ kind = 3 then (s.record (s.newRecord 2 w.carry w.start fin fl ch (w.extremesBody s.free))).useFree 5 else s

/-- A channel that is not off opens a window at an instant. -/
def State.openWindow (ch start : Nat) (part : Bool) (s : State) : State :=
  let s := s.set (It.recSamples ch) 0
  if s.get (It.recKind ch) = 0 then s
  else s.modHist fun h => { h with wins := upd h.wins ch fun _ => some { start := start, carry := s.get It.carryNumber, part := part } }

/-- The window of a channel closed with the settings in force. -/
def State.closeNow (ch fin flags : Nat) (s : State) : State :=
  s.closeWindow ch fin flags (s.get (It.recBinLow ch)) (s.get (It.recBinWidth ch)) (s.get (It.recKind ch))

/-- The mtime multiple of rec_window_s at which a window ends (R387). Log entry: 154 DEDUCED. -/
def State.windowEnd (s : State) (ch : Nat) (w : RecWin) : Nat :=
  let per := s.get (It.recWindowS ch) * 1000000000
  (w.start / per + 1) * per

/-- A channel's window closes at its mtime multiple and the next one opens (R387). Log entry: 154 DEDUCED. -/
def State.recorderClose (ch : Nat) (s : State) : State :=
  match nth s.hist.wins ch with
  | none => s
  | some w =>
    let e := s.windowEnd ch w
    if e ≤ s.now then (s.closeNow ch e 0).openWindow ch e false else s

def execRecorderWindowClose (dt : Nat) (ch : Fin 32) (s : State) : Host.Outcome State Fault Refusal :=
  timedRun dt (State.recorderClose ch) s

/-- A carry that writes class 0xa8 or the class of a channel's rec_key closes the channel's window at C, with the settings
it was opened with, and opens the next (R388, R13). Log entry: 154 DEDUCED. -/
def State.recorderCarry (old : Nat → Nat) (classes : List Nat) (s : State) : State :=
  s.each (List.range 32) fun ch s =>
    if classes.contains 0xa8 ∨ classes.contains (old (It.recKey ch) / 65536) then
      let s := s.closeWindow ch s.now 4 (old (It.recBinLow ch)) (old (It.recBinWidth ch)) (old (It.recKind ch))
      s.openWindow ch s.now true
    else s

/-- Every window closed without a successor: orderly park (flags 0) and power-fail shut-down (flag [1]) (R388). -/
def State.recorderEnd (flags : Nat) (s : State) : State := s.each (List.range 32) fun ch s => s.closeNow ch s.now flags

/-- The first windows of a start open at the first K after the start carry (R388). Log entry: 154 DEDUCED. -/
def State.recorderBegin (s : State) : State := s.each (List.range 32) fun ch s => s.openWindow ch s.now true

/-! ## Ageing monitors (R394, R395) -/

/-- The instances of a monitor (Table 15.5). -/
def monInstances (mon : Nat) : Nat :=
  match mon with
  | 1 | 2 | 10 => 2
  | 3 | 4 => 1
  | 5 | 6 => 16
  | 7 | 8 | 9 => 128
  | _ => 0

/-- The item that holds the latest value of a monitor's instance. -/
def monItem (mon inst : Nat) : Nat :=
  match mon with
  | 1 => It.ageCanaryPs inst
  | 2 => It.ageSramMarginMv inst
  | 3 => It.ageHoldupUf
  | 4 => It.ageHoldupEsrMohm
  | 5 => It.ageBoostEsrMohm inst
  | 6 => It.ageHsRonMohm inst
  | 7 => It.ageLsRonMohm inst
  | 8 => It.chROhm inst
  | 9 => It.chLMh inst
  | _ => if inst = 0 then It.ageRelayWeMohm else It.ageRelayWwMohm

/-- A sample added to the sums of its instance. -/
def AgeSum.add (v : Nat) (a : AgeSum) : AgeSum :=
  { a with
    latest := v, lo := if signed32 v < signed32 a.lo then v else a.lo
    hi := if signed32 a.hi < signed32 v then v else a.hi, n := a.n + 1 }

/-- A sample of a monitor: its item and the sums since its last record. -/
def State.ageSample (mon inst v : Nat) (s : State) : State :=
  let hit := fun (a : AgeSum) => a.mon == mon && a.inst == inst
  (s.set (monItem mon inst) v).modHist fun h => { h with
    sums := if h.sums.any hit then h.sums.map (fun a => if hit a then a.add v else a)
      else h.sums ++ [{ mon := mon, inst := inst, latest := v, lo := v, hi := v, n := 1 }] }

/-- The body of a trend record; an instance without a sample since its last record states its latest value.
Log entry: 155 DEDUCED. -/
def State.trendBody (s : State) (mon inst flags : Nat) : List Byte :=
  let v := s.get (monItem mon inst)
  let a := (s.hist.sums.find? fun a => a.mon == mon && a.inst == inst).getD { mon := mon, inst := inst, latest := v, lo := v, hi := v, n := 0 }
  toLE 1 mon ++ toLE 1 flags ++ toLE 2 inst ++ toLE 4 a.latest ++ toLE 4 a.lo ++ toLE 4 a.hi ++ toLE 4 (sat32 a.n)

/-- Trend records of every monitor and instance (R394); the sums start again. Log entry: 155 DEDUCED. -/
def State.trends (flags : Nat) (s : State) : State :=
  let from_ := s.hist.lastTrend
  let s := s.each (List.range 10) fun k s => s.each (List.range (monInstances (k + 1))) fun i s =>
    s.record (s.newRecord 5 (s.get It.carryNumber) from_ s.now 0 i (s.trendBody (k + 1) i flags))
  s.modHist fun h => { h with sums := [], lastTrend := s.now }

/-- Every age_trend_h hours of mtime in RUN and IDLE (R394). Log entry: 155 DEDUCED. -/
def State.trendTick (s : State) : State :=
  let per := s.get It.ageTrendH * 3600000000000
  if (s.get It.opState = 1 ∨ s.get It.opState = 2) ∧ (s.hist.lastTrend / per + 1) * per ≤ s.now then s.trends 0 else s

def execAgeTrendTick (dt : Nat) (s : State) : Host.Outcome State Fault Refusal := timedRun dt State.trendTick s

/-- AGE_WARN, at most one for a monitor and instance within an hour (R395, Table 15.10). Log entry: 156 DEDUCED. -/
def State.ageWarn (mon inst v : Nat) (s : State) : State :=
  if s.hist.warned.any (fun w => w.1 == mon && w.2.1 == inst && decide (s.now < w.2.2 + 3600000000000)) then s
  else (s.modHist fun h => { h with warned := (h.warned.filter fun w => !(w.1 == mon && w.2.1 == inst)) ++ [(mon, inst, s.now)] }).emit
    0x1181 (toLE 1 mon ++ toLE 1 0 ++ toLE 2 inst ++ toLE 4 v ++ toLE 8 s.now)

/-- A give-up cause found by a monitor of a lane, for LANE_GIVE_UP (R327). -/
def State.found (lane cause : Nat) (s : State) : State :=
  { s with lanes := { s.lanes with found := s.lanes.found ++ [(lane, cause)] } }

/-- A canary measurement, raw q16.16 [ps]: below 30 ps it warns, below 15 ps it is cause 10 of its lane (R395). -/
def State.canary (lane slack : Nat) (s : State) : State :=
  let low := match nth s.hist.canary lane with
    | some m => min m slack
    | none => slack
  let s := ((s.ageSample 1 lane slack).modHist fun h => { h with canary := upd h.canary lane fun _ => some low }).set
    (It.ageCanaryMinPs lane) low
  let s := if slack < 15 * 65536 then s.found lane 10 else s
  if slack < 30 * 65536 then s.ageWarn 1 lane slack else s

def execCanaryMeasure (dt : Nat) (lane : Fin 2) (slack : Nat) (s : State) : Host.Outcome State Fault Refusal :=
  timed dt (State.canary lane slack) s

/-- The recorder of the lane that takes the role (R392): its windows are its own, and it writes the records it has closed; after a
fail-over those since the last copied cycle that the store does not hold, in order of end mtime. Log entry: 188 DEDUCED. -/
def State.recorderTaken (lane copied : Nat) (planned : Bool) (s : State) : State :=
  s.modHist fun h => { h with
    wins := (h.wins.zip h.late).map fun (p : Option RecWin × Option RecWin) => p.2.orElse fun _ => p.1
    late := List.replicate 32 none, joined := false
    queue := ((if planned then h.queue else h.queue.filter fun (r : Record) => decide (copied < r.cycle)).mergeSort
      fun a b => decide (a.fin ≤ b.fin)).map fun (r : Record) => { r with lane := lane } }

/-! ## The opcodes of Table 15.9 -/

/-- As many records from the front as fit a size. -/
def takeBytes (limit : Nat) : List Stored → List Stored
  | [] => []
  | r :: l => if r.bytes.length ≤ limit then r :: takeBytes (limit - r.bytes.length) l else []

def opHistRead : OpFn := fun _ f s =>
  let region := u8At f.p 0
  let first := u32At f.p 4
  if 1 < region ∨ !zeroAt f.p 1 3 then refuse stRange s
  else
    let all := if region = 1 then s.hist.age else s.hist.hist
    let l := takeBytes 8192 (all.filter fun r => decide (first ≤ r.seq))
    reply (toLE 4 (s.get (if region = 1 then It.recOldestA else It.recOldestH)) ++
      toLE 4 (s.get (if region = 1 then It.recNewestA else It.recNewestH)) ++ toLE 2 l.length ++ toLE 2 0 ++ toLE 4 0 ++
      l.flatMap (·.bytes)) s

def opHistClear : OpFn := fun _ f s =>
  if u8At f.p 0 ≠ 0 ∨ !zeroAt f.p 1 3 then refuse stRange s
  else reply [] ((s.modHist fun h => { h with hist := [] }).set It.recOldestH ((s.get It.recNewestH + 1) % 4294967296))

/-- The kind 6 record in force, whole (Table 15.9). -/
def opAgeRead : OpFn := fun _ _ s =>
  match s.hist.plan with
  | none => refuse stConflict s
  | some b => reply b s

def opAgeMonitorRead : OpFn := fun _ f s =>
  let mon := u8At f.p 0
  let inst := u16At f.p 2
  if mon = 0 ∨ 10 < mon ∨ !zeroAt f.p 1 1 ∨ monInstances mon ≤ inst then refuse stRange s
  else reply (s.trendBody mon inst 0) s

/-! ## Consistency (Table 15.4) -/

/-- The record bytes of a channel per window. -/
def recordSize (kind : Nat) : Nat := (if kind = 1 ∨ kind = 3 then 200 else 0) + (if kind = 2 ∨ kind = 3 then 88 else 0)

/-- The rules of Table 15.4 (R401). -/
def recRules (rd : Nat → Nat) : List Failure :=
  let on := (List.range 32).filter fun ch => rd (It.recKind ch) != 0
  on.flatMap (fun ch =>
    require (match (if rd (It.recKey ch) < 2 ^ 24 then findRow (rd (It.recKey ch)) else none) with
      | some r => match r.ty with
        | .u8 | .u16 | .u32 | .s32 | .q16 | .enum => true
        | _ => false
      | none => false) [It.recKey ch, It.recKind ch] 0x10 ++
    require (decide (0 < signed32 (rd (It.recBinWidth ch)))) [It.recBinWidth ch, It.recKind ch] 0x11) ++
  require (decide (ceilSum (on.map fun ch => (recordSize (rd (It.recKind ch)) * 86400, rd (It.recWindowS ch) * 1024)) ≤ 65536))
    (on.flatMap fun ch => [It.recKind ch, It.recWindowS ch]) 0x12

end Sys2Proof.Machine
end

