-- ==== Sys2Proof/Machine/Fusion.lean ====
section
/-! DEFINITION. Streams, event time, alignment and fusion groups (spec 06). The tracker is in `Tracker`. -/

namespace Sys2Proof.Machine

def State.modFus (f : FuBank → FuBank) (s : State) : State := { s with fus := f s.fus }

/-! ## Event time (R163) -/

/-- The event tally of an event time (R163). -/
def State.eventTally (s : State) (e : Int) : Option Nat := if e < 0 then none else s.tallyAt e.toNat

/-- The mtime at which the tally reached a whole number of units, or none while it has not (R183). A unit older than the
history counts as reached at the history's oldest unit. -/
def State.unitAt (s : State) (u : Nat) : Option Nat :=
  match s.time.hist.find? (fun x => x.int == u % 2 ^ 48), s.time.hist.getLast? with
  | some x, _ => some x.at_
  | none, some x => if 0 < unitDiff x.int u then some x.at_ else none
  | none, none => none

/-! ## Consumers and members (R165 to R168) -/

/-- A member of a consumer. -/
inductive MemId where
  | stream (n : Nat) | view (v : Nat) | group (g : Nat)
  deriving DecidableEq, Repr

/-- The place of a member in its consumer's alignment, in member order (R183). -/
def MemId.code : MemId → Nat
  | .stream n => n
  | .view v => v
  | .group g => 32 + g

/-- The members of a group under some settings, in member order (R183). -/
def groupMembers (rd : Nat → Nat) (g : Nat) : List MemId :=
  if rd (It.fuLevel g) = 0 then []
  else ((List.range 32).filter (bit (rd (It.fuStreams g)))).map MemId.stream ++
    ((List.range 32).filter (bit (rd (It.fuGroups g)))).map MemId.group

/-- The settings in use for a window that starts at an mtime: those of the latest K at or before it (R189).
Log entry: 86 DEDUCED. -/
def State.fuCfg (s : State) (start : Nat) : FuCfg :=
  ((s.fus.cfgs.find? fun c => decide (c.k ≤ start)).getD (s.fus.cfgs.getLast?.getD { k := 0, carry := s.get It.carryNumber, items := s.cfgK }))

/-- The settings of a group's window that is open: it completes with them (R13, R189). -/
def State.openCfg (s : State) (g : Nat) : Option FuCfg :=
  match (nth s.fus.gst g).start with
  | some (_, some t) => if t ≤ s.now then some (s.fuCfg t) else none
  | _ => none

/-- The members of a group: those in use and those of its open window (R183, R189). Log entry: 86 DEDUCED. -/
def State.groupIds (s : State) (rd : Nat → Nat) (g : Nat) : List MemId :=
  let now := groupMembers rd g
  match s.openCfg g with
  | none => now
  | some c =>
    let was := groupMembers (c.items.read s.variant) g
    ((List.range 32).map MemId.stream ++ (List.range 32).map MemId.group).filter fun i => now.contains i || was.contains i

/-- The members of a consumer. -/
def State.members (s : State) : Consumer → List MemId
  | .tracker => if s.useK It.tkEnable = 0 then [] else (List.range 4).map MemId.view
  | .group g => s.groupIds s.useK g

/-- A view that the tracker uses. -/
def State.viewOn (s : State) (v : Nat) : Bool := s.useK It.tkEnable == 1 && s.useK (It.tkViewCtx v) != 255

/-- The alignment of a consumer. Log entry: 76 DEDUCED. -/
def State.align (s : State) : Consumer → Align
  | .tracker => s.fus.tracker
  | .group g => nth s.fus.groups g

def State.modAlign (c : Consumer) (f : Align → Align) (s : State) : State :=
  s.modFus fun b => match c with
    | .tracker => { b with tracker := f b.tracker }
    | .group g => { b with groups := upd b.groups g f }

/-- The alignment window of a consumer in ns. -/
def State.window (s : State) : Consumer → Nat
  | .tracker => s.useK It.tkAlignUs * 1000
  | .group g => s.useK (It.fuAlignUs g) * 1000

/-- The declared delay of a member in ns (R163). -/
def State.delay (s : State) : MemId → Nat
  | .stream n => s.useK (It.stDelayUs n) * 1000
  | _ => 0

/-- STREAM_STATE for a stream or a view; causes as Table 6.17 lists them. -/
def State.memEvent (id : MemId) (st cause : Nat) (s : State) : State :=
  let ev := fun (kind n : Nat) (s : State) =>
    s.emit 0x0880 (toLE 1 kind ++ toLE 1 n ++ toLE 2 st ++ toLE 2 cause ++ toLE 2 0 ++ toLE 8 s.now)
  match id with
  | .stream n => ev 0 n (s.set (It.stState n) st)
  | .view v => ev 1 v (s.set (It.tkViewState v) st)
  | .group _ => s

/-- The run of aligned samples of a member set. Log entry: 76 DEDUCED. -/
def State.setRun (c : Consumer) (i : Nat) (id : MemId) (n : Nat) (s : State) : State :=
  let s := s.modAlign c fun a => { a with mems := upd a.mems i fun m => { m with count := n } }
  match id with
  | .stream k => s.set (It.stReentry k) n
  | _ => s

/-- A member returns to UNALIGNED (R167): counted, reported, and its samples in the buffer are not released.
Log entry: 76 DEDUCED. -/
def State.unalign (c : Consumer) (i : Nat) (id : MemId) (cause : Nat) (s : State) : State :=
  if (nth (s.align c).mems i).aligned then
    let s := s.modAlign c fun a => { a with
      mems := upd a.mems i fun m => { m with aligned := false }, buf := a.buf.filter fun x => x.mem != i }
    let s := match id with
      | .stream n => s.bump (It.stUnaligned n)
      | .view v => s.bump (It.tkViewUnaligned v)
      | .group _ => s
    (s.setRun c i id 0).memEvent id 1 cause
  else s.setRun c i id 0

/-- The bytes that the alignment buffers hold: 32 for a sample and 96 for a detection (rule 0x24 of Table 6.15).
Log entry: 75 DEDUCED. -/
def State.bufferBytes (s : State) : Nat :=
  ((s.fus.tracker :: s.fus.groups).map fun a => (a.buf.map fun x => if x.det.isSome then 96 else 32).sum).sum

/-- A sample reaches the alignment buffer of a consumer at this instant: offset, judgement and buffering (R165, R167,
R168). `g` is its ingress stamp, `lat` its latency with the unverified flag. Log entry: 75 DEDUCED. -/
def State.arrive (c : Consumer) (i : Nat) (id : MemId) (g : Nat) (lat : Nat × Bool) (x : Sample) (s : State) : State :=
  let a := s.align c
  let m := nth a.mems i
  let o := (s.now - g) + lat.1
  let s := match id with
    | .stream n => s.set (It.stOffsetNs n) (sat32 o)
    | .view v => s.set (It.tkViewOffsetNs v) (sat32 o)
    | .group _ => s
  let s := match id with
    | .view _ => s
    | _ => s.modAlign c fun a => { a with mems := upd a.mems i fun m => { m with mark := x.e } }
  let tally := s.eventTally x.e
  let late := decide (x.e ≤ a.horizon)
  let s := if late then (match id with
    | .stream n => s.bump (It.stLate n)
    | _ => s) else s
  let size := if x.det.isSome then 96 else 32
  let cause : Option Nat :=
    if 4194304 < s.bufferBytes + size then some 5
    else if s.window c < o then some 1
    else if lat.2 then some 2
    else if late then some 3
    else if tally.isNone then some 6
    else none
  match cause with
  | some k =>
    let s := if k = 5 then (match id with
      | .stream n => s.bump (It.stDropped n)
      | .view v => s.bump (It.tkViewDropped v)
      | .group _ => s) else s
    s.unalign c i id k
  | none =>
    if m.aligned then
      let x := { x with mem := i, arr := s.fus.arr, tally := tally.getD 0 }
      let s := (s.modFus fun b => { b with arr := b.arr + 1 }).modAlign c fun a => { a with buf := a.buf ++ [x] }
      let kb := (s.bufferBytes + 1023) / 1024
      s.set It.fuBufferPeakKb (max (s.get It.fuBufferPeakKb) kb)
    else
      let s := s.setRun c i id (m.count + 1)
      if m.count + 1 = 8 then
        (s.modAlign c fun a => { a with mems := upd a.mems i fun m => { m with aligned := true } }).memEvent id 2 0
      else s

/-! ## Streams (R161, R162, R164) -/

/-- The groups that a stream or a group is a member of. -/
def State.groupOf (s : State) (id : MemId) : List Nat := (List.range 32).filter fun g => (s.groupIds s.useK g).contains id

/-- The value of a sample, raw × st_scale + st_offset in q16.16, and whether it saturated (R162); `raw` in 1/65536. -/
def State.streamValue (s : State) (n : Nat) (raw : Int) : Int × Bool :=
  let v := fdiv (raw * s.useKi (It.stScale n)) 65536 + s.useKi (It.stOffset n)
  (clampInt (-2147483648) 2147483647 v, decide (v < -2147483648 ∨ 2147483647 < v))

/-- The stream's rate limit within 10 ms, at least one sample (R162). Log entry: 74 DEDUCED. -/
def streamLimit (rate : Nat) : Nat := (rate + 99) / 100

/-- One sample of a stream: limited in rate, scaled, filtered where the source is a CAN channel, guarded, and delivered to
its group (R162, R163, R164). Log entry: 74 DEDUCED. -/
def State.streamSample (n g : Nat) (raw : Int) (guard : Nat) (lat : Nat × Bool) (s : State) : State :=
  let st := nth s.fus.streams n
  let recent := st.recent.filter fun t => g < t + 10000000
  if streamLimit (s.useK (It.stMaxRate n)) ≤ recent.length then s.bump (It.stDropped n)
  else
    let src := s.useK (It.stSource n)
    let (x, sat) := s.streamValue n raw
    let can := decide (33 ≤ src) && decide (src ≤ 38)
    let y := match can, st.y with
      | true, some y => y + fdiv (x - y) (2 ^ s.useK (It.stFilter n))
      | _, _ => x
    let guard := if can then
        windowState st.win y (s.useKi (It.stLow n)) (s.useKi (It.stHigh n)) (s.useK (It.stHystPct n))
      else guard
    let s := s.modFus fun b => { b with streams := upd b.streams n fun _ =>
      { recent := recent ++ [g], y := some y, last := some g, win := if can then guard else 0 } }
    let s := if 38 < src then s else s.set (It.stGuard n) guard
    let e : Int := (g : Int) - lat.1 - s.useK (It.stDelayUs n) * 1000
    let smp : Sample := { mem := n, arr := 0, e := e, tally := 0, value := twos 32 y, ok := guard == 0 && !sat }
    (s.groupOf (.stream n)).foldl (fun s k => s.arrive (.group (Fin.ofNat 32 k)) n (.stream n) g lat smp) s

/-- A sample of every stream that takes a source (Table 6.1). -/
def State.feed (src g : Nat) (raw : Int) (guard : Nat) (s : State) : State :=
  s.each ((List.range 32).filter fun n => s.useK (It.stSource n) == src) fun n s => s.streamSample n g raw guard (0, false)

/-- The samples of the encoder sources at a K (Table 6.1). -/
def State.feedEncoders (s : State) : State :=
  s.each (List.range 8) fun n s => s.feed (25 + n) s.now (s.geti (It.encRate n) * 65536) (s.get (It.encGuard n))

/-- A valid CAN frame offered to the streams of its channel (R162). -/
def State.feedCan (ch g : Nat) (f : CanFrame) (s : State) : State :=
  s.each ((List.range 32).filter fun n => s.useK (It.stSource n) == 33 + ch && CanFrame.isId f (s.useK (It.stCanId n))) fun n s =>
    let w := s.useK (It.stCanWidth n) % 0x80
    let o := s.useK (It.stCanOffset n)
    if f.data.length < o + w then s.bump (It.stDropped n)
    else
      let v := countOf (s.useK (It.stCanWidth n)) ((f.data.drop o).take w)
      let raw := if s.useK (It.stCanSigned n) = 1 then signedOf (8 * w) v else v
      s.streamSample n g (raw * 65536) 0
        (s.latency fun k => s.get (It.lmSource k) == 5 + ch && s.get (It.lmCanId k) == s.useK (It.stCanId n))

/-- The guard of the channel behind a stream that is no CAN stream; sources 39 and 40 have none (R164). -/
def State.channelGuard (s : State) (n : Nat) : Option Nat :=
  let src := s.useK (It.stSource n)
  if 1 ≤ src ∧ src ≤ 16 then some (s.get (It.aiGuard (src - 1)))
  else if 17 ≤ src ∧ src ≤ 24 then some (s.get (It.lsGuard (src - 17)))
  else if 25 ≤ src ∧ src ≤ 32 then some (s.get (It.encGuard (src - 25)))
  else none

/-- st_guard of every stream whose channel carries a guard (R164). -/
def State.streamGuards (s : State) : State :=
  s.each (List.range 32) fun n s => (s.channelGuard n).elim s fun g => s.set (It.stGuard n) g

/-- A CAN stream without a sample for st_stale_ms: its guard is STALE (R164). -/
def State.streamStale (n : Nat) (s : State) : State :=
  let src := s.useK (It.stSource n)
  if 33 ≤ src ∧ src ≤ 38 ∧ s.useK (It.stStaleMs n) * 1000000 ≤ s.now - ((nth s.fus.streams n).last.getD 0) then
    s.set (It.stGuard n) gStale
  else s

def execStreamStale (dt : Nat) (stream : Fin 32) (s : State) : Host.Outcome State Fault Refusal :=
  timedRun dt (State.streamStale stream) s

/-! ## Watermarks and horizon (R165, R166) -/

/-- The event time of a line (R163). -/
def LineStamp.event (x : LineStamp) : Int := (x.mtime : Int) - x.lat.1

/-- The watermark of a view: the event time of the first line of the oldest object not yet emitted in its context's
pipeline, else of the latest line processed (R165). Log entry: 77 DEDUCED. -/
def State.viewMark (s : State) (v : Nat) : Int :=
  let c := s.useK (It.tkViewCtx v)
  let firsts := (s.ctx c).queue.map (·.first) ++
    s.cam.ports.flatMap fun p => (nth p.opened c).filterMap CamObj.first
  match firsts.map LineStamp.event with
  | [] => ((s.ctx c).last.map LineStamp.event).getD 0
  | e :: r => r.foldl min e

/-- The watermark of a member. Log entry: 77 DEDUCED. -/
def State.mark (s : State) (c : Consumer) (i : Nat) (id : MemId) : Int :=
  match id with
  | .view v => if s.viewOn v then s.viewMark v else 0
  | _ => (nth (s.align c).mems i).mark

/-- The members of a consumer with their codes. -/
def State.indexed (s : State) (c : Consumer) : List (Nat × MemId) := (s.members c).map fun x => (x.code, x)

/-- The horizon at this instant; it never decreases (R166). Log entry: 77 DEDUCED. -/
def State.newHorizon (s : State) (c : Consumer) : Int :=
  let ms := s.indexed c
  let d := (ms.map fun x => s.delay x.2).foldl max 0
  let floor_ : Int := (s.now : Int) - s.window c - d
  let marks := (ms.filter fun x => (nth (s.align c).mems x.1).aligned).map fun x => s.mark c x.1 x.2
  let lowest := match marks with
    | [] => floor_
    | m :: r => r.foldl min m
  max (s.align c).horizon (max floor_ lowest)

/-- The order of release: event time, member, arrival (R166). Log entry: 78 DEDUCED. -/
def Sample.before (a b : Sample) : Bool :=
  decide (a.e < b.e) || (a.e == b.e && (decide (a.mem < b.mem) || (a.mem == b.mem && decide (a.arr < b.arr))))

/-- A sample inserted in the order of release. -/
def insertSample (x : Sample) : List Sample → List Sample
  | [] => [x]
  | y :: r => if x.before y then x :: y :: r else y :: insertSample x r

/-- The horizon advances; the samples at or below it leave the buffer in their order (R166).
Log entry: 78 DEDUCED. -/
def State.advanceHorizon (c : Consumer) (s : State) : State × List Sample :=
  let h := s.newHorizon c
  let out := ((s.align c).buf.filter fun x => decide (x.e ≤ h)).foldr insertSample []
  (s.modAlign c fun a => { a with horizon := h, buf := a.buf.filter fun x => decide (h < x.e) }, out)

/-- An ALIGNED member, named by its index in member order, whose watermark lies more than W behind returns to UNALIGNED, cause 4
(R167). Log entry: 77 DEDUCED. -/
def State.watermarkTimeout (c : Consumer) (k : Nat) (s : State) : State :=
  match (s.members c)[k]? with
  | none => s
  | some id =>
    let i := id.code
    if (nth (s.align c).mems i).aligned ∧ (s.window c : Int) < (s.now : Int) - s.mark c i id - s.delay id then s.unalign c i id 4 else s

def execMemberWatermarkTimeout (dt : Nat) (cons : Consumer) (member : Fin 32) (s : State) :
    Host.Outcome State Fault Refusal :=
  timedRun dt (State.watermarkTimeout cons member) s

/-! ## Reductions (Table 6.10) -/

/-- What a member's samples of a window reduce to, unlimited in range; `len` is the length in ns, `units` in units and
`fin` the mtime of the window end. -/
def reduce (code mask len units fin : Nat) (l : List Sample) : Int :=
  let vs := l.map fun x => signed32 x.value
  let n : Int := l.length
  let per := fun (v : Int) => if len = 0 then 0 else fdiv (v * 1000000000) len
  match code with
  | 0 => (vs.getLast?).getD 0
  | 1 => fdiv vs.sum n
  | 2 => vs.sum
  | 3 => n * 65536
  | 4 => ((vs.filter fun v => decide (0 ≤ v) && decide (v < 32 * 65536) && bit mask (v / 65536).toNat).length : Int) * 65536
  | 5 => per (n * 65536)
  | 6 => per vs.sum
  | 7 =>
    let ends := (l.drop 1).map (·.e) ++ [(fin : Int)]
    fdiv ((l.zip ends).map fun p => signed32 p.1.value * (p.2 - p.1.e)).sum 1000000000
  | _ => if units = 0 then 0 else fdiv vs.sum units

/-! ## Agreement (R185) -/

/-- A list of numbers put in rising order. -/
def insertInt (x : Int) : List Int → List Int
  | [] => [x]
  | y :: r => if x ≤ y then x :: y :: r else y :: insertInt x r

/-- The median; of an even number, the mean of the two middle values. -/
def median (l : List Int) : Int :=
  let q := l.foldr insertInt []
  let n := q.length
  if n % 2 = 1 then q.getD (n / 2) 0 else fdiv (q.getD (n / 2 - 1) 0 + q.getD (n / 2) 0) 2

/-- tol(a, b) (R185). -/
def tolerance (abs_ rel a b : Int) : Int := abs_ + fdiv (rel * max a.natAbs b.natAbs) 65536

/-- The outcome of a window's agreement: no value, a value with its outliers (member indices), or a contradiction. -/
inductive Agreement where
  | none | value (v : Int) (outliers : List Nat) | contradiction
  deriving DecidableEq, Repr

/-- The decision of a window over the active members (R185). -/
def agree (minActive : Nat) (abs_ rel : Int) (l : List (Nat × Int)) : Agreement :=
  match l with
  | [] => .none
  | [x] => if 1 < minActive then .none else .value x.2 []
  | [x, y] =>
    if 2 < minActive then .none
    else if (x.2 - y.2).natAbs ≤ tolerance abs_ rel x.2 y.2 then .value (fdiv (x.2 + y.2) 2) [] else .contradiction
  | l =>
    if l.length < minActive then .none
    else
      let med := median (l.map (·.2))
      let out := l.filter fun x => decide (tolerance abs_ rel x.2 med < (x.2 - med).natAbs)
      if l.length < 2 * (l.length - out.length) then .value med (out.map (·.1)) else .contradiction

/-! ## Windows and cells (R183 to R187) -/

/-- The mtime of a window's edge: in ns, or that of a unit on tally basis. Log entry: 86 DEDUCED. -/
def State.edgeAt (s : State) (basis edge : Nat) : Option Nat := if basis = 1 then s.unitAt edge else some edge

/-- The length of a group's windows, in ns or units (R183). -/
def windowLen (rd : Nat → Nat) (g : Nat) : Nat := if rd (It.fuBasis g) = 1 then rd (It.fuWindow g) else rd (It.fuWindow g) * 1000

/-- The first window edge of a group at or after an mtime under some settings (R183): in ns, or in units from the tally then. -/
def State.firstEdge (s : State) (rd : Nat → Nat) (g t : Nat) : Nat :=
  let len := windowLen rd g
  let x := if rd (It.fuBasis g) = 1 then (s.posAt t + 65535) / 65536 else t
  (x + len - 1) / len * len

/-- The window that follows one that ended at an edge, at mtime `fin`: it starts there, or where the settings have changed the grid, at
the first edge of the new one (R183, R189). None where the group has been switched off. Log entry: 86 DEDUCED. -/
def State.nextWindow (s : State) (g : Nat) (c : FuCfg) (edge fin : Nat) : Option (Nat × Option Nat) :=
  let old := c.items.read s.variant
  let rd := (s.fuCfg fin).items.read s.variant
  if rd (It.fuLevel g) = 0 then none
  else if rd (It.fuBasis g) = old (It.fuBasis g) ∧ windowLen rd g = windowLen old g then some (edge, some fin)
  else
    let e := s.firstEdge rd g fin
    some (e, if rd (It.fuBasis g) = 1 then none else some e)

/-- The end of a group's open window: its edge, its mtime, and the settings of the window; none while no window is open or
its end has not come. Log entry: 85 DEDUCED. -/
def State.groupEnd (s : State) (g : Nat) : Option (FuCfg × Nat × Nat × Nat × Nat) :=
  match (nth s.fus.gst g).start with
  | none => none
  | some (a, at0) =>
    let at_ := at0.getD s.now
    let c := s.fuCfg at_
    let rd := c.items.read s.variant
    let b := (a / windowLen rd g + 1) * windowLen rd g
    (s.edgeAt (rd (It.fuBasis g)) b).map fun t => (c, a, at_, b, t)

/-- A bit list of member indices. -/
def maskOf (l : List Nat) : Nat := (l.map (2 ^ ·)).sum

/-- fu_quality set, with GROUP_QUALITY at a change (R186). -/
def State.setQuality (g q : Nat) (s : State) : State :=
  s.setGuard (It.fuQuality g) q 0x0881
    (toLE 1 g ++ toLE 1 0 ++ toLE 2 q ++ toLE 4 (s.get (It.fuFlags g)) ++ toLE 8 (s.get (It.fuWindowEnd g)))

/-- GROUP_QUALITY and the items of a window's output (R186). Log entry: 85 DEDUCED. -/
def State.groupOut (g q flags : Nat) (value : Int) (fin carry : Nat) (s : State) : State :=
  ((((s.set (It.fuValue g) (twos 32 value)).set (It.fuFlags g) flags).set (It.fuWindowEnd g) fin).set (It.fuCarry g) carry).setQuality g q

/-- A group's output reaches the groups that name it as a member: a sample at the window end (R165, R186). -/
def State.groupToGroups (g q : Nat) (value : Int) (fin : Nat) (s : State) : State :=
  let x : Sample := { mem := 32 + g, arr := 0, e := fin, tally := 0, value := twos 32 value, ok := q != 4, quality := q }
  (s.groupOf (.group g)).foldl (fun s k => s.arrive (.group (Fin.ofNat 32 k)) (32 + g) (.group g) fin (0, false) x) s

/-- The cell of a closed window at decision level (R187): index, record of Table 6.12, event, history record. -/
def State.cellOut (g q flags carry a fin startAt : Nat) (value : Int) (s : State) : State :=
  let idx := (nth s.fus.gst g).cell
  let rec_ := toLE 1 g ++ toLE 1 q ++ toLE 2 flags ++ toLE 4 carry ++ toLE 8 idx ++ toLE 8 (a * 65536) ++ toLE 8 fin ++
    toLE 4 (twos 32 value) ++ toLE 1 (bitsOf flags 23 16) ++ toLE 1 (bitsOf flags 31 24) ++ toLE 2 0 ++
    toLE 4 (s.get It.mtimeEpoch) ++ toLE 4 0
  let s := (s.set (It.fuCell g) idx).modFus fun k => { k with gst := upd k.gst g fun x =>
    { x with cell := x.cell + 1, cells := (x.cells ++ [(idx, s.cycle, rec_)]).drop (x.cells.length + 1 - 64) } }
  let s := s.emit 0x0882 rec_
  if bit (s.get It.recCellsMask) g then s.record (s.newRecord 3 carry startAt fin 0 g rec_) else s

/-- A sample lies at or after a window edge. -/
def Sample.from (basis a : Nat) (x : Sample) : Bool :=
  if basis = 1 then decide (0 ≤ posDiff x.tally (a * 65536)) else decide ((a : Int) ≤ x.e)

/-- A sample lies in a window. -/
def Sample.within (basis a b : Nat) (x : Sample) : Bool := x.from basis a && !x.from basis b

/-- Members that have left a consumer: their alignment ends, and their samples leave its buffer. -/
def State.dropMembers (g : Nat) (ids : List MemId) (s : State) : State :=
  ids.foldl (fun s id =>
    let s := s.modFus fun b => { b with groups := upd b.groups g fun a => { a with
      mems := upd a.mems id.code fun _ => {}, buf := a.buf.filter fun x => x.mem != id.code } }
    match id with
    | .stream n => (s.set (It.stState n) (min (s.useK (It.stSource n)) 1)).set (It.stReentry n) 0
    | _ => s) s

/-- A group's open window closes (R184 to R187) with the settings of its start. Log entry: 85 DEDUCED. -/
def State.closeGroup (g : Nat) (c : FuCfg) (a at_ b fin : Nat) (s : State) : State :=
  let rd := c.items.read s.variant
  let basis := rd (It.fuBasis g)
  let ms := groupMembers rd g
  let gst := nth s.fus.gst g
  let mine := gst.rel.filter (Sample.within basis a b)
  let one := fun (id : MemId) =>
    let l := mine.filter fun x => x.mem == id.code
    let code := match id with
      | .stream n => rd (It.stReduce n)
      | _ => rd (It.fuGreduce g)
    let mask := match id with
      | .stream n => rd (It.stClassMask n)
      | _ => 0
    let on := (nth (nth s.fus.groups g).mems id.code).aligned && !l.isEmpty && l.all (·.ok)
    (on, reduce code mask (fin - at_) (b - a) fin l, (l.map (·.quality)).foldl max 0)
  let outs := ms.mapIdx fun i id => (i, one id)
  let act := outs.filter fun x => x.2.1
  let lim := fun (v : Int) => clampInt (-2147483648) 2147483647 v
  let verdict := agree (rd (It.fuMinActive g)) (signed32 (rd (It.fuAgreeAbs g))) (signed32 (rd (It.fuAgreeRel g)))
    (act.map fun x => (x.1, lim x.2.2.1))
  let bad := verdict == .contradiction
  let run := if bad then 0 else min (gst.run + 1) 8
  let contra := match gst.contra, bad with
    | .agreed, true => Contra.since fin
    | .agreed, false => .agreed
    | .since t, _ => if run = 8 then .agreed else .since t
  let prim := (outs.find? fun x => x.1 == rd (It.fuPrimary g)).filter fun x => x.2.1 && rd (It.fuContraAction g) == 0
  let (v, q) := match contra, verdict with
    | .agreed, .value v _ => (v, 0)
    | .agreed, _ => (0, 4)
    | .since t, _ =>
      if fin < t + rd (It.fuHoldMs g) * 1000000 then
        match gst.agreed with
        | some x => (signed32 x, 2)
        | none => (0, 4)
      else
        match prim with
        | some x => (lim x.2.2.1, 3)
        | none => (0, 4)
  let outl := match verdict with
    | .value _ l => l
    | _ => []
  let single := decide (act.length = 1) && verdict != .none
  let sat := act.any fun x => lim x.2.2.1 != x.2.2.1
  let q := max (max q (if act.length < ms.length then 1 else 0)) ((act.map fun x => x.2.2.2).foldl max 0)
  let flags := b2n bad + 2 * b2n (!outl.isEmpty) + 4 * b2n sat + 8 * b2n (act.length < ms.length) + 16 * b2n single +
    65536 * maskOf (act.map (·.1)) + 16777216 * maskOf outl
  let s := if bad then s.bump (It.fuContradictions g) else s
  let s := if outl.isEmpty then s else s.bump (It.fuOutliers g)
  let before := s.groupIds s.useK g
  let next := s.nextWindow g c b fin
  let basis' := ((s.fuCfg fin).items.read s.variant) (It.fuBasis g)
  let s := s.modFus fun k => { k with gst := upd k.gst g fun x =>
    { x with
      start := next, contra := contra, run := if contra = .agreed then 0 else run
      agreed := match contra, verdict with
        | .agreed, .value w _ => some (twos 32 w)
        | _, _ => x.agreed
      rel := x.rel.filter fun y => next.any fun n => y.from basis' n.1 } }
  let s := s.set (It.fuAgreeCount g) run
  let s := s.groupOut g q flags v fin c.carry
  let s := if rd (It.fuLevel g) = 3 then s.cellOut g q flags c.carry a fin at_ v else s
  let s := s.groupToGroups g q v fin
  let s := s.dropMembers g (before.filter fun i => !(s.groupIds s.useK g).contains i)
  if next.isNone then (s.modFus fun k => { k with gst := upd k.gst g fun _ => {} }).setQuality g 4 else s

/-- Every window of a group that the horizon has passed closes in turn; `n` bounds their number.
Log entry: 78 DEDUCED. -/
def State.closeGroups (g : Nat) : Nat → State → State
  | 0, s => s
  | n + 1, s =>
    match s.groupEnd g with
    | none => s
    | some (c, a, at_, b, fin) =>
      if (fin : Int) ≤ (nth s.fus.groups g).horizon then (s.closeGroup g c a at_ b fin).closeGroups g n
      else s

/-- A released sample of a group: kept for its window; the latest value of its stream is st_value. -/
def State.groupTake (g : Nat) (x : Sample) (s : State) : State :=
  (if x.mem < 32 then s.set (It.stValue x.mem) x.value else s).modFus fun k => { k with gst := upd k.gst g fun y => { y with rel := y.rel ++ [x] } }

/-- The horizon of a group advances: samples are released and windows close (R166, R183). -/
def State.groupAdvance (g : Fin 32) (s : State) : State :=
  let h0 := (nth s.fus.groups g).horizon
  let (s, out) := s.advanceHorizon (.group g)
  let s := out.foldl (fun s x => s.groupTake g x) s
  let s := s.modFus fun k => { k with gst := upd k.gst g fun y =>
    match y.start with
    | some (a, none) => { y with start := some (a, s.unitAt a) }
    | _ => y }
  let h1 := (nth s.fus.groups g).horizon
  s.closeGroups g ((h1 - h0).toNat / 1000 + 65536)

/-- A release: the groups are evaluated in ascending number (R183). -/
def State.groupRelease (s : State) : State :=
  ((List.range 32).filter fun g => s.useK (It.fuLevel g) != 0 || (nth s.fus.gst g).start.isSome).foldl (fun s g => s.groupAdvance (Fin.ofNat 32 g)) s

/-! ## Enabling (R167, R187, R190) -/

/-- Streams that are switched on or off (R167). -/
def State.streamLatch (old : Nat → Nat) (s : State) : State :=
  s.each (List.range 32) fun n s =>
    let on := s.useK (It.stSource n) != 0
    if (old (It.stSource n) != 0) == on then s
    else
      let s := (s.modFus fun b => { b with streams := upd b.streams n fun _ => {} }).each (s.groupOf (.stream n)) fun g s =>
        s.dropMembers g [.stream n]
      (s.set (It.stState n) (b2n on)).set (It.stReentry n) 0

/-- The members and the windows of a group under the settings that a K takes into use: a new member starts UNALIGNED, one that neither
the settings nor the open window names leaves; a window that has not begun follows the new settings (R167, R183, R189).
Log entry: 86 DEDUCED. -/
def State.groupLatch (old : Nat → Nat) (g : Nat) (s : State) : State :=
  let was := s.groupIds old g
  let ids := s.groupIds s.useK g
  let s := s.dropMembers g (ids.filter (fun i => !was.contains i) ++ was.filter fun i => !ids.contains i)
  if (s.openCfg g).isSome then s
  else if s.useK (It.fuLevel g) = 0 then
    if (nth s.fus.gst g).start.isNone then s else (s.modFus fun b => { b with gst := upd b.gst g fun _ => {} }).setQuality g 4
  else
    let same := old (It.fuLevel g) != 0 && old (It.fuBasis g) == s.useK (It.fuBasis g) && windowLen old g == windowLen s.useK g
    if same && (nth s.fus.gst g).start.isSome then s
    else
      let e := s.firstEdge s.useK g s.now
      s.modFus fun b => { b with gst := upd b.gst g fun x =>
        { x with start := some (e, if s.useK (It.fuBasis g) = 1 then none else some e) } }

/-- Views whose context has changed or that are switched on or off start UNALIGNED (R167). -/
def State.viewLatch (old : Nat → Nat) (s : State) : State :=
  s.each (List.range 4) fun v s =>
    let was := old It.tkEnable == 1 && old (It.tkViewCtx v) != 255
    if was == s.viewOn v ∧ old (It.tkViewCtx v) = s.useK (It.tkViewCtx v) then s
    else (s.modFus fun b => { b with tracker := { b.tracker with
      mems := upd b.tracker.mems v fun _ => {}, buf := b.tracker.buf.filter fun x => x.mem != v } }).set (It.tkViewState v) 1

/-- The settings that a K takes into use reach streams, groups and views, from those before it (R167, R189).
Log entry: 86 DEDUCED. -/
def State.fusionLatch (old : Nat → Nat) (s : State) : State :=
  let cfg : FuCfg := { k := s.now, carry := s.get It.carryNumber
                       items := s.cfgK.filter fun p => p.1 / 65536 == 0x50 || p.1 / 65536 == 0x58 }
  let s := s.modFus fun b => { b with cfgs :=
    match b.cfgs with
    | x :: r => if x.items = cfg.items ∧ x.carry = cfg.carry then x :: r else (cfg :: x :: r).take 64
    | [] => [cfg] }
  ((s.streamLatch old).each (List.range 32) (State.groupLatch old)).viewLatch old

/-- tk_enable is in use at C (Table 6.18). Log entry: 86 DEDUCED. -/
def State.trackerCarry (old : Nat → Nat) (s : State) : State :=
  if old It.tkEnable = s.get It.tkEnable then s
  else
    let rd := s.useK
    ({ s with cfgK := Store.put s.cfgK It.tkEnable (itemDefault s.variant It.tkEnable) (s.get It.tkEnable) } : State).viewLatch rd

/-! ## CELL_READ and consistency (Tables 6.15 to 6.17) -/

def opCellRead : OpFn := fun _ f s =>
  let g := u8At f.p 0
  let i := u64At f.p 8
  if 31 < g ∨ !zeroAt f.p 1 7 then refuse stRange s
  else
    let l := (nth s.fus.gst g).cells
    match (if i = 2 ^ 64 - 1 then l.getLast? else l.find? fun x => x.1 == i) with
    | none => refuse stRange s
    | some x => reply x.2.2 s

/-- CELL again for each cell closed after the last copied cycle, from the lane that takes the role (R190). -/
def State.resendCells (c : Nat) (s : State) : State :=
  (s.fus.gst.flatMap fun x => x.cells.filter fun y => decide (c < y.2.1)).foldl (fun s y => s.emit 0x0882 y.2.2) s

/-- The highest edge rate of the tally source (R191, R215). -/
def tallyEdgeRate (rd : Nat → Nat) : Nat :=
  let src := rd It.tallySource
  if src < 8 then rd (It.encRateHigh src) else if src < 12 then rd (It.camMaxLineRate (src - 8)) else 1000000

/-- The windows of a group per second, as a fraction (R191). -/
def windowRate (rd : Nat → Nat) (g : Nat) : Nat × Nat :=
  if rd (It.fuBasis g) = 1 then (tallyEdgeRate rd, rd It.tallyPrescale * rd (It.fuWindow g)) else (1000000, rd (It.fuWindow g))

/-- The views in use of a configuration. -/
def viewsOn (rd : Nat → Nat) : List Nat :=
  if rd It.tkEnable = 1 then (List.range 4).filter fun v => rd (It.tkViewCtx v) != 255 else []

/-- The groups in use of a configuration. -/
def groupsOn (rd : Nat → Nat) : List Nat := (List.range 32).filter fun g => rd (It.fuLevel g) != 0

/-- D_v, the detections of a view per second (R191). -/
def viewRate (rd : Nat → Nat) (v : Nat) : Nat × Nat :=
  let c := rd (It.tkViewCtx v)
  let r := frameRate rd c
  (rd (It.ctxMaxObjects c) * r.1, r.2)

/-- A fraction times a number. -/
def scaleFrac (k : Nat) (x : Nat × Nat) : Nat × Nat := (k * x.1, x.2)

/-- A fraction divided by a number. -/
def divFrac (x : Nat × Nat) (k : Nat) : Nat × Nat := (x.1, x.2 * k)

/-- The births per second of a configuration. -/
def birthTerms (rd : Nat → Nat) : List (Nat × Nat) :=
  ((viewsOn rd).filter fun v => rd (It.tkViewBirth v) == 1).map (viewRate rd)

/-- Rule 0x23 in kcycles/s. -/
def demandFusion (rd : Nat → Nat) : Nat :=
  let st := (List.range 32).filter fun n => rd (It.stSource n) != 0
  ceilSum (st.map (fun n => (60 * rd (It.stMaxRate n), 1000)) ++ (viewsOn rd).map (fun v => divFrac (scaleFrac 400 (viewRate rd v)) 1000) ++
    (birthTerms rd).map (fun x => divFrac (scaleFrac 300 x) 1000) ++
    (groupsOn rd).map fun g => divFrac (scaleFrac (200 + 50 * (groupMembers rd g).length) (windowRate rd g)) 1000)

/-- Rule 0x24 in KB. -/
def demandBuffer (rd : Nat → Nat) : Nat :=
  ceilSum ((groupsOn rd).flatMap (fun g =>
      let st := (List.range 32).filter (bit (rd (It.fuStreams g)))
      let d := (st.map fun n => rd (It.stDelayUs n)).foldl max 0
      st.map fun n => (32 * rd (It.stMaxRate n) * (rd (It.fuAlignUs g) + d - rd (It.stDelayUs n)), 1000000 * 1024)) ++
    (viewsOn rd).map fun v => divFrac (scaleFrac (96 * rd It.tkAlignUs) (viewRate rd v)) (1000000 * 1024))

/-- The items behind the demands of the solver. -/
def solverKeys (rd : Nat → Nat) : List Nat :=
  [It.tkEnable, It.tkBatchUs, It.tkAlignUs] ++ (viewsOn rd).flatMap fun v =>
    let c := rd (It.tkViewCtx v)
    [It.tkViewCtx v, It.tkViewBirth v, It.ctxMaxObjects c, It.ctxFrameMod c, It.camMaxLineRate (rd (It.ctxPort c)), It.camHeight (rd (It.ctxPort c))]

/-- The items behind the demands of fusion. -/
def fusionKeys (rd : Nat → Nat) : List Nat :=
  let src := rd It.tallySource
  ((List.range 32).filter fun n => rd (It.stSource n) != 0).flatMap (fun n => [It.stSource n, It.stMaxRate n, It.stDelayUs n]) ++
  (groupsOn rd).flatMap (fun g =>
    [It.fuLevel g, It.fuStreams g, It.fuGroups g, It.fuAlignUs g, It.fuBasis g, It.fuWindow g] ++
      ((List.range 32).filter (bit (rd (It.fuStreams g)))).flatMap fun n => [It.stMaxRate n, It.stDelayUs n]) ++
  [It.tallySource, It.tallyPrescale] ++ (if src < 8 then [It.encRateHigh src] else if src < 12 then [It.camMaxLineRate (src - 8)] else [])

/-- Tracking and fusion admission (Table 6.15, R191). -/
def fuAdmission (rd : Nat → Nat) : List Failure :=
  let vs := viewsOn rd
  let births := birthTerms rd
  admission (ceilSum (vs.flatMap fun v => [(1000000, rd It.tkBatchUs), divFrac (viewRate rd v) 256])) 50000 (solverKeys rd) 0x20 5 ++
  admission (ceilSum births) 400000 (solverKeys rd) 0x21 5 ++
  admission (ceilSum (births.map fun x => divFrac (scaleFrac (rd It.tkTrackLifeMs) x) 1000)) 16384 (It.tkTrackLifeMs :: solverKeys rd) 0x22 5 ++
  admission (demandFusion rd) 1360000 (fusionKeys rd ++ solverKeys rd) 0x23 6 ++ admission (demandBuffer rd) 4096 (fusionKeys rd ++ solverKeys rd) 0x24 6

/-- The knots of a table cover a number of columns or rows. -/
def covers (k n size : Nat) : Bool := decide (size ≤ (n - 1) * k + 1)

/-- The entries of an ejector map are sorted, do not overlap and name existing channels. -/
def mapOk : List (Int × Int × Nat × Nat) → Bool
  | [] => true
  | [x] => decide (x.1 < x.2.1) && decide (x.2.2.1 < 16) && decide (x.2.2.2 < 8)
  | x :: y :: r => decide (x.1 < x.2.1) && decide (x.2.1 ≤ y.1) && decide (x.2.2.1 < 16) && decide (x.2.2.2 < 8) && mapOk (y :: r)

/-- The largest w of a view's table. -/
def FuTable.maxW (t : FuTable) : Int := (t.knots.map (·.2)).foldl max (((t.knots.map (·.2)).head?).getD 0)

/-- The smallest w of a view's table. -/
def FuTable.minW (t : FuTable) : Int := (t.knots.map (·.2)).foldl min (((t.knots.map (·.2)).head?).getD 0)

/-- The rules of Table 6.16 (R192). -/
def fuRules (s : State) (rd : Nat → Nat) : List Failure :=
  let vs := viewsOn rd
  let gs := groupsOn rd
  let tab := fun v => nth s.fus.tables (rd (It.tkViewTable v))
  (List.range 32).flatMap (fun n =>
    require (decide ((gs.filter fun g => bit (rd (It.fuStreams g)) n).length ≤ 1)) (gs.map It.fuStreams ++ gs.map It.fuLevel) 0x10 ++
    require (!(decide (33 ≤ rd (It.stSource n)) && decide (rd (It.stSource n) ≤ 38)) || [12, 13].all fun m =>
      rd (It.gwCanChannel m) != rd (It.stSource n) - 33 ||
        (rd (It.gwReqId m) != rd (It.stCanId n) && rd (It.gwRspId m) != rd (It.stCanId n))) [It.stCanId n, It.stSource n] 0x15) ++
  gs.flatMap (fun g =>
    let n := (groupMembers rd g).length
    let st := (List.range 32).filter (bit (rd (It.fuStreams g)))
    let tally := rd (It.fuBasis g) == 1
    require (decide (1 ≤ n) && decide (n ≤ 8) && (List.range 32).all fun k => !bit (rd (It.fuGroups g)) k || decide (k < g))
      [It.fuStreams g, It.fuGroups g, It.fuLevel g] 0x10 ++
    require (rd (It.fuPrimary g) == 255 || decide (rd (It.fuPrimary g) < n)) [It.fuPrimary g, It.fuStreams g, It.fuGroups g, It.fuLevel g] 0x13 ++
    require (rd (It.fuGreduce g) != 4) [It.fuGreduce g, It.fuLevel g] 0x14 ++
    require ((rd (It.fuLevel g) != 3 || tally) && (tally || ((st.all fun k => rd (It.stReduce k) != 8) && rd (It.fuGreduce g) != 8)))
      (It.fuLevel g :: It.fuBasis g :: It.fuGreduce g :: It.fuStreams g :: (st.filter fun k => rd (It.stReduce k) == 8).map It.stReduce) 0x14) ++
  ((List.range 32).filter (fun n => rd (It.stSource n) != 0)).flatMap (fun n =>
    require (rd (It.stReduce n) != 4 || rd (It.stSource n) == 39) [It.stReduce n, It.stSource n] 0x14) ++
  vs.flatMap (fun v =>
    let c := rd (It.tkViewCtx v)
    let p := rd (It.ctxPort c)
    let t := tab v
    require (rd (It.ctxEnable c) == 1 && vs.all fun w => w == v || rd (It.tkViewCtx w) != c) 
      (It.tkViewCtx v :: It.ctxEnable c :: (vs.filter fun w => w != v).map It.tkViewCtx) 0x11 ++
    require (if rd (It.camScan p) = 0 then t.kind == 1 && covers t.kx t.nx (rd (It.camWidth p))
      else t.kind == 2 && covers t.kx t.nx (rd (It.camWidth p)) && covers t.ky t.ny (rd (It.camHeight p))) 
      [It.tkViewTable v, It.tkViewCtx v, It.ctxPort c, It.camScan p, It.camWidth p, It.camHeight p] 0x12 ++
    require (decide (t.maxW < signed32 (rd It.tkEjectWUm))) [It.tkEjectWUm, It.tkViewTable v, It.tkViewCtx v] 0x13) ++
  require (rd It.tkEnable == 0 || vs.any fun v => rd (It.tkViewBirth v) == 1)
    ((List.range 4).map It.tkViewBirth ++ (List.range 4).map It.tkViewCtx ++ [It.tkEnable]) 0x11 ++
  require (rd It.tkEjectMap == 255 || ((nth s.fus.tables (rd It.tkEjectMap)).kind == 3 && mapOk (nth s.fus.tables (rd It.tkEjectMap)).map))
    [It.tkEjectMap] 0x12 ++
  require (rd It.tkEnable == 0 || vs.contains (rd It.tkPrimaryView)) (It.tkPrimaryView :: It.tkEnable :: (List.range 4).map It.tkViewCtx) 0x13

end Sys2Proof.Machine
end

