-- ==== Sys2Proof/Machine/Tracker.lean ====
section
/-! DEFINITION. Detections, the tracker and the assignment solver (spec 05 stage 8, spec 06). -/

namespace Sys2Proof.Machine

/-! ## Emission (Table 5.4, R143, R144) -/

/-- The oldest closed object of a context is emitted: its detection takes the exposure of its frame (R152) and the latency-unverified
flag when its monitor was unverified at its stamp or is so now (R58, R144). It reaches the tracker's alignment buffer as a sample
of every view that binds the context (R143, R165, R171). Log entries: 65 DEDUCED, 79 DEDUCED, 183 DEDUCED. -/
def State.emitDetection (c : Nat) (s : State) : State :=
  match (s.ctx c).queue with
  | [] => s
  | x :: r =>
    let ds := (s.ctx c).deliv
    let unver := x.lat.2 || (s.portLatency x.port).2
    let d := { x.det with
      flags := x.det.flags + 4 * b2n (expUnconfirmed ds x.det.frame) + 8 * b2n unver, expCarry := (s.exposureOf ds x.det.frame).1 }
    let s := ((s.useFree 1).modCtx c fun y => { y with queue := r }).bump (It.ctxDetections c)
    let s := { s with cam := { s.cam with detTimes := (s.cam.detTimes.filter fun t => decide (s.now < t + 10000000)) ++ [s.now] } }
    (((List.range 4).filter fun v => s.viewOn v && s.useK (It.tkViewCtx v) == c)).foldl (fun s v =>
      s.arrive .tracker v (.view v) d.mtime (x.lat.1, unver)
        { mem := v, arr := 0, e := (d.mtime : Int) - x.lat.1, tally := 0, value := 0, ok := true, det := some d }) s

/-- Log entry: 65 DEDUCED. -/
def execDetectionEmit (dt : Nat) (ctx : Fin 8) (s : State) : Host.Outcome State Fault Refusal :=
  timedRun dt (State.emitDetection ctx) s

/-! ## Placement (R169) -/

/-- The knot segment and the position within it, as a numerator over `k` × 65536, of a coordinate in q16.16; at or beyond
the last knot the last segment with fraction 1. Log entry: 4 DESIGN CHOICE. -/
def segment (k n : Nat) (x : Int) : Nat × Int :=
  let i := (max 0 (fdiv x (k * 65536 : Nat))).toNat
  if n ≤ i + 1 then (n - 2, (k * 65536 : Nat)) else (i, x - (i * k * 65536 : Nat))

/-- Linear interpolation over a segment of `k` × 65536, rounded down. Log entry: 82 DEDUCED. -/
def lerp (k : Nat) (a b : Int) (f : Int) : Int := a + fdiv ((b - a) * f) (k * 65536 : Nat)

/-- The coordinates (u, w) of a column and row, in µm (R169). Log entry: 82 DEDUCED. -/
def FuTable.place (t : FuTable) (c r : Int) : Int × Int :=
  let p := fun (i j : Nat) => t.knots.getD (j * t.nx + i) (0, 0)
  let (i, f) := segment t.kx t.nx c
  if t.kind = 1 then (lerp t.kx (p i 0).1 (p (i + 1) 0).1 f, (p 0 0).2)
  else
    let (j, g) := segment t.ky t.ny r
    let row := fun (sel : Int × Int → Int) (j : Nat) => lerp t.kx (sel (p i j)) (sel (p (i + 1) j)) f
    (lerp t.ky (row (·.1) j) (row (·.1) (j + 1)) g, lerp t.ky (row (·.2) j) (row (·.2) (j + 1)) g)

/-- A released detection of a view, placed, with its tracking position and area (R169, R171, Table 6.4).
Log entry: 82 DEDUCED. -/
def State.placeDet (s : State) (v : Nat) (x : Sample) (d : Detection) : Placed :=
  let (u, w) := (nth s.fus.tables (s.useK (It.tkViewTable v))).place (d.col + (d.roiX * 65536 : Nat)) d.row
  { d := d, e := x.e, t := twos 64 ((x.tally : Int) + s.useKi (It.tkViewTOffset v)), u := u, w := w
    area := d.count * s.useK (It.tkViewPxArea v) }

/-! ## Motion model (R172) -/

/-- One bit after another of an integer square root. -/
def isqrtGo (n : Nat) : Nat → Nat → Nat
  | 0, r => r
  | b + 1, r => isqrtGo n b (if (r + 2 ^ b) * (r + 2 ^ b) ≤ n then r + 2 ^ b else r)

/-- The integer square root, rounded down. -/
def isqrt (n : Nat) : Nat := isqrtGo n (Nat.log2 n / 2 + 1) 0

/-- A fraction with a positive denominator in lowest terms. -/
def mkFrac (n d : Int) : Int × Nat :=
  let g := Nat.gcd n.natAbs d.natAbs
  let q : Int := if d < 0 then -(g : Int) else g
  (n / q, (d / q).toNat)

/-- A fraction as q16.16, rounded down. -/
def fracQ16 (f : Int × Nat) : Int := fdiv (f.1 * 65536) f.2

/-- predict_T: the tally (raw) at which the centre of a track reaches `w`; none when there is no crossing (R172). With
s = n / d and a = tk_accel × 10⁻⁶, s² + 2 a dw is taken over (256 000 d)², and its root to 16 fractional bits. For s < 0 the
quotient is taken as (sqrt(r) − s) / a, which equals it; where s + sqrt(r) is 0 its value is open. Log entry: 81 DESIGN CHOICE. -/
def Track.predictT (accel : Int) (t : Track) (w : Int) : Option Nat :=
  let dw := w - t.w0
  let d : Int := t.s.2
  let r := t.s.1 * t.s.1 * 65536000000 + 2 * accel * dw * d * d
  if r < 0 then none
  else
    let root : Int := isqrt (r.toNat * 2 ^ 32)
    let s := t.s.1 * 16777216000
    if t.s.1 < 0 ∧ dw ≠ 0 ∧ 0 < accel then
      some (twos 64 (t.t0 + fdiv ((root - s) * 4294967296000000) (d * 16777216000 * accel)))
    else if 0 < s + root then some (twos 64 (t.t0 + fdiv (2 * dw * 65536 * d * 16777216000) (s + root)))
    else some (Config.crossing t.s.1 t.s.2 accel dw % 2 ^ 64)

/-- predict_u at a tally position, rounded down (R172). Log entry: 81 DESIGN CHOICE. -/
def Track.predictU (t : Track) (pos : Nat) : Int := t.u0 + fdiv (t.du.1 * posDiff pos t.t0) (t.du.2 * 65536 : Nat)

/-- associate: the track moves to a placed detection of a view (R172). Where the detection has the tally of the track's
last one, the speeds are free values. Log entry: 81 DESIGN CHOICE. -/
def State.associate (view : Nat) (p : Placed) (t : Track) (s : State) : State × Track :=
  let d := posDiff p.t t.t0
  let (f1, s1) := s.fresh
  let (f2, s2) := s1.fresh
  let k := s.useKi It.tkAccel
  let sp := if d = 0 then ((f1 : Int), 65536)
    else mkFrac ((p.w - t.w0) * 65536 * 8589934592000000 + k * d * d) (d * 8589934592000000)
  let du := if d = 0 then ((f2 : Int), 65536) else mkFrac ((p.u - t.u0) * 65536) d
  (if d = 0 then s2 else s,
   { t with t0 := p.t, u0 := p.u, w0 := p.w, s := sp, du := du, latest := p, seen := upd t.seen view fun _ => some p })

/-! ## Tracks (R171) -/

/-- The tracks of a state changed one by one, by id. -/
def State.setTrack (t : Track) (s : State) : State :=
  s.modFus fun b => { b with tracks := b.tracks.map fun x => if x.id = t.id then t else x }

/-- A track leaves the live tracks for the track history. -/
def State.retire (t : Track) (s : State) : State :=
  let s := s.modFus fun b => { b with tracks := b.tracks.filter (fun x => x.id != t.id), history := (t :: b.history).take 16777216 }
  s.set It.tkLive s.fus.tracks.length

/-- A detection of a view that no solve associates: a birth, or discarded (R171, R178). -/
def State.unpaired (view : Nat) (p : Placed) (s : State) : State :=
  if s.useK (It.tkViewBirth view) ≠ 1 then s.bump It.tkUnmatched
  else if 16384 ≤ s.fus.tracks.length then s.bump It.tkBirthsRefused
  else
    let id := s.get It.tkNextTrackId
    let t : Track := { id := id, birthView := view, birth := p, t0 := p.t, u0 := p.u, w0 := p.w, du := (0, 1), latest := p
                       s := mkFrac (s.useKi It.tkDefaultSpeedUm) 65536
                       seen := upd (List.replicate 4 none) view fun _ => some p }
    let s := ((s.modFus fun b => { b with tracks := b.tracks ++ [t] }).set It.tkNextTrackId ((id + 1) % 4294967296)).bump It.tkBirths
    s.set It.tkLive s.fus.tracks.length

/-- A track reaches tk_track_life_ms after its birth event time without a decision (R171). -/
def State.trackExpired (id : Nat) (s : State) : State :=
  match s.fus.tracks.find? (fun t => t.id == id) with
  | none => s
  | some t =>
    if t.st = 0 ∧ t.birth.e + s.useK It.tkTrackLifeMs * 1000000 ≤ (s.now : Int) then (s.retire { t with st := 3 }).bump It.tkExpired else s

def execTrackExpired (dt : Nat) (track : Nat) (s : State) : Host.Outcome State Fault Refusal :=
  timedRun dt (State.trackExpired track) s

/-! ## Cost (R175, R176) -/

/-- A cell of the cost matrix is forbidden. -/
@[reducible] def forbidden : Nat := 65535

/-- Sum of two fractions. -/
def addFrac (a b : Nat × Nat) : Nat × Nat := (a.1 * b.2 + b.1 * a.2, a.2 * b.2)

/-- A square of a quotient of magnitudes. -/
def sqFrac (a b : Nat) : Nat × Nat := (a * a, b * b)

/-- The lesser of a fraction and 1. -/
def capFrac (a : Nat × Nat) : Nat × Nat := if a.2 < a.1 then (1, 1) else a

/-- The term f of Table 6.4 over the features of a mask. -/
def featTerm (mask : Nat) (x y : List Nat) : Nat × Nat :=
  let ks := (List.range 8).filter (bit mask)
  match ks with
  | [] => (0, 1)
  | _ =>
    let terms := ks.map fun k =>
      let a := signed32 (x.getD k 0)
      let b := signed32 (y.getD k 0)
      sqFrac (a - b).natAbs (b.natAbs + 65536)
    let sum := terms.foldl addFrac (0, 1)
    capFrac (sum.1, sum.2 * ks.length)

/-- The cost of a track and a detection of a view, or forbidden outside the gate (R175, R176).
Log entry: 84 DESIGN CHOICE. -/
def cellCost (rd : Nat → Nat) (view : Nat) (t : Track) (p : Placed) : Nat :=
  match t.predictT (signed32 (rd It.tkAccel)) p.w with
  | none => forbidden
  | some pt =>
    let dT := (posDiff p.t pt).natAbs
    let dU := (p.u - t.predictU p.t).natAbs
    let gT := rd (It.tkViewGateT view)
    let gU := rd (It.tkViewGateU view)
    if gU < dU ∨ gT < dT then forbidden
    else
      let a := p.area
      let b := t.latest.area
      let z := if max a b = 0 then (0, 1) else ((a - b) + (b - a), max a b)
      let terms := [(It.tkWPos, sqFrac dU gU), (It.tkWTime, sqFrac dT gT), (It.tkWSize, z),
        (It.tkWFeat, featTerm (rd It.tkFeatMask) p.d.feats t.latest.d.feats), (It.tkWClass, (b2n (p.d.cls != t.latest.d.cls), 1))]
      let sum := (terms.map fun x => scaleFrac (rd x.1) x.2).foldl addFrac (0, 1)
      min 65534 (4096 * sum.1 / (sum.2 * 65536))

/-- The predicted crossing of a view's w range by a track: first and last position (R175). -/
def crossing (accel : Int) (tab : FuTable) (t : Track) : Option (Nat × Nat) :=
  match t.predictT accel tab.minW, t.predictT accel tab.maxW with
  | some a, some b => some (if posDiff a b ≤ 0 then (a, b) else (b, a))
  | _, _ => none

/-- A candidate put in the order of predicted crossing. Log entry: 84 DESIGN CHOICE. -/
def insertCand (base : Nat) (x : Nat × Track) : List (Nat × Track) → List (Nat × Track)
  | [] => [x]
  | y :: r => if posDiff x.1 base < posDiff y.1 base then x :: y :: r else y :: insertCand base x r

/-- The candidates of a batch (R175): tracks with their predicted crossing, and whether there were too many.
Log entry: 80 DEDUCED. -/
def State.candidates (s : State) (b : Batch) : List Track × Bool :=
  let v := b.view
  let tab := nth s.fus.tables (s.useK (It.tkViewTable v))
  let base := ((b.dets.head?).map (·.t)).getD 0
  let rel := b.dets.map fun p => posDiff p.t base
  let g := (s.useK (It.tkViewGateT v) : Int)
  let lo := rel.foldl min 0 - g
  let hi := rel.foldl max 0 + g
  let all := s.fus.tracks.filterMap fun t =>
    if t.st = 0 ∧ (nth t.seen v).isNone then
      match crossing (s.useKi It.tkAccel) tab t with
      | some (x, y) => if posDiff x base ≤ hi ∧ lo ≤ posDiff y base then some (x, t) else none
      | none => none
    else none
  if 256 < all.length then (((all.foldr (insertCand base) []).take 256).map (·.2), true) else (all.map (·.2), false)

/-! ## The assignment solver (R177) -/

/-- The column choices of one row, with the cost of each: the free permitted columns in order, then none.
Log entry: 84 DESIGN CHOICE. -/
def rowChoices (miss : Nat) (row used : List Nat) : List (Nat × Nat) :=
  (((List.range row.length).filter fun j => row.getD j forbidden != forbidden && !used.contains j).map fun j =>
    (j, row.getD j forbidden)) ++ [(65535, miss)]

/-- The best of several totals with their row vectors: the least total, the first of equals.
Log entry: 84 DESIGN CHOICE. -/
def bestOf : List (Nat × List Nat) → Nat × List Nat
  | [] => (0, [])
  | x :: r => r.foldl (fun a y => if y.1 < a.1 then y else a) x

/-- The assignment of least total cost, lexicographically smallest row vector among equals (R177): total and row vector.
`nc` is the number of columns. Log entry: 84 DESIGN CHOICE. -/
def solve (miss birth nc : Nat) : List (List Nat) → List Nat → Nat × List Nat
  | [], used => (birth * (nc - used.length), [])
  | row :: rows, used =>
    bestOf ((rowChoices miss row used).map fun c =>
      let r := solve miss birth nc rows (if c.1 = 65535 then used else c.1 :: used)
      (c.2 + r.1, c.1 :: r.2))

/-- The solver takes the next closed batch when it is free (R174, R178): candidates and cost matrix with the settings in use
now (R189). Log entry: 80 DEDUCED. -/
def State.solverNext (s : State) : State :=
  match s.fus.solve, s.fus.closed with
  | none, b :: r =>
    let (cs, trunc) := s.candidates b
    let s := if trunc then s.bump It.tkSolveTruncated else s
    let cost := cs.map fun t => b.dets.map (cellCost s.useK b.view t)
    s.modFus fun k => { k with closed := r, solve := some { batch := b, rows := cs.map (·.id), cost := cost, truncated := trunc
                                                            miss := s.useK It.tkMissCost, birth := s.useK It.tkBirthCost } }
  | _, _ => s

/-- A closed batch put in its place: in order of closing, at one instant the lower view first (R174). -/
def insertBatch (b : Batch) (l : List Batch) : List Batch :=
  l.filter (fun x => decide (x.closedAt < b.closedAt) || decide (x.view ≤ b.view)) ++ [b] ++
    l.filter fun x => !(decide (x.closedAt < b.closedAt) || decide (x.view ≤ b.view))

/-- The open batch of a view closes (R174). Log entry: 80 DEDUCED. -/
def State.closeBatch (v : Nat) (s : State) : State :=
  match s.fus.batches.find? (fun b => b.view == v) with
  | none => s
  | some b => s.modFus fun k => { k with
      batches := k.batches.filter (fun x => x.view != v), closed := insertBatch { b with closedAt := s.now } k.closed }

/-- The batch of a view is full, or the horizon has passed its first detection plus tk_batch_us (R174). -/
def State.batchOver (s : State) (v : Nat) : Bool :=
  match s.fus.batches.find? (fun b => b.view == v) with
  | none => false
  | some b => decide (256 ≤ b.dets.length) ||
      decide (((b.dets.head?).map (·.e)).getD 0 + s.useK It.tkBatchUs * 1000 ≤ s.fus.tracker.horizon)

/-- A view's batch closes, and with it those of the lower views that are due at the same instant (R174).
Log entry: 80 DEDUCED. -/
def State.batchDue (v : Nat) (s : State) : State :=
  if s.batchOver v then (s.each ((List.range (v + 1)).filter s.batchOver) State.closeBatch).solverNext else s

def execBatchClose (dt : Nat) (view : Fin 4) (s : State) : Host.Outcome State Fault Refusal := timedRun dt (State.batchDue view) s

/-- The solve in progress ends (R178): its record (Table 6.5), associations, births and discards, and the next solve. -/
def State.solveDone (v ns : Nat) (s : State) : State :=
  match s.fus.solve with
  | none => s
  | some x =>
    if x.batch.view ≠ v then s
    else
      let nc := x.batch.dets.length
      let (total, vec) := solve x.miss x.birth nc x.cost []
      let rec_ := toLE 2 x.rows.length ++ toLE 2 nc ++ toLE 4 total ++ toLE 1 v ++ toLE 1 (b2n x.truncated) ++ toLE 2 (ns / 10) ++
        toLE 4 x.batch.seq ++ ((vec.zip x.cost).flatMap fun c => toLE 2 c.1 ++ toLE 2 (if c.1 = 65535 then 0 else c.2.getD c.1 0))
      let solves := (s.fus.solves.filter fun t => s.now < t + 1000000000) ++ [s.now]
      let s := s.modFus fun k => { k with solve := none, records := upd k.records v (fun _ => some rec_), solves := solves }
      let s := (s.set It.tkSolvesPerS solves.length).set It.tkSolveMaxNs (max (s.get It.tkSolveMaxNs) (sat32 ns))
      let s := (x.rows.zip vec).foldl (fun s r =>
        match s.fus.tracks.find? (fun t => t.id == r.1), x.batch.dets[r.2]? with
        | some t, some p =>
          let (s, t) := s.associate v p t
          s.setTrack t
        | _, _ => s) s
      let s := ((List.range nc).filter fun j => !vec.contains j).foldl (fun s j => s.unpaired v (nth x.batch.dets j)) s
      s.solverNext

def execSolveDone (dt : Nat) (view : Fin 4) (ns : Nat) (s : State) : Host.Outcome State Fault Refusal :=
  timedRun dt (State.solveDone view ns) s

/-- A closed batch of a view whose solve has not started within 2000 µs is not solved (R179). -/
def State.solveLate (v : Nat) (s : State) : State :=
  match s.fus.closed.find? (fun b => b.view == v && decide (b.closedAt + 2000000 ≤ s.now)) with
  | none => s
  | some b =>
    let s := (s.modFus fun k => { k with closed := k.closed.filter (fun x => !(x.view == v && x.seq == b.seq)) }).bump It.tkSolveLate
    b.dets.foldl (fun s p => s.unpaired v p) s

def execSolveLate (dt : Nat) (view : Fin 4) (s : State) : Host.Outcome State Fault Refusal := timedRun dt (State.solveLate view) s

/-! ## Decisions and beads (R173, R180 to R182) -/

/-- A released detection enters the batch of its view, which closes when it is full (R174). -/
def State.trackerTake (x : Sample) (s : State) : State :=
  match x.det with
  | none => s
  | some d =>
    let v := x.mem
    let p := s.placeDet v x d
    let s := if s.fus.batches.any (fun b => b.view == v) then
        s.modFus fun k => { k with batches := k.batches.map fun b => if b.view = v then { b with dets := b.dets ++ [p] } else b }
      else s.modFus fun k => { k with
        batches := k.batches ++ [{ view := v, seq := nth k.seqs v, dets := [p] }], seqs := upd k.seqs v (fun n => (n + 1) % 4294967296) }
    if s.fus.batches.any (fun b => b.view == v && decide (256 ≤ b.dets.length)) then s.closeBatch v else s

/-- The views in use. -/
def State.viewsInUse (s : State) : List Nat := (List.range 4).filter s.viewOn

/-- The decision point of a track is reached (R173); `h` is the tally at the horizon. Log entry: 80 DEDUCED. -/
def State.decisionPoint (s : State) (h : Option Nat) (t : Track) : Bool :=
  s.viewsInUse.all fun v =>
    (nth t.seen v).isSome ||
      match h, t.predictT (s.useKi It.tkAccel) (nth s.fus.tables (s.useK (It.tkViewTable v))).maxW with
      | some h, some pt => decide ((s.useK (It.tkViewGateT v) : Int) < posDiff (twos 64 ((h : Int) + s.useKi (It.tkViewTOffset v))) pt)
      | _, _ => false

/-- The vote of a view: eject (R180). -/
def voteEject (rd : Nat → Nat) (v : Nat) (p : Placed) : Bool :=
  let f := rd (It.tkViewTestFeat v)
  let x := signed32 (p.d.feats.getD f 0)
  let l := signed32 (rd (It.tkViewTestLevel v))
  (decide (p.d.cls < 32) && bit (rd (It.tkViewEjectClasses v)) p.d.cls) ||
    (f != 255 && (if rd (It.tkViewTestOp v) = 0 then decide (x < l) else decide (l < x)))

/-- The decision from the votes, each a view with its vote for eject: eject, and the flags contradiction [0], single view
[1], outlier view [2] (R180). -/
def decideVotes (action primary : Nat) (vs : List (Nat × Bool)) : Bool × Nat :=
  let n := vs.length
  let e := (vs.filter (·.2)).length
  if n = 1 then (decide (e = 1), 2)
  else if e = n then (true, 0)
  else if e = 0 then (false, 0)
  else if 2 < n ∧ n < 2 * e then (true, 4)
  else if 2 < n ∧ n < 2 * (n - e) then (false, 4)
  else (match action with
    | 0 => true
    | 1 => false
    | _ => ((vs.find? fun v => v.1 == primary).map (·.2)).getD true, 1)

/-- The channels of an eject (R181): the map entry that holds `ue`, with wide eject every entry that overlaps the kernel;
at most 4, nearest first. Log entry: 82 DEDUCED. -/
def ejectChannels (map : List (Int × Int × Nat × Nat)) (ue half : Int) (wide : Bool) : List Nat :=
  let dist := fun (e : Int × Int × Nat × Nat) => if ue < e.1 then e.1 - ue else if e.2.1 ≤ ue then ue - e.2.1 + 1 else 0
  let hit := map.filter fun e => dist e == 0
  match hit with
  | [] => []
  | _ =>
    let l := if wide then map.filter fun e => dist e == 0 || (decide (e.1 < ue + half) && decide (ue - half < e.2.1)) else hit
    let ins := fun (x : Int × Int × Nat × Nat) (l : List (Int × Int × Nat × Nat)) =>
      (l.filter fun y => decide (dist y < dist x)) ++ [x] ++ l.filter fun y => !decide (dist y < dist x)
    ((l.foldr ins []).take 4).map fun e => e.2.2.1 * 8 + e.2.2.2

/-- Half the bounding width of a kernel in µm: width × sqrt(area of a pixel in mm²) / 2 (R181). -/
def halfWidth (pxArea width : Nat) : Int := (width * isqrt (pxArea * 65536 * 2 ^ 32) * 500 / 2 ^ 32 : Nat)

/-- The beads of an eject decision written to the bank queues (R181, R182): the track with its Tbead and channels.
Log entries: 79 DEDUCED, 167 DESIGN CHOICE. -/
def State.eject (t : Track) (s : State) : State × Track :=
  let prof := s.useK It.tkEjectProfile
  match t.predictT (s.useKi It.tkAccel) (s.useKi It.tkEjectWUm) with
  | none => (s.bump It.tkUnmatched, t)
  | some te =>
    let ue := t.predictU te
    let map := (nth s.fus.tables (s.useK It.tkEjectMap)).map
    let bv := t.birthView
    let chans := ejectChannels map ue (halfWidth (s.useK (It.tkViewPxArea bv)) t.birth.d.width) (s.useK It.tkWideEject == 1)
    if chans.isEmpty then (s.bump It.tkUnmatched, t)
    else
      let tb := twos 64 ((te : Int) - s.geti (It.profOpenLead prof))
      let ext := q16Open s.free ((t.birth.d.height * s.useK (It.tkViewUnitsPerLine bv) : Nat) + 2 * s.useKi It.tkEjectMargin)
      let beads := chans.map fun c => ({ position := BitVec.ofNat 64 tb, key := BitVec.ofNat 32 t.id, ch := Fin.ofNat 128 c
                                         op := .pulse, onMtime := false, master := false, profile := BitVec.ofNat 8 prof
                                         extent := BitVec.ofNat 32 ext } : Bead)
      let late := s.time.lane.reached s.now tb
      ({ s.useFree 1 with valve := { s.valve with
          outbound := s.valve.outbound ++ beads, written := s.valve.written ++ beads.map fun b => (s.cycle, b) } },
       { t with tbead := tb, chans := chans, flags := t.flags ||| (if late then 8 else 0) })

/-- A track at its decision point: votes, decision, beads; the track closes (R171, R180, R181). -/
def State.decideTrack (t : Track) (s : State) : State :=
  let vs := (List.range 4).filterMap fun v => (nth t.seen v).map fun p => (v, voteEject s.useK v p)
  let (ej, fl) := decideVotes (s.useK It.tkContraAction) (s.useK It.tkPrimaryView) vs
  let votes := maskOf (vs.map (·.1)) + 16 * maskOf ((vs.filter (·.2)).map (·.1))
  let t := { t with st := 1, votes := votes, decision := if ej then 2 else 1, flags := fl, carry := s.get It.carryNumber }
  let s := s.bump It.tkDecided
  let s := if bit fl 0 then
      (s.bump It.tkContradictions).emit 0x0883
        (toLE 4 t.id ++ toLE 1 votes ++ toLE 1 t.decision ++ toLE 2 0 ++ toLE 8 s.now)
    else s
  let (s, t) := if ej ∧ s.useK It.tkEjectEnable = 1 then s.eject t else (s, t)
  let s := if ej then s.bump It.tkEjects else s
  let s := s.retire { t with st := 2 }
  let s := s.feed 39 s.now (t.birth.d.cls * 65536) gOk
  if ej then s.feed 40 s.now (t.chans.length * 65536) gOk else s

/-- The horizon of the tracker advances (R166): detections enter their batches, and tracks reach their decision points in
the order of their births (R173). Log entry: 78 DEDUCED. -/
def State.trackerRelease (s : State) : State :=
  if s.useK It.tkEnable ≠ 1 then s
  else
    let (s, out) := s.advanceHorizon .tracker
    let s := (out.foldl (fun s x => s.trackerTake x) s).solverNext
    let h := s.eventTally s.fus.tracker.horizon
    (s.fus.tracks.filter fun t => t.st == 0 && s.decisionPoint h t).foldl (fun s t => s.decideTrack t) s

/-- Log entry: 78 DEDUCED. -/
def execHorizonRelease (dt : Nat) (cons : Consumer) (s : State) : Host.Outcome State Fault Refusal :=
  timedRun dt (match cons with
    | .tracker => State.trackerRelease
    | .group _ => State.groupRelease) s

/-- The beads of the tracker that the last acknowledged copy does not hold are written again in order of Tbead by a lane
that takes the active role (R182); `c` is the cycle of that copy. -/
def State.rewriteBeads (c : Nat) (s : State) : State :=
  let ins := fun (x : Bead) (l : List Bead) =>
    (l.filter fun y => decide (posDiff y.position.toNat x.position.toNat ≤ 0)) ++ [x] ++
      l.filter fun y => decide (0 < posDiff y.position.toNat x.position.toNat)
  let l := (s.valve.written.filter fun x => decide (c < x.1)).map (·.2)
  { s with valve := { s.valve with outbound := s.valve.outbound.filter (fun b => !l.contains b) ++ l.foldl (fun a x => ins x a) [] } }

/-- The copies of the cycles up to `c` hold the keys of their beads (R182). -/
def State.copyBeads (c : Nat) (s : State) : State :=
  { s with valve := { s.valve with written := s.valve.written.filter fun x => decide (c < x.1) } }

/-! ## Opcodes of Table 6.17 -/

/-- The track record (Table 6.6); `n` counts the free values used before it. -/
def Track.bytes (n : Nat) (t : Track) : List Byte :=
  toLE 4 t.id ++ toLE 1 t.st ++ toLE 1 (maskOf ((List.range 4).filter fun v => (nth t.seen v).isSome) ||| (t.votes / 16 * 16)) ++
  toLE 1 t.decision ++ toLE 1 t.flags ++ toLE 8 (twos 64 t.birth.e) ++ toLE 8 t.t0 ++ toLE 4 (twos 32 t.u0) ++ toLE 4 (twos 32 t.w0) ++
  toLE 4 (q16Open n (fracQ16 t.s)) ++ toLE 4 (q16Open (n + 1) (fracQ16 t.du)) ++ toLE 4 (q16Open (n + 2) t.latest.area) ++
  (t.seen.flatMap fun p => toLE 1 (match p with
    | some p => min p.d.cls 255
    | none => 0xff)) ++
  toLE 8 t.tbead ++ ((List.range 4).flatMap fun i => toLE 1 (t.chans.getD i 0xff)) ++ toLE 4 t.carry

/-- Log entry: 83 DEDUCED. -/
def opTrackRead : OpFn := fun _ f s =>
  let id := u32At f.p 0
  if !zeroAt f.p 4 4 then refuse stRange s
  else
    match (s.fus.tracks ++ s.fus.history).find? (fun t => t.id == id) with
    | none => refuse stRange s
    | some t => reply (t.bytes s.free) (s.useFree 3)

/-- Log entry: 83 DEDUCED. -/
def opSolveRead : OpFn := fun _ f s =>
  let v := u8At f.p 0
  if 3 < v ∨ !zeroAt f.p 1 3 then refuse stRange s
  else if s.useK It.tkEnable ≠ 1 then refuse stConflict s
  else
    match nth s.fus.records v with
    | none => reply (toLE 8 0 ++ toLE 1 v ++ toLE 7 0) s
    | some r => reply r s

/-- A signed number of 32 bits at an offset. -/
def s32At (p : List Byte) (o : Nat) : Int := signed32 (u32At p o)

/-- The content of a fusion table image (Table 6.2), none where it breaks a content rule. -/
def fuTableOf (img : List Byte) : Option FuTable :=
  let kind := u8At img 8
  let n := u32At img 12
  if u32At img 0 ≠ 1 ∨ u32At img 4 ≠ 0x9648 ∨ !zeroAt img 9 3 then none
  else
    match kind with
    | 1 =>
      let k := u16At img 20
      if u16At img 22 = n ∧ 2 ≤ n ∧ n ≤ 129 ∧ 0 < k ∧ img.length = 28 + 4 * n then
        some { kind := 1, kx := k, nx := n, ny := 1, knots := (List.range n).map fun i => (s32At img (28 + 4 * i), s32At img 24) }
      else none
    | 2 =>
      let (kx, ky, nx, ny) := (u16At img 20, u16At img 22, u16At img 24, u16At img 26)
      if n = nx * ny ∧ 2 ≤ nx ∧ nx ≤ 129 ∧ 2 ≤ ny ∧ ny ≤ 129 ∧ 0 < kx ∧ 0 < ky ∧ img.length = 28 + 8 * n then
        some { kind := 2, kx := kx, ky := ky, nx := nx, ny := ny
               knots := (List.range n).map fun i => (s32At img (28 + 8 * i), s32At img (32 + 8 * i)) }
      else none
    | 3 =>
      if 1 ≤ n ∧ n ≤ 128 ∧ img.length = 20 + 12 * n then
        some { kind := 3, map := (List.range n).map fun i =>
          (s32At img (20 + 12 * i), s32At img (24 + 12 * i), u8At img (28 + 12 * i), u8At img (29 + 12 * i)) }
      else none
    | _ => none

/-- A fusion table slot is named by the tracker in one configuration (R170). -/
def fuTableInUse (rd : Nat → Nat) (slot : Nat) : Bool :=
  rd It.tkEnable == 1 && (rd It.tkEjectMap == slot || (viewsOn rd).any fun v => rd (It.tkViewTable v) == slot)

def opFuTableLoad : OpFn := fun m f s =>
  let slot := u8At f.p 0
  let first := u16At f.p 2
  let n := u16At f.p 4
  let crc := u32At f.p 12
  if 7 < slot ∨ !zeroAt f.p 1 1 ∨ n = 0 ∨ !zeroAt f.p 6 2 then refuse stRange s
  else
    match s.blkImage m first n (u32At f.p 8) crc with
    | .error st => refuse st s
    | .ok img =>
      match fuTableOf img with
      | none => refuse stRange s
      | some t =>
        if s.configs.any (fun st => fuTableInUse (st.read s.variant) slot) then refuse stConflict s
        else
          let s := s.modFus fun k => { k with tables := upd k.tables slot fun _ => t }
          let s := (s.set (It.ftKind slot) t.kind).set (It.ftEntries slot) (u32At img 12)
          reply [] (((s.set (It.ftCrc slot) crc).set (It.ftBuild slot) (u32At img 16)).blkConsume m first n)

end Sys2Proof.Machine
end

