-- ==== Sys2Proof/Machine/Valves.lean ====
section
/-! DEFINITION. Valve and solenoid drive (spec 08): banks, channels, beads and the current loop. The opcodes, admission and
consistency rules are in `ValveCmds`. -/

namespace Sys2Proof.Machine

def State.modValve (f : ValveBank → ValveBank) (s : State) : State := { s with valve := f s.valve }

/-- One bank. -/
def State.vb (s : State) (b : Nat) : VBank := nth s.valve.banks b

def State.modVb (b : Nat) (f : VBank → VBank) (s : State) : State :=
  s.modValve fun v => { v with banks := upd v.banks b f }

/-- One channel. -/
def State.vc (s : State) (c : Nat) : Chan := nth s.valve.chans c

def State.modVc (c : Nat) (f : Chan → Chan) (s : State) : State :=
  s.modValve fun v => { v with chans := upd v.chans c f }

/-- A bank, channel or profile item as the die of a bank has released it (Table 4.7 step 4). -/
def State.vget (s : State) (b k : Nat) : Nat := (nth s.valve.dies (b / 4)).cfg.read s.variant k

/-- The role latch names a lane and is accepting: what that lane sends is taken (R29). A command is judged by the latch as it
stands. Log entry: 174 DESIGN CHOICE. -/
def State.accepts (s : State) (lane : Nat) : Bool := s.lanes.accepting && lane == s.lanes.latch

/-! ## Channel and bank states as codes (Tables 8.14 and 8.16) -/

@[reducible] def chOff : Nat := 0
@[reducible] def chIdle : Nat := 1
@[reducible] def chBoost : Nat := 2
@[reducible] def chPeak : Nat := 3
@[reducible] def chHold : Nat := 4
@[reducible] def chQuench : Nat := 5
@[reducible] def chDither : Nat := 6
@[reducible] def chSafe : Nat := 7
@[reducible] def chRetry : Nat := 8
@[reducible] def chLatched : Nat := 9

def State.chSt (s : State) (c : Nat) : Nat := s.get (It.chState c)
def State.setCh (c st : Nat) (s : State) : State := s.set (It.chState c) st

/-- The sag tier of the bank's die. -/
def State.tierOf (s : State) (b : Nat) : Nat := s.get (It.bankSagTier b)

/-- A channel follows (R238). -/
def State.follows (s : State) (c : Nat) : Bool :=
  s.get (It.bankState (c / 8)) == 1 && !(s.chSt c == chSafe || s.chSt c == chRetry || s.chSt c == chLatched)

/-- The current that a channel reserves, raw q16.16 (R227). -/
def State.reservation (s : State) (c : Nat) : Nat :=
  let b := c / 8
  let x := s.vc c
  match s.chSt c with
  | 2 | 3 => (x.run.map (·.peak)).getD 0
  | 4 => (x.run.map (·.hold)).getD 0
  | 6 => s.vget b (It.chImaxA c)
  | 7 =>
    if s.vget b (It.chSafe c) = 1 then
      match x.safe with
      | .boost | .peak => x.vals.peak
      | _ => s.vget b (It.chSafeA c)
    else 0
  | _ => 0

/-- The channels of a bank. -/
def chansOf (b : Nat) : List Nat := (List.range 8).map (b * 8 + ·)

/-- bank_reserved_a (R227). -/
def State.reserved (s : State) (b : Nat) : Nat := ((chansOf b).map s.reservation).sum

/-- The thresholds of the sag tiers with their hysteresis, from a measured MAIN+ in q16.16 (R246, R344). -/
def sagTier (old volts : Nat) : Nat :=
  let at_ := fun (v : Nat) => decide (v * 65536 ≤ volts)
  if !at_ 26 then 3
  else if old = 3 ∧ !at_ 27 then 3
  else if !at_ 30 then 2
  else if 2 ≤ old ∧ !at_ 31 then 2
  else if !at_ 34 then 1
  else if 1 ≤ old ∧ !at_ 35 then 1
  else 0

/-! ## The bead log (R235, Table 8.4) -/

/-- A record of the bead log. -/
def beadRecord (x : Bead) (outcome late start carry boost tier flags : Nat) : List Byte :=
  toLE 4 x.key.toNat ++ toLE 1 x.ch ++ toLE 1 outcome ++ toLE 2 (min (late / 1000) 65535) ++ toLE 8 x.position.toNat ++
    toLE 8 start ++ toLE 4 carry ++ toLE 2 (min (boost / 100) 65535) ++ toLE 1 tier ++
    toLE 1 (b2n x.master + 2 * b2n x.onMtime + flags)

/-- A record enters the log of a bank, which keeps the last 64. -/
def State.logBead (b : Nat) (r : List Byte) (s : State) : State :=
  s.modVb b fun v => { v with log := (v.log ++ [r]).drop (v.log.length + 1 - 64) }

/-- The record of a running profile that ends with an outcome; `flags` adds to those gathered. -/
def State.logRun (c outcome flags : Nat) (r : ProfRun) (s : State) : State :=
  s.logBead (c / 8) (beadRecord r.bead outcome r.late r.start r.carry r.boost r.tier
    (flags + 4 * b2n r.timedOut + 16 * b2n r.cut))

/-- The bank counter of an outcome (R234, Table 8.14). Log entry: 98 DEDUCED. -/
def outcomeCounter (b outcome : Nat) : Nat :=
  match outcome with
  | 2 => It.beadsLate b
  | 3 => It.bankConflicts b
  | 4 => It.beadsSag b
  | 5 => It.beadsBoostLow b
  | 6 => It.beadsFault b
  | 7 => It.beadsDuplicate b
  | 8 => It.beadsQueueFull b
  | _ => It.beadsFlushed b

/-- queue_depth and queue_peak of a bank. -/
def State.depth (b : Nat) (s : State) : State :=
  let n := (s.vb b).queue.length
  (s.set (It.queueDepth b) n).set (It.queuePeak b) (max (s.get (It.queuePeak b)) n)

/-- The record of a bead that never started, with its counter (R234). Log entry: 98 DEDUCED. -/
def State.logDrop (b outcome late : Nat) (x : Bead) (s : State) : State :=
  (s.logBead b (beadRecord x outcome late 0 (nth s.valve.dies (b / 4)).carry 0 (s.tierOf b) 0)).bump (outcomeCounter b outcome)

/-- A queued bead taken out of its queue. Log entry: 98 DEDUCED. -/
def State.unqueue (b : Nat) (x : Bead) (s : State) : State :=
  (s.modVb b fun v => { v with queue := v.queue.filter fun q => q.bead != x }).depth b

/-- How late a queued bead is at an instant: 0 before it is due, the largest value beyond the lateness history (R231). -/
def QBead.lateness (up : Nat) (q : QBead) : Nat := if q.beyond then 65535000 else up - q.due.getD up

/-- The queue of a bank flushed (R240). -/
def State.flushQueue (b : Nat) (s : State) : State :=
  let q := (s.vb b).queue
  (q.foldl (fun s x => s.logDrop b 9 (x.lateness s.up) x.bead) (s.modVb b fun v => { v with queue := [] })).depth b

/-! ## Positions at a drive die (R231) -/

/-- The follower of the die of a bank. -/
def State.follower (s : State) (b : Nat) : Follower := nth s.time.dies (b / 4)

/-- The reading of a die's mtime follower. -/
def State.dieTime (s : State) (b : Nat) : Nat := ((s.now : Int) + (s.follower b).off).toNat

/-- The instant at which a follower reached a position, from its units, newest first: in the unit of the position by
interpolation, and where that does not come to it, at the next unit (R39). `next` is the instant of the unit before in the
list. -/
def reachAt (unit frac : Nat) (next : Option Nat) : List TallyUnit → Option Nat
  | [] => none
  | u :: r =>
    if u.int = unit then
      let at_ := if frac = 0 then some u.at_ else u.p.map fun p => u.at_ + (frac * p + 65535) / 65536
      match at_.filter (fun x => u.stop.all fun e => decide (x ≤ e)), next with
      | some a, some n => some (min a n)
      | some a, none => some a
      | none, n => n
    else reachAt unit frac (some u.at_) r

/-- The lateness of a position that a follower has reached, in ns; none beyond every budget. Of one that a forward correction
passed, the position difference at the last unit interval; where none exists, 0 (R231). Log entry: 180 DESIGN CHOICE. -/
def Follower.lateness (f : Follower) (t position : Nat) : Option Nat :=
  if f.jumps.any fun j => decide (0 < posDiff position j.1) && decide (posDiff position j.2 ≤ 0) then
    some ((posDiff (f.cnt.pos t) position).toNat * (f.cnt.pLast.getD 0) / 65536)
  else (reachAt (position / 65536 % 2 ^ 48) (position % 65536) none f.hist).map fun a => t - a

/-- A position of either basis reached at a die (R231, R44); a tally bead does not become due outside RUNNING (R45). -/
def State.atDie (s : State) (b : Nat) (onMtime : Bool) (position : Nat) : Bool :=
  if onMtime then decide (position ≤ s.dieTime b) else (s.follower b).cnt.reached s.up position

/-- A bead becomes due. -/
def State.beadIsDue (s : State) (b : Nat) (x : Bead) : Bool :=
  s.atDie b x.onMtime x.position.toNat && (x.onMtime || (s.follower b).cnt.st == .running)

/-- The lateness of a bead that is due. -/
def State.beadLateness (s : State) (b : Nat) (x : Bead) : Option Nat :=
  if x.onMtime then some (s.dieTime b - x.position.toNat) else (s.follower b).lateness s.up x.position.toNat

/-- The position of a pulse bead's end: position + extent (R229). Log entry: 100 DEDUCED. -/
def beadEndPos (x : Bead) : Nat :=
  let e := signed32 x.extent.toNat
  if x.onMtime then ((x.position.toNat : Int) + Int.fdiv (e * 1000) 65536).toNat
  else twos 64 ((x.position.toNat : Int) + e)

/-! ## Faults, gate and safe state (R226, R239, R242, R434) -/

/-- CH_FAULT with a channel's fault set (R242). -/
def State.chFaulted (c fault : Nat) (s : State) : State :=
  let s := s.set (It.chFault c) fault
  s.emit 0x0980 (toLE 1 c ++ toLE 1 fault ++ toLE 2 (s.chSt c) ++ toLE 4 (s.get (It.chTrips c)) ++ toLE 8 s.now)

/-- The boost gate released when a channel holds it. -/
def State.ungate (c : Nat) (s : State) : State :=
  s.modVb (c / 8) fun v => { v with gate := if v.gate = some c then none else v.gate }

/-- A channel conducts: its low-side switch is closed (R220). -/
def State.conducts (s : State) (c : Nat) : Bool :=
  match s.chSt c, (s.vc c).safe with
  | 2, _ | 3, _ | 4, _ | 6, _ => true
  | 7, .finish | 7, .boost | 7, .peak | 7, .hold => true
  | _, _ => false

/-- A channel is in a boost: of a bead, of a bead that finishes in SAFE, or of its safe state (R226, R240, R434). -/
def State.boosting (s : State) (c : Nat) : Bool :=
  match s.chSt c, (s.vc c).safe with
  | 2, _ | 7, .finish | 7, .boost => true
  | _, _ => false

/-- The current of a channel has not decayed: it conducts or its current is in the quench path (R223). -/
def State.energised (s : State) (c : Nat) : Bool :=
  s.conducts c || s.chSt c == chQuench || (s.chSt c == chSafe && (s.vc c).safe == .quench)

/-- The boost timeout in ns of a profile at a tier (R224). Log entry: 102 DEDUCED. -/
def State.boostLimit (s : State) (b prof tier : Nat) : Nat :=
  let t := s.vget b (It.profBoostMaxUs prof) * 1000
  if tier = 1 then t * (100 + s.vget b (It.profStretchPct prof)) / 100 else t

/-- The values of a boost that starts on a channel with a profile. Log entry: 102 DEDUCED. -/
def State.boostVals (s : State) (c prof : Nat) : BoostVals :=
  let b := c / 8
  let g := s.vget b
  { peak := g (It.chPeakA c), limit := s.boostLimit b prof (s.tierOf b), dwell := g (It.profPeakDwellUs prof) * 1000
    kp := g (It.profKp prof), ki := g (It.profKi prof) }

/-- The next waiting safe-state boost takes the gate, in channel order, while the rail is ready below tier 2, with the channel's
own peak and the values of its ch_profile (R434). Log entry: 101 DEDUCED. -/
def State.safeNext (b : Nat) (s : State) : State :=
  if (s.vb b).gate.isNone ∧ s.tierOf b < 2 ∧ s.get (It.boostReady b) = 1 then
    match (chansOf b).find? (fun c => (s.vc c).safe == .wait) with
    | some c =>
      let vals := s.boostVals c (s.vget b (It.chProfile c))
      (s.modVb b fun v => { v with gate := some c }).modVc c fun x => { x with safe := .boost, at_ := s.up, vals := vals }
    | none => s
  else s

/-- A channel enters its safe state (R239, R434), or enters it again when what governs it has changed: through QUENCH where a current
is to be ended; with the high side open for a high-side short it is de-energised. In tier 3 a boost ends through QUENCH before the
hold (Table 8.7). Log entry: 101 DEDUCED. -/
def State.enterSafe (c : Nat) (s : State) : State :=
  let b := c / 8
  let mode := s.vget b (It.chMode c)
  let p : SafePhase :=
    if s.vget b (It.chSafe c) = 0 ∨ bit (s.get (It.bankSafeCause b)) 3 ∨ mode = 0 then
      if s.energised c then .quench else .off
    else if mode = 1 ∧ s.tierOf b < 3 then .wait
    else if s.boosting c then .quench
    else .hold
  (((s.ungate c).setCh c chSafe).modVc c fun x => { x with safe := p, at_ := s.up, duty := 0, integ := 0 }).safeNext b

/-- The resting state of a channel without a running profile: retry and latch stand; the safe state for its bank or for a
loop in FAILSAFE; off outside RUN; else as its mode says (R222, R239, R240). Log entry: 105 DEDUCED. -/
def State.restState (s : State) (c : Nat) : Nat :=
  let b := c / 8
  let st := s.chSt c
  let bs := s.get (It.bankState b)
  if st = chLatched ∨ st = chRetry then st
  else if (s.vc c).rodSafe ∨ bs = 2 ∨ bs = 3 then chSafe
  else if st = chQuench then chQuench
  else if bs = 1 then
    match s.vget b (It.chMode c) with
    | 1 => chIdle
    | 2 => chDither
    | _ => chOff
  else chOff

/-- The channel of a running profile, or one that is to carry no current any more, enters QUENCH (R223, R229, R239). -/
def State.toQuench (c : Nat) (s : State) : State :=
  ((s.ungate c).setCh c chQuench).modVc c fun x => { x with safe := .none, at_ := s.up, duty := 0, integ := 0 }

/-- A channel without a running profile brought to its resting state; where that carries no current, through QUENCH.
Log entry: 105 DEDUCED. -/
def State.settle (c : Nat) (s : State) : State :=
  let t := s.restState c
  if t = chSafe then
    if (s.vc c).safe = .none then s.enterSafe c else s
  else if t ≠ chDither ∧ t ≠ chQuench ∧ s.energised c then s.toQuench c
  else
    let old := s.chSt c
    let s := (s.ungate c).modVc c fun x => { x with
      safe := .none, duty := if old = t then x.duty else 0, integ := if old = t then x.integ else 0
      at_ := if old = t then x.at_ else s.up }
    s.setCh c t

/-- bank_state from enable, IDLE, causes and the wait for the rail (R240, R247, Table 8.14). -/
def State.bankCode (s : State) (b : Nat) : Nat :=
  let v := s.vb b
  let cause := s.get (It.bankSafeCause b)
  let own : Bool := match v.wait with
    | some (_, together) => !together
    | none => false
  if s.vget b (It.bankEnable b) = 0 ∨ v.idle ∨ own then 0
  else if bit cause 3 then 3
  else if cause ≠ 0 then 2
  else 1

/-- The rail target of a bank's boost converter [V], 0 while it is stopped: in sag tier 3, and for a bank that is disabled or held
as disabled in IDLE (R221, Table 8.9). -/
def State.railTarget (s : State) (b : Nat) : Nat :=
  let t := s.tierOf b
  if s.vget b (It.bankEnable b) = 0 ∨ (s.vb b).idle ∨ 3 ≤ t then 0 else if t = 0 then 96 else 80

/-- The boost converter of a bank set, and since when the rail of a bank below tier 2, whose converter runs and whose wait for the
rail is over, has not been ready (R221, R245). Log entry: 103 DEDUCED. -/
def State.lowWatch (b : Nat) (s : State) : State :=
  let low := s.railTarget b ≠ 0 ∧ (s.vb b).wait.isNone ∧ s.tierOf b < 2 ∧ s.get (It.boostReady b) = 0
  s.modVb b fun v => { v with
    target := s.railTarget b, notReady := if low then some (v.notReady.getD s.up) else none }

/-- The profile of a channel ended without completion: logged, and the gate given back. Log entry: 101 DEDUCED. -/
def State.cutRun (c outcome flags : Nat) (s : State) : State :=
  match (s.vc c).run with
  | none => s
  | some r => (s.logRun c outcome flags r).modVc c fun x => { x with run := none }

/-- A channel of a bank whose state becomes `new`. One that the change finds in SAFE and that stays there enters its safe state
again when the high side opens or closes. Log entries: 101 DEDUCED, 107 DEDUCED. -/
def State.rebase (old new c : Nat) (s : State) : State :=
  if s.chSt c = chSafe ∧ s.restState c = chSafe then
    if (old = 3 ∨ new = 3) ∧ new ≠ 0 then s.enterSafe c else s
  else s.settle c

/-- A channel of a bank that leaves RUN: its profile is ended; a boost in progress completes first when the bank goes to SAFE
outside tier 3 (R240, Table 8.7). Log entries: 101 DEDUCED, 107 DEDUCED. -/
def State.leaveRun (new c : Nat) (s : State) : State :=
  let st := s.chSt c
  let s := s.cutRun c (if new = 3 then 6 else 9) 0
  if st = chLatched ∨ st = chRetry then s
  else if new = 2 ∧ st = chBoost ∧ s.tierOf (c / 8) < 3 then (s.setCh c chSafe).modVc c fun x => { x with safe := .finish }
  else s.rebase 1 new c

/-- BANK_STATE (R242). -/
def State.bankEvent (b : Nat) (s : State) : State :=
  s.emit 0x0981 (toLE 1 b ++ toLE 1 (s.get (It.bankFault b)) ++ toLE 2 (s.get (It.bankState b)) ++
    toLE 4 (s.get (It.bankSafeCause b)) ++ toLE 8 s.now)

/-- A bank's state judged again after a change `f`: on a change of state its channels and its queue follow (R240); BANK_STATE
on a change of state, causes or faults. Log entry: 107 DEDUCED. -/
def State.reBank (b : Nat) (f : State → State) (s : State) : State :=
  let was := (s.get (It.bankState b), s.get (It.bankSafeCause b), s.get (It.bankFault b))
  let s := f s
  let new := s.bankCode b
  let s := s.set (It.bankState b) new
  let s :=
    if new = was.1 then s
    else if was.1 = 1 then (s.each (chansOf b) (State.leaveRun new)).flushQueue b
    else s.each (chansOf b) (State.rebase was.1 new)
  let s := (s.lowWatch b).safeNext b
  if (new, s.get (It.bankSafeCause b), s.get (It.bankFault b)) = was then s else s.bankEvent b

/-- A safe cause of a bank set. -/
def State.setCause (b n : Nat) (s : State) : State :=
  s.reBank b fun s => s.set (It.bankSafeCause b) (s.get (It.bankSafeCause b) ||| 2 ^ n)

/-- A safe cause of a bank cleared. -/
def State.clearCause (b n : Nat) (s : State) : State :=
  s.reBank b fun s => s.set (It.bankSafeCause b) (s.get (It.bankSafeCause b) &&& (15 - 2 ^ n))

/-! ## Deciding beads (R232 to R234) -/

/-- The profile of a bead on a channel. -/
def State.profOf (s : State) (x : Bead) : Nat :=
  if x.profile.toNat = 0xff then s.vget (x.ch / 8) (It.chProfile x.ch) else x.profile.toNat % 32

/-- A bead starts, or takes over a channel in BOOST (R232, R233): channel and profile values are latched.
Log entry: 100 DEDUCED. -/
def State.startBead (late : Nat) (x : Bead) (s : State) : State :=
  let c : Nat := x.ch
  let b := c / 8
  let prof := s.profOf x
  let g := s.vget b
  let earlier := (s.vc c).run.isSome
  let run : ProfRun := {
    bead := x, start := s.dieTime b, begun := s.up, carry := (nth s.valve.dies (b / 4)).carry, late := late, tier := s.tierOf b
    peak := g (It.chPeakA c), hold := g (It.chHoldA c), boostMax := s.boostLimit b prof (s.tierOf b)
    dwell := g (It.profPeakDwellUs prof) * 1000, holdMin := g (It.profHoldMinUs prof) * 1000
    holdMax := g (It.profHoldMaxMs prof) * 1000000, slow := g (It.profQuench prof) == 1
    kp := g (It.profKp prof), ki := g (It.profKi prof) }
  let s := s.cutRun c 1 0
  let s := if earlier then s.bump (It.chRestarts c) else s
  let s := s.unqueue b x
  let s := (s.modVb b fun v => { v with
    gate := some c, started := (v.started ++ [(x.master, x.key.toNat, c)]).drop (v.started.length + 1 - 1024) }).setCh c chBoost
  let vals := s.boostVals c prof
  let s := s.modVc c fun y => { y with run := some run, at_ := s.up, safe := .none, duty := 0, integ := 0, vals := vals }
  ((s.bump (It.beadsStarted b)).bump (It.chPulses c)).set (It.chLatenessUs c) (min (late / 1000) 65535)


/-- A bead dropped with an outcome. -/
def State.dropBead (b outcome late : Nat) (x : Bead) (s : State) : State :=
  (s.unqueue b x).logDrop b outcome late x

/-- The decision of one due bead (R232). Log entry: 96 DEDUCED. -/
def State.decideBead (b : Nat) (q : QBead) (s : State) : State :=
  let x := q.bead
  let c : Nat := x.ch
  let st := s.chSt c
  let late := s.up - q.due.getD s.up
  let shown := q.lateness s.up
  let put := fun (n : Nat) => s.modVb b fun v => { v with
    queue := v.queue.map fun y => if y.bead = x then { y with reason := some n } else y }
  if s.vget b (It.chMode c) ≠ 1 then s.dropBead b 9 shown x
  else if st = chSafe ∨ st = chRetry ∨ st = chLatched then s.dropBead b 6 shown x
  else if x.op = .off then
    let s := if (s.vc c).run.isSome ∧ st ≠ chQuench then s.toQuench c else s
    (s.unqueue b x).logBead b (beadRecord x 0 shown 0 (nth s.valve.dies (b / 4)).carry 0 (s.tierOf b) 0)
  else if x.op = .pulse ∧ 0 < signed32 x.extent.toNat ∧ s.atDie b x.onMtime (beadEndPos x) then s.dropBead b 2 shown x
  else if st = chBoost then s.startBead shown x
  else if q.beyond ∨ s.vget b (It.profLateUs (s.profOf x)) * 1000 < late then s.dropBead b (q.reason.getD 2) shown x
  else if 2 ≤ s.tierOf b then put 4
  else if s.get (It.boostReady b) = 0 then put 5
  else if ((s.vb b).gate.getD c) ≠ c then put 3
  else if s.get (It.bankLimitA b) + s.reservation c < s.reserved b + s.vget b (It.chPeakA c) then put 3
  else s.startBead shown x

/-- A queued bead put before the first with a later due instant. Log entry: 87 DEDUCED. -/
def insertDue (x : QBead) : List QBead → List QBead
  | [] => [x]
  | y :: r => if x.due.getD 0 < y.due.getD 0 then x :: y :: r else y :: insertDue x r

/-- The due beads that a condition selects decided in order of due instant, then in queue order (R232). A bead that the
decisions before have taken out of the queue is passed over. Log entry: 96 DEDUCED. -/
def State.examine (b : Nat) (sel : QBead → Bool) (s : State) : State :=
  let l := ((s.vb b).queue.filter fun q => q.due.isSome && sel q).foldl (fun a q => insertDue q a) []
  l.foldl (fun s q =>
    if s.get (It.bankState b) = 1 then
      match (s.vb b).queue.find? (fun y => y.bead == q.bead) with
      | some y => s.decideBead b y
      | none => s
    else s) s

/-- Every deferred bead examined again, after a waiting safe-state boost: at a gate release and at every period (R232). -/
def State.reexamine (b : Nat) (s : State) : State := (s.safeNext b).examine b fun q => q.reason.isSome

/-- What follows when a channel that held the boost gate of a bank has released it: `held` the holder before (R232). -/
def State.gateReleased (b : Nat) (held : Option Nat) (s : State) : State :=
  if held.isSome ∧ (s.vb b).gate.isNone then s.reexamine b else s

/-- The beads that become due now are decided (R231, R232). Log entry: 96 DEDUCED. -/
def State.beadDue (b : Nat) (s : State) : State :=
  if s.get (It.bankState b) = 1 then
    let mark := fun (q : QBead) =>
      if q.due.isNone && s.beadIsDue b q.bead then
        match s.beadLateness b q.bead with
        | some l => { q with due := some (s.up - l) }
        | none => { q with due := some 0, beyond := true }
      else q
    let s := s.modVb b fun v => { v with queue := v.queue.map mark }
    (s.examine b fun q => q.reason.isNone).gateReleased b (s.vb b).gate
  else s

def execBeadDue (dt : Nat) (bank : Fin 16) (s : State) : Host.Outcome State Fault Refusal :=
  timedDie dt (State.beadDue bank) s

/-- A bead put into a queue: by position among its basis, after its equals (R230). Log entry: 87 DEDUCED. -/
def insertBead (q : QBead) : List QBead → List QBead
  | [] => [q]
  | y :: r =>
    if q.bead.onMtime = y.bead.onMtime ∧
        (if q.bead.onMtime then q.bead.position.toNat < y.bead.position.toNat
         else posDiff q.bead.position.toNat y.bead.position.toNat < 0) then q :: y :: r
    else y :: insertBead q r

/-- The key of a bead (R228). Log entry: 97 DEDUCED. -/
def beadKey (x : Bead) : Bool × Nat × Nat := (x.master, x.key.toNat, x.ch)

/-- A bead arrives at its bank (R230, R29). Log entries: 97 DEDUCED, 167 DESIGN CHOICE. -/
def State.beadArrival (lane b : Nat) (x : Bead) (s : State) : State :=
  if !s.accepts lane then s.bump It.arbitrationDiscards
  else
    let s := s.modValve fun v => { v with outbound := v.outbound.erase x }
    let v := s.vb b
    let late := if s.atDie b x.onMtime x.position.toNat then (s.beadLateness b x).getD 65535000 else 0
    if (x.ch : Nat) / 8 ≠ b then s
    else if s.get (It.bankState b) ≠ 1 then s.logDrop b 9 late x
    else if v.started.contains (beadKey x) || v.queue.any (fun q => beadKey q.bead == (beadKey x)) then s.logDrop b 7 late x
    else if 1024 ≤ v.queue.length then s.logDrop b 8 late x
    else (s.modVb b fun v => { v with queue := insertBead { bead := x } v.queue }).depth b

def execBeadArrival (dt : Nat) (lane : Fin 2) (bank : Fin 16) (bead : Bead) (s : State) :
    Host.Outcome State Fault Refusal :=
  timedDie dt (State.beadArrival lane bank bead) s

/-! ## Coil measurement (R248) -/

/-- The coil guard of a value against its nominal and tolerance in percent. -/
def coilCode (v nom tol : Nat) : Nat :=
  if v * 100 < nom * (100 - tol) then 1 else if nom * (100 + tol) < v * 100 then 2 else 0

/-- Measured resistance and inductance of a coil, resistance judged first (R248). -/
def State.measured (c : Nat) (r l : Option Nat) (s : State) : State :=
  let b := c / 8
  let tol := s.vget b (It.chCoilTolPct c)
  let s := match r with
    | some v => s.ageSample 8 c v
    | none => s
  let s := match l with
    | some v => s.ageSample 9 c v
    | none => s
  let gr := (r.map fun v => coilCode v (s.vget b (It.chRNom c)) tol).getD 0
  let gl := (l.map fun v => coilCode v (s.vget b (It.chLNom c)) tol).getD 0
  let g := if gr ≠ 0 then gr else gl
  s.setGuard (It.chCoilGuard c) g 0x0983 (toLE 1 c ++ toLE 1 g ++ toLE 2 0 ++ toLE 4 (s.get (It.chROhm c)) ++
    toLE 4 (s.get (It.chLMh c)) ++ toLE 4 0 ++ toLE 8 s.now)

/-- The inductance from the rise time from 10 % to 50 % of the peak current, raw q16.16 mH. -/
def State.inductance (s : State) (c peak riseNs : Nat) : Option Nat :=
  if peak = 0 then none else some (q16Open s.free (s.get (It.boostV (c / 8)) * riseNs * 65536 / (400000 * peak) : Nat))

/-! ## Phases (R223, R224, R229) -/

/-- The inductance measured in the boost of a channel (R248). Log entry: 110 DESIGN CHOICE. -/
def State.boostMeasured (c riseNs : Nat) (s : State) : State :=
  (s.useFree 1).measured c none (s.inductance c (s.vc c).vals.peak riseNs)

/-- The boost of a channel ends after a time: ch_t_boost_ns, the gate, the phase that follows begins now. -/
def State.boostOver (c dur : Nat) (s : State) : State :=
  ((s.set (It.chTBoostNs c) (sat32 dur)).ungate c).modVc c fun y => { y with
    run := y.run.map (fun r => { r with boost := dur }), at_ := s.up, duty := 0, integ := 0 }

/-- The current reaches ch_peak_a: BOOST ends, PEAK begins, the gate is released (R223, R226).
Log entry: 110 DESIGN CHOICE. -/
def State.boostEnd (c riseNs : Nat) (s : State) : State :=
  let x := s.vc c
  if s.boosting c then
    let s := (s.boostOver c (s.up - x.at_)).boostMeasured c riseNs
    let s := match x.safe with
      | .boost => s.modVc c fun y => { y with safe := .peak }
      | .finish => s.enterSafe c
      | _ => s.setCh c chPeak
    s.reexamine (c / 8)
  else s

def execBoostEnd (dt : Nat) (ch : Fin 128) (riseNs : Nat) (s : State) : Host.Outcome State Fault Refusal :=
  timedDie dt (State.boostEnd ch riseNs) s

/-- A boost reaches its timeout with some current, raw q16.16 A: an open load below 0.2 A, else fault 4 (R224, Table 8.6). Where the
current has passed half its peak, the boost has measured the inductance (R248). Log entries: 101 DEDUCED, 102 DEDUCED,
110 DESIGN CHOICE. -/
def State.boostTimeout (c current riseNs : Nat) (s : State) : State :=
  let x := s.vc c
  let open_ := decide (current * 5 < 65536)
  let dur := s.up - x.at_
  if s.boosting c ∧ x.vals.limit ≤ dur then
    let s := (s.boostOver c dur).bump (It.chOpenLoads c)
    let s := if x.vals.peak ≤ 2 * current then s.boostMeasured c riseNs else s
    let s := match x.safe with
      | .boost => (s.modVc c fun y => { y with safe := if open_ then .off else .peak }).chFaulted c (if open_ then 3 else 4)
      | .finish => (s.enterSafe c).chFaulted c (if open_ then 3 else 4)
      | _ =>
        let s := s.modVc c fun y => { y with run := y.run.map (fun (r : ProfRun) => { r with timedOut := true }) }
        if open_ then ((s.setCh c chQuench).chFaulted c 3).cutRun c 6 8 else (s.setCh c chPeak).chFaulted c 4
    s.reexamine (c / 8)
  else s

/-- Log entry: 110 DESIGN CHOICE. -/
def execBoostTimeout (dt : Nat) (ch : Fin 128) (sense : BoostSense) (s : State) : Host.Outcome State Fault Refusal :=
  timedDie dt (State.boostTimeout ch sense.current sense.riseNs) s

/-- prof_peak_dwell_us after BOOST the channel passes to HOLD (R223). -/
def State.peakDwellEnd (c : Nat) (s : State) : State :=
  let x := s.vc c
  match x.run, x.safe with
  | some r, .none =>
    if s.chSt c = chPeak ∧ x.at_ + r.dwell ≤ s.up then
      (s.setCh c chHold).modVc c fun y => { y with at_ := s.up, holdAt := s.up }
    else s
  | _, .peak => if x.at_ + x.vals.dwell ≤ s.up then s.modVc c fun y => { y with safe := .hold, at_ := s.up } else s
  | _, _ => s

def execPeakDwellEnd (dt : Nat) (ch : Fin 128) (s : State) : Host.Outcome State Fault Refusal :=
  timedDie dt (State.peakDwellEnd ch) s

/-- A pulse bead has reached its end in HOLD (R229). Log entry: 100 DEDUCED. -/
def State.pulseOver (s : State) (c : Nat) (r : ProfRun) : Bool :=
  r.bead.op == .pulse && s.chSt c == chHold && s.atDie (c / 8) r.bead.onMtime (beadEndPos r.bead) &&
    decide ((s.vc c).holdAt + r.holdMin ≤ s.up)

/-- A running bead reaches its end: the channel enters QUENCH; a bead ended by prof_hold_max_ms is flagged (R229).
Log entry: 100 DEDUCED. -/
def State.beadEnd (c : Nat) (s : State) : State :=
  match (s.vc c).run with
  | none => s
  | some r =>
    let st := s.chSt c
    if !(st = chBoost ∨ st = chPeak ∨ st = chHold) then s
    else if s.pulseOver c r then s.toQuench c
    else if r.holdMax ≠ 0 ∧ r.begun + r.holdMax ≤ s.up then
      ((s.modVc c fun x => { x with run := some { r with cut := true } }).toQuench c).gateReleased (c / 8) (s.vb (c / 8)).gate
    else s

def execBeadEnd (dt : Nat) (ch : Fin 128) (s : State) : Host.Outcome State Fault Refusal :=
  timedDie dt (State.beadEnd ch) s

/-- The current falls below the quench end current: the bead completes and the channel becomes IDLE (R223, R235, R243), or goes on
to its safe state (R239). -/
def State.quenchEnd (c : Nat) (s : State) : State :=
  if s.chSt c = chQuench then
    let s := match (s.vc c).run with
      | some r => (s.logRun c 0 0 r).modVc c fun x => { x with run := none, trips := 0 }
      | none => s
    ((s.setCh c chIdle).settle c)
  else if s.chSt c = chSafe ∧ (s.vc c).safe = .quench then (s.modVc c fun x => { x with safe := .off }).enterSafe c
  else s

def execQuenchEnd (dt : Nat) (ch : Fin 128) (s : State) : Host.Outcome State Fault Refusal :=
  timedDie dt (State.quenchEnd ch) s

/-! ## The current loop (R225, R237, R244) -/

/-- The loops and beams that name a channel as their destination since the last K (R203, R237). -/
def State.named (s : State) (c : Nat) : Bool :=
  (List.range 128).any (fun l => s.useK (It.rodEnable l) == 1 && s.useK (It.rodDest l) == 1 && s.useK (It.rodDestCh l) == c) ||
  (List.range 16).any (fun m => s.useK (It.beamEnable m) == 1 && s.useK (It.beamDest m) == 1 && s.useK (It.beamDestCh m) == c)

/-- A triangle of peak amplitude `amp` and frequency `hz` at an mtime, starting at zero and rising (R225).
Log entry: 104 DEDUCED. -/
def triangle (amp hz t : Nat) : Int :=
  if hz = 0 then 0
  else
    let x : Nat := t * hz * 4 % 4000000000
    let a : Int := amp
    let q : Int := x
    if x ≤ 1000000000 then a * q / 1000000000
    else if x ≤ 3000000000 then a * (2000000000 - q) / 1000000000
    else a * (q - 4000000000) / 1000000000

/-- The dither channel's set-point in use at this period, clamped to ch_imax_a and limited in its rate, with the part of a step not yet
taken (R237). Log entry: 104 DEDUCED. -/
def State.ditherPoint (s : State) (c : Nat) : Nat × Nat :=
  let b := c / 8
  let g := s.vget b
  let want := min (match (s.vc c).sp, s.named c with
    | some v, true => v
    | _, _ => g (It.chSetpointA c)) (g (It.chImaxA c))
  let now := s.get (It.chSpInUseA c)
  let slew := g (It.profSlew (g (It.chProfile c)))
  let acc := (s.vc c).frac + slew * 25
  let step := acc / 1000000
  if slew = 0 then (want, 0)
  else if now < want then if want ≤ now + step then (want, 0) else (now + step, acc % 1000000)
  else if now ≤ want + step then (want, 0)
  else (now - step, acc % 1000000)

/-- The set-point in use of a channel and its loop gains, while the current loop regulates it (R225).
Log entry: 104 DEDUCED. -/
def State.regulated (s : State) (c : Nat) : Option (Nat × Nat × Nat) :=
  let b := c / 8
  let g := s.vget b
  let prof := g (It.chProfile c)
  match s.chSt c, (s.vc c).run, (s.vc c).safe with
  | 3, some r, _ => some (r.peak, r.kp, r.ki)
  | 4, some r, _ => some (r.hold, r.kp, r.ki)
  | 6, _, _ => some ((s.ditherPoint c).1, g (It.profKp prof), g (It.profKi prof))
  | 7, _, .peak => let v := (s.vc c).vals; some (v.peak, v.kp, v.ki)
  | 7, _, .hold => some (g (It.chSafeA c), g (It.profKp prof), g (It.profKi prof))
  | _, _, _ => none

/-- One period of the PI law: the duty and the integral, raw q16.16; the integral is held when the duty is clamped (R225).
Log entry: 104 DEDUCED. -/
def piStep (kp ki : Nat) (e integ : Int) : Nat × Int :=
  let i := integ + Int.fdiv ((ki : Int) * e * 25) (65536 * 1000000)
  let d := Int.fdiv ((kp : Int) * e) 65536 + i
  if d < 0 then (0, integ) else if 65536 < d then (65536, integ) else (d.toNat, i)

/-- One channel of a bank in one period. Log entry: 104 DEDUCED. -/
def State.regulate (c : Nat) (s : State) : State :=
  match s.regulated c with
  | none => (s.set (It.chSpInUseA c) 0).modVc c fun x => { x with duty := 0 }
  | some (sp, kp, ki) =>
    let b := c / 8
    let prof := s.vget b (It.chProfile c)
    let ref : Int := (sp : Int) + (if s.chSt c = chDither then
      triangle (s.vget b (It.profDitherA prof)) (s.vget b (It.profDitherHz prof)) s.up else 0)
    let (d, i) := piStep kp ki (ref - s.get (It.chCurrentA c)) (s.vc c).integ
    let frac := if s.chSt c = chDither then (s.ditherPoint c).2 else 0
    (s.set (It.chSpInUseA c) sp).modVc c fun x => { x with
      duty := d, integ := i, frac := frac
      trips := if s.chSt c = chDither ∧ x.at_ + s.vget b (It.chRetryMs c) * 1000000 ≤ s.up then 0 else x.trips }

/-- Two channels declared parallel-wired: both LATCHED (R244, Table 8.6). Log entry: 106 DESIGN CHOICE. -/
def State.parallel (x y : Nat) (s : State) : State :=
  let latch := fun (c other : Nat) (s : State) =>
    let s := ((((s.cutRun c 6 0).ungate c).setCh c chLatched).modVc c fun z => { z with
      safe := .none, par := (255, 0), overs := 0, at_ := s.up }).set (It.chParallelWith c) other
    (s.bump (It.chTrips c)).chFaulted c 2
  latch y x (latch x y s)

/-- The evidence of one period on an off channel: its voltage below 20 % of the common output's while exactly one channel
conducts (R244). Log entry: 106 DESIGN CHOICE. -/
def parEvidence (sense : BankSense) (v : Nat) (old : Nat × Nat) : Nat × Nat :=
  match sense.current with
  | [(p, _)] => if v * 5 < sense.common then (p, if old.1 = p then old.2 + 1 else 1) else (255, 0)
  | _ => (255, 0)

/-- The off channel with the lowest output voltage. Log entry: 106 DESIGN CHOICE. -/
def lowestOff (sense : BankSense) : Option Nat :=
  (sense.off.foldl (fun (best : Option (Nat × Nat)) x =>
    match best with
    | some (_, v) => if x.2 < v then some (x.1, x.2) else best
    | none => some (x.1, x.2)) none).map (·.1)

/-- Detection of parallel-wired channels in one period (R244). Log entry: 106 DESIGN CHOICE. -/
def State.parallelCheck (b : Nat) (sense : BankSense) (s : State) : State :=
  let s := s.each (chansOf b) fun c s => s.modVc c fun x => { x with
    par := match sense.off.find? (fun o => b * 8 + (o.1 : Nat) == c) with
      | some o => parEvidence sense o.2 x.par
      | none => (255, 0)
    overs := match sense.current.find? (fun o => b * 8 + (o.1 : Nat) == c), s.regulated c with
      | some o, some _ => if 2 * s.get (It.chSpInUseA c) < o.2 ∧ !sense.off.isEmpty then x.overs + 1 else 0
      | _, _ => 0 }
  s.each (chansOf b) fun c s =>
    let x := s.vc c
    if 3 ≤ x.par.2 then s.parallel c (b * 8 + x.par.1)
    else if 3 ≤ x.overs then
      match lowestOff sense with
      | some o => s.parallel c (b * 8 + o)
      | none => s
    else s

/-- A measurement of a coil's resistance is due: once in a HOLD of at least 1 ms, and in each 10 ms of DITHER (R248).
Log entry: 184 DEDUCED. -/
def State.ohmDue (s : State) (c : Nat) : Bool :=
  let x := s.vc c
  match s.chSt c with
  | 4 => decide (x.holdAt + 1000000 ≤ s.up) && decide (x.ohmAt ≤ x.holdAt)
  | 6 => decide (max x.at_ x.ohmAt + 10000000 ≤ s.up)
  | _ => false

/-- A measurement of a coil's resistance in HOLD or DITHER taken when it is due (R248). Log entry: 184 DEDUCED. -/
def State.ohmTaken (c ohm : Nat) (s : State) : State :=
  if s.ohmDue c then (s.modVc c fun x => { x with ohmAt := s.up }).measured c (some ohm) none else s

/-- A current-loop period of a bank: measured currents, coil resistances, modes, regulation, parallel wiring and the
re-examination of deferred beads (R225, R232, R237, R244, R248). -/
def State.loopPeriod (b : Nat) (sense : BankSense) (s : State) : State :=
  let s := s.each (chansOf b) fun c s =>
    s.set (It.chCurrentA c) (((sense.current.find? fun o => b * 8 + (o.1 : Nat) == c).map (·.2)).getD 0)
  let s := s.set (It.bankCurrentA b) (sense.current.map (·.2)).sum
  let s := sense.ohms.foldl (fun s o => s.ohmTaken (b * 8 + o.1) o.2) s
  let s := s.each (chansOf b) fun c s =>
    let s := if s.named c then s else s.modVc c fun x => { x with sp := none }
    (if (s.vc c).run.isNone then s.settle c else s).regulate c
  (s.parallelCheck b sense).reexamine b

def execCurrentLoopPeriod (dt : Nat) (bank : Fin 16) (sense : BankSense) (s : State) : Host.Outcome State Fault Refusal :=
  timedDie dt (State.loopPeriod bank sense) s

/-- A set-point from a loop or beam reaches a dither channel (R29, R203, R237, R238).
Log entry: 167 DESIGN CHOICE. -/
def State.setPoint (lane c v : Nat) (s : State) : State :=
  if !s.accepts lane then s.bump It.arbitrationDiscards
  else
    let s := s.modValve fun x => { x with setOut := x.setOut.erase (c, v) }
    let i := signed32 v
    let top := s.vget (c / 8) (It.chImaxA c)
    if s.follows c then
      let s := if i < 0 ∨ (top : Int) < i then s.bump (It.chSpClamped c) else s
      s.modVc c fun x => { x with sp := some (clampInt 0 top i).toNat }
    else s

def execDitherSetpoint (dt : Nat) (lane : Fin 2) (ch : Fin 128) (value : BitVec 32) (s : State) :
    Host.Outcome State Fault Refusal :=
  timedDie dt (State.setPoint lane ch value.toNat) s

/-! ## Channel and bank faults (R242, R243) -/

/-- Short to supply: the low side opens, RETRY_WAIT, or LATCHED beyond ch_retry_n consecutive trips (R242, R243).
Log entry: 161 DEDUCED. -/
def State.shortTrip (c : Nat) (s : State) : State :=
  if s.conducts c then
    let b := c / 8
    let x := s.vc c
    let held := (s.vb b).gate
    let fresh_ := s.chSt c = chDither ∧ x.at_ + s.vget b (It.chRetryMs c) * 1000000 ≤ s.up
    let n := (if fresh_ then 0 else x.trips) + 1
    let s := ((s.cutRun c 6 0).ungate c).modVc c fun x => { x with trips := n, safe := .none, at_ := s.up, duty := 0, integ := 0 }
    let s := s.setCh c (if s.vget b (It.chRetryN c) < n then chLatched else chRetry)
    ((s.bump (It.chTrips c)).chFaulted c 1).gateReleased b held
  else s

/-- Log entry: 161 DEDUCED. -/
def execChannelShortTrip (dt : Nat) (ch : Fin 128) (s : State) : Host.Outcome State Fault Refusal :=
  timedDie dt (State.shortTrip ch) s

/-- A bank high-side short: every channel fault 5, the bank FAULT with cause [3] (Table 8.6).
Log entry: 107 DEDUCED. -/
def State.highSideTrip (b : Nat) (s : State) : State :=
  let s := (s.bump (It.hsTrips b)).each (chansOf b) fun c s => s.set (It.chFault c) 5
  s.reBank b fun s => (s.set (It.bankFault b) (s.get (It.bankFault b) ||| 1)).set (It.bankSafeCause b)
    (s.get (It.bankSafeCause b) ||| 8)

def execHighSideShortTrip (dt : Nat) (bank : Fin 16) (s : State) : Host.Outcome State Fault Refusal :=
  timedDie dt (State.highSideTrip bank) s

/-- ch_retry_ms passes: the channel returns to IDLE or DITHER (R243). Log entry: 105 DEDUCED. -/
def State.retryExpiry (c : Nat) (s : State) : State :=
  if s.chSt c = chRetry ∧ (s.vc c).at_ + s.vget (c / 8) (It.chRetryMs c) * 1000000 ≤ s.up then
    (s.setCh c chOff).settle c
  else s

def execChannelRetryExpiry (dt : Nat) (ch : Fin 128) (s : State) : Host.Outcome State Fault Refusal :=
  timedDie dt (State.retryExpiry ch) s

/-- A LATCHED channel released (R243). -/
def State.unlatch (c : Nat) (s : State) : State :=
  if s.chSt c = chLatched then ((s.setCh c chOff).modVc c fun x => { x with trips := 0 }).settle c else s

/-! ## The boost rail (R221, R245) -/

/-- The rail of a bank measured, raw q16.16 V: readiness by the tier in force; boost low clears with a ready rail.
Log entry: 103 DEDUCED. -/
def State.railUpdate (b volts : Nat) (s : State) : State :=
  let t := s.tierOf b
  let ready := decide (t < 3) && decide ((if t = 0 then 90 else 75) * 65536 ≤ volts)
  let s := (s.set (It.boostV b) volts).set (It.boostReady b) (b2n ready)
  if ready then (s.reBank b fun s => s.set (It.bankFault b) (s.get (It.bankFault b) &&& 1)).safeNext b else s.lowWatch b

/-- Log entry: 103 DEDUCED. -/
def execBoostRailReady (dt : Nat) (bank : Fin 16) (volts : Nat) (s : State) : Host.Outcome State Fault Refusal :=
  timedDie dt (State.railUpdate bank volts) s

/-- A rail not ready for 5 ms in tier 0 or 1 (R245). Log entry: 103 DEDUCED. -/
def State.boostLow (b : Nat) (s : State) : State :=
  match (s.vb b).notReady with
  | some t =>
    if t + 5000000 ≤ s.up then s.reBank b fun s => s.set (It.bankFault b) (s.get (It.bankFault b) ||| 2) else s
  | none => s

def execBoostLowTimeout (dt : Nat) (bank : Fin 16) (s : State) : Host.Outcome State Fault Refusal :=
  timedDie dt (State.boostLow bank) s

/-! ## Supply sag and recovery (R246, R247) -/

/-- The banks of a die. -/
def banksOf (die : Nat) : List Nat := (List.range 4).map (die * 4 + ·)

/-- Entry of a bank into tier 3: safe-state boosts end, the bank is SAFE with cause [2] (Table 8.7).
Log entry: 108 DEDUCED. -/
def State.tierThree (b : Nat) (s : State) : State :=
  let s := s.modVb b fun v => { v with wait := none, go := false }
  let s := s.each (chansOf b) fun c s =>
    match (s.vc c).safe with
    | .wait | .boost | .peak | .finish => s.enterSafe c
    | _ => s
  s.setCause b 2

/-- A die's measurement of MAIN+, raw q16.16 V, and the change of its tier (R246). Log entry: 108 DEDUCED. -/
def State.driveTier (die volts : Nat) (s : State) : State :=
  let s := s.set (It.drvMainsV die) volts
  let old := s.tierOf (die * 4)
  let new := sagTier old volts
  if new = old then s
  else
    let s := s.each (banksOf die) fun b s => s.set (It.bankSagTier b) new
    let s := s.emit 0x0982 (toLE 1 die ++ toLE 1 new ++ toLE 2 0 ++ toLE 4 volts ++ toLE 8 s.now)
    s.each (banksOf die) fun b s =>
      let s :=
        if new = 3 then s.tierThree b
        else if old = 3 then s.modVb b fun v => { v with wait := some (s.up, true) }
        else s
      s.railUpdate b (s.get (It.boostV b))

def execDriveTierChange (dt : Nat) (die : Fin 4) (volts : Nat) (s : State) : Host.Outcome State Fault Refusal :=
  timedDie dt (State.driveTier die volts) s

/-- A wait of a bank for its own rail is over: ready, or the rail charge time of 20 ms has passed (Table 8.10 step 3).
Log entry: 103 DEDUCED. -/
def State.railOver (s : State) (b since : Nat) : Bool :=
  s.get (It.boostReady b) == 1 || decide (since + 20000000 ≤ s.up)

/-- The waits that are over: their banks return at the next K (R247). Log entry: 108 DEDUCED. -/
def State.sagRecovery (s : State) : State :=
  s.each (List.range 4) fun die s =>
    let charged := (banksOf die).all fun b =>
      s.vget b (It.bankEnable b) == 0 || (s.vb b).idle || s.get (It.boostReady b) == 1
    s.each (banksOf die) fun b s =>
      match (s.vb b).wait with
      | some (since, true) => if charged ∨ since + 20000000 ≤ s.up then s.modVb b fun v => { v with go := true } else s
      | some (since, false) => if s.railOver b since then s.modVb b fun v => { v with go := true } else s
      | none => s

def execSagRecoveryReady (dt : Nat) (s : State) : Host.Outcome State Fault Refusal := timedDie dt State.sagRecovery s

/-- The banks that return at this K (Table 8.10 steps 3 and 4). Log entry: 108 DEDUCED. -/
def State.sagReturn (s : State) : State :=
  s.each (List.range 16) fun b s =>
    if (s.vb b).go then
      s.reBank b fun s => (s.modVb b fun v => { v with wait := none, go := false }).set (It.bankSafeCause b)
        (s.get (It.bankSafeCause b) &&& 11)
    else s

/-- No cycle-start message for the output timeout: every bank of the die SAFE with cause [1] (R240).
Log entry: 109 DEDUCED. -/
def State.driveTimeout (die : Nat) (s : State) : State :=
  if (s.follower (die * 4)).lastMsg + 2000000 ≤ s.up ∧
      (banksOf die).any (fun b => !bit (s.get (It.bankSafeCause b)) 1) then
    (s.bump (It.drvTimeouts die)).each (banksOf die) fun b s => s.setCause b 1
  else s

def execDriveOutputTimeout (dt : Nat) (die : Fin 4) (s : State) : Host.Outcome State Fault Refusal :=
  timedDie dt (State.driveTimeout die) s

/-- A cycle-start message reaches a die (Table 2.4): its lane must be the one the latch names (R29); it brings the staged values with
their carry instants (Table 4.7 step 2); cause [1] clears (R240). Log entry: 109 DEDUCED. -/
def State.cycleStart (die lane : Nat) (off : Int) (s : State) : State :=
  if !s.accepts lane then s.bump It.arbitrationDiscards
  else
    let s := (s.set (It.drvLane die) (lane + 1)).followerCheck die off
    let s := s.modValve fun v => { v with stage := v.stage.map fun d => if d.die = die then { d with loaded := true } else d }
    s.each (banksOf die) fun b s => if bit (s.get (It.bankSafeCause b)) 1 then s.clearCause b 1 else s

/-- Log entry: 166 DESIGN CHOICE. -/
def execCycleStartMessage (dt : Nat) (die : Fin 4) (lane : Fin 2) (off : Int) (s : State) : Host.Outcome State Fault Refusal :=
  timedDie dt (State.cycleStart die lane off) s

/-! ## Outside the drive dies: carries, IDLE, loops in FAILSAFE -/

/-- A loop in FAILSAFE with rod_failsafe_mode 2 holds its channel in SAFE (R240, R210): a command to the drive die, discarded and
counted while the latch takes none (R27, R29). Log entry: 91 DEDUCED. -/
def State.rodSafe (c : Nat) (on : Bool) (s : State) : State :=
  if (s.vc c).rodSafe = on then s
  else if !s.lanes.accepting then s.bump It.arbitrationDiscards
  else
    let s := s.modVc c fun x => { x with rodSafe := on }
    if on then ((s.cutRun c 9 0).settle c).gateReleased (c / 8) (s.vb (c / 8)).gate
    else if s.chSt c = chSafe then s.settle c
    else s

/-- What the release of carried items at a die does beside storing them: enables and disables of its banks, LATCHED channels
and bank FAULT (R240, R243, R247). `old` reads the values before. -/
def State.valveCarry (old : Nat → Nat) (keys : List Nat) (s : State) : State :=
  let banks := (List.range 16).filter fun b => keys.any fun k => k / 256 == 0x6000 + b
  let chans := (List.range 128).filter fun c => keys.any fun k => k / 256 == 0x6800 + c
  let s := s.each banks fun b s =>
    s.reBank b fun s =>
      let s := (s.set (It.bankSafeCause b) (s.get (It.bankSafeCause b) &&& 7)).set (It.bankFault b) (s.get (It.bankFault b) &&& 2)
      if old (It.bankEnable b) = 0 ∧ s.vget b (It.bankEnable b) = 1 ∧ s.tierOf b < 3 then
        s.modVb b fun v => { v with wait := some (s.up, false), go := false }
      else s
  s.each chans fun c s =>
    let s := s.unlatch c
    if s.chSt c = chSafe ∧ (old (It.chSafe c) ≠ s.vget (c / 8) (It.chSafe c)) then s.enterSafe c else s

/-- Every bank held as a disabled bank in IDLE, and returned from it with its wait for the rail (R352, R247).
Log entry: 108 DEDUCED. -/
def State.valveIdle (on : Bool) (s : State) : State :=
  s.each (List.range 16) fun b s =>
    if (s.vb b).idle = on then s
    else s.reBank b fun s => s.modVb b fun v => { v with
      idle := on, wait := if on then none else if s.tierOf b < 3 then some (s.up, false) else none, go := false }

/-- The banks wait for their rails at a module start (R247, Table 13.8 step 6). Log entry: 109 DEDUCED. -/
def State.valveStart (s : State) : State :=
  s.each (List.range 16) fun b s =>
    s.reBank b fun s =>
      if s.tierOf b = 3 then s.set (It.bankSafeCause b) (s.get (It.bankSafeCause b) ||| 4)
      else s.modVb b fun v => { v with wait := some (s.up, false), go := false }

end Sys2Proof.Machine
end

