-- ==== Sys2Proof/Machine/ValveCmds.lean ====
section
/-! DEFINITION. The opcodes of the valve drive (Table 8.13), its admission (Table 8.11) and consistency rules (Table 8.12). -/

namespace Sys2Proof.Machine

/-! ## Bead entries (Table 8.3) -/

/-- The op of a bead from its code. -/
def beadOpOf (n : Nat) : BeadOp :=
  match n with
  | 1 => .on
  | 2 => .off
  | _ => .pulse

/-- The code of a bead's op. -/
def beadOpCode : BeadOp → Nat
  | .pulse => 0 | .on => 1 | .off => 2

/-- A bead of a master from its entry. -/
def beadOf (e : List Byte) : Bead :=
  { position := BitVec.ofNat 64 (u64At e 0), key := BitVec.ofNat 32 (u32At e 8), ch := Fin.ofNat 128 (u8At e 12)
    op := beadOpOf (u8At e 13), onMtime := bit (u8At e 14) 0, master := true
    profile := BitVec.ofNat 8 (u8At e 15), extent := BitVec.ofNat 32 (u32At e 16) }

/-- The entry of a bead. -/
def beadBytes (x : Bead) : List Byte :=
  toLE 8 x.position.toNat ++ toLE 4 x.key.toNat ++ toLE 1 x.ch ++ toLE 1 (beadOpCode x.op) ++
    toLE 1 (b2n x.onMtime + 2 * b2n x.master) ++ toLE 1 x.profile.toNat ++ toLE 4 x.extent.toNat ++ toLE 4 0

/-- The first test that refuses an entry of VALVE_BEAD (R251). Log entries: 97 DEDUCED, 111 DEDUCED. -/
def State.beadRefused (s : State) (e : List Byte) : Option Nat :=
  let c := u8At e 12
  let prof := u8At e 15
  let kind := s.get (It.profKind (if prof = 0xff then s.get (It.chProfile c) else prof))
  if 127 < c ∨ 2 < u8At e 13 ∨ 1 < u8At e 14 ∨ (31 < prof ∧ prof ≠ 0xff) ∨ (u8At e 13 ≠ 0 ∧ u32At e 16 ≠ 0) ∨
      u32At e 20 ≠ 0 then some stRange
  else if !(if bit (u8At e 14) 0 then withinTime s.now (u64At e 0) else withinTally s.time.lane s.now (u64At e 0)) then
    some stRange
  else if s.get (It.chMode c) ≠ 1 ∨ s.get (It.bankState (c / 8)) ≠ 1 then some stConflict
  else if kind ≠ 1 then some stConflict
  else none

/-- The response of VALVE_BEAD: the first refused entry with its status. Log entry: 97 DEDUCED. -/
def beadReply (i st : Nat) : List Byte := toLE 2 i ++ toLE 2 st ++ toLE 4 0

/-- Log entry: 111 DEDUCED. -/
def opValveBead : OpFn := fun _ f s =>
  let n := u16At f.p 0
  if n = 0 ∨ 40 < n ∨ !zeroAt f.p 2 2 then (s, { status := stRange, payload := beadReply 0xffff 0 })
  else
    let es := (List.range n).map fun i => (f.p.drop (4 + 24 * i)).take 24
    match (es.map s.beadRefused).findIdx? (·.isSome) with
    | some i =>
      let st := (s.beadRefused (nth es i)).getD stRange
      (s, { status := st, payload := beadReply i st })
    | none =>
      reply (beadReply 0xffff 0) (s.modValve fun v => { v with
        waiting := v.waiting ++ es.map fun e => (s.cycle, beadOf e) })

/-- The beads of VALVE_BEAD of the cycles up to `c` pass to the drive dies with their response (R251).
Log entry: 167 DESIGN CHOICE. -/
def State.releaseBeads (c : Nat) (s : State) : State :=
  s.modValve fun v => { v with
    outbound := v.outbound ++ (v.waiting.filter fun x => decide (x.1 ≤ c)).map (·.2)
    waiting := v.waiting.filter fun x => decide (c < x.1) }

/-- The beads that BEAD_CANCEL names. Log entry: 99 DEDUCED. -/
def beadNamed (ch : Nat) (master : Bool) (key : Nat) (k : Bool × Nat × Nat) : Bool :=
  k.1 == master && (key == 0xffffffff || k.2.1 == key) && (ch == 0xff || k.2.2 % 8 == ch)

/-- Log entry: 99 DEDUCED. -/
def opBeadCancel : OpFn := fun _ f s =>
  let b := u8At f.p 0
  let ch := u8At f.p 1
  let src := u8At f.p 2
  let key := u32At f.p 4
  if 15 < b ∨ (7 < ch ∧ ch ≠ 0xff) ∨ 1 < src ∨ !zeroAt f.p 3 1 then refuse stRange s
  else
    let hit := beadNamed ch (src == 1) key
    let l := ((s.vb b).queue.filter fun q => hit (beadKey q.bead)).map (·.bead)
    let started := ((s.vb b).started.filter hit).length
    let late := fun (x : Bead) => ((s.vb b).queue.find? fun q => q.bead = x).elim 0 fun q => q.lateness s.up
    let out : List Cancelled := ((s.vb b).queue.filter fun q => hit (beadKey q.bead)).map fun q => { cycle := s.cycle, bank := b, bead := q }
    let s := { s with lanes := { s.lanes with cancelled := s.lanes.cancelled ++ out } }
    let s := l.foldl (fun s x => s.dropBead b 10 (late x) x) s
    (s, { status := if key ≠ 0xffffffff ∧ l.isEmpty ∧ 0 < started then stTooLate else stOk
          payload := toLE 2 l.length ++ toLE 2 started })

def opQueueRead : OpFn := fun _ f s =>
  let b := u8At f.p 0
  let first := u16At f.p 2
  let n := u16At f.p 4
  if 15 < b ∨ 1023 < first ∨ n = 0 ∨ 40 < n ∨ !zeroAt f.p 1 1 ∨ !zeroAt f.p 6 2 then refuse stRange s
  else
    let q := (s.vb b).queue
    let l := (q.drop first).take n
    reply (toLE 2 l.length ++ toLE 2 q.length ++ toLE 4 0 ++ l.flatMap fun x => beadBytes x.bead) s

def opBeadLogRead : OpFn := fun _ f s =>
  let b := u8At f.p 0
  if 15 < b ∨ !zeroAt f.p 1 3 then refuse stRange s
  else
    let l := (s.vb b).log
    reply (toLE 2 l.length ++ toLE 2 0 ++ toLE 4 0 ++ l.flatten) s

/-- Something that VALVE_CLEAR names is LATCHED, or its bank is in FAULT. -/
def State.clearable (s : State) (b ch : Nat) : Bool :=
  if ch = 0xff then bit (s.get (It.bankSafeCause b)) 3 || (chansOf b).any fun c => s.chSt c == chLatched
  else s.chSt (b * 8 + ch) == chLatched

/-- Log entry: 112 DEDUCED. -/
def opValveClear : OpFn := fun _ f s =>
  let b := u8At f.p 0
  let ch := u8At f.p 1
  if 15 < b ∨ (7 < ch ∧ ch ≠ 0xff) ∨ !zeroAt f.p 2 2 then refuse stRange s
  else if !s.clearable b ch then refuse stConflict s
  else reply [] (s.modValve fun v => { v with clears := v.clears ++ [(b, ch, s.clk.kLast)] })

/-- An accepted VALVE_CLEAR takes effect (R240, R243). -/
def State.clearNow (b ch : Nat) (s : State) : State :=
  if ch = 0xff then
    let s := if bit (s.get (It.bankSafeCause b)) 3 then
        s.reBank b fun s => (s.set (It.bankFault b) (s.get (It.bankFault b) &&& 2)).set (It.bankSafeCause b)
          (s.get (It.bankSafeCause b) &&& 7)
      else s
    s.each (chansOf b) State.unlatch
  else s.unlatch (b * 8 + ch)

/-- The accepted VALVE_CLEARs of a bank that a K has followed take effect. Log entry: 112 DEDUCED. -/
def State.valveClearEffect (b : Nat) (s : State) : State :=
  let due := s.valve.clears.filter fun x => x.1 == b && decide (x.2.2 < s.clk.kLast)
  let s := s.modValve fun v => { v with clears := v.clears.filter fun x => !(x.1 == b && decide (x.2.2 < s.clk.kLast)) }
  due.foldl (fun s x => s.clearNow b x.2.1) s

def execValveClearEffect (dt : Nat) (bank : Fin 16) (s : State) : Host.Outcome State Fault Refusal :=
  timedRun dt (State.valveClearEffect bank) s

/-- Log entry: 110 DESIGN CHOICE. -/
def opCoilMeasure : OpFn := fun _ f s =>
  let c := u8At f.p 0
  if 127 < c ∨ !zeroAt f.p 1 3 then refuse stRange s
  else if chIdle < s.chSt c then refuse stConflict s
  else (s.modVc c fun x => { x with measuring := true }, { wait := .coil c })

/-- A measurement ends with resistance and inductance, or passes its duration limit (R248).
Log entry: 110 DESIGN CHOICE. -/
def State.coilDone (c : Nat) (result : Option (Nat × Nat)) (s : State) : State :=
  if (s.vc c).measuring then
    let s := s.modVc c fun x => { x with measuring := false }
    match result with
    | some (r, l) => (s.measured c (some r) (some l)).answerAll (.coil c) stOk (toLE 4 r ++ toLE 4 l)
    | none => s.answerAll (.coil c) stTimeout []
  else s

def execCoilMeasureDone (dt : Nat) (ch : Fin 128) (result : Option (Nat × Nat)) (s : State) :
    Host.Outcome State Fault Refusal :=
  timedRun dt (State.coilDone ch result) s

/-! ## Admission and consistency (R249, R250) -/

/-- Rule 0x20 to 0x22 of Table 8.11, per enabled bank; amounts in mA, a demand rounded up. -/
def valveAdmission (rd : Nat → Nat) : List Failure :=
  ((List.range 16).filter fun b => rd (It.bankEnable b) == 1).flatMap fun b =>
    let cs := chansOf b
    let avail := rd (It.bankLimitA b) * 1000 / 65536
    let dith := ((cs.filter fun c => rd (It.chMode c) == 2).map fun c => rd (It.chImaxA c)).sum
    let peak := ((cs.filter fun c => rd (It.chMode c) == 1).map fun c => rd (It.chPeakA c)).foldl max 0
    let safe := ((cs.filter fun c => rd (It.chSafe c) == 1).map fun c => rd (It.chSafeA c)).sum
    admission (((dith + peak) * 1000 + 65535) / 65536) avail
      (It.bankEnable b :: It.bankLimitA b :: cs.flatMap fun c => [It.chMode c, It.chImaxA c, It.chPeakA c]) 0x20 7 ++
    admission ((safe * 1000 + 65535) / 65536) avail
      (It.bankEnable b :: It.bankLimitA b :: cs.flatMap fun c => [It.chSafe c, It.chSafeA c]) 0x21 7 ++
    admission ((rd (It.bankRateDecl b) * rd (It.bankDwellMs b) + 999) / 1000) 1024 [It.bankRateDecl b, It.bankDwellMs b, It.bankEnable b] 0x22 8

/-- Rules 0x10 to 0x14 of Table 8.12; `eject` the channels of the ejector map in force (rule 0x14). -/
def valveRules (rd : Nat → Nat) (eject : List Nat) : List Failure :=
  (List.range 128).flatMap (fun c =>
    let mode := rd (It.chMode c)
    let kind := rd (It.profKind (rd (It.chProfile c)))
    require (decide (rd (It.chHoldA c) < rd (It.chPeakA c))) [It.chHoldA c, It.chPeakA c] 0x10 ++
    require (mode == 0 || kind == mode) [It.chProfile c, It.chMode c, It.profKind (rd (It.chProfile c))] 0x10 ++
    require (decide (rd (It.chSetpointA c) ≤ rd (It.chImaxA c))) [It.chSetpointA c, It.chImaxA c] 0x11 ++
    require ((mode != 2 || decide (rd (It.chSafeA c) ≤ rd (It.chImaxA c))) &&
      (mode != 1 || decide (rd (It.chSafeA c) ≤ rd (It.chPeakA c)))) [It.chSafeA c, It.chMode c, It.chImaxA c, It.chPeakA c] 0x11 ++
    require (mode == 0 || rd (It.bankEnable (c / 8)) == 1) [It.chMode c, It.bankEnable (c / 8)] 0x12) ++
  ((List.range 128).filter fun l => rd (It.rodEnable l) == 1 && rd (It.rodDest l) == 1).flatMap (fun l =>
    require (rd (It.chMode (rd (It.rodDestCh l))) == 2) [It.chMode (rd (It.rodDestCh l))] 0x13) ++
  ((List.range 16).filter fun m => rd (It.beamEnable m) == 1 && rd (It.beamDest m) == 1).flatMap (fun m =>
    require (rd (It.chMode (rd (It.beamDestCh m))) == 2) [It.chMode (rd (It.beamDestCh m))] 0x13) ++
  eject.flatMap (fun c => require (rd (It.chMode c) == 1) [It.chMode c] 0x14) ++
  require (rd (It.profKind (rd It.tkEjectProfile)) == 1) [It.profKind (rd It.tkEjectProfile), It.tkEjectProfile] 0x14

end Sys2Proof.Machine
end

