-- ==== Sys2Proof/Machine/Rods.lean ====
section
/-! DEFINITION. Rod engines, loops, beams and cascades (spec 07). Arithmetic is in q16.16, saturating, rounded down (R202). -/

namespace Sys2Proof.Machine

def State.modRods (f : RodBank → RodBank) (s : State) : State := { s with rods := f s.rods }

/-- One loop. -/
def State.rod (s : State) (l : Nat) : Rod := nth s.rods.rods l

def State.modRod (l : Nat) (f : Rod → Rod) (s : State) : State :=
  s.modRods fun r => { r with rods := upd r.rods l f }

/-- One beam. -/
def State.beam (s : State) (m : Nat) : Beam := nth s.rods.beams m

def State.modBeam (m : Nat) (f : Beam → Beam) (s : State) : State :=
  s.modRods fun r => { r with beams := upd r.beams m f }

/-! ## Saturating arithmetic -/

/-- A number limited to q16.16. -/
def qs (i : Int) : Int := clampInt (-2147483648) 2147483647 i

/-- The product of two q16.16 numbers. -/
def qm (a b : Int) : Int := qs (fdiv (a * b) 65536)

/-! ## Loop states (Table 7.3) as codes -/

@[reducible] def rodOff : Nat := 0
@[reducible] def rodRun : Nat := 1
@[reducible] def rodHold : Nat := 2
@[reducible] def rodWaiting : Nat := 3
@[reducible] def rodFailsafeSt : Nat := 4

/-- A change of rod_state with its event (R210). -/
def State.setRod (l st cause : Nat) (s : State) : State :=
  if s.get (It.rodState l) = st then s
  else (s.set (It.rodState l) st).emit 0x0680
    (toLE 1 l ++ toLE 1 0 ++ toLE 2 st ++ toLE 2 cause ++ toLE 2 0 ++ toLE 8 s.now)

/-! ## Who belongs to what (R195, R205, R206), under some settings -/

/-- The member loops of a beam, in slot order. -/
def beamLoops (rd : Nat → Nat) (m : Nat) : List Nat :=
  ((List.range 16).filter (bit (rd (It.beamMembers m)))).map (rd (It.beamEngine m) * 16 + ·)

/-- The enabled beam of which a loop is a member. -/
def beamOf (rd : Nat → Nat) (l : Nat) : Option Nat :=
  (List.range 16).find? fun m => rd (It.beamEnable m) == 1 && (beamLoops rd m).contains l

/-- The outer loops of a cascade: its loop, or the members of its beam. -/
def casOuters (rd : Nat → Nat) (k : Nat) : List Nat :=
  if rd (It.casOuterKind k) = 0 then [rd (It.casOuter k)] else beamLoops rd (rd (It.casOuter k))

/-- The enabled cascade whose inner loop a loop is. -/
def innerOf (rd : Nat → Nat) (l : Nat) : Option Nat :=
  (List.range 8).find? fun k => rd (It.casEnable k) == 1 && rd (It.casInner k) == l

/-- The enabled cascades that a loop feeds, itself or as a member of the outer beam; rule 0x14 allows one outer several inners. -/
def outersOf (rd : Nat → Nat) (l : Nat) : List Nat :=
  (List.range 8).filter fun k => rd (It.casEnable k) == 1 && (casOuters rd k).contains l

/-- The members of a beam that are not OFF. -/
def State.beamOn (s : State) (m : Nat) : List Nat :=
  (beamLoops s.useK m).filter fun l => s.get (It.rodState l) != rodOff

/-! ## Sources (R201, Table 7.1) -/

/-- The value of a source before this release, and whether it is valid for a loop. -/
def State.rodSource (s : State) (l code inst : Nat) : Int × Bool :=
  let snap := s.sb.snap.items.read s.variant
  match code with
  | 0 => (0, true)
  | 1 => (s.geti (It.stValue inst), s.get (It.stState inst) == 2 && s.get (It.stGuard inst) == 0)
  | 2 => (signed32 (snap (It.fuValue inst)), decide (snap (It.fuQuality inst) ≤ s.useK (It.rodMinQuality l)))
  | 3 => (s.geti (It.aiValue inst), s.get (It.aiGuard inst) == 0)
  | 4 => (qs (s.geti (It.encRate inst) * 65536), s.get (It.encGuard inst) == 0)
  | 5 => (s.geti (It.chCurrentA inst), s.follows inst)
  | 6 =>
    (if (s.rod inst).outAt = some s.now then (s.rod inst).prev else s.geti (It.rodOut inst), s.get (It.rodState inst) != rodOff)
  | 7 => (qs ((s.time.lane.rate * 65536 / 1000 : Nat) : Int), s.time.lane.st == .running)
  | 8 =>
    (if (s.beam inst).at_ = some s.now then (s.beam inst).prev else s.geti (It.beamOut inst),
      !(s.beamOn inst).isEmpty)
  | _ => (0, false)

/-- The valve channel that a loop's values reach: its own, or that of its beam (R204). -/
def State.rodChannel (s : State) (l : Nat) : Option Nat :=
  if s.useK (It.rodDest l) = 1 then some (s.useK (It.rodDestCh l))
  else match beamOf s.useK l with
    | some m => if s.useK (It.beamDest m) = 1 then some (s.useK (It.beamDestCh m)) else none
    | none => none

/-- The destination of a loop follows (R204). -/
def State.rodFollows (s : State) (l : Nat) : Bool :=
  match s.rodChannel l with
  | some c => s.follows c
  | none => true

/-! ## Writing outputs (R203, R206, R213) -/

/-- A set-point sent to a valve channel by the lane that the role latch names. Log entry: 167 DESIGN CHOICE. -/
def State.toChannel (c : Nat) (u : Int) (s : State) : State :=
  if s.lanes.accepting then s.modValve fun v => { v with setOut := v.setOut ++ [(c, twos 32 u)] } else s

/-- An outer output becomes cas_inner_sp (R206). -/
def State.setInner (k : Nat) (u : Int) (s : State) : State := s.seti (It.casInnerSp k) (qm u (s.useKi (It.casSpScale k)))

/-- The output of a loop changed at this instant. -/
def State.setOutput (l : Nat) (u : Int) (s : State) : State :=
  let now := s.geti (It.rodOut l)
  let r := s.rod l
  (s.modRod l fun r' => { r' with prev := if r.outAt = some s.now then r.prev else now, outAt := some s.now }).seti (It.rodOut l) u

/-- A loop's output written to its channel, and to the cascades of which the loop itself is the outer. -/
def State.writeOut (l : Nat) (u : Int) (s : State) : State :=
  let s := if s.useK (It.rodDest l) = 1 then s.toChannel (s.useK (It.rodDestCh l)) u else s
  s.each ((outersOf s.useK l).filter fun k => s.useK (It.casOuterKind k) == 0) fun k s => s.setInner k u

/-! ## Flags -/

/-- rod_flags: some bits of the flags replaced by others. -/
def State.modFlags (l keep add : Nat) (s : State) : State := s.set (It.rodFlags l) ((s.get (It.rodFlags l) &&& keep) ||| add)

/-- Bits [0], [1] and [2] from output and integrator. Log entry: 95 DEDUCED. -/
def State.limitFlags (s : State) (l : Nat) : Nat :=
  let u := s.geti (It.rodOut l)
  let i := s.geti (It.rodI l)
  b2n (decide (s.useKi (It.rodOutMax l) ≤ u)) + 2 * b2n (decide (u ≤ s.useKi (It.rodOutMin l))) +
    4 * b2n (decide (i ≤ s.useKi (It.rodIMin l)) || decide (s.useKi (It.rodIMax l) ≤ i))

/-! ## Cascades (R207, R208) -/

/-- cas_state from its ends: 0 OFF, 1 COUPLED, 2 INNER_SATURATED, 3 INNER_FAILSAFE. -/
def State.casCode (s : State) (k : Nat) : Nat :=
  let rd := s.useK
  let inner := rd (It.casInner k)
  let st := s.get (It.rodState inner)
  let outerOn := if rd (It.casOuterKind k) = 0 then s.get (It.rodState (rd (It.casOuter k))) != rodOff
    else !(s.beamOn (rd (It.casOuter k))).isEmpty
  if rd (It.casEnable k) = 0 ∨ st = rodOff ∨ !outerOn then 0
  else if st = rodFailsafeSt then 3
  else if (s.rod inner).sat ≠ 0 then 2
  else 1

/-- A cascade judged: leaving OFF it starts from the inner's sp; becoming OFF the inner starts from cas_inner_sp (R208). -/
def State.casJudge (k : Nat) (s : State) : State :=
  let old := s.get (It.casState k)
  let new := s.casCode k
  if new = old then s
  else
    let inner := s.useK (It.casInner k)
    let r := s.rod inner
    let s := if old = 0 then
        s.seti (It.casInnerSp k) (if r.runAt.isSome then r.sp else s.useKi (It.setPoint inner)) else s
    let s := if new = 0 then s.modRod inner fun r => { r with sp := s.geti (It.casInnerSp k) } else s
    let s := if new = 2 then s.bump (It.casSaturations k) else s
    (s.set (It.casState k) new).emit 0x0682 (toLE 1 k ++ toLE 1 0 ++ toLE 2 new ++ toLE 4 0 ++ toLE 8 s.now)

/-- The cascades that a loop belongs to judged. -/
def State.casOf (l : Nat) (s : State) : State :=
  let s := match innerOf s.useK l with
    | some k => s.casJudge k
    | none => s
  s.each (outersOf s.useK l) State.casJudge

/-! ## Beams (R205, R218) -/

/-- BEAM_WINNER when changes wait and 100 ms have passed since the last one (R218). -/
def State.beamEvent (m : Nat) (s : State) : State :=
  let x := s.beam m
  let spaced := match x.evAt with
    | some t => decide (t + 100000000 ≤ s.now)
    | none => true
  if x.chg != 0 && spaced then
    (s.modBeam m fun x => { x with chg := 0, evAt := some s.now }).emit 0x0681
      (toLE 1 m ++ toLE 1 (s.get (It.beamWinner m)) ++ toLE 2 (min x.chg 65535) ++ toLE 4 0 ++ toLE 8 s.now)
  else s

/-- The winner of an evaluation; the first after an enable counts no change. Log entry: 92 DEDUCED. -/
def State.beamWon (m w : Nat) (s : State) : State :=
  let old := s.get (It.beamWinner m)
  if w = old then s
  else
    let s := s.set (It.beamWinner m) w
    if old = 255 then s
    else ((s.bump (It.beamSwitches m)).modBeam m fun x => { x with chg := x.chg + 1 }).beamEvent m

/-- A member above the ceiling of its beam: its integrator is held so that its output stays at the ceiling.
Log entry: 92 DEDUCED. -/
def State.holdMember (ceil : Int) (l : Nat) (s : State) : State :=
  let r := s.rod l
  if r.okRun ∧ r.runAt = some s.now ∧ ceil < s.geti (It.rodOut l) then
    let i := max (min (s.geti (It.rodI l)) (qs (ceil - r.rest))) (s.useKi (It.rodIMin l))
    let lo := s.useKi (It.rodOutMin l)
    let hi := s.useKi (It.rodOutMax l)
    let u := clampInt lo hi (qs (r.rest + i))
    let s := ((s.seti (It.rodI l) i).seti (It.rodOut l) u).modRod l fun r => { r with
      sat := if hi ≤ u then 1 else if u ≤ lo then -1 else 0 }
    s.modFlags l (1023 - 15) (8 + s.limitFlags l)
  else s

/-- evaluate(B) (R205). Log entry: 92 DEDUCED. -/
def State.evaluate (m : Nat) (s : State) : State :=
  let on := s.beamOn m
  let limit := s.useKi (It.beamLimit m)
  let best := on.foldl (fun (a : Int × Nat) l => if s.geti (It.rodOut l) < a.1 then (s.geti (It.rodOut l), l % 16) else a) (limit, 16)
  let ceil := qs (best.1 + s.useKi (It.beamHeadroom m))
  let s := s.each on (State.holdMember ceil)
  let old := s.geti (It.beamOut m)
  let x := s.beam m
  let s := (s.modBeam m fun y => { y with
    prev := if x.at_ = some s.now then x.prev else old, at_ := some s.now, carry := s.get It.carryNumber
    members := s.useK (It.beamMembers m), limit := s.useK (It.beamLimit m)
    outs := (beamLoops s.useK m).map fun l => if s.get (It.rodState l) = rodOff then 0 else s.get (It.rodOut l) }).seti
      (It.beamOut m) best.1
  let s := (s.set (It.beamLastEval m) s.now).beamWon m best.2
  let s := if s.useK (It.beamDest m) = 1 then s.toChannel (s.useK (It.beamDestCh m)) best.1 else s
  s.each ((List.range 8).filter fun k =>
    s.useK (It.casEnable k) == 1 && s.useK (It.casOuterKind k) == 1 && s.useK (It.casOuter k) == m) fun k s => s.setInner k best.1

/-- The beam evaluated in the run of its highest-numbered member that is not OFF, unless the run of a member in this release does
not complete: an abandoned member run abandons the evaluation with it (R209). Log entry: 92 DEDUCED. -/
def State.evaluateFor (l : Nat) (s : State) : State :=
  match beamOf s.useK l with
  | some m =>
    let on := s.beamOn m
    if on.getLast? = some l ∧ on.all (fun k => (s.rod k).running.isNone) then s.evaluate m else s
  | none => s

/-! ## FAILSAFE (R210) -/

/-- u_fs written to the destination at a run in mode 0. Log entry: 91 DEDUCED. -/
def State.failsafeWrite (l : Nat) (s : State) : State :=
  if s.useK (It.rodFailsafeMode l) = 0 then
    let u := (s.rod l).fs
    (s.setOutput l u).writeOut l u
  else s

/-- A loop enters FAILSAFE: u_fs by its mode; in mode 2 its channel alone goes to its safe state.
Log entry: 91 DEDUCED. -/
def State.enterFailsafe (l cause : Nat) (s : State) : State :=
  let mode := s.useK (It.rodFailsafeMode l)
  let u := if mode = 0 then s.useKi (It.rodFailsafe l) else if mode = 1 then s.geti (It.rodOut l) else s.useKi (It.rodOutMin l)
  let hold := if mode = 2 ∧ s.useK (It.rodDest l) = 1 then some (s.useK (It.rodDestCh l)) else none
  let s := (s.bump (It.rodFailsafes l)).modRod l fun r => { r with fs := u, fsChan := hold, good := 0 }
  let s := match hold with
    | some c => s.rodSafe c true
    | none => s
  let s := s.setRod l rodFailsafeSt cause
  (if mode = 1 then s else s.setOutput l u).failsafeWrite l

/-- A loop leaves FAILSAFE: its channel leaves the safe state that the loop held it in. Log entry: 91 DEDUCED. -/
def State.leaveFailsafe (l : Nat) (s : State) : State :=
  match (s.rod l).fsChan with
  | some c => (s.modRod l fun r => { r with fsChan := none }).rodSafe c false
  | none => s

/-- The drive dies hold in SAFE exactly the channels that the loops of the lane hold there: what a lane sends when it comes to drive
the outputs, at a start (Table 8.5: a loop that has left FAILSAFE has left it for its channel too) and after a handover (R31).
Log entry: 91 DEDUCED. -/
def State.rodSafeSync (s : State) : State :=
  s.each (List.range 128) fun c s => s.rodSafe c (s.rods.rods.any fun r => r.fsChan == some c)

/-! ## The run (R202) -/

/-- The gains of a loop in use. -/
def State.gains (s : State) (l : Nat) : Gains :=
  { kp := s.useKi (It.rodKp l), ti := s.useK (It.rodTi l), weight := s.useKi (It.rodSpWeight l)
    kff := s.useKi (It.rodKff l), bias := s.useKi (It.rodBias l) }

/-- The nominal step dt (R198). Log entry: 95 DEDUCED. -/
def State.rodDt (s : State) (l : Nat) : Int :=
  if s.useK (It.rodClock l) = 0 then s.useK (It.rodPeriodUs l) else 1000 * s.useK (It.rodTallyUnits l)

/-- p, d, rest and the integrator step of a run. -/
structure LawOut where
  p : Int
  d : Int
  rest : Int
  di : Int

/-- The terms of the law with some gains. Log entry: 95 DEDUCED. -/
def State.law (s : State) (l : Nat) (g : Gains) (sp pv ffv d pvPrev : Int) : LawOut :=
  let dt := s.rodDt l
  let td : Int := s.useK (It.rodTd l)
  let tf : Int := s.useK (It.rodTf l)
  let p := qm g.kp (qs (qm g.weight sp - pv))
  let d := if 0 < td then qs (fdiv (tf * d - fdiv (g.kp * td * (pv - pvPrev)) 65536) (tf + dt)) else 0
  { p := p, d := d, rest := qs (p + d + qm ffv g.kff + g.bias)
    di := if 0 < g.ti then qs (fdiv (g.kp * dt * qs (sp - pv)) (g.ti * 65536)) else 0 }

/-- The integrator step that counts: none while the destination does not follow, and none that would drive a saturated inner
further into its clamp (R202, R204, R207); with whether a cascade held it. -/
def State.rodStep (s : State) (l : Nat) (follows : Bool) (di : Int) : Int × Bool :=
  if !follows then (0, false)
  else
    let held := (outersOf s.useK l).any fun k =>
      let inner := s.useK (It.casInner k)
      let dir := Int.sign (di * s.useKi (It.casSpScale k) * s.useKi (It.rodKp inner))
      s.get (It.casState k) == 2 && s.useK (It.casWindup k) == 1 && dir != 0 && dir == (s.rod inner).sat
    (if held then 0 else di, held)

/-- u_0 of a bumpless initialisation (R212, R204). -/
def State.bumpFrom (s : State) (l : Nat) (i : RodInit) : Int :=
  let ch := if s.useK (It.rodDest l) = 1 then some (s.useK (It.rodDestCh l)) else if i = .dest then s.rodChannel l else none
  match i, ch with
  | .failsafe, _ => (s.rod l).fs
  | _, some c => s.geti (It.chSpInUseA c)
  | _, none => s.geti (It.rodOut l)

/-- One record of the trace buffer (Table 7.6), when the loop is the traced one. Log entry: 90 DEDUCED. -/
def State.traceRun (l at_ execNs : Nat) (ff : Int) (s : State) : State :=
  match s.rods.trace with
  | some t =>
    if t.loop = l ∧ t.runs.length < t.want then
      let r := s.rod l
      let rec_ := toLE 8 at_ ++ toLE 4 (s.get (It.rodPv l)) ++ toLE 4 (twos 32 r.sp) ++ toLE 4 (twos 32 r.p) ++
        toLE 4 (s.get (It.rodI l)) ++ toLE 4 (twos 32 r.d) ++ toLE 4 (twos 32 ff) ++ toLE 4 (s.get (It.rodOut l)) ++
        toLE 2 (s.get (It.rodFlags l)) ++ toLE 2 (min (execNs / 10) 65535)
      s.modRods fun b => { b with trace := some { t with runs := t.runs ++ [rec_] } }
    else s
  | none => s

/-- A run whose sources are not all valid (R202, Table 7.3). Log entry: 90 DEDUCED. -/
def State.heldRun (l : Nat) (s : State) : State :=
  let s := (s.modRod l fun r => { r with inval := r.inval + 1, good := 0 }).bump (It.rodInvalidRuns l)
  let s := s.modFlags l (1023 - 32) 16
  let s :=
    if s.get (It.rodState l) = rodFailsafeSt then s.failsafeWrite l
    else if s.useK (It.rodInvalidN l) ≤ (s.rod l).inval then s.enterFailsafe l 2
    else s.setRod l rodHold 2
  (s.evaluateFor l).casOf l

/-- A run with valid sources: the law, the state, the beam and the write. Log entry: 90 DEDUCED. -/
def State.fullRun (l : Nat) (pvRaw ffv : Int) (follows : Bool) (s : State) : State :=
  let r := s.rod l
  let st := s.get (It.rodState l)
  let g := s.gains l
  let pv := qm pvRaw (s.useKi (It.rodPvScale l))
  let cas := (innerOf s.useK l).filter fun k => s.get (It.casState k) != 0
  let target := match cas with
    | some k => s.geti (It.casInnerSp k)
    | none => s.useKi (It.setPoint l)
  let rate : Int := s.useKi (It.rodSpRate l)
  let sp0 := if r.init.isSome ∧ 0 < rate then pv else r.sp
  let d0 := if r.init.isSome then 0 else r.d
  let pv0 := if r.init.isSome then pv else s.geti (It.rodPv l)
  let step := qs (fdiv (rate * s.rodDt l) (if s.useK (It.rodClock l) = 0 then 1000000 else 1000))
  let sp := if step = 0 then target else qs (sp0 + clampInt (-step) step (qs (target - sp0)))
  let o := s.law l g sp pv ffv d0 pv0
  let (di, casHeld) := s.rodStep l follows o.di
  let frozen := (outersOf s.useK l).any fun k => s.get (It.casState k) == 3
  let lo := s.useKi (It.rodOutMin l)
  let hi := s.useKi (It.rodOutMax l)
  let i0 := s.geti (It.rodI l)
  let i1 := match r.init, r.old with
    | some k, _ => qs (s.bumpFrom l k - o.rest)
    | none, some old =>
      let q := s.law l old sp pv ffv d0 pv0
      qs (i0 + (s.rodStep l follows q.di).1 + q.rest - o.rest)
    | none, none => qs (i0 + di)
  let i2 := clampInt (s.useKi (It.rodIMin l)) (s.useKi (It.rodIMax l)) (clampInt (qs (lo - o.rest)) (qs (hi - o.rest)) i1)
  let fsRun := st == rodFailsafeSt
  let i := if fsRun then qs (r.fs - o.rest) else if frozen then i0 else i2
  let u := if fsRun then r.fs else if frozen then s.geti (It.rodOut l) else clampInt lo hi (qs (o.rest + i2))
  let good := r.good + 1
  let s := s.modRod l fun r => { r with
    sp := sp, d := o.d, p := o.p, rest := o.rest, inval := 0, overs := 0, good := if fsRun then good else 0
    init := none, old := none, sat := if hi ≤ u then 1 else if u ≤ lo then -1 else 0 }
  let s := ((s.setOutput l u).seti (It.rodPv l) pv).seti (It.rodSpEff l) sp
  let s := s.seti (It.rodI l) i
  let s := s.modFlags l 128 (s.limitFlags l + 64 * b2n (sp != target) + 256 * b2n cas.isSome + 512 * b2n (casHeld || frozen))
  let s :=
    if fsRun then
      if s.useK (It.rodRecover l) = 1 ∧ 8 ≤ good then (s.leaveFailsafe l).setRod l rodRun 4 else s
    else s.setRod l rodRun 4
  let s := s.modRod l fun r => { r with okRun := !fsRun && !frozen }
  let s := s.evaluateFor l
  let s := if fsRun then s.failsafeWrite l else if frozen then s else s.writeOut l (s.geti (It.rodOut l))
  s.casOf l

/-- A completed run of a loop. -/
def State.runLoop (l : Nat) (run : RodRun) (s : State) : State :=
  let s := (s.set (It.rodExecMaxNs l) (max (s.get (It.rodExecMaxNs l)) (sat32 run.ns))).set (It.rodLastRelease l) run.at_
  let s := s.modRod l fun r => { r with runAt := some run.at_, tally := run.tally, carry := run.carry }
  let pv := s.rodSource l (s.useK (It.rodPvSrc l)) (s.useK (It.rodPvInst l))
  let ff := s.rodSource l (s.useK (It.rodFfSrc l)) (s.useK (It.rodFfInst l))
  let follows := s.rodFollows l
  let again := follows && (s.rod l).nofollow
  let s := s.modRod l fun r => { r with
    nofollow := !follows, okRun := false
    init := if again then (match r.init with
      | some i => some i
      | none => some .dest) else r.init }
  let s := s.modFlags l (1023 - 128) (128 * b2n (!follows))
  let s := if pv.2 && ff.2 then s.fullRun l pv.1 ff.1 follows else s.heldRun l
  s.traceRun l run.at_ run.ns (qm ff.1 (s.useKi (It.rodKff l)))

/-! ## Releases, deadlines and abandoned runs (R196 to R199, R209) -/

/-- The next release unit of a tally-clocked loop after a count (R197). -/
def nextUnit (units off now : Nat) : Nat :=
  twos 48 ((fdiv ((now : Int) - off) units + 1) * units + off)

/-- A release position or instant of a loop is reached and not yet taken (R196, R197). Log entry: 88 DESIGN CHOICE. -/
def State.releaseNow (s : State) (l : Nat) : Bool :=
  let rd := s.useK
  s.get (It.rodState l) != rodOff && (s.rod l).relAt != some s.now &&
  if rd (It.rodClock l) = 0 then
    decide (((s.now : Int) - 1000 * (rd (It.rodPhaseUs l) : Int)) % (1000 * (rd (It.rodPeriodUs l) : Int)) = 0)
  else s.time.lane.st == .running && s.time.lane.reached s.now ((s.rod l).npos * 65536)

/-- A release of a loop is due now, and those of the slots before it on its engine that are due now have been taken: the engine
runs the released loops in slot order (R199). Log entry: 88 DESIGN CHOICE. -/
def State.releaseDue (s : State) (l : Nat) : Bool :=
  s.releaseNow l && (List.range (l % 16)).all fun k => !s.releaseNow (l / 16 * 16 + k)

/-- The runs of an engine, in slot order, after a time. -/
def jobsRun : Nat → List RodJob → List RodJob
  | _, [] => []
  | t, j :: js =>
    match j.left with
    | none => { j with begun := j.begun || decide (0 < t) } :: js
    | some n => if n ≤ t then jobsRun (t - n) js else { j with left := some (n - t), begun := j.begun || decide (0 < t) } :: js

/-- A run joins those of its engine; a run in progress of a lower-priority slot is preempted (R199). Log entry: 88 DESIGN CHOICE. -/
def State.startJob (l : Nat) (left : Option Nat) (s : State) : State :=
  let e := l / 16
  let k := l % 16
  let js := jobsRun (s.up - nth s.rods.jobsAt e) (nth s.rods.jobs e)
  let s := s.modRods fun b => { b with
    jobs := upd b.jobs e fun _ => js.filter (fun j => decide (j.slot < k)) ++ [{ slot := k, left := left }] ++
      js.filter fun j => decide (k < j.slot)
    jobsAt := upd b.jobsAt e fun _ => s.up }
  if js.head?.any fun j => j.begun && decide (k < j.slot) then s.bump (It.engPreemptions e) else s

/-- A run that ends without completing leaves its engine. -/
def State.dropJob (l : Nat) (s : State) : State :=
  let e := l / 16
  let js := jobsRun (s.up - nth s.rods.jobsAt e) (nth s.rods.jobs e)
  s.modRods fun b => { b with
    jobs := upd b.jobs e fun _ => js.filter fun j => j.slot != l % 16
    jobsAt := upd b.jobsAt e fun _ => s.up }

/-- A run abandoned at its deadline (R209, Table 7.3). -/
def State.abandon (l : Nat) (s : State) : State :=
  match (s.rod l).running with
  | none => s
  | some run =>
    let s := (s.modRod l fun r => { r with running := none, overs := r.overs + 1, good := 0, okRun := false }).bump (It.rodOverruns l)
    let s := (s.dropJob l).modFlags l 1023 32
    let s :=
      if s.get (It.rodState l) = rodFailsafeSt then s
      else if s.useK (It.rodOverrunN l) ≤ (s.rod l).overs then s.enterFailsafe l 1
      else s.setRod l rodHold 1
    (s.casOf l).traceRun l run.at_ run.ns 0

/-- The instant of the next release of an mtime-clocked loop after one at `t`. -/
def State.nextRelease (s : State) (l t : Nat) : Int :=
  let p : Int := 1000 * s.useK (It.rodPeriodUs l)
  let f : Int := 1000 * s.useK (It.rodPhaseUs l)
  (fdiv ((t : Int) - f) p + 1) * p + f

/-- The deadline of a loop's run in progress has passed: its own next release, or that of the inner it feeds (R209). -/
def State.deadlinePassed (s : State) (l t : Nat) : Bool :=
  (outersOf s.useK l).any (fun k => decide (s.nextRelease (s.useK (It.casInner k)) t ≤ s.now)) ||
  if s.useK (It.rodClock l) = 0 then decide (s.nextRelease l t ≤ s.now)
  else s.time.lane.st == .running && s.time.lane.reached s.now ((s.rod l).npos * 65536)

/-- A release: a lower-priority run in progress is preempted (R199), an unfinished run of the loop is abandoned, and the loop
runs once; `completes` says that its run completes on time. A run that does not changes no state of the law (R209).
Log entry: 88 DESIGN CHOICE. -/
def State.loopRelease (l : Nat) (completes : Bool) (execNs : Nat) (s : State) : State :=
  if s.releaseDue l then
    let s := (s.abandon l).startJob l (if completes then some execNs else none)
    let run : RodRun := { at_ := s.now, tally := s.pos, carry := s.get It.carryNumber, ns := execNs }
    let s := s.modRod l fun r => { r with
      relAt := some s.now, npos := nextUnit (s.useK (It.rodTallyUnits l)) (s.useK (It.rodTallyOffset l)) s.time.lane.int }
    let s := s.modRods fun b => { b with load := upd b.load (l / 16) fun q => q ++ [(s.now, execNs)] }
    if completes then s.runLoop l run else s.modRod l fun r => { r with running := some run }
  else s

/-- Log entry: 88 DESIGN CHOICE. -/
def execLoopRelease (dt : Nat) (loop : Fin 128) (completes : Bool) (execNs : Nat) (s : State) :
    Host.Outcome State Fault Refusal :=
  timedRun dt (State.loopRelease loop completes execNs) s

/-- Log entry: 88 DESIGN CHOICE. -/
def execRunDeadline (dt : Nat) (loop : Fin 128) (s : State) : Host.Outcome State Fault Refusal :=
  timedRun dt (fun s =>
    match (s.rod loop).running with
    | some run => if s.deadlinePassed loop run.at_ then s.abandon loop else s
    | none => s) s

/-! ## The K (R197, R212) -/

/-- FAILSAFE ended for RUN by ROD_RESET (cause 5) or a carry (cause 6). Log entry: 91 DEDUCED. -/
def State.endFailsafe (l cause : Nat) (s : State) : State :=
  let s := s.modRod l fun r => { r with ending := none }
  if s.get (It.rodState l) = rodFailsafeSt then
    (((s.leaveFailsafe l).modRod l fun r => { r with init := some .failsafe, inval := 0, overs := 0 }).setRod l rodRun cause).casOf l
  else s

/-- The pending reset of a loop takes effect once a K has followed (R210). -/
def State.rodResetEffect (l : Nat) (s : State) : State :=
  match (s.rod l).ending with
  | some (k, cause) => if k < s.clk.kLast then s.endFailsafe l cause else s
  | none => s

def execRodResetEffect (dt : Nat) (loop : Fin 128) (s : State) : Host.Outcome State Fault Refusal :=
  timedRun dt (State.rodResetEffect loop) s

/-- A loop takes the settings of a K; `old` reads those before (R212, Table 7.3). -/
def State.rodSettings (old : Nat → Nat) (l : Nat) (s : State) : State :=
  let rd := s.useK
  let st := s.get (It.rodState l)
  let next := nextUnit (rd (It.rodTallyUnits l)) (rd (It.rodTallyOffset l)) s.time.lane.int
  if rd (It.rodEnable l) = 1 ∧ st = rodOff then
    (s.modRod l fun r => { r with
      init := some .enable, old := none, nofollow := false, inval := 0, overs := 0, good := 0, npos := next, running := none }).setRod l
        rodRun 0
  else if rd (It.rodEnable l) = 0 ∧ st ≠ rodOff then
    ((((s.leaveFailsafe l).dropJob l).modRod l fun r => { r with running := none, ending := none }).setRod l rodOff 7).set (It.rodFlags l) 0
  else
    let changed := fun (k : Nat) => old k != rd k
    let s := if changed (It.rodClock l) || changed (It.rodTallyUnits l) || changed (It.rodTallyOffset l) then
      s.modRod l fun r => { r with npos := next } else s
    let gain := changed (It.rodKp l) || changed (It.rodTi l) || changed (It.rodSpWeight l) || changed (It.rodKff l) ||
      changed (It.rodBias l)
    if gain && rd (It.rodBumpless l) == 1 && (s.rod l).init.isNone && (s.rod l).old.isNone then
      s.modRod l fun r => { r with old := some {
        kp := signed32 (old (It.rodKp l)), ti := old (It.rodTi l), weight := signed32 (old (It.rodSpWeight l))
        kff := signed32 (old (It.rodKff l)), bias := signed32 (old (It.rodBias l)) } }
    else s

/-! ## Admission (R215, R216) -/

/-- The cost of a source of a run (Table 7.7). -/
def sourceCost (code : Nat) : Nat :=
  match code with
  | 3 | 4 | 5 | 7 => 60
  | 1 | 2 | 6 | 8 => 100
  | _ => 0

/-- A loop is the last, or only, outer of an enabled cascade. -/
def writesInner (rd : Nat → Nat) (l : Nat) : Bool :=
  (List.range 8).any fun k => rd (It.casEnable k) == 1 && (casOuters rd k).getLast? == some l

/-- c_i (Table 7.7). -/
def rodCost (rd : Nat → Nat) (l : Nat) : Nat :=
  400 + sourceCost (rd (It.rodPvSrc l)) + sourceCost (rd (It.rodFfSrc l)) +
  (if rd (It.rodTd l) = 0 then 0 else 150) + (if rd (It.rodSpRate l) = 0 then 0 else 50) +
  (if rd (It.rodDest l) = 1 then 120 else 0) +
  (match beamOf rd l with
    | some m => if (beamLoops rd m).getLast? = some l then
        80 + 40 * (beamLoops rd m).length + (if rd (It.beamDest m) = 1 then 120 else 0) else 0
    | none => 0) +
  (if writesInner rd l then 60 else 0)

/-- P_i in ns as a fraction (R215); a tally source without edges has no shortest period, and the fraction a divisor 0. -/
def rodPeriod (rd : Nat → Nat) (l : Nat) : Nat × Nat :=
  if rd (It.rodClock l) = 0 then (rd (It.rodPeriodUs l) * 1000, 1)
  else (rd (It.rodTallyUnits l) * rd It.tallyPrescale * 1000000000, tallyEdgeRate rd)

/-- D_i in ns as a fraction: the period of the loop, or the shortest of the inners that it feeds (R216). -/
def rodDeadline (rd : Nat → Nat) (l : Nat) : Nat × Nat :=
  (outersOf rd l).foldl (fun d k => let p := rodPeriod rd (rd (It.casInner k)); if p.1 * d.2 < d.1 * p.2 then p else d) (rodPeriod rd l)

/-- The least whole number of times that a period fits at or above a time; none of a period without bound. -/
def ceilTimes (r : Nat) (p : Nat × Nat) : Nat := if p.1 = 0 then 0 else (r * p.2 + p.1 - 1) / p.1

/-- A time exceeds a deadline. -/
def exceeds (r : Nat) (d : Nat × Nat) : Bool := decide (d.1 < r * d.2)

/-- The enabled loops of higher priority on the engine of a loop. Log entry: 94 DESIGN CHOICE. -/
def rodAbove (rd : Nat → Nat) (l : Nat) : List Nat :=
  ((List.range (l % 16)).map (l / 16 * 16 + ·)).filter fun j => rd (It.rodEnable j) == 1

/-- The iteration of R_i (R216); it stops at a fixed point or above the deadline. Each step adds at least 1 ns, and a deadline
lies below 2^63, so that `fuel` steps of the host's choice suffice for every deadline up to the fuel.
Log entry: 94 DESIGN CHOICE. -/
def responseFrom (above : List (Nat × (Nat × Nat))) (c : Nat) (d : Nat × Nat) : Nat → Nat → Nat
  | 0, r => r
  | fuel + 1, r =>
    if exceeds r d then r
    else
      let n := c + (above.map fun j => ceilTimes r j.2 * (j.1 + 100)).sum
      if n = r then r else responseFrom above c d fuel n

/-- R_i in ns: at most one iteration for each release of a higher-priority loop within the deadline is needed.
Log entry: 94 DESIGN CHOICE. -/
def rodResponse (rd : Nat → Nat) (l : Nat) : Nat :=
  let above := (rodAbove rd l).map fun j => (rodCost rd j, rodPeriod rd j)
  let d := rodDeadline rd l
  let most := if d.2 = 0 then 0 else d.1 / d.2 + 1
  responseFrom above (rodCost rd l) d ((above.map fun j => ceilTimes most j.2).sum + above.length + 2) (rodCost rd l)

/-- The enabled loops of an engine, in slot order. -/
def engineLoops (rd : Nat → Nat) (e : Nat) : List Nat :=
  ((List.range 16).map (e * 16 + ·)).filter fun l => rd (It.rodEnable l) == 1

/-- Rule 0x20's demand of an engine, in per mille. -/
def engineDemand (rd : Nat → Nat) (e : Nat) : Nat :=
  ceilSum ((engineLoops rd e).map fun l => (1000 * rodCost rd l * (rodPeriod rd l).2, max (rodPeriod rd l).1 1))

/-- Rule 0x22's demand of an engine. Log entry: 94 DESIGN CHOICE. -/
def engineSub (rd : Nat → Nat) (e : Nat) : Nat :=
  ((engineLoops rd e).filter fun l => rd (It.rodClock l) == 0 && decide (rd (It.rodPeriodUs l) < 100)).length

/-- The items of a loop that the rules of beams and cascades read. -/
def loopKeys (l : Nat) : List Nat :=
  [It.rodEnable l, It.rodDest l, It.rodClock l, It.rodPeriodUs l, It.rodPhaseUs l, It.rodTallyUnits l, It.rodTallyOffset l]

/-- The items that the cost and the period of a loop are read from (R215, Table 7.7). -/
def costKeys (rd : Nat → Nat) (l : Nat) : List Nat :=
  loopKeys l ++ [It.rodPvSrc l, It.rodFfSrc l, It.rodTd l, It.rodSpRate l] ++
  if rd (It.rodClock l) = 1 then It.tallyPrescale :: It.tallySource ::
    (let src := rd It.tallySource
     if src < 8 then [It.encRateHigh src] else if src < 12 then [It.camMaxLineRate (src - 8)] else []) else []

/-- The items that the demand of an engine is read from: those of its loops, beams and cascades. -/
def engineKeys (rd : Nat → Nat) (e : Nat) : List Nat :=
  (engineLoops rd e).flatMap (costKeys rd) ++
  ((List.range 16).filter fun m => rd (It.beamEnable m) == 1 && rd (It.beamEngine m) == e).flatMap (fun m =>
    [It.beamEnable m, It.beamEngine m, It.beamMembers m, It.beamDest m]) ++
  ((List.range 8).filter fun k => rd (It.casEnable k) == 1 && rd (It.casInner k) / 16 == e).flatMap fun k =>
    [It.casEnable k, It.casOuterKind k, It.casOuter k, It.casInner k]

/-- Rules 0x20 to 0x22 of Table 7.8. -/
def rodAdmission (rd : Nat → Nat) : List Failure :=
  (List.range 8).flatMap fun e =>
    let ls := engineLoops rd e
    let keys := engineKeys rd e
    admission (engineDemand rd e) 850 keys 0x20 1 ++
    (match ls.find? fun l => exceeds (rodResponse rd l) (rodDeadline rd l) with
      | some l =>
        let d := rodDeadline rd l
        keys.map fun k => { key := k, rule := 0x21, res := 1, demand := rodResponse rd l, avail := d.1 / max d.2 1 }
      | none => []) ++
    admission (engineSub rd e) 4 keys 0x22 2

/-! ## Consistency (R217, Table 7.9) -/

/-- A source's instance exists (Table 7.1). -/
def sourceInst (code inst : Nat) : Bool :=
  match code with
  | 1 | 2 => decide (inst < 32)
  | 3 | 8 => decide (inst < 16)
  | 4 => decide (inst < 8)
  | 5 | 6 => decide (inst < 128)
  | _ => true

/-- rod_period_us allowed by rule 0x10. Log entry: 93 DEDUCED. -/
def periodOk (p : Nat) : Bool := p == 20 || p == 25 || p == 50 || (p % 100 == 0 && decide (100 ≤ p) && decide (p ≤ 10000))

/-- The channels that enabled loops and beams name, with the number of those that name each.
Log entry: 93 DEDUCED. -/
def destCount (rd : Nat → Nat) (c : Nat) : Nat :=
  ((List.range 128).filter fun l => rd (It.rodEnable l) == 1 && rd (It.rodDest l) == 1 && rd (It.rodDestCh l) == c).length +
  ((List.range 16).filter fun m => rd (It.beamEnable m) == 1 && rd (It.beamDest m) == 1 && rd (It.beamDestCh m) == c).length

/-- The clock, period and phase of a loop, or its units and offset (rule 0x13). Log entry: 93 DEDUCED. -/
def rodTiming (rd : Nat → Nat) (l : Nat) : Nat × Nat × Nat :=
  if rd (It.rodClock l) = 0 then (0, rd (It.rodPeriodUs l), rd (It.rodPhaseUs l))
  else (1, rd (It.rodTallyUnits l), rd (It.rodTallyOffset l))

/-- Rule 0x13 for a beam. Log entry: 92 DEDUCED. -/
def beamRule (rd : Nat → Nat) (m : Nat) : Bool :=
  let ls := beamLoops rd m
  decide (2 ≤ ls.length) && decide (ls.length ≤ 8) &&
  ls.all fun l => rd (It.rodEnable l) == 1 && rd (It.rodDest l) == 0 && rodTiming rd l == rodTiming rd (ls.headD 0) &&
    ((List.range 16).filter fun n => rd (It.beamEnable n) == 1 && (beamLoops rd n).contains l).length == 1

/-- Rule 0x14 for a cascade. Log entry: 93 DEDUCED. -/
def casRule (rd : Nat → Nat) (k : Nat) : Bool :=
  let inner := rd (It.casInner k)
  let on := (List.range 8).filter fun n => rd (It.casEnable n) == 1
  let inners := on.map fun n => rd (It.casInner n)
  rd (It.rodClock inner) == 0 && rd (It.rodDest inner) == 1 && (beamOf rd inner).isNone &&
  (inners.filter (· == inner)).length == 1 && !(on.any fun n => (casOuters rd n).contains inner) &&
  (rd (It.casOuterKind k) == 1 || rd (It.rodDest (rd (It.casOuter k))) == 0) &&
  (casOuters rd k).all fun o =>
    o / 16 == inner / 16 && decide (inner % 16 < o % 16) && rd (It.rodClock o) == 0 &&
    rd (It.rodPhaseUs o) == rd (It.rodPhaseUs inner) &&
    rd (It.rodPeriodUs o) == rd (It.casRatio k) * rd (It.rodPeriodUs inner) && !inners.contains o

/-- The rules of Table 7.9. Log entry: 93 DEDUCED. -/
def rodRules (rd : Nat → Nat) : List Failure :=
  ((List.range 128).filter fun l => rd (It.rodEnable l) == 1).flatMap (fun l =>
    let p := rodPeriod rd l
    require (periodOk (rd (It.rodPeriodUs l))) [It.rodPeriodUs l, It.rodEnable l] 0x10 ++
    require (decide (rd (It.rodPhaseUs l) < rd (It.rodPeriodUs l))) [It.rodPhaseUs l, It.rodPeriodUs l, It.rodEnable l] 0x10 ++
    require (decide (rd (It.rodTallyOffset l) < rd (It.rodTallyUnits l))) [It.rodTallyOffset l, It.rodTallyUnits l, It.rodEnable l] 0x10 ++
    require (rd (It.rodClock l) == 0 || decide (20000 * p.2 ≤ p.1)) [It.rodTallyUnits l, It.rodClock l, It.rodEnable l] 0x11 ++
    require (rd (It.rodPvSrc l) != 0) [It.rodPvSrc l, It.rodEnable l] 0x12) ++
  (List.range 128).flatMap (fun l =>
    require (!(rd (It.rodEnable l) == 1 &&
      ((rd (It.rodPvSrc l) == 6 && rd (It.rodPvInst l) == l) || (rd (It.rodFfSrc l) == 6 && rd (It.rodFfInst l) == l))))
      [It.rodPvSrc l, It.rodPvInst l, It.rodFfSrc l, It.rodFfInst l, It.rodEnable l] 0x12 ++
    require (!(rd (It.rodEnable l) == 1 && rd (It.rodDest l) == 1) ||
      (rd (It.chMode (rd (It.rodDestCh l))) == 2 && destCount rd (rd (It.rodDestCh l)) == 1)) [It.rodDestCh l, It.rodDest l, It.rodEnable l] 0x12 ++
    require (rd (It.rodEnable l) == 0 ||
      (decide (signed32 (rd (It.rodOutMin l)) ≤ signed32 (rd (It.rodFailsafe l))) &&
       decide (signed32 (rd (It.rodFailsafe l)) ≤ signed32 (rd (It.rodOutMax l))) &&
       (rd (It.rodFailsafeMode l) != 2 || rd (It.rodDest l) == 1))) [It.rodFailsafe l, It.rodFailsafeMode l, It.rodOutMin l, It.rodOutMax l, It.rodDest l, It.rodEnable l] 0x15) ++
  ((List.range 16).filter fun m => rd (It.beamEnable m) == 1).flatMap (fun m =>
    require (rd (It.beamDest m) == 0 ||
      (rd (It.chMode (rd (It.beamDestCh m))) == 2 && destCount rd (rd (It.beamDestCh m)) == 1)) [It.beamDestCh m, It.beamDest m, It.beamEnable m] 0x12 ++
    require (beamRule rd m) (It.beamMembers m :: It.beamEngine m :: It.beamEnable m :: (beamLoops rd m).flatMap loopKeys) 0x13) ++
  ((List.range 8).filter fun k => rd (It.casEnable k) == 1).flatMap fun k => require (casRule rd k)
    ([It.casInner k, It.casOuter k, It.casOuterKind k, It.casRatio k, It.casEnable k] ++
      (rd (It.casInner k) :: casOuters rd k).flatMap loopKeys) 0x14

/-! ## The work of a K -/

/-- Costs, response times and engine demands in force (R215, R216). -/
def State.rodFigures (s : State) : State :=
  let rd := s.useK
  let s := s.each (List.range 128) fun l s =>
    if rd (It.rodEnable l) = 1 then (s.set (It.rodCostNs l) (rodCost rd l)).set (It.rodResponseNs l) (sat32 (rodResponse rd l))
    else (s.set (It.rodCostNs l) 0).set (It.rodResponseNs l) 0
  s.each (List.range 8) fun e s =>
    (s.set (It.engAdmittedPermille e) (min (engineDemand rd e) 850)).set (It.engSubcycle e) (min (engineSub rd e) 4)

/-- eng_load_pct from the runs of the last 10 ms (R215). Log entry: 89 DEDUCED. -/
def State.engineLoad (s : State) : State :=
  s.each (List.range 8) fun e s =>
    let q := (nth s.rods.load e).filter fun x => decide (s.now < x.1 + 10000000)
    (s.modRods fun b => { b with load := upd b.load e fun _ => q }).set (It.engLoadPct e)
      (min 100 ((q.map (·.2)).sum / 100000))

/-- The loops, beams and cascades at a K, after the settings in use have changed from `old` (R197, R207, R212, R218). -/
def State.rodsAtK (old : Store) (s : State) : State :=
  let rdOld := old.read s.variant
  let s := if old = s.cfgK then s
    else
      let s := s.each (List.range 16) fun m s =>
        if rdOld (It.beamEnable m) = 0 ∧ s.useK (It.beamEnable m) = 1 then s.set (It.beamWinner m) 255 else s
      (s.each (List.range 128) (State.rodSettings rdOld)).rodFigures
  let s := s.each (List.range 128) fun l s =>
    match (s.rod l).ending with
    | some (k, 6) => if k < s.clk.kLast then s.endFailsafe l 6 else s
    | _ => s
  let s := if s.time.lane.st = .running then s
    else s.each (List.range 128) fun l s =>
      let st := s.get (It.rodState l)
      if s.useK (It.rodClock l) = 1 ∧ (st = rodRun ∨ st = rodHold) then s.setRod l rodWaiting 3 else s
  let s := s.each (List.range 8) State.casJudge
  (s.each (List.range 16) State.beamEvent).engineLoad

/-- A carry that writes any item of a loop in FAILSAFE ends it at the next K (Table 7.3). -/
def State.rodsCarry (keys : List Nat) (s : State) : State :=
  s.each (List.range 128) fun l s =>
    if s.get (It.rodState l) = rodFailsafeSt ∧ keys.any (fun k => k / 256 == 0x3000 + l) then
      s.modRod l fun r => { r with ending := some (s.clk.kLast, 6) }
    else s

/-! ## The opcodes of Table 7.6 -/

def opRodRead : OpFn := fun _ f s =>
  let l := u8At f.p 0
  if 127 < l ∨ !zeroAt f.p 1 3 then refuse stRange s
  else
    let r := s.rod l
    reply (toLE 1 l ++ toLE 1 (s.get (It.rodState l)) ++ toLE 2 (s.get (It.rodFlags l)) ++ toLE 4 r.carry ++
      toLE 8 (s.get (It.rodLastRelease l)) ++ toLE 8 r.tally ++ toLE 4 (s.get (It.rodPv l)) ++ toLE 4 (s.get (It.rodSpEff l)) ++
      toLE 4 (twos 32 r.p) ++ toLE 4 (s.get (It.rodI l)) ++ toLE 4 (twos 32 r.d) ++ toLE 4 (s.get (It.rodOut l))) s

def opRodReset : OpFn := fun _ f s =>
  let l := u8At f.p 0
  if 127 < l ∨ !zeroAt f.p 1 3 then refuse stRange s
  else if s.get (It.rodState l) ≠ rodFailsafeSt then refuse stConflict s
  else reply [] (s.modRod l fun r => { r with ending := some (s.clk.kLast, 5) })

def opBeamRead : OpFn := fun _ f s =>
  let m := u8At f.p 0
  if 15 < m ∨ !zeroAt f.p 1 3 then refuse stRange s
  else
    let x := s.beam m
    reply (toLE 1 m ++ toLE 1 (s.get (It.beamWinner m)) ++ toLE 2 x.members ++ toLE 4 x.carry ++
      toLE 8 (s.get (It.beamLastEval m)) ++ toLE 4 (s.get (It.beamOut m)) ++ toLE 4 x.limit ++
      (List.range 8).flatMap fun i => toLE 4 (x.outs.getD i 0)) s

def opRodTraceArm : OpFn := fun m f s =>
  let l := u8At f.p 0
  let n := u16At f.p 2
  if 127 < l ∨ n = 0 ∨ 256 < n ∨ !zeroAt f.p 1 1 then refuse stRange s
  else if s.rods.trace.isSome then refuse stConflict s
  else reply [] (s.modRods fun b => { b with trace := some { master := m, loop := l, want := n } })

def opRodTraceRead : OpFn := fun m _ s =>
  match s.rods.trace with
  | none => refuse stConflict s
  | some t =>
    if t.master ≠ m then refuse stConflict s
    else
      let done := t.runs.length == t.want
      let s := if done then s.modRods fun b => { b with trace := none } else s
      reply (toLE 1 t.loop ++ toLE 1 (b2n done) ++ toLE 2 t.runs.length ++ toLE 4 0 ++ t.runs.flatten) s

end Sys2Proof.Machine
end

