-- ==== Sys2Proof/Machine/FieldIo.lean ====
section
/-! DEFINITION. Isolated digital, analog and loss inputs and digital outputs (spec 09). -/

namespace Sys2Proof.Machine

def State.modIo (f : IoBank → IoBank) (s : State) : State := { s with io := f s.io }
def State.modDi (n : Nat) (f : Di → Di) (s : State) : State := s.modIo fun b => { b with dis := upd b.dis n f }
def State.modAi (n : Nat) (f : Ai → Ai) (s : State) : State := s.modIo fun b => { b with ais := upd b.ais n f }
def State.modLs (n : Nat) (f : Ls → Ls) (s : State) : State := s.modIo fun b => { b with lss := upd b.lss n f }
def State.modDo (n : Nat) (f : Do → Do) (s : State) : State := s.modIo fun b => { b with dos := upd b.dos n f }
def State.modLink (l : Nat) (f : IsoLane → IsoLane) (s : State) : State := s.modIo fun b => { b with links := upd b.links l f }
def State.modSec (f : Section → Section) (s : State) : State := s.modIo fun b => { b with sec := f b.sec }

/-- A number from bits. -/
def bitsNum (n : Nat) (f : Nat → Bool) : Nat := ((List.range n).map fun i => if f i then 2 ^ i else 0).sum

/-! ## Guards (R256, R257) -/

/-- The active lane receives no valid input frames (R255). -/
def State.isoDown (s : State) : Bool := s.get (if s.lanes.latch = 1 then It.isoLinkB else It.isoLinkA) == 0

/-- A channel guard set, with IO_GUARD at a change; `cls` is the class of the channel (Table 9.7). -/
def State.ioGuard (cls k n g : Nat) (s : State) : State :=
  s.setGuard k g 0x0a80 (toLE 1 cls ++ toLE 1 n ++ toLE 2 g ++ toLE 4 0 ++ toLE 8 s.now)

/-- Stamps of the last 100 ms as a rate per second (R260, R266). -/
def rateOf (now : Nat) (l : List Nat) : Nat := 10 * (l.filter fun t => decide (now < t + 100000000)).length

/-- Nothing within a timeout of some ms; a timeout of 0 does not expire. -/
def silentFor (now ms : Nat) (last : Option Nat) : Bool :=
  ms != 0 && (match last with
    | some t => decide (t + ms * 1000000 ≤ now)
    | none => true)

/-- The guard of a digital input judged by the items in force at an mtime (R256, R257, R259, R260). -/
def State.judgeDiAt (n t : Nat) (s : State) : State :=
  let d := nth s.io.dis n
  let r := rateOf s.now d.times
  let s := s.set (It.diRate n) r
  let old := s.get (It.diGuard n)
  let w := windowState d.win r (s.getAt t (It.diRateLow n)) (s.getAt t (It.diRateHigh n)) (s.getAt t (It.diHystPct n))
  let s := s.modDi n fun d => { d with win := w }
  let g := guardState w (s.isoDown || silentFor s.now (s.getAt t (It.diStaleMs n)) d.last) (d.brk && s.getAt t (It.diBreakDetect n) == 1)
  let s := if g = gBroken ∧ old ≠ gBroken then s.bump (It.diBreaks n) else s
  s.ioGuard 0x70 (It.diGuard n) n g

/-- The guard of a digital input judged now. -/
def State.judgeDi (n : Nat) (s : State) : State := s.judgeDiAt n s.now

/-- The guard of an analog input judged: its value by the items in force at the stamp of its latest sample (R256, R257, R263).
Log entry: 117 DEDUCED. -/
def State.judgeAi (n : Nat) (s : State) : State :=
  let a := nth s.io.ais n
  let old := s.get (It.aiGuard n)
  let t := a.last.getD s.now
  let mode := nth s.io.modes n
  let w := windowState a.win (s.geti (It.aiValue n)) (s.getiAt t (It.aiLow n)) (s.getiAt t (It.aiHigh n)) (s.getAt t (It.aiHystPct n))
  let s := s.modAi n fun a => { a with win := w }
  let g := guardState w (s.isoDown || silentFor s.now (s.get (It.aiStaleMs n)) a.last)
    ((a.bad && a.mode == mode) || (a.shunt.isSome && mode == 2))
  let s := if g = gBroken ∧ old ≠ gBroken then s.bump (It.aiBreaks n) else s
  s.ioGuard 0x74 (It.aiGuard n) n g

/-- The guard of a loss input judged by the items in force at an mtime (R256, R257, R266, R267). -/
def State.judgeLsAt (n t : Nat) (s : State) : State :=
  let a := nth s.io.lss n
  let r := rateOf s.now a.times
  let s := s.set (It.lsRate n) r
  let w := windowState a.range r (s.getAt t (It.lsRateLow n)) (s.getAt t (It.lsRateHigh n)) (s.getAt t (It.lsHystPct n))
  let s := s.modLs n fun a => { a with range := w }
  let g := guardState w (s.isoDown || silentFor s.now (s.getAt t (It.lsStaleMs n)) a.last) a.bad
  let s := s.ioGuard 0x78 (It.lsGuard n) n g
  if g = gOk then s else s.modLs n fun a => { a with win := a.win.map fun w => { w with notOk := true } }

/-- The guard of a loss input judged now. -/
def State.judgeLs (n : Nat) (s : State) : State := s.judgeLsAt n s.now

/-- Every guard of the section's channels judged. -/
def State.judgeInputs (s : State) : State :=
  ((s.each (List.range 48) State.judgeDi).each (List.range 16) State.judgeAi).each (List.range 8) State.judgeLs

def execAiStale (dt : Nat) (n : Fin 16) (s : State) : Host.Outcome State Fault Refusal := timedRun dt (State.judgeAi n) s
def execDiStale (dt : Nat) (n : Fin 48) (s : State) : Host.Outcome State Fault Refusal := timedRun dt (State.judgeDi n) s
def execLsStale (dt : Nat) (n : Fin 8) (s : State) : Host.Outcome State Fault Refusal := timedRun dt (State.judgeLs n) s

/-! ## Digital inputs (R258 to R261) -/

/-- di_level: the accepted level with di_invert as it stands at an mtime (R260). -/
def State.showDi (n t : Nat) (s : State) : State :=
  s.set (It.diLevel n) (b2n ((nth s.io.dis n).level != (s.getAt t (It.diInvert n) == 1)))

/-- An edge is accepted: level, count and rate, with its ingress stamp. -/
def State.acceptEdge (n stamp : Nat) (level : Bool) (s : State) : State :=
  let s := s.modDi n fun d => { d with
    level := level, pend := none, last := some stamp
    times := (d.times.filter fun t => decide (s.now < t + 100000000)) ++ [stamp] }
  ((s.showDi n stamp).bump (It.diEdges n)).judgeDiAt n stamp

/-- A waiting edge whose level has held for di_filter_us at an instant is accepted. -/
def State.acceptDue (n at_ : Nat) (s : State) : State :=
  match (nth s.io.dis n).pend with
  | some (stamp, level) => if stamp + s.getAt stamp (It.diFilterUs n) * 1000 ≤ at_ then s.acceptEdge n stamp level else s
  | none => s

/-- One edge after the fixed filter: it waits, or it removes the reverse edge that waits. -/
def State.diEdge (n stamp : Nat) (level : Bool) (s : State) : State :=
  if (nth s.io.dis n).raw = level then s
  else
    let s := s.acceptDue n stamp
    s.modDi n fun d => { d with raw := level, pend := if d.pend.isSome then none else some (stamp, level) }

def execDiEdgeAccept (dt : Nat) (n : Fin 48) (s : State) : Host.Outcome State Fault Refusal :=
  timedRun dt (fun s => s.acceptDue n s.now) s

/-- The wire-break bit of an input changes (R259). Log entry: 114 DEDUCED. -/
def State.wireBreak (n : Nat) (broken : Bool) (s : State) : State :=
  if (nth s.io.dis n).brk = broken then s else (s.modDi n fun d => { d with brk := broken }).judgeDi n

/-- Log entry: 114 DEDUCED. -/
def execDiWireBreak (dt : Nat) (n : Fin 48) (broken : Bool) (s : State) : Host.Outcome State Fault Refusal :=
  timedRun dt (State.wireBreak n broken) s

/-- A level that no listed edge explains is taken as one edge at the frame's counter (R261). -/
def State.diLevelBit (n stamp : Nat) (level : Bool) (s : State) : State :=
  if (nth s.io.dis n).raw = level then s else (s.diEdge n stamp level).bump (It.diEdgesLost n)

/-! ## Analog inputs (R262 to R264) -/

/-- The input quantity of a code, raw q16.16 V or mA (R262). Log entry: 117 DEDUCED. -/
def aiQuantity (mode code : Nat) : Int :=
  if mode = 2 then ((code * 256 / 10 : Nat) : Int) else ((code * 1024 / 100 : Nat) : Int)

/-- One conversion: scaled, filtered, guarded, and delivered to the streams (R263). Log entry: 117 DEDUCED. -/
def State.aiSample (n stamp code : Nat) (s : State) : State :=
  let mode := nth s.io.modes n
  if mode = 0 then s.set (It.aiRaw n) code
  else
    let x := qs (qm (aiQuantity mode code) (s.getiAt stamp (It.aiScale n)) + s.getiAt stamp (It.aiOffset n))
    let y := s.geti (It.aiValue n)
    let y := qs (y + fdiv (x - y) (2 ^ s.getAt stamp (It.aiFilter n) : Nat))
    let bad := if mode = 2 then decide (code * 256 < 36 * 65536) else code == 65535
    let s := ((s.set (It.aiRaw n) code).seti (It.aiValue n) y).modAi n fun a => { a with last := some stamp, mode := mode, bad := bad }
    let s := s.judgeAi n
    s.feed (n + 1) stamp y (s.get (It.aiGuard n))

/-- The mode of an analog input at the section (Table 9.13). -/
def Section.aiMode (c : Section) (n : Nat) : Nat := nth c.words (n / 8) / 4 ^ (n % 8) % 4

/-- The section opens a shunt above the shunt trip, in current mode (R264). Log entry: 114 DEDUCED. -/
def State.shuntTrip (n : Nat) (s : State) : State :=
  if s.io.sec.aiMode n = 2 ∧ (nth s.io.ais n).shunt = none then
    ((s.modAi n fun a => { a with shunt := some s.up }).bump (It.aiOverloads n)).judgeAi n
  else s

/-- Log entry: 114 DEDUCED. -/
def execAiShuntTrip (dt : Nat) (n : Fin 16) (s : State) : Host.Outcome State Fault Refusal := timedRun dt (State.shuntTrip n) s

/-- 100 ms after opening the section closes the shunt again. Log entry: 114 DEDUCED. -/
def State.shuntReclose (n : Nat) (s : State) : State :=
  match (nth s.io.ais n).shunt with
  | some t => if t + 100000000 ≤ s.up then (s.modAi n fun a => { a with shunt := none }).judgeAi n else s
  | none => s

def execAiShuntReclose (dt : Nat) (n : Fin 16) (s : State) : Host.Outcome State Fault Refusal :=
  timedRun dt (State.shuntReclose n) s

/-! ## Loss inputs (R265 to R268) -/

/-- The gain of a loss input at the section (Table 9.13, Table 9.11). -/
def Section.lsGain (c : Section) (n : Nat) : Nat := 4 ^ (nth c.words 3 / 4 ^ n % 4)

/-- The section detects an impact outside dead time and test blanking, counts it and stamps it with its amplitude: the peak of the
signal amplified by ls_gain, at most full scale (R265, R267). Log entry: 119 DESIGN CHOICE. -/
def State.lsImpact (n peak : Nat) (s : State) : State :=
  let a := nth s.io.lss n
  let w := s.io.sec.words
  let amplitude := min 65535 (peak * s.io.sec.lsGain n)
  let dead := nth w (13 + n) * 1000
  let free_ := match a.hit with
    | some t => decide (t + dead ≤ s.up)
    | none => true
  if bit (nth w 2) n && free_ && decide (s.io.sec.blank ≤ s.up) && decide (nth w (5 + n) ≤ amplitude) then
    (s.modLs n fun a => { a with count := (a.count + 1) % 65536, hit := some s.up }).modSec fun c => { c with
      impacts := c.impacts ++ [{ ch := n, amplitude := amplitude, at_ := s.up }] }
  else s

def execLsImpact (dt : Nat) (n : Fin 8) (amplitude : Nat) (s : State) : Host.Outcome State Fault Refusal :=
  timedDie dt (State.lsImpact n amplitude) s

/-- A histogram window takes a sample stamped at or after its start (R268). Log entry: 185 DEDUCED. -/
def LsWin.add (w : LsWin) (stamp amplitude : Nat) : LsWin :=
  if stamp < w.start then w else { w with n := w.n + 1, bins := upd w.bins (amplitude / 2048) (· + 1) }

/-- One listed impact on a lane: a sample when its amplitude reaches ls_min_amp (R257, R266). -/
def State.lsSample (n stamp amplitude : Nat) (s : State) : State :=
  if amplitude < s.getAt stamp (It.lsMinAmp n) then s
  else
    let s := (s.bump (It.lsImpacts n)).modLs n fun a => { a with
      last := some stamp, times := (a.times.filter fun t => decide (s.now < t + 100000000)) ++ [stamp]
      win := a.win.map fun w => w.add stamp amplitude }
    let s := s.judgeLsAt n stamp
    s.feed (n + 17) stamp (amplitude * 65536 : Nat) (s.get (It.lsGuard n))

/-- The hardware count of a channel in a frame, with the number of impacts that the frame lists for it (R266).
Log entry: 119 DESIGN CHOICE. -/
def State.lsCount (n hw listed : Nat) (s : State) : State :=
  let d := (hw + 65536 - (nth s.io.lss n).hw) % 65536
  let lost := d - listed
  let s := s.modLs n fun a => { a with hw := hw, win := a.win.map fun w =>
    { w with hw := w.hw + d, unlisted := w.unlisted || decide (0 < lost) } }
  (s.set (It.lsHwCount n) ((s.get (It.lsHwCount n) + d) % 4294967296)).bumpBy (It.lsEntriesLost n) lost

/-- The test of the enabled loss inputs: detection blanked for 50 µs, the guards judged (R267).
Log entry: 119 DESIGN CHOICE. -/
def State.lsTest (passed : List Bool) (s : State) : State :=
  let s := s.modSec fun c => { c with blank := s.up + 50000 }
  s.each ((List.range 8).filter fun n => bit (nth s.io.sec.words 2) n) fun n s =>
    let ok := passed.getD n true
    let s := if ok then s else s.bump (It.lsTestsFailed n)
    (s.modLs n fun a => { a with bad := !ok }).judgeLs n

def execLsTest (dt : Nat) (passed : List Bool) (s : State) : Host.Outcome State Fault Refusal :=
  timedRun dt (State.lsTest passed) s

/-- A histogram window opens (R268). -/
def State.lsOpen (n start : Nat) (s : State) : State :=
  s.modLs n fun a => { a with win := some { start := start, carry := s.get It.carryNumber, notOk := s.get (It.lsGuard n) != gOk } }

/-- The window in progress closes: its record is kept and sent to the recorder (R268, R389). -/
def State.lsClose (n fin : Nat) (s : State) : State :=
  match (nth s.io.lss n).win with
  | none => s
  | some w =>
    let r := toLE 1 n ++ toLE 1 (b2n w.unlisted + 2 * b2n w.notOk) ++ toLE 2 0 ++ toLE 4 w.carry ++ toLE 8 w.start ++
      toLE 8 fin ++ toLE 4 (sat32 w.hw) ++ toLE 4 (sat32 w.n) ++ w.bins.flatMap fun b => toLE 4 (sat32 b)
    let s := s.modLs n fun a => { a with win := none, done := some r }
    if bit (s.get It.recLsMask) n then s.record (s.newRecord 4 w.carry w.start fin 0 n r) else s

/-- A window of ls_hist_ms ends and the next one opens. -/
def State.lsWindow (n : Nat) (s : State) : State :=
  match (nth s.io.lss n).win with
  | none => s
  | some w =>
    let e := w.start + s.get (It.lsHistMs n) * 1000000
    if e ≤ s.now then (s.lsClose n e).lsOpen n e else s

def execLsHistWindow (dt : Nat) (n : Fin 8) (s : State) : Host.Outcome State Fault Refusal := timedRun dt (State.lsWindow n) s

/-! ## Digital outputs (R269 to R273) -/

/-- The force-safe bits that the active lane commands (R272). -/
def State.forceBits (s : State) : Nat := if s.io.forceTier || s.io.forcePark then 65535 else s.io.forceOwner

/-- The commanded levels in use (R270). -/
def State.doLevels (s : State) : Nat := bitsNum 16 fun n => s.useK (It.doCmd n) == 1

/-- A DO is held in its safe state at the section (R272). -/
def Section.safe (c : Section) (n : Nat) : Bool := c.timedout || bit c.force n

/-- The level that the section drives (R269, R271 to R273). -/
def State.doDriven (s : State) (n : Nat) : Bool :=
  let c := s.io.sec
  if !c.have_ || c.fsOff || bit c.opened n then false
  else if (nth s.io.dos n).busy.isSome then true
  else if c.safe n then bit (nth c.words 4) n
  else bit c.levels n

/-- do_state and do_fault of an output, with DO_FAULT at a change of do_fault (R269). -/
def State.judgeDo (n : Nat) (s : State) : State :=
  let s := match (nth s.io.dos n).busy with
    | some e => if e ≤ s.up then s.modDo n fun d => { d with busy := none } else s
    | none => s
  let d := nth s.io.dos n
  let c := s.io.sec
  let on := s.doDriven n
  let st := if d.latched then 4 else if d.retry then 3 else if d.busy.isSome then 5 else if c.safe n then 2
    else if bit c.levels n then 1 else 0
  let fault := if c.fsOff then 4 else if d.retry || d.latched then 1 else if !on && d.readback then 3
    else if on && d.low && s.get (It.doOpenDetect n) == 1 then 2 else 0
  let s := s.set (It.doState n) st
  if s.get (It.doFault n) = fault then s
  else (s.set (It.doFault n) fault).emit 0x0a81
    (toLE 1 n ++ toLE 1 fault ++ toLE 2 st ++ toLE 4 (s.get (It.doTrips n)) ++ toLE 8 s.now)

/-- Every output judged. -/
def State.judgeDos (s : State) : State := s.each (List.range 16) State.judgeDo

/-- A trip handled by the lane: RETRY_WAIT, or LATCHED beyond do_retry_n consecutive trips (R269, R243).
Log entry: 114 DEDUCED. -/
def State.doTripped (n : Nat) (s : State) : State :=
  let d := nth s.io.dos n
  if d.retry || d.latched then s
  else
    let k := (if d.trips ≠ 0 ∧ s.up ≤ d.retryAt + s.get (It.doRetryMs n) * 1000000 then d.trips else 0) + 1
    ((s.bump (It.doTrips n)).modDo n fun d => { d with
      trips := k, tripAt := s.up, retry := decide (k ≤ s.get (It.doRetryN n)), latched := decide (s.get (It.doRetryN n) < k) }).judgeDo n

/-- The current of a driven output stays above the overload trip: the section opens it (R269).
Log entry: 114 DEDUCED. -/
def State.doTrip (n : Nat) (s : State) : State :=
  if s.doDriven n then
    ((s.modSec fun c => { c with opened := c.opened ||| 2 ^ n }).modDo n fun d => { d with busy := none }).doTripped n
  else s

/-- Log entry: 114 DEDUCED. -/
def execDoTrip (dt : Nat) (n : Fin 16) (s : State) : Host.Outcome State Fault Refusal := timedDie dt (State.doTrip n) s

/-- After do_retry_ms the lane sends the clear bit (R269). -/
def State.doRetry (n : Nat) (s : State) : State :=
  let d := nth s.io.dos n
  if d.retry ∧ d.tripAt + s.get (It.doRetryMs n) * 1000000 ≤ s.up then s.modIo fun b => { b with clear := b.clear ||| 2 ^ n }
  else s

def execDoRetryExpiry (dt : Nat) (n : Fin 16) (s : State) : Host.Outcome State Fault Refusal := timedRun dt (State.doRetry n) s

/-- LATCHED ends: the clear bit is sent and the count starts again (R269). -/
def State.doUnlatch (n : Nat) (s : State) : State :=
  if (nth s.io.dos n).latched then
    ((s.modDo n fun d => { d with latched := false, trips := 0, retry := true }).modIo fun b =>
      { b with clear := b.clear ||| 2 ^ n }).judgeDo n
  else s

/-- FS+ measured, raw q16.16 V: below 17.0 V every output is off; above 17.5 V the commanded states return with the next
output frame (R272, Table 9.14). Log entry: 118 DEDUCED. -/
def State.fieldSupply (volts : Nat) (s : State) : State :=
  let s := s.set It.fieldSupplyV volts
  let was := s.io.sec.fsLow
  let low := if was then decide (volts < 1146880) else decide (volts < 1114112)
  if low = was then s
  else
    let s := s.modSec fun c => { c with fsLow := low, fsOff := c.fsOff || low }
    let s := if low then (s.bump It.fieldLowCount).each (List.range 16) fun n s => s.modDo n fun d => { d with busy := none } else s
    (s.judgeDos).emit 0x0a83 (toLE 1 (b2n (!low)) ++ toLE 3 0 ++ toLE 4 volts ++ toLE 8 s.now)

def execFieldSupplyChange (dt : Nat) (volts : Nat) (s : State) : Host.Outcome State Fault Refusal :=
  timedDie dt (State.fieldSupply volts) s

/-- No valid kind 2 frame for the output timeout: pending pulses are discarded, every output goes to do_safe (Table 9.5). -/
def State.doTimeout (s : State) : State :=
  let c := s.io.sec
  if c.have_ ∧ !c.timedout ∧ c.lastFrame + 2000000 ≤ s.up then
    (((s.modSec fun c => { c with timedout := true }).each (List.range 16) fun n s => s.modDo n fun d => { d with pend := [] }).bump
      It.isoOutTimeouts).judgeDos
  else s

def execDoOutputTimeout (dt : Nat) (s : State) : Host.Outcome State Fault Refusal := timedDie dt State.doTimeout s

/-! ## The section's counter and its pulses (R55, R271) -/

/-- The section's counter now, from the last input frame it sent (R55). Log entry: 32 DEDUCED. -/
def State.secCounter (s : State) : Nat :=
  match (nth s.io.links s.lanes.latch).conv with
  | some (c, t) => twos 32 ((c : Int) + fdiv ((s.now : Int) - t) 1000)
  | none => s.up / 1000 % 2 ^ 32

/-- The section counter that stands for an mtime. Log entry: 32 DEDUCED. -/
def State.counterAt (s : State) (t : Nat) : Nat := twos 32 ((s.secCounter : Int) + fdiv ((t : Int) - s.now) 1000)

/-- The section accepts a pulse entry for an output (R271). -/
def State.secAccepts (s : State) (n start : Nat) : Bool :=
  let ahead := signedOf 32 ((start + 2 ^ 32 - s.secCounter) % 2 ^ 32)
  decide (10 ≤ ahead) && decide (ahead ≤ 1000) && decide ((nth s.io.dos n).pend.length < 4) && !s.io.sec.safe n

/-- The first entry of a frame for an output that the section has not seen yet has its answer. -/
def markSeen (seq n : Nat) (ok : Bool) : List SentPulse → List SentPulse
  | [] => []
  | p :: r => if p.seq = seq ∧ p.cmd.out = n ∧ p.seen = none then { p with seen := some ok } :: r else p :: markSeen seq n ok r

/-- The valid pulse entry at an offset of an output frame reaches the section: it waits for its start, or it is refused (R271). -/
def State.secPulse (l : List Byte) (o : Nat) (s : State) : State :=
  let n := u8At l o % 16
  let start := u32At l (o + 4)
  let ok := s.secAccepts n start
  let s := s.modIo fun b => { b with sent := markSeen (u16At l 2) n ok b.sent }
  if ok then s.modDo n fun d => { d with pend := d.pend ++ [(start, u16At l (o + 2))] }
  else s.modSec fun c => { c with refused := c.refused ||| 2 ^ n }

/-- The section starts the pulse whose start counter is reached. -/
def State.pulseStart (n : Nat) (s : State) : State :=
  match (nth s.io.dos n).pend with
  | [] => s
  | (start, width) :: r =>
    if 0 ≤ signedOf 32 ((s.secCounter + 2 ^ 32 - start) % 2 ^ 32) then
      let off := s.io.sec.fsOff
      let s := s.modDo n fun d => { d with pend := r, busy := if off then d.busy else some (s.up + width * 1000) }
      (if off then s else s.bump (It.doPulses n)).judgeDo n
    else s

def execDoPulseStart (dt : Nat) (n : Fin 16) (s : State) : Host.Outcome State Fault Refusal :=
  timedDie dt (State.pulseStart n) s

/-! ## Settings (R274, R275) -/

/-- The settings words in use on the lane (Table 9.13). -/
def State.settingWords (s : State) : List Nat :=
  let two := fun (f : Nat → Nat) => ((List.range 8).map fun i => f i % 4 * 4 ^ i).sum
  [two fun i => s.useK (It.aiMode i), two fun i => s.useK (It.aiMode (8 + i)),
   bitsNum 8 fun i => s.useK (It.lsEnable i) == 1, two fun i => s.useK (It.lsGain i),
   bitsNum 16 fun i => s.useK (It.doSafe i) == 1] ++
  (List.range 8).map (fun i => s.useK (It.lsTrigLevel i)) ++ (List.range 8).map fun i => s.useK (It.lsDeadUs i)

/-- A new generation after a K at which a word has changed. Log entry: 115 DEDUCED. -/
def State.settingsAtK (s : State) : State :=
  let w := s.settingWords
  if w = s.io.words then s else s.modIo fun b => { b with words := w, gen := (b.gen + 1) % 256, slice := 0, awaited := 0 }

/-- The six settings words of a slice. -/
def sliceBytes (gen : Nat) (words : List Nat) (slice : Nat) : List Byte :=
  (List.range 6).flatMap fun j =>
    let i := slice * 6 + j
    if i < 21 then toLE 1 i ++ toLE 1 gen ++ toLE 2 (nth words i) else toLE 1 0xff ++ toLE 1 gen ++ toLE 2 0

/-- The settings words of a frame: pairs of index and generation with values. -/
def sliceWords (l : List Byte) : List (Nat × Nat × Nat) :=
  (List.range 6).map fun j => (u8At l (32 + 4 * j), u8At l (33 + 4 * j), u16At l (34 + 4 * j))

/-- The settings words of a valid kind 2 frame at the section: a generation is taken when indices 0 to 20 have come with one
number in consecutive frames that end with flag [2] (R275). -/
def State.secSettings (l : List Byte) (s : State) : State :=
  let flags := u8At l 1
  if !bit flags 1 then s.modSec fun c => { c with part := none }
  else
    let ws := (sliceWords l).filter fun w => w.1 != 0xff
    let gen := (ws.head?.map (·.2.1)).getD 0
    let seq := u16At l 2
    let old := match s.io.sec.part with
      | some p => if p.gen = gen ∧ seq = (p.seq + 1) % 65536 then p.vals else []
      | none => []
    let want := ((List.range 21).drop old.length).take 6
    let ok := ws.map (·.1) == want && ws.all fun w => w.2.1 == gen
    let vals := old ++ ws.map (·.2.2)
    if !ok then s.modSec fun c => { c with part := none }
    else if bit flags 2 && vals.length == 21 then s.modSec fun c => { c with part := none, words := vals, gen := gen, fresh := true }
    else s.modSec fun c => { c with part := if bit flags 2 then none else some { gen := gen, vals := vals, seq := seq } }

/-! ## Output frames (R254, R270, Table 9.2) -/

/-- A frame with its CRC-16. -/
def withCrc16 (l : List Byte) : List Byte := l ++ toLE 2 (crc16 l)

/-- One pulse entry of an output frame. -/
def State.pulseBytes (s : State) (c : Option PulseCmd) : List Byte :=
  match c with
  | some c => toLE 1 (c.out % 16 + 128) ++ toLE 1 0 ++ toLE 2 (c.width % 65536) ++ toLE 4 (s.counterAt c.start)
  | none => toLE 8 0

/-- What an output frame carries of the state as it stands. -/
def State.outNow (s : State) : OutContent :=
  { cycle := s.cycle, levels := s.doLevels, force := s.forceBits, clear := s.io.clear, pulses := s.cam.pulses.take 2
    gen := s.io.gen, words := s.io.words, slice := s.io.slice }

/-- What the output frame that starts now carries; the one at K carries the state in force before K (R254). -/
def State.outFrame (s : State) : OutContent :=
  if s.now = s.clk.kLast * 100000 then { s.io.before with pulses := s.io.before.pulses.filter s.cam.pulses.contains } else s.outNow

/-- The kind 2 frame of the active lane. Log entry: 115 DEDUCED. -/
def State.commandFrame (s : State) (lane : Nat) (o : OutContent) : List Byte :=
  let settings := decide (o.slice < 4)
  withCrc16 (toLE 1 2 ++ toLE 1 (lane + 2 * b2n settings + 4 * b2n (o.slice == 3)) ++
    toLE 2 (nth s.io.links lane).outSeq ++ toLE 4 o.cycle ++ toLE 2 o.levels ++ toLE 2 o.force ++ toLE 2 o.clear ++ toLE 2 0 ++
    s.pulseBytes o.pulses[0]? ++ s.pulseBytes o.pulses[1]? ++
    (if settings then sliceBytes o.gen o.words o.slice else List.replicate 24 0) ++ toLE 6 0)

/-- Pulse commands whose instant lies nearer than the trigger lead of 100 µs are not sent: their triggers are missed (R146).
Log entry: 60 DEDUCED. -/
def State.pulsesInTime (s : State) : State :=
  let late := fun (p : PulseCmd) => decide (p.start < s.now + 100000)
  (s.cam.pulses.filter late).foldl (fun s p => s.pulseResult false p)
    { s with cam := { s.cam with pulses := s.cam.pulses.filter fun p => !late p } }

/-- An output frame starts now: at a multiple of 25 000 ns of mtime, once (R254). -/
def State.frameStarts (s : State) (lane : Nat) : Bool :=
  s.now % 25000 == 0 && (nth s.io.links lane).outAt != some s.up

/-- A frame goes out on the link of a lane. -/
def State.sendOutput (lane : Nat) (f : List Byte) (s : State) : State :=
  let (out, s) := s.transmit (4 + lane) (u8At f 0) f
  s.modLink lane fun x => { x with outSeq := (x.outSeq + 1) % 65536, outAt := some s.up, frames := out }

/-- What has been put into an output frame is not sent again: clear bits, pulses and a slice of the settings. -/
def State.outputSent (lane : Nat) (o : OutContent) (s : State) : State :=
  let seq := (nth s.io.links lane).outSeq
  let s := { s with cam := { s.cam with pulses := o.pulses.foldl List.erase s.cam.pulses } }
  s.modIo fun b =>
    let sliced := decide (b.slice < 4) && o.gen == b.gen && o.slice == b.slice
    { b with
      clear := b.clear &&& (65535 - o.clear), sent := b.sent ++ o.pulses.map fun p => { cmd := p, seq := seq }
      slice := if sliced then b.slice + 1 else b.slice, awaited := if sliced then 0 else b.awaited }

/-- A lane sends an output frame at its start: kind 2 from the active lane, kind 3 from the standby lane; none while its link is under
test (R254, R316). Log entry: 32 DEDUCED. -/
def State.outputTick (lane : Nat) (s : State) : State :=
  if s.underTest (4 + lane) || !s.frameStarts lane then s
  else match s.get (It.laneState lane) with
    | 4 =>
      let s := s.pulsesInTime
      let o := s.outFrame
      (s.outputSent lane o).sendOutput lane (s.commandFrame lane o)
    | 3 => s.sendOutput lane (withCrc16 (toLE 1 3 ++ toLE 1 lane ++ toLE 2 (nth s.io.links lane).outSeq ++ List.replicate 58 0))
    | _ => s

def execOutputFrameTick (dt : Nat) (lane : Fin 2) (s : State) : Host.Outcome State Fault Refusal :=
  timedRun dt (State.outputTick lane) s

/-- The section takes a valid kind 2 frame of the named lane (R254, R271 to R275). -/
def State.takeOutput (l : List Byte) (s : State) : State :=
  let clear := u16At l 12
  let s := s.modSec fun c => { c with
    have_ := true, levels := u16At l 8, force := u16At l 10, opened := c.opened &&& (65535 - clear), timedout := false
    lastFrame := s.up, fsOff := c.fsLow }
  let s := s.each ((List.range 16).filter (bit clear)) fun n s =>
    s.modDo n fun d => if d.retry then { d with retry := false, retryAt := s.up } else d
  let s := s.each [16, 24] fun o s => if bit (u8At l o) 7 then s.secPulse l o else s
  (s.secSettings l).judgeDos

/-- The section receives a frame on the link of a lane: discarded and counted when its CRC-16 or kind is not right; commands only from
kind 2 frames of the named lane (R254, R255, R29). -/
def State.outputRx (lane : Nat) (l : List Byte) (s : State) : State :=
  if l.length ≠ 64 ∨ crc16 (l.take 62) ≠ u16At l 62 then s.modSec fun c => { c with part := none, errors := sat32 (c.errors + 1) }
  else if u8At l 0 = 3 then s
  else if u8At l 0 ≠ 2 then s.modSec fun c => { c with errors := sat32 (c.errors + 1) }
  else if !s.accepts lane then s.bump It.arbitrationDiscards
  else s.takeOutput l

def execOutputFrameRx (dt : Nat) (lane : Fin 2) (bytes : List Byte) (s : State) : Host.Outcome State Fault Refusal :=
  timedDie dt (State.outputRx lane bytes) s

/-! ## Input frames (R253, R255, Table 9.1) -/

/-- The impacts that a frame lists: at most 9, taking the channels in turn from the lowest (R266). -/
def listedImpacts (l : List Impact) : List Impact :=
  ((List.range 9).flatMap fun r => (List.range 8).filterMap fun c => (l.filter fun x => x.ch == c)[r]?).take 9

/-- A list of entries padded with entries of zeros to a number of bytes. -/
def padTo (n : Nat) (l : List Byte) : List Byte := (l ++ List.replicate n 0).take n

/-- The input frame of the section, from what it senses and what it holds: four of the analog inputs in each frame, the first 16
edges, the listed impacts (Table 9.1, R261, R262, R266). Log entry: 186 DESIGN CHOICE. -/
def State.secFrame (s : State) (f : FieldSense) : List Byte :=
  let c := s.io.sec
  let age := fun (t : Nat) => min ((s.up - t) / 1000) 255
  withCrc16 (toLE 1 1 ++
    toLE 1 (b2n (decide (16 < f.edges.length)) + 2 * b2n (decide (9 < c.impacts.length)) + 4 * b2n c.fsLow + 8 * b2n f.hot + 16 * b2n c.fresh) ++
    toLE 2 (c.made % 65536) ++ toLE 4 f.counter.toNat ++ toLE 6 f.levels.toNat ++
    toLE 6 (bitsNum 48 fun n => (nth s.io.dis n).brk) ++ toLE 2 f.readback.toNat ++ toLE 2 c.opened ++
    (List.range 4).flatMap (fun j =>
      let x := f.codes.getD j default
      toLE 1 (c.made % 4 * 4 + j + 128) ++ toLE 1 x.2.toNat ++ toLE 2 x.1.toNat) ++
    (List.range 8).flatMap (fun n => toLE 2 (nth s.io.lss n).count) ++
    padTo 32 ((f.edges.take 16).flatMap fun e => toLE 1 ((e.1 : Nat) + 64 * b2n e.2.1 + 128) ++ toLE 1 e.2.2.toNat) ++
    padTo 36 ((listedImpacts c.impacts).flatMap fun x => toLE 1 (x.ch + 128) ++ toLE 1 (age x.at_) ++ toLE 2 x.amplitude) ++
    toLE 2 c.refused ++ toLE 2 f.supply.toNat ++ toLE 2 0)

/-- The section sends an input frame (R253): what it reports of is reported once. -/
def State.secSends (f : FieldSense) (s : State) : State :=
  let bytes := s.secFrame f
  s.modSec fun c => { c with frame := bytes, frameAt := s.up, made := c.made + 1, impacts := [], refused := 0, fresh := false }

/-- The frame that reaches a lane: the section sends one every 25 µs, the same on both links (R253). Log entry: 186 DESIGN CHOICE. -/
def State.frameFor (lane : Nat) (f : FieldSense) (s : State) : Option State :=
  let c := s.io.sec
  if c.made = 0 ∨ c.frameAt + 25000 ≤ s.up then some (s.secSends f)
  else if (nth s.io.links lane).got ≠ c.made then some s
  else none

/-- Bytes changed on their way: exclusive or with noise, which none changes nothing. -/
def noisy : List Byte → List Byte → List Byte
  | b :: bs, n :: ns => (b ^^^ n) :: noisy bs ns
  | bs, _ => bs

def linkItem (lane : Nat) : Nat := if lane = 1 then It.isoLinkB else It.isoLinkA
def crcItem (lane : Nat) : Nat := if lane = 1 then It.isoCrcErrorsB else It.isoCrcErrorsA
def lostItem (lane : Nat) : Nat := if lane = 1 then It.isoFramesLostB else It.isoFramesLostA

/-- iso_link of a lane, with ISO_LINK at a change (R255). Log entry: 113 DEDUCED. -/
def State.setIsoLink (lane up : Nat) (s : State) : State :=
  s.setGuard (linkItem lane) up 0x0a82 (toLE 1 lane ++ toLE 1 up ++ toLE 2 0 ++ toLE 4 (s.get (crcItem lane)) ++ toLE 8 s.now)

/-- The pulse entries that the section has seen are judged by the refusal bits (R271); one that it has not seen by its instant was
lost with its frame, and is not accepted (R151). -/
def State.judgePulses (refused : Nat) (s : State) : State :=
  let done := fun (p : SentPulse) => p.seen.isSome || decide (p.cmd.start ≤ s.now)
  (s.io.sent.filter done).foldl (fun s p => s.pulseResult (p.seen.isSome && !bit refused p.cmd.out) p.cmd)
    (s.modIo fun b => { b with sent := b.sent.filter fun p => !done p })

/-- The content of a valid input frame on the active lane; `t0` is the mtime of its counter value, `low` the outputs whose
current is below the open-load threshold. Log entries: 115 DEDUCED, 116 DESIGN CHOICE. -/
def State.takeInput (l : List Byte) (t0 : Int) (low : Nat) (s : State) : State :=
  let stamp := fun (age : Nat) => (t0 - (age * 1000 : Nat)).toNat
  let s := if bit (u8At l 1) 4 then
      (s.modIo fun b => { b with modes := (List.range 16).map s.io.sec.aiMode, awaited := 0 }).set
        It.isoGeneration s.io.sec.gen
    else s.modIo fun b => { b with
      slice := if b.slice = 4 ∧ b.awaited = 2 ∧ s.get It.isoGeneration ≠ b.gen then 0 else b.slice
      awaited := if b.awaited = 2 then 0 else b.awaited + 1 }
  let s := s.set It.fieldSupplyV (u16At l 126 * 65536 / 100)
  let s := s.each (List.range 16) fun j s =>
    let e := u8At l (56 + 2 * j)
    if bit e 7 ∧ e % 64 < 48 then s.diEdge (e % 64) (stamp (u8At l (57 + 2 * j))) (bit e 6) else s
  let s := s.each (List.range 48) fun n s =>
    ((s.diLevelBit n (stamp 0) (bit (leAt l 8 6) n)).wireBreak n (bit (leAt l 14 6) n)).showDi n (stamp 0)
  let s := s.each (List.range 4) fun j s =>
    let o := 24 + 4 * j
    if bit (u8At l o) 7 then s.aiSample (u8At l o % 16) (stamp (u8At l (o + 1))) (u16At l (o + 2)) else s
  let listed := fun (n : Nat) => ((List.range 9).filter fun j =>
    let e := u8At l (88 + 4 * j)
    bit e 7 && e % 8 == n).length
  let s := s.each (List.range 8) fun n s => s.lsCount n (u16At l (40 + 2 * n)) (listed n)
  let s := s.each (List.range 9) fun j s =>
    let o := 88 + 4 * j
    if bit (u8At l o) 7 then s.lsSample (u8At l o % 8) (stamp (u8At l (o + 1))) (u16At l (o + 2)) else s
  let trips := u16At l 22
  let s := s.each ((List.range 16).filter fun n => bit trips n && !bit s.io.tripBits n) State.doTripped
  let s := (s.modIo fun b => { b with tripBits := trips }).each (List.range 16) fun n s =>
    s.modDo n fun d => { d with readback := bit (u16At l 20) n, low := bit low n }
  (s.judgePulses (u16At l 124)).judgeDos

/-- The guards that stand STALE judged again, when a link comes up. Log entry: 113 DEDUCED. -/
def State.linkUp (lane : Nat) (s : State) : State :=
  if s.get (linkItem lane) = 1 then s else (s.setIsoLink lane 1).judgeInputs

/-- Bytes arrive on a lane's isolation link (R253, R255). Log entry: 113 DEDUCED. -/
def State.inputBytes (lane : Nat) (l : List Byte) (low : Nat) (s : State) : State :=
  if l.length ≠ 132 ∨ crc16 (l.take 130) ≠ u16At l 130 ∨ u8At l 0 ≠ 1 then s.bump (crcItem lane)
  else
    let seq := u16At l 2
    let lost := match (nth s.io.links lane).inSeq with
      | some q => (seq + 65535 - q) % 65536
      | none => 0
    let t0 : Int := (s.now : Int) + s.get It.isoLatencyNs
    let s := (s.bumpBy (lostItem lane) lost).modLink lane fun x => { x with
      lastRx := some s.up, inSeq := some seq, conv := some (u32At l 4, t0) }
    let s := s.linkUp lane
    if lane = s.lanes.latch then s.takeInput l t0 low else s

/-- A frame of the section arrives on a lane's isolation link, with the noise of its way; none while the link is under test (R316). -/
def State.inputRx (lane : Nat) (f : FieldSense) (low : Nat) (s : State) : State :=
  if s.underTest (4 + lane) then s
  else match s.frameFor lane f with
    | some s => (s.modLink lane fun x => { x with got := s.io.sec.made }).inputBytes lane (noisy s.io.sec.frame f.noise) low
    | none => s

/-- Log entries: 116 DESIGN CHOICE, 186 DESIGN CHOICE. -/
def execInputFrameRx (dt : Nat) (lane : Fin 2) (sense : FieldSense) (lowCurrent : BitVec 16) (s : State) :
    Host.Outcome State Fault Refusal :=
  timedRun dt (State.inputRx lane sense lowCurrent.toNat) s

/-- No valid input frame for the link stale time of 200 µs: the link is DOWN, every guard STALE, and the loss is passed to the
lane's self-diagnosis as cause 8 (R255), but while the link is under test. Log entries: 113 DEDUCED, 128 DEDUCED. -/
def State.isoStale (lane : Nat) (s : State) : State :=
  match (nth s.io.links lane).lastRx with
  | some t => if t + 200000 ≤ s.up ∧ s.get (linkItem lane) = 1 then
      let s := s.setIsoLink lane 0
      (if s.underTest (4 + lane) then s else s.found lane 8).judgeInputs
    else s
  | none => s

def execIsoLinkStale (dt : Nat) (lane : Fin 2) (s : State) : Host.Outcome State Fault Refusal :=
  timedRun dt (State.isoStale lane) s

/-! ## The opcodes of Table 9.7 -/

def opLsHistRead : OpFn := fun _ f s =>
  let n := u8At f.p 0
  if 7 < n ∨ !zeroAt f.p 1 3 then refuse stRange s
  else match (nth s.io.lss n).done with
    | some r => reply r s
    | none => refuse stConflict s

/-- Log entry: 112 DEDUCED. -/
def opDoClear : OpFn := fun _ f s =>
  let n := u8At f.p 0
  let named := if n = 0xff then List.range 16 else [n]
  if (15 < n ∧ n ≠ 0xff) ∨ !zeroAt f.p 1 3 then refuse stRange s
  else if !(named.any fun i => (nth s.io.dos i).latched) then refuse stConflict s
  else reply [] (s.modIo fun b => { b with
    clears := b.clears ++ (named.filter fun i => (nth s.io.dos i).latched).map fun i => (i, s.clk.kLast) })

/-! ## K, carries and the lanes -/

/-- What the frame that starts at a K carries: the state in force before it (R254). -/
def State.ioBeforeK (s : State) : State := s.modIo fun b => { b with before := { s.outNow with cycle := s.cycle - 1 } }

/-- The field I/O at a K: sag tier 3 forces the outputs safe, DO_CLEAR takes effect, a new settings generation, rates and
outputs judged (R272, R274, R277). -/
def State.ioAtK (s : State) : State :=
  let due := s.io.clears.filter fun c => decide (c.2 < s.clk.kLast)
  let s := s.modIo fun b => { b with clears := b.clears.filter fun c => !decide (c.2 < s.clk.kLast) }
  let s := due.foldl (fun s c => s.doUnlatch c.1) s
  let low := s.get It.sagTier == 3
  let s := s.modIo fun b => { b with forceTier := low }
  (s.settingsAtK.judgeInputs).judgeDos

/-- A carry that writes items of a loss input closes its window; one that writes items of an output ends LATCHED (R268,
R269). -/
def State.ioCarry (keys : List Nat) (s : State) : State :=
  let s := s.each ((List.range 8).filter fun n => keys.any fun k => k / 256 == 0x7800 + n) fun n s => (s.lsClose n s.now).lsOpen n s.now
  let s := s.each ((List.range 48).filter fun n => keys.contains (It.diInvert n)) fun n s => s.showDi n s.now
  s.each ((List.range 16).filter fun n => keys.any fun k => k / 256 == 0x7040 + n) State.doUnlatch

/-- A new active lane: pulses not accepted are missed, and it resends its whole settings generation (R147, R273). -/
def State.ioClaim (s : State) : State :=
  let ps := s.cam.pulses ++ (s.io.sent.filter fun p => p.seen != some true).map (·.cmd)
  let s := { s with cam := { s.cam with pulses := [] } }
  let s := s.modIo fun b => { b with sent := b.sent.filter (fun p => p.seen == some true), slice := if b.words.isEmpty then 4 else 0, awaited := 0 }
  ps.foldl (fun s p => s.pulseResult false p) s

/-! ## Consistency (Table 9.6) -/

/-- The rules of Table 9.6 (rule 0x11 repeats rule 0x03, which the general rules judge). -/
def ioRules (rd : Nat → Nat) : List Failure :=
  ((List.range 4).filter fun p => rd (It.camTrigMode p) != 0).flatMap (fun p =>
    let n := rd (It.camTrigDo p)
    require (rd (It.doCmd n) == 0 && rd (It.doSafe n) == 0 && rd (It.doOpenDetect n) == 0) [It.doCmd n, It.doSafe n, It.doOpenDetect n, It.camTrigDo p, It.camTrigMode p] 0x10) ++
  (List.range 8).flatMap fun n =>
    require (decide (15 < rd (It.lsDeadUs n))) [It.lsDeadUs n] 0x12 ++
    require (decide (rd (It.lsTrigLevel n) < 65535)) [It.lsTrigLevel n] 0x13

end Sys2Proof.Machine
end

