-- ==== Sys2Proof/Machine/Panel.lean ====
section
/-! DEFINITION. The bistable status panel (spec 16): pages, waveforms, updates, stop and edge loop. -/

namespace Sys2Proof.Machine

def State.modPanel (f : PanelBank → PanelBank) (s : State) : State := { s with panel := f s.panel }

/-! ## Bands and waveforms (R407, Table 16.1) -/

/-- The band of a panel temperature in q16.16 °C. Log entry: 132 DEDUCED. -/
def bandOf (t : Int) : Nat :=
  if t < -20 * 65536 then 0 else if t < -10 * 65536 then 1 else if t < 0 then 2 else if t < 10 * 65536 then 3
  else if t < 25 * 65536 then 4 else if t < 40 * 65536 then 5 else if t < 60 * 65536 then 6 else 7

/-- The band followed with a hysteresis of 1 °C on both sides (R408). Log entry: 132 DEDUCED. -/
def bandFollow (old : Nat) (t : Int) : Nat :=
  if old < bandOf (t - 65536) then bandOf (t - 65536)
  else if bandOf (t + 65536) < old then bandOf (t + 65536)
  else old

/-- f_b, o_b and r_b of a band (Table 16.1). -/
def waveOf (band : Nat) : Nat × Nat × Nat :=
  match band with
  | 1 => (6, 3, 2) | 2 => (5, 2, 2) | 3 => (4, 2, 1) | 4 => (4, 1, 1) | 5 => (3, 1, 1) | 6 => (3, 1, 1) | 7 => (2, 1, 1)
  | _ => (0, 0, 0)

/-- Frames of a transition from p to q: those that drive it, and those reversed. -/
def transFrames (band p q : Nat) : Nat × Nat :=
  let w := waveOf band
  if p = q then (0, 0)
  else (w.1 * ((q - p) + (p - q)) + (if p = 0 ∨ p = 3 then w.2.1 else 0), if q = 1 ∨ q = 2 then w.2.2 else 0)

/-- The length in frames of a transition. -/
def transLen (band p q : Nat) : Nat := (transFrames band p q).1 + (transFrames band p q).2

/-- The source voltage in V of a pixel in frame `k` of a transition from p to q (R407). -/
def transVolts (band p q k : Nat) : Int :=
  let n := transFrames band p q
  let sign : Int := if p < q then 15 else -15
  if k < n.1 then sign else if k < n.1 + n.2 then -sign else 0

/-- The four levels of a page byte, leftmost first (R404). Log entry: 130 DEDUCED. -/
def levelsOf (b : Byte) : List Nat := [b.toNat % 4, b.toNat / 4 % 4, b.toNat / 16 % 4, b.toNat / 64]

/-- The longest transition over the pixels of two images. Log entry: 131 DEDUCED. -/
def longest (len : Nat → Nat → Nat) (a b : List Byte) : Nat :=
  ((a.zip b).map fun x => ((levelsOf x.1).zip (levelsOf x.2)).foldl (fun m y => max m (len y.1 y.2)) 0).foldl max 0

/-- The lengths of the three stages of a clearing update: to 0, to 3, to the next level (R405). Where the level before is not
known, the first stage is as long as from 3. -/
def clearStages (band : Nat) (prev : Option (List Byte)) (image : List Byte) : Nat × Nat × Nat :=
  (match prev with
    | some p => longest (fun x _ => transLen band x 0) p p
    | none => transLen band 3 0,
   transLen band 0 3,
   longest (fun _ y => transLen band 3 y) image image)

/-- The frame count of an update (R405, R407). Log entry: 131 DEDUCED. -/
def updFrames (clearing : Bool) (band : Nat) (prev : Option (List Byte)) (image : List Byte) : Nat :=
  match clearing, prev with
  | false, some p => longest (transLen band) p image
  | _, _ => let c := clearStages band prev image; c.1 + c.2.1 + c.2.2

/-- The source voltage in V of a pixel with levels p and q in frame `k` of an update. -/
def PanelUpd.volts (u : PanelUpd) (p q k : Nat) : Int :=
  if u.clearing then
    let c := clearStages u.band u.prev u.image
    if k < c.1 then transVolts u.band p 0 k
    else if k < c.1 + c.2.1 then transVolts u.band 0 3 (k - c.1)
    else transVolts u.band 3 q (k - c.1 - c.2.1)
  else transVolts u.band p q k

/-- A page's image; a page that nothing has written reads as black. Log entry: 130 DEDUCED. -/
def State.page (s : State) (n : Nat) : List Byte :=
  let l := nth s.panel.pages n
  if l.isEmpty then List.replicate 19200 0 else l

/-! ## State and events -/

/-- panel_state set, with PANEL_STATE at a change: 0 READY, 1 UPDATING, 2 COLD, 3 FAULT. -/
def State.setPanel (st : Nat) (s : State) : State :=
  s.setGuard It.panelState st 0x1280 (toLE 1 st ++ toLE 1 (s.get It.panelBand) ++ toLE 2 0 ++
    toLE 4 (s.get It.panelCrackOhm) ++ toLE 8 s.now)

/-- READY or COLD by the band, between updates and outside FAULT (R406). -/
def State.panelRest (s : State) : State :=
  if s.get It.panelState = 3 ∨ s.panel.upd.isSome then s else s.setPanel (if s.get It.panelBand = 0 then 2 else 0)

/-- A temperature reading (R408): between updates the band follows it. Log entry: 132 DEDUCED. -/
def State.panelTemp (t : Int) (s : State) : State :=
  let s := s.seti It.panelTempC (clampInt (-3276800) 6553600 t)
  match s.panel.upd with
  | some u =>
    let d := bandOf t
    s.modPanel fun p => { p with upd := some { u with suspect := u.suspect || decide (2 < (d - u.band) + (u.band - d)) } }
  | none =>
    let b := if s.panel.read then bandFollow (s.get It.panelBand) t else bandOf t
    ((s.set It.panelBand b).modPanel fun p => { p with read := true }).panelRest

def execPanelTempRead (dt : Nat) (temp : Int) (s : State) : Host.Outcome State Fault Refusal :=
  timed dt (fun s => if s.panel.upd.isSome then s else s.panelTemp temp) s

/-- PANEL_UPDATE (Table 16.5). Log entry: 133 DEDUCED. -/
def State.panelEvent (u : PanelUpd) (outcome : Nat) (s : State) : State :=
  s.emit 0x1281 (toLE 1 u.target ++ toLE 1 (b2n u.clearing) ++ toLE 1 outcome ++ toLE 1 u.band ++
    toLE 4 ((s.now - u.start) / 1000) ++ toLE 8 s.now)

/-- A stop (R410): the record stays, the glass shows no page. -/
def State.panelStop (s : State) : State :=
  match s.panel.upd with
  | none => s
  | some u =>
    let s := (s.modPanel fun p => { p with upd := none, glass := none, lastEnd := s.now }).set It.panelShown 255
    (s.panelEvent u 2).panelRest

/-! ## Edge loop (R413) -/

/-- The edge loop is measured: above the crack threshold an update stops and panel_state is FAULT. -/
def State.edgeLoop (ohms : Nat) (s : State) : State :=
  let s := s.set It.panelCrackOhm (min ohms 2147418112)
  if 2000 * 65536 < ohms then (s.setPanel 3).panelStop else s

def execEdgeLoopCheck (dt : Nat) (ohms : Nat) (s : State) : Host.Outcome State Fault Refusal :=
  timed dt (State.edgeLoop ohms) s

/-! ## Updates (R405, R406, R409) -/

/-- The update that is requested next: target and whether a clearing update is asked for. -/
def State.panelNext (s : State) : Option (Nat × Bool) :=
  match s.panel.first with
  | some t => some (t, true)
  | none =>
    if s.panel.final ∧ s.phase = .parking then some (s.get It.panelParkPage, false)
    else if s.panel.want ∨ s.panel.clear then some (s.get It.panelPage, s.panel.clear)
    else none

/-- The conditions of R406 but for the reserve. -/
def State.panelFree (s : State) : Bool :=
  s.get It.panelState == 0 && s.get It.panelBand != 0 && decide (s.get It.sagTier < 3) && s.power.counted == 0 &&
    s.power.running.isNone && s.lanes.accepting && (s.get It.opState == 1 || s.get It.opState == 2 || s.panel.final)

/-- The requests that an update starting for a target serves. -/
def PanelBank.served (p : PanelBank) : PanelBank :=
  if p.first.isSome then { p with first := none }
  else if p.final then { p with final := false }
  else { p with want := false, clear := false }

/-- Step 1 of Table 16.2: the update starts when the conditions of R406 hold. Log entry: 131 DEDUCED. -/
def State.panelStart (ohms : Nat) (s : State) : State :=
  match s.panelNext with
  | none => s
  | some (t, clr) =>
    if !s.panelFree then s
    else if s.get It.holdupReserveMs < 2 * 65536 then s.bump It.panelSkipped
    else
      let s := s.edgeLoop ohms
      if s.get It.panelState = 3 then s
      else
        let image := s.page t
        let clearing := clr || s.panel.glass.isNone || decide (s.get It.panelClearEvery ≤ s.panel.since + 1)
        let band := s.get It.panelBand
        let u : PanelUpd := { target := t, image := image, clearing := clearing, prev := s.panel.glass, band := band
                              total := updFrames clearing band s.panel.glass image, start := s.now }
        (s.modPanel fun p => { p.served with upd := some u, rec_ := some (t, clearing, s.get It.panelShown) }).setPanel 1

def execPanelUpdateStart (dt : Nat) (ohms : Nat) (s : State) : Host.Outcome State Fault Refusal :=
  timed dt (fun s => if s.panel.upd.isSome then s else s.panelStart ohms) s

/-- A frame of the update starts: the temperature is read (R408). A drive frame of an update that a handover has interrupted is
discarded and counted (R29). -/
def State.panelFrame (t : Int) (s : State) : State :=
  match s.panel.upd with
  | some u =>
    if u.frame < u.total then
      (s.modPanel fun p => { p with upd := some { u with frame := u.frame + 1 } }).panelTemp t
    else s
  | none => if !s.lanes.accepting && s.panel.rec_.isSome then s.bump It.arbitrationDiscards else s

def execPanelFrame (dt : Nat) (temp : Int) (s : State) : Host.Outcome State Fault Refusal :=
  timed dt (State.panelFrame temp) s

/-- Steps 6 to 8 of Table 16.2 after the last frame; a suspect update is repeated as a clearing one (R408).
Log entry: 133 DEDUCED. -/
def State.panelEnd (s : State) : State :=
  match s.panel.upd with
  | some u =>
    if u.frame < u.total then s
    else
      let s := s.modPanel fun p => { p with
        upd := none, glass := some u.image, rec_ := none, lastEnd := s.now
        since := if u.clearing then 0 else p.since + 1, first := if u.suspect then some u.target else p.first }
      let s := (s.set It.panelShown u.target).bump It.panelUpdates
      let s := if u.suspect then s.bump It.panelSuspects else s
      let t := s.geti It.panelTempC
      let s := s.set It.panelBand (bandFollow (s.get It.panelBand) t)
      (s.panelEvent u (b2n u.suspect)).panelRest
  | none => s

def execPanelUpdateEnd (dt : Nat) (s : State) : Host.Outcome State Fault Refusal := timed dt State.panelEnd s

/-! ## Requests and starts -/

/-- panel_page is released by a direct write or a carry (R405). Log entry: 51 DEDUCED. -/
def State.panelRelease (keys : List Nat) (s : State) : State :=
  if keys.contains It.panelPage then s.modPanel fun p => { p with want := true } else s

/-- A start, or a lane that takes the active role, reads the in-progress record (R411). -/
def State.panelRecord (s : State) : State :=
  match s.panel.rec_ with
  | some (t, _, _) =>
    ((s.modPanel fun p => { p with first := some t, upd := none, glass := none }).set It.panelShown 255).bump
      It.panelInterrupted
  | none => s

/-- A module start: the edge loop's reading decides whether the panel is in FAULT (R413). -/
def State.panelBoot (ohms : Nat) (s : State) : State :=
  let s := s.modPanel fun p => { p with upd := none, final := false, read := false, lastEnd := 0 }
  s.panelRecord.edgeLoop ohms

/-- The final update of an orderly park is requested (R412). -/
def State.panelPark (s : State) : State :=
  s.modPanel fun p => { p with final := s.get It.panelParkPage != 255 }

/-- A final update that has not started by the end of step 3 is left out (R412). -/
def State.panelParkEnd (s : State) : State :=
  if s.panel.final then (s.modPanel fun p => { p with final := false }).bump It.panelSkipped else s

/-! ## Opcodes (Table 16.5) -/

/-- The head of a page image is right: format, part code, width and height (R404). -/
def pageOk (img : List Byte) : Bool :=
  img.length == 19216 && u32At img 0 == 1 && u32At img 4 == 0x9648 && u16At img 8 == 320 && u16At img 10 == 240

def opPanelPageLoad : OpFn := fun m f s =>
  let page := u8At f.p 0
  let first := u16At f.p 2
  let n := u16At f.p 4
  if 15 < page ∨ !zeroAt f.p 1 1 ∨ n = 0 ∨ !zeroAt f.p 6 2 then refuse stRange s
  else
    match s.blkImage m first n (u32At f.p 8) (u32At f.p 12) with
    | .error st => refuse st s
    | .ok img =>
      if !pageOk img then refuse stRange s
      else if (s.panel.upd.any fun u => u.target == page) then refuse stConflict s
      else
        let s := s.modPanel fun p => { p with pages := upd p.pages page fun _ => img.drop 16 }
        let s := if s.get It.panelShown = page then s.panelRelease [It.panelPage] else s
        reply [] (s.blkConsume m first n)

def opPanelRead : OpFn := fun _ _ s =>
  reply (toLE 1 (s.shown It.panelState) ++ toLE 1 (s.shown It.panelBand) ++ toLE 1 (s.shown It.panelShown) ++
    toLE 1 ((s.panel.upd.map (·.target)).getD 0xff) ++ toLE 4 (s.shown It.panelTempC) ++ toLE 4 (s.shown It.panelUpdates) ++
    toLE 8 s.panel.lastEnd) s

def opPanelRefresh : OpFn := fun _ _ s =>
  if s.get It.panelState = 3 then refuse stConflict s
  else reply [] (s.modPanel fun p => { p with want := true, clear := true })

end Sys2Proof.Machine
end

