-- ==== Sys2Proof/Machine/Lanes.lean ====
section
/-! DEFINITION. Lanes, the role latch, the state copy, fail-over and planned switch (spec 12): the operations on which the
rows of the lanes, of power and of firmware update rest. -/

namespace Sys2Proof.Machine

def State.modLanes (f : LaneBank → LaneBank) (s : State) : State := { s with lanes := f s.lanes }
def State.modPower (f : PowerBank → PowerBank) (s : State) : State := { s with power := f s.power }

/-! ## Lane states (Table 12.1) -/

/-- lane_state of a lane: 0 OFF, 1 RESTARTING, 2 SYNCING, 3 STANDBY, 4 ACTIVE, 5 GAVE_UP, 6 HELD. -/
def State.lane (s : State) (x : Nat) : Nat := s.get (It.laneState x)

/-- A lane changes state, with LANE_STATE; a cause other than 0 is kept in lane_cause. -/
def State.setLane (x st cause : Nat) (s : State) : State :=
  let s := s.set (It.laneState x) st
  let s := if cause = 0 then s else s.set (It.laneCause x) cause
  s.emit 0x0d80 (toLE 1 x ++ toLE 1 st ++ toLE 2 cause ++ toLE 4 (s.get (It.laneRestarts x)) ++ toLE 8 s.cycle)

/-- The latch and its acceptance state, with the items that report them (R324). -/
def State.setLatch (lane : Nat) (accepting : Bool) (s : State) : State :=
  let s := ((s.modLanes fun l => { l with latch := lane, accepting := accepting }).set It.role lane).set It.roleAccept (b2n accepting)
  if accepting then { s with cfgRestart := nth s.lanes.restartCfg lane } else s

/-- A lane is STANDBY and ready to take over: its isolation link is not under test (R318). -/
def State.readyLane (s : State) (x : Nat) : Bool := s.lane x == 3 && !s.underTest (4 + x)

/-- The lane link carries frames: UP, and neither direction under test (R316). -/
def State.linkCarries (s : State) : Bool := s.get It.laneLink == 1 && !s.underTest 2 && !s.underTest 3

/-- The lane that drives the outputs. -/
def State.activeLane (s : State) : Option Nat := if s.lanes.accepting then some s.lanes.latch else none

/-! ## Planned switch (Table 12.5) -/

/-- A planned switch ends with SWITCH_END: 0 done, 1 no standby, 2 claim timeout, 3 fault. Log entry: 138 DEDUCED. -/
def State.endSwitch (outcome gap : Nat) (s : State) : State :=
  match s.lanes.sw with
  | none => s
  | some w =>
    (s.modLanes fun l => { l with sw := none }).emit 0x0d82 (toLE 1 w.target ++ toLE 1 outcome ++ toLE 1 w.initiator ++
      toLE 1 0 ++ toLE 4 gap ++ toLE 8 s.cycle)

/-- Step 1: the switch is set (LANE_SWITCH executed, or an activation). -/
def State.startSwitch (target initiator : Nat) (s : State) : State :=
  s.modLanes fun l => { l with sw := some { target := target, initiator := initiator, cycle := s.cycle } }

/-- A response of several frames is in progress on some RSP ring (R76). -/
def State.midResponse (s : State) : Bool :=
  s.mail.masters.any fun ma => match ma.outq with
    | r :: _ => decide (0 < r.placed)
    | [] => false

/-- Step 2 at K_s: the first K after the copy of the switch's cycle is acknowledged and every multi-frame response is
complete. The copy of a cycle is sent at the K that ends it and acknowledged before the next K. Without a standby lane in
service at that K, or at a later one before the yield, the switch is abandoned. Log entry: 138 DEDUCED. -/
def State.switchAtK (s : State) : State :=
  match s.lanes.sw with
  | some w =>
    if s.lanes.gap.isSome ∨ s.clk.kLast ≤ w.cycle + 1 then s
    else if !s.standby ∨ !s.readyLane w.target then
      (s.endSwitch 1 0).modLanes fun l => { l with consuming := l.consuming || (l.accepting && l.takeover.isNone) }
    else if w.ks.isSome then s
    else if (s.lanes.copied.any fun c => decide (w.cycle ≤ c.cycle) && decide (c.cycle + 1 < s.clk.kLast)) ∧ !s.midResponse then
      s.modLanes fun l => { l with sw := some { w with ks := some s.clk.kLast }, consuming := false }
    else s
  | none => s

/-- CAN controllers of the departing lane monitor only: a frame being sent is cut (Table 10.4 step 1). -/
def State.canCut (s : State) : State :=
  { s with can := { s.can with chs := s.can.chs.map fun c => { c with attempt := none } } }

/-! ## The copied state (Table 12.3) -/

/-- The counters of survival code W that a lane keeps of its own work (Table 12.3): not those of the drive dies, the arbitration
and isolated sections, the ring ports and the lanes' roles, nor the numbers of frames and carries that both lanes see.
Log entry: 135 DEDUCED. -/
def laneCounter (k : Nat) : Bool :=
  [0x10, 0x20, 0x28, 0x30, 0x38, 0x40, 0x48, 0x50, 0x58, 0x70, 0x74, 0x78, 0x80].contains (k / 65536) &&
    k != It.arbitrationDiscards && k / 256 != 0x7060 && !(k / 65536 == 0x78 && k % 256 == 0x22) &&
    !(k / 65536 == 0x40 && k % 256 == 0x24) && !(k / 65536 == 0x48 && k % 256 < 0x23) &&
    (match findRow k with
      | some r => r.surv == .w && r.ty == .u32
      | none => false)

/-- Items that the standby lane takes from the copy: those that commands write, those of sessions and ownership, error
counters and states of the CAN channels, the ring sequence, the carry number and the W counters of a lane (Table 12.3).
Log entry: 135 DEDUCED. -/
def copiedItem (k : Nat) : Bool :=
  k / 65536 == 0x18 || k == It.ringTxSeq || k == It.carryNumber || laneCounter k ||
    ((List.range 6).any fun c => k == It.canTec c || k == It.canRec c || k == It.canState c) ||
    (match findRow k with
      | some r => (r.surv == .p || r.surv == .w) && r.apply != .immediate
      | none => false)

/-- The carries since the last copied cycle of slates that the copy holds as COMMITTED: both lanes released them (R117).
Log entry: 135 DEDUCED. -/
def State.carriedBoth (s : State) (c : Copy) : List (Nat × Nat × List (Nat × Nat)) :=
  s.lanes.carriedSince.filter fun x => (nth c.sb.slates x.2.1).st == .committed

/-- The items of the lane that takes over. Log entry: 135 DEDUCED. -/
def State.itemsTaken (s : State) (c : Copy) : Store :=
  let both := s.carriedBoth c
  let base := Store.putAll s.variant (c.items.filter fun p => copiedItem p.1) (s.items.filter fun p => !copiedItem p.1)
  let base := Store.putAll s.variant (both.flatMap fun x => x.2.2) base
  Store.putAll s.variant [(It.carryNumber, Store.read s.variant c.items It.carryNumber + both.length)] base

/-- The slates of the lane that takes over: as copied, but for those that have carried since (R117).
Log entry: 135 DEDUCED. -/
def State.slatesTaken (s : State) (c : Copy) : SlateBank :=
  let done := (s.carriedBoth c).map fun x => x.2.1
  { s.sb with
    slates := c.sb.slates.mapIdx fun i x => if done.contains i then {} else x
    lost := s.sb.pins.map (fun p => (p.handle, p.master)) ++ s.sb.lost, pins := [] }

/-- A response of a copied command that the departed lane had not wholly placed: it goes on where it stood; that of a CAM_FRAME_GRAB
is LANE_CHANGED (R156). -/
def respTaken (old cur : Resp) : Resp :=
  if old.op = 0x0701 ∧ old.status = stOk then { old with status := stLaneChanged, payload := [], placed := 0 }
  else if 0 < cur.placed then cur else old

/-- One mailbox of the lane that takes over (R70, R82): the rings as the masters see them, sessions and caches as copied, and
the responses of copied commands that are not yet placed. Log entries: 135 DEDUCED, 136 DEDUCED. -/
def masterTaken (old cur : Master) : Master :=
  { cur with
    cache := old.cache, lastFrame := old.lastFrame
    outq := old.outq.filterMap fun r => (cur.outq.find? fun x => x.seq == r.seq && x.op == r.op && x.cycle == r.cycle).map (respTaken r)
    blk := { cur.blk with cons := old.blk.cons }
    blks := old.blks ++ cur.blks.filter fun b => !(old.blks.contains b) }

/-- Mailboxes and ownership of the lane that takes over. Log entry: 135 DEDUCED. -/
def mailTaken (old cur : Mail) : Mail :=
  { old with masters := (old.masters.zip cur.masters).map fun p => masterTaken p.1 p.2, reck := {}, lastServed := cur.lastServed }

/-- The entries staged in the drive dies for slates that stand COMMITTED, or carried with the drive die's release to come.
Log entry: 135 DEDUCED. -/
def State.stageTaken (s : State) (c : Copy) : List DieStage :=
  let stands := fun (d : DieStage) => let x := nth s.sb.slates d.slate; (x.st == .committed || x.st == .prepared) && x.order == d.order
  let kept := s.valve.stage.filter fun d => d.number.isSome || stands d
  kept ++ c.stage.filter fun d => stands d && !(kept.any fun e => e.slate == d.slate && e.die == d.die && e.order == d.order)

/-- What commands change beside what the copy lists by itself, for the copy of a cycle (R82). Log entry: 135 DEDUCED. -/
def State.cmdState (s : State) : CmdState :=
  { calBase := s.time.calBase, calAt := s.time.calAt, lat := s.time.lat, rods := s.rods.rods, camTables := s.cam.tables
    fuTables := s.fus.tables, pages := s.panel.pages, want := s.panel.want, clear := s.panel.clear, hist := s.hist.hist
    vClears := s.valve.clears, doClears := s.io.clears, coils := s.valve.chans.map (·.measuring)
    forceOwner := s.io.forceOwner, tests := s.ring.tests, injects := s.ring.injects, ses := s.fw.ses }

/-- A carry since the last copied cycle that both lanes released has written an item of a key range. -/
def State.carriedKey (s : State) (c : Copy) (p : Nat → Bool) : Bool := (s.carriedBoth c).any fun x => x.2.2.any fun e => p e.1

/-- A ROD_RESET taken after the last copied cycle has had no effect: what it set pending is gone, and a loop that it took out of
FAILSAFE stands there as copied. Log entry: 135 DEDUCED. -/
def State.undoReset (items : Store) (rods : List Rod) (byCarry : Nat → Bool) (l : Nat) (s : State) : State :=
  let old := nth rods l
  if Store.read s.variant items (It.rodState l) = rodFailsafeSt ∧ s.get (It.rodState l) ≠ rodFailsafeSt ∧ !byCarry l then
    let s := (s.modRod l fun _ => old).set (It.rodState l) rodFailsafeSt
    let s := s.set (It.rodOut l) (Store.read s.variant items (It.rodOut l))
    (match old.fsChan with
      | some ch => s.rodSafe ch true
      | none => s).casOf l
  else if ((nth s.rods.rods l).ending.any fun e => e.2 == 5) ∧ old.ending.isNone then s.modRod l fun r => { r with ending := none }
  else s

/-- The update session without what commands have done to it since the last copied cycle. Log entry: 135 DEDUCED. -/
def sesTaken (old cur : Option UpdSession) : Option UpdSession :=
  match old, cur with
  | some o, some u =>
    if o.id ≠ u.id then some o
    else if o.blocks = u.blocks then some { u with confirm := o.confirm, start := if o.start.isNone then none else u.start }
    else some { u with blocks := o.blocks, verified := o.verified, confirm := o.confirm, lastBlk := o.lastBlk, start := o.start }
  | o, _ => o

/-- A bead of a BEAD_CANCEL after the last copied cycle stands in its queue again. Log entry: 135 DEDUCED. -/
def State.uncancel (c : Copy) (s : State) : State :=
  let back := s.lanes.cancelled.filter fun x => decide (c.cycle < x.cycle)
  let s := back.foldl (fun s x => s.modVb x.bank fun v => { v with queue := v.queue ++ [x.bead] }) s
  s.modLanes fun l => { l with cancelled := l.cancelled.filter fun x => decide (x.cycle ≤ c.cycle) }

/-- The ownerless action stands again where an OUTPUTS_RESUME taken after the last copied cycle has ended it.
Log entry: 135 DEDUCED. -/
def State.unresume (applied : Bool) (c : Copy) (s : State) : State :=
  if applied && s.get It.ownerlessApplied == 1 then
    let banks := (List.range 16).filter fun b => bit (Store.read s.variant c.items (It.bankSafeCause b)) 0
    (s.each banks fun b s => s.setCause b 0).modIo fun b => { b with forceOwner := c.cmds.forceOwner }
  else s

/-- Every further effect of commands taken after the last copied cycle undone (R82). Log entry: 135 DEDUCED. -/
def State.undo (c : Copy) (resumed : Bool) (s : State) : State :=
  let d := c.cmds
  let pageCarried := s.carriedKey c fun k => k == It.panelPage
  let byCarry := fun (l : Nat) => s.carriedKey c fun k => k / 256 == 0x3000 + l
  let updItem := fun (k : Nat) (s : State) =>
    if s.fw.ses.map (·.id) = d.ses.map (·.id) ∧ s.fw.ses.map (·.blocks) = d.ses.map (·.blocks) then s else s.set k (Store.read s.variant c.items k)
  let s := updItem It.updBlocksMissing (updItem It.updState (updItem It.updSession s))
  let bypass : Nat := Store.read s.variant c.items It.bypassState
  let s : State := { s with
    time := { s.time with calBase := d.calBase, calAt := d.calAt
                          lat := (d.lat.zip s.time.lat).map fun (p : LatMon × LatMon) => if p.2.seen < p.1.seen then p.1 else p.2 }
    cam := { s.cam with tables := d.camTables }
    fus := { s.fus with tables := d.fuTables }
    panel := { s.panel with pages := d.pages, want := s.panel.want && (d.want || pageCarried), clear := s.panel.clear && d.clear }
    hist := { s.hist with hist := (trimRegion 20971520 ((d.hist.filter fun x => !(s.hist.hist.contains x)) ++ s.hist.hist)).1 }
    valve := { s.valve with clears := s.valve.clears.filter d.vClears.contains
                            chans := (s.valve.chans.zip d.coils).map fun (p : Chan × Bool) => { p.1 with measuring := p.1.measuring && p.2 } }
    io := { s.io with clears := s.io.clears.filter d.doClears.contains }
    ring := { s.ring with tests := (s.ring.tests.zip d.tests).map fun (p : Option Nat × Option Nat) => if p.2.isSome then p.1 else none
                          injects := (s.ring.injects.zip d.injects).map fun (p : Option Inject × Option Inject) => if p.2.isSome then p.1 else none }
    fw := { s.fw with ses := sesTaken d.ses s.fw.ses } }
  let s := s.set It.recOldestH ((s.hist.hist.head?.map fun (x : Stored) => x.seq).getD (s.get It.recOldestH))
  let s := ((s.each (List.range 128) (State.undoReset c.items d.rods byCarry)).uncancel c).unresume resumed c
  if bypass = 2 ∧ (s.get It.bypassState = 0 ∨ s.get It.bypassState = 3) then s.ringJoin
  else if bypass = 0 ∧ s.get It.bypassState ≠ 0 ∧ s.get It.ringEnable = 1 ∧ s.ring.join.isSome then s.modRing fun r => { r with join := none }
  else s

/-- From a departure or a yield on the module continues from the copied state, for only the other lane can still run (R82, R117,
R335): commands consumed after the last copied cycle have had no effect, its Reckoner serves, and the trace buffer of the
departed lane is gone (R218). Log entries: 14 DEDUCED, 135 DEDUCED. -/
def State.fromCopy (s : State) : State :=
  match s.lanes.copied with
  | none => s
  | some c =>
    let resumed := s.get It.ownerlessApplied == 0
    let s1 := { s with items := s.itemsTaken c, mail := mailTaken c.mail s.mail, sb := s.slatesTaken c }
    let s1 := { s1 with valve := { s1.valve with stage := s1.stageTaken c, waiting := s1.valve.waiting.filter fun w => decide (w.1 ≤ c.cycle) } }
    let s1 := { s1 with power := { s1.power with pend := c.pend }, rods := { s1.rods with trace := none } }
    (s1.undo c resumed).each (List.range 16) State.releaseHeld

/-- The latch goes HOLDING: commands of the named lane are discarded, its CAN frame is cut and a panel update stops (R325,
R31). -/
def State.holdLatch (g : Gap) (s : State) : State :=
  let s := (s.setLatch s.lanes.latch false).modLanes fun l => { l with
    consuming := false, flight := none, gap := some g, marks := upd l.marks g.lane fun _ => if g.yielded then 2 else 1 }
  s.canCut.panelStop

/-- Step 3: after the copy of the cycle that ended at K_s is acknowledged the active lane closes its gate and yields.
Log entry: 138 DEDUCED. -/
def State.yieldLane (s : State) : State :=
  match s.lanes.sw with
  | some w =>
    match w.ks with
    | some k =>
      if s.lanes.accepting ∧ (s.lanes.copied.any fun c => decide (k ≤ c.cycle + 1)) then
        let x := s.lanes.latch
        let cause := 15 + w.initiator
        let s := s.holdLatch { lane := x, cause := cause, detect := 0, at_ := s.up, quiet := true, yielded := true }
        (s.modLanes fun l => { l with synced := upd l.synced x fun _ => true, yielded := upd l.yielded x fun _ => true }).setLane x 2 cause
      else s
    | none => s
  | none => s

/-! ## Giving up (R327, R335) -/

/-- A lane gives up: it is counted, its restart falls due after red_restart_delay_ms, and a planned switch not yet yielded is
abandoned. The active lane departs (Table 12.4 steps 1 and 2). Log entry: 134 DEDUCED. -/
def State.giveUp (x cause detect : Nat) (s : State) : State :=
  if s.lane x ≠ 3 ∧ s.lane x ≠ 4 then s
  else
    let active := s.activeLane == some x
    let s := (s.bump (It.laneFaults x)).setLane x 5 cause
    let s := s.modLanes fun l => { l with
      found := l.found.filter (fun f => f.1 != x), flight := none
      due := upd l.due x fun _ => some (s.up + s.useK It.redRestartDelayMs * 1000000) }
    let s := if s.lanes.sw.isSome ∧ s.lanes.gap.isNone then
        (s.endSwitch 3 0).modLanes fun l => { l with consuming := l.consuming || (l.accepting && !active && l.takeover.isNone) }
      else s
    if active then
      let s := if s.readyLane (1 - x) then s.fromCopy else s
      ((s.set It.lastCause cause).set It.lastDetectNs (sat32 detect)).holdLatch
        { lane := x, cause := cause, detect := detect, at_ := s.up }
    else s

/-- A give-up cause found by a monitor of a lane (Table 12.2). Cause 8 is only reported unless the other lane is in service
or ACTIVE with its link UP, and not found while the lane's link is under test. Log entries: 128 DEDUCED, 134 DEDUCED. -/
def State.monitor (x cause detect : Nat) (s : State) : State :=
  if cause = 0 ∨ 10 < cause then s
  else if cause = 8 ∧ (s.underTest (4 + x) ∨ !((s.lane (1 - x) == 3 || s.lane (1 - x) == 4) && s.get (linkItem (1 - x)) == 1)) then s
  else s.giveUp x cause detect

/-- The lane that is not active gives up for a cause of the other lane's making: 12, 13 or 17.
Log entry: 138 DEDUCED. -/
def State.standbyFails (cause : Nat) (s : State) : State :=
  let y := 1 - s.lanes.latch
  if s.lane y = 3 then s.giveUp y cause 0 else s

/-! ## The state copy (R330 to R334) -/

/-- What the copy of the cycle that ended at this K holds (Table 12.3). Log entry: 14 DEDUCED. -/
def State.capture (s : State) : Copy :=
  { cycle := s.clk.kLast - 1, items := s.items, mail := s.mail, sb := s.sb, can := s.can, stage := s.valve.stage
    pend := s.power.pend, cmds := s.cmdState }

/-- The responses of the cycles up to `c` are released with what else waits for the copy: CAN buffers, beads of commands,
keys of beads, a pending state change, and what would have to be repeated after a fail-over (R81, R291, R251, R182, R362). -/
def State.releaseCycle (c : Nat) (s : State) : State :=
  let s := (((s.releaseCopies c).canEligible c).copyBeads c).releaseBeads c
  let s := s.modPower fun p => { p with pend := p.pend.map fun x =>
    if x.released.isNone ∧ x.cycle ≤ c then { x with released := some s.clk.kLast } else x }
  let s := s.modLanes fun l => { l with
    carriedSince := l.carriedSince.filter fun x => decide (c < x.1), cancelled := l.cancelled.filter fun x => decide (c < x.cycle) }
  let s := { s with can := { s.can with chs := s.can.chs.map fun (ch : CanCh) => { ch with recent := ch.recent.filter fun f => decide (c < f.cycle) } } }
  s.modMail fun ml => { ml with masters := ml.masters.map fun (ma : Master) => { ma with taken := ma.taken.filter fun t => decide (c < t.1) } }

/-- The standby lane takes part in the copy: STANDBY, or SYNCING with its full sync done, over a lane link that is UP. -/
def State.copying (s : State) : Bool :=
  let y := 1 - s.lanes.latch
  s.lanes.accepting && s.linkCarries && (s.lane y == 3 || (s.lane y == 2 && nth s.lanes.synced y))

/-- The copy of the cycle that has ended goes out on the lane link, where an injection may alter it (R319): the receiver then finds it
failed (R333). Log entry: 187 DESIGN CHOICE. -/
def State.copySent (s : State) : State :=
  let link := 2 + s.lanes.latch
  let r := ((s.modLanes fun l => { l with flight := some s.capture }).transmit link 256 []).2
  r.modLanes fun l => { l with spoiled := r.get (It.fiAltered link) != s.get (It.fiAltered link) }

/-- The copy budget, the divergence bits and the copy of a new cycle; without a standby lane in service the responses of
the cycle that has ended are released (R81, R330, R332). No cycle has ended at the K of mtime 0.
Log entries: 14 DEDUCED, 16 DEDUCED. -/
def State.copyAtK (ingressEqual : Bool) (s : State) : State :=
  let s := if ingressEqual then s else s.bump It.ingressMismatch
  let s := s.modLanes fun l => { l with used := 0, div := b2n (!ingressEqual), flight := none }
  if s.clk.kLast = 0 then s else
  let s := if s.standby ∨ !s.lanes.accepting then s else s.releaseCycle (s.clk.kLast - 1)
  if s.copying then s.copySent else s

/-- A diverged cycle of the standby lane (R331): DIVERGENCE at the first and at the limit, where the lane gives up with
cause 12. -/
def State.divergence (y : Nat) (s : State) : State :=
  if s.lanes.div = 0 then s.set (It.divergeCycles y) 0
  else
    let n := min (s.get (It.divergeCycles y) + 1) 10000
    let limit := s.useK It.redDivergeLimit
    let s := s.set (It.divergeCycles y) n
    let s := if n = 1 ∨ n = limit then
        s.emit 0x0d83 (toLE 1 y ++ toLE 1 s.lanes.div ++ toLE 2 n ++ toLE 4 (s.get (It.stateDivergences y)) ++ toLE 8 s.cycle)
      else s
    if limit ≤ n then s.standbyFails 12 else s

/-- The standby lane applies a copy; the flag says that every record it computes itself is equal (R331). -/
def State.copyApplied (same : Bool) (s : State) : State :=
  let y := 1 - s.lanes.latch
  match s.lanes.flight with
  | none => s
  | some _ =>
    if s.lane y ≠ 3 ∨ s.lanes.spoiled then s
    else
      let s := if same then s
        else (s.bump (It.stateDivergences y)).modLanes fun l => { l with div := l.div ||| 4 }
      let s := s.divergence y
      s.modLanes fun l => { l with div := 0 }

/-- The copy of a cycle is acknowledged: it is the last copied cycle, and what waited for it is released. A SYNCING lane
passes its vital reset sequence and becomes STANDBY (Table 12.6 step 5). -/
def State.copyAcked (cycle : Nat) (s : State) : State :=
  match s.lanes.flight with
  | none => s
  | some c =>
    if c.cycle ≠ cycle ∨ s.lanes.spoiled then s
    else
      let y := 1 - s.lanes.latch
      let s := (s.modLanes fun l => { l with flight := none, copied := some c, fails := 0 }).set It.copyCycle cycle
      let s := if s.lane y = 2 then
          ((s.modLanes fun l => { l with marks := upd l.marks y fun _ => 0 }).modHist fun h =>
            { h with joined := h.joined || !(nth s.lanes.yielded y) }).setLane y 3 0
        else s
      s.releaseCycle cycle

/-- A failed copy; the third in succession ends the standby lane's service, or its sync begins again (R333, R334). -/
def State.copyLost (s : State) : State :=
  match s.lanes.flight with
  | none => s
  | some _ =>
    let y := 1 - s.lanes.latch
    let s := (s.bump It.copyFailures).modLanes fun l => { l with flight := none, fails := l.fails + 1 }
    if s.lanes.fails < 3 then s
    else
      let s := s.modLanes fun l => { l with fails := 0 }
      if s.lane y = 2 then s.modLanes fun l => { l with synced := upd l.synced y fun _ => false }
      else s.standbyFails 13

/-- The lane link goes DOWN (R334). Log entry: 137 DEDUCED. -/
def State.linkDown (s : State) : State :=
  let s := (s.set It.laneLink 0).modLanes fun l => { l with flight := none, synced := [false, false] }
  s.standbyFails 13

/-- The lane link comes UP: a SYNCING lane begins its full sync again (Table 12.1). Log entry: 137 DEDUCED. -/
def State.linkComesUp (s : State) : State :=
  let y := 1 - s.lanes.latch
  let s := s.set It.laneLink 1
  if s.lane y = 2 then (s.modLanes fun l => { l with synced := upd l.synced y fun _ => false }).setLane y 2 0 else s

/-- The steering of the standby lane's mtime towards the active lane's at the K message (R51): beyond the step threshold of 1000
ns it steps once to the active lane's value, else the offset is made smaller by no more than the slew of 100 ppm over a cycle,
10 ns, by an amount that is a free value. Log entry: 166 DESIGN CHOICE. -/
def State.steerStandby (found : Int) (s : State) : State :=
  if 1000 < found.natAbs then
    (((s.bump It.mtimeSteps).seti It.laneOffsetNs 0).modTime fun tm => { tm with standbyOff := 0 }).emit 0x0584
      (toLE 4 (twos 32 (-found)) ++ toLE 4 0 ++ toLE 8 s.cycle)
  else
    let (v, s) := s.fresh
    let by_ : Int := (v % (min 10 found.natAbs + 1) : Nat)
    (s.seti It.laneOffsetNs found).modTime fun tm => { tm with standbyOff := if found < 0 then found + by_ else found - by_ }

/-- The standby lane receives mtime and latched tally of the active lane (R47, R51). `off` is by how many ns its oscillator has
carried its mtime away from the active lane's since the message before. A lane that still syncs compares no tally.
Log entry: 166 DESIGN CHOICE. -/
def State.laneMessage (off : Int) (s : State) : State :=
  let y := 1 - s.lanes.latch
  if !(s.lanes.accepting && s.linkCarries && (s.lane y == 2 || s.lane y == 3)) then s
  else
    let s := s.steerStandby (s.time.standbyOff + off)
    let a := s.time.lane
    let b := s.time.standby
    if s.lane y ≠ 3 ∨ latchAgrees b a then s
    else
      ((s.bump It.laneTallyMismatch).modLanes fun l => { l with div := l.div ||| 2 }).emit 0x0582
        (toLE 4 (twos 32 (unitDiff b.latched a.latched)) ++ toLE 4 0 ++ toLE 8 s.cycle)

/-! ## Taking the role (Table 12.4 steps 4 to 6) -/

/-- CAN buffers from the copy (Table 10.4 step 2): a buffer whose exact frame was seen on the bus after the copied cycle was
transmitted, and a one-shot buffer whose attempt began after it was interrupted. CAN_RX goes out again for the frames
received since (R289). Log entry: 71 DEDUCED. -/
def State.canTaken (c : Copy) (ch : Nat) (s : State) : State :=
  let cur := s.canCh ch
  let old := nth c.can.chs ch
  let s := s.modCan ch fun x => { x with bufs := old.bufs, attempt := none, nextHandle := old.nextHandle, held := old.held }
  let first := fun (bs : List TxBuf) => match bs with
    | [] => none
    | b :: r => some (r.foldl (fun a x => if x.handle < a.handle then x else a) b)
  let seen := cur.recent.filter fun f => decide (c.cycle < f.cycle)
  let s := seen.foldl (fun s f =>
    match first ((s.canCh ch).bufs.filter fun b => b.frame == f.frame) with
    | some b => s.canFree ch b 0 (b2n b.cancel)
    | none => s) s
  let tried := fun (b : TxBuf) => match cur.bufs.find? fun x => x.handle == b.handle with
    | some x => decide (b.attempts < x.attempts)
    | none => true
  let s := ((s.canCh ch).bufs.filter fun b => b.oneShot && b.el.isSome && tried b).foldl (fun s b => s.canFree ch b 5 (b2n b.cancel)) s
  seen.foldl (fun s f => s.emitMasters f.masters 0x0b80 f.record) s

/-- What the lane that takes the role makes good on its CAN channels, for the tracker's beads and for cells (R182, R190, R289, R298).
Log entries: 140 DEDUCED, 169 DESIGN CHOICE. -/
def State.makeGood (s : State) : State :=
  match s.lanes.copied with
  | none => s
  | some c => ((s.each (List.range 6) (State.canTaken c)).rewriteBeads c.cycle).resendCells c.cycle

/-- The clock of the lane that takes the role: its own mtime, `off` ns from that of the lane before (Table 2.8). A boundary or
tick that it has not reached is still to come. -/
def Clock.shift (off : Int) (c : Clock) : Clock :=
  let m := min ((c.mtime : Int) + off).toNat c.wall
  { mtime := m, wall := c.wall, kLast := min c.kLast (m / 100000), tickNext := min c.tickNext (m / 1000 + 1) }

/-- A counter with its instants on an mtime that differs by `off` ns. -/
def Counter.shift (off : Int) (c : Counter) : Counter :=
  { c with tLast := ((c.tLast : Int) + off).toNat, latchAt := ((c.latchAt : Int) + off).toNat }

/-- The lane that takes the role continues its own mtime and its own count; the other lane's stand beside them as the standby's
(Table 2.8, R47, R51). The drive dies' followers go on. -/
def State.takeTime (s : State) : State :=
  let off := s.time.standbyOff
  let d := unitDiff s.time.standby.int s.time.lane.int
  { s with clk := s.clk.shift off, time := { s.time with
      lane := s.time.standby.shift off, standby := s.time.lane.shift off, standbyOff := -off
      hist := s.time.hist.map fun u => { u with
        int := twos 48 (u.int + d), at_ := ((u.at_ : Int) + off).toNat, stop := u.stop.map fun t => ((t : Int) + off).toNat }
      dies := s.time.dies.map fun (f : Follower) => { f with off := f.off - off }
      calAt := ((s.time.calAt : Int) + off).toNat } }

/-- The last frames of a list that take no more than `n` slots. -/
def tailSlots (n : Nat) (l : List Frame) : List Frame :=
  (l.reverse.foldl (fun (a : List Frame × Nat × Bool) f =>
    if a.2.2 ∧ a.2.1 + frameSlots f.p.length ≤ n then (f :: a.1, a.2.1 + frameSlots f.p.length, true) else (a.1, a.2.1, false))
    ([], 0, true)).1

/-- The frames that a partition's ring holds from a consumer index on, the producer index given (R66, R70). -/
def unserved (prod cons : Nat) (l : List Frame) : List Frame :=
  if (prod + 65536 - cons) % 65536 ≤ 256 then tailSlots ((prod + 65536 - cons) % 65536) l else []

/-- A BLK frame as it is observed (R72, R103). -/
def seenAt (t : Nat) (f : Frame) : BlkSeen :=
  { seq := f.h.seq.toNat, payload := f.p, at_ := t, flagged := f.h.flags.toNat != 0 }

/-- The rings of the tenant partitions of the lane that takes the role: what they hold from the copied consumer indices on waits to be
served in ring order. The frames of the departed lane's partitions stay in that lane's rings (R70). Log entry: 28 DEDUCED. -/
def State.takeParts (s : State) : State :=
  s.each (List.range 4) fun m s =>
    let p := nth s.lanes.parts m
    let ma := s.master m
    let held := match s.lanes.copied with
      | some c => (nth c.mail.masters m).blks
      | none => []
    let news := (unserved p.blkProd ma.blk.cons p.blks).map (seenAt s.now)
    let there : PartRing := { cmdProd := ma.cmd.prod, blkProd := ma.blk.prod, cmdWord := ma.cmdWord, blkWord := ma.blkWord, cmds := ma.waiting }
    (s.modMaster m fun ma => { ma with
      cmd := { ma.cmd with prod := p.cmdProd }, cmdWord := p.cmdWord, waiting := unserved p.cmdProd ma.cmd.cons p.cmds
      blk := { ma.blk with prod := p.blkProd }, blkWord := p.blkWord
      blks := (held.filter fun b => !(news.any fun x => x.seq == b.seq)) ++ news }).modLanes fun l => { l with
        parts := upd l.parts m fun _ => there }

/-- A claim is accepted (Table 12.4 steps 5 and 6, Table 12.5 step 5).
Log entries: 140 DEDUCED, 169 DESIGN CHOICE. -/
def State.takeRole (y : Nat) (g : Gap) (s : State) : State :=
  let gap := s.up - g.at_
  let copied := (s.lanes.copied.map (·.cycle)).getD 0
  let s := ((if g.yielded then s.fromCopy else s).recorderTaken y copied g.yielded).takeTime
  let s := (s.makeGood.takeParts.setLatch y true).modLanes fun l => { l with
    gap := none, flight := none, consuming := false
    takeover := some { src := g.lane, dst := y, cause := g.cause, detect := g.detect, gap := gap, planned := g.yielded
                       copied := copied } }
  let s := (s.set It.lastGapNs (sat32 gap)).set It.maxGapNs (max (s.get It.maxGapNs) (sat32 gap))
  let s := s.setLane y 4 g.cause
  let s := if g.yielded then (s.bump It.switches).endSwitch 0 (sat32 gap) else s.bump It.failovers
  let s := ((s.ringClaim.ioClaim).panelRecord.rodSafeSync).each (List.range 6) State.canStart
  match s.lanes.copied with
  | some c => s.releaseCycle c.cycle
  | none => s

/-- The condition of a claim of R325 while the latch is HOLDING after a departure or yield. -/
def State.mayClaim (s : State) (x : Nat) (g : Gap) : Bool :=
  if x = g.lane then g.yielded && decide (g.at_ + 200000 ≤ s.up)
  else s.readyLane x && g.quiet && nth s.lanes.marks x != 1

/-- A yielded lane reclaims after the handover bound (Table 12.5 step 6): the standby lane gives up with cause 17. -/
def State.reclaim (g : Gap) (s : State) : State :=
  let s := (s.setLatch g.lane true).modLanes fun l => { l with gap := none, consuming := true, marks := upd l.marks g.lane fun _ => 0 }
  let s := (s.setLane g.lane 4 0).panelRecord.rodSafeSync.each (List.range 6) State.canStart
  (s.endSwitch 2 (sat32 (s.up - g.at_))).standbyFails 17

/-- The commands of a master consumed after the last copied cycle are answered LANE_CHANGED, and LANE_SERVING follows
(R82). -/
def State.laneServing (m : Nat) (s : State) : State :=
  let t := (s.master m).taken
  let s := (s.modMaster m fun ma => { ma with taken := [] }).bumpBy It.laneChangedCount t.length
  let s := t.foldl (fun s x => s.respond m
    { seq := x.2.1, op := x.2.2, status := stLaneChanged, slate := 0xff, payload := payloadOf x.2.2 [], wait := .ready, cycle := s.cycle, changing := false }) s
  if s.sessionOpen m then
    s.evtTo m 0x0184 (toLE 1 s.lanes.latch ++ toLE 3 0 ++ toLE 4 t.length ++ toLE 8 s.cycle)
  else s

/-- Step 7 of Table 12.4 at the first K after a claim. Log entries: 136 DEDUCED, 140 DEDUCED. -/
def State.takeoverAtK (s : State) : State :=
  match s.lanes.takeover with
  | none => s
  | some t =>
    let s := s.modLanes fun l => { l with takeover := none, consuming := true }
    let s := s.each (List.range 16) State.laneServing
    if t.planned then s
    else s.emit 0x0d81 (toLE 1 t.src ++ toLE 1 t.dst ++ toLE 2 t.cause ++ toLE 4 (sat32 t.detect) ++ toLE 4 (sat32 t.gap) ++
      toLE 4 0 ++ toLE 8 t.copied)

/-! ## Restarts and resets (R336, R339, R340, Table 13.7) -/

/-- The restarts of a lane that lie within red_restart_window_min. -/
def State.recentStarts (s : State) (x : Nat) : List Nat :=
  (nth s.lanes.starts x).filter fun t => decide (s.up < t + s.useK It.redRestartWindowMin * 60000000000)

/-- A lane may restart once more without passing its restart limit (R340). -/
def State.underLimit (s : State) (x : Nat) : Bool := decide ((s.recentStarts x).length < s.useK It.redRestartLimit)

/-- A lane that gave up may restart: red_auto_restart is 1 and its restart limit not reached (Table 12.1). -/
def State.mayRestart (s : State) (x : Nat) : Bool := s.useK It.redAutoRestart == 1 && s.underLimit x

/-- lane_restarts_window follows the window. -/
def State.windowAtK (s : State) : State :=
  s.each [0, 1] fun x s =>
    let l := s.recentStarts x
    (s.modLanes fun b => { b with starts := upd b.starts x fun _ => l }).set (It.laneRestartsWindow x) (min l.length 10)

/-- A restart of a lane is counted. Log entry: 139 DEDUCED. -/
def State.countRestart (x : Nat) (s : State) : State :=
  let l := s.recentStarts x ++ [s.up]
  ((s.modLanes fun b => { b with starts := upd b.starts x fun _ => l, due := upd b.due x fun _ => none }).set
    (It.laneRestartsWindow x) (min l.length 10)).bump (It.laneRestarts x)

/-- Step 1 of Table 12.6: the lane's die is reset. Tests and injections end, and an update session not yet activated (R318, R320,
Table 14.7). -/
def State.restartLane (x cause : Nat) (s : State) : State :=
  let s := (s.endTests.updDiscard 3).countRestart x
  (s.modLanes fun b => { b with
    yielded := upd b.yielded x fun _ => false
    passed := upd b.passed x fun _ => none, synced := upd b.synced x fun _ => false
    restartCfg := upd b.restartCfg x fun _ => s.items, booted := upd b.booted x fun _ => false
    parts := if x = b.latch then b.parts else List.replicate 4 {}
    found := b.found.filter fun f => f.1 != x }).setLane x 1 cause

/-- The controller dies go into a reset: kind 1 warm module reset, 2 recovery boot (Table 13.7). The bypass closes; open
store transactions are lost unless MODULE_RESET asked for the reset (R116). Log entry: 139 DEDUCED. -/
def State.resetDies (kind : Nat) (s : State) : State :=
  let s := (s.endTests.bypassClose.panelStop).setLatch s.lanes.latch false
  let s := s.each [0, 1] fun x s => s.set (It.laneState x) 0
  let s := s.modLanes fun l => { l with consuming := false, flight := none, gap := none, sw := none, takeover := none }
  let s := (s.set It.opState 0).set It.lastShutdown (if kind = 1 then 3 else 4)
  { s.modPower fun p => { p with startKind := kind, pend := none } with phase := .starting }

/-- No lane can restart without passing its limit: recovery boot (R336); one that follows another within the repeat window
selects ROM recovery mode (R380). Log entries: 139 DEDUCED, 146 DEDUCED. -/
def State.recoveryBoot (s : State) : State :=
  let again : Bool := match s.fw.lastRecovery with
    | some t => decide (s.up < t + 600000000000)
    | none => false
  let s := if again then s.set It.recoveryCause 4 else s
  let s := { s with fw := { s.fw with lastRecovery := some s.up, forced := again } }
  s.resetDies 2

/-- No active lane (R336): each lane that is not HELD restarts, which is a warm module reset, since no lane runs; with none
that may, a recovery boot. A lane in GAVE_UP restarts when its delay has passed, if red_auto_restart lets it (Table 12.1).
Log entry: 139 DEDUCED. -/
def State.noLane (s : State) : State :=
  let now := [0, 1].filter fun x => s.underLimit x && (s.lane x == 1 || s.lane x == 2 || s.lane x == 3)
  let later := [0, 1].filter fun x => s.mayRestart x && s.lane x == 5 && (nth s.lanes.due x).isSome
  match now, later with
  | x :: _, _ => (s.countRestart x).resetDies 1
  | [], _ :: _ => s
  | [], [] => s.recoveryBoot

/-- The handover bound has passed without a claim (R336, Table 12.5 step 6). -/
def State.handoverBound (s : State) : State :=
  match s.lanes.gap with
  | none => s
  | some g =>
    if s.up < g.at_ + 200000 ∨ g.late then s
    else if g.yielded ∧ s.lane g.lane = 2 then s.reclaim g
    else (s.modLanes fun l => { l with gap := some { g with late := true } }).noLane

/-- The restart delay of a lane that gave up has passed (Table 12.1, R340). Log entry: 139 DEDUCED. -/
def State.restartDue (x : Nat) (s : State) : State :=
  match nth s.lanes.due x with
  | none => s
  | some t =>
    if s.up < t ∨ s.lane x ≠ 5 then s
    else
      let s := s.modLanes fun l => { l with due := upd l.due x fun _ => none }
      let gone := s.lanes.gap.any (·.late)
      if s.mayRestart x then
        if gone then (s.countRestart x).resetDies 1 else s.restartLane x (s.get (It.laneCause x))
      else
        let s := s.setLane x 6 (s.get (It.laneCause x))
        if gone then s.noLane else s

/-- The quiet time after a departure has passed (Table 12.4 step 4). -/
def State.quietEnd (s : State) : State :=
  match s.lanes.gap with
  | some g => if g.at_ + 20000 ≤ s.up then s.modLanes fun l => { l with gap := some { g with quiet := true } } else s
  | none => s

/-- A background scrub of a lane's memories (R22, R329): corrected words are counted, an uncorrectable one in whichever memory is
cause 3 or 4. -/
def State.scrub (x : Nat) (f : ScrubFinding) (s : State) : State :=
  match f with
  | .clean => s
  | .corrected => s.bump (if x = 1 then It.sramCorrectedB else It.sramCorrectedA)
  | .uncorrectable _ lpddr => s.found x (if lpddr then 4 else 3)

/-- The core of a partition whose bit is clear in red_tenant_critical has an uncorrectable error: the partition restarts alone
and its session closes (R327). -/
def State.tenantRestart (x p : Nat) (s : State) : State :=
  if bit (s.useK It.redTenantCritical) p then s.found x 9
  else
    let s := (s.bump (It.tenantRestarts x)).modLanes fun l => { l with found := l.found.filter fun f => f != (x, 9) }
    if s.activeLane = some x then s.closeSession p 4 else s

/-! ## Opcodes (Table 12.8) -/

def opRedRead : OpFn := fun _ _ s =>
  reply (toLE 1 (s.shown It.role) ++ toLE 1 (s.shown It.roleAccept) ++ toLE 1 (s.shown (It.laneState 0)) ++ toLE 1 (s.shown (It.laneState 1)) ++
    toLE 4 (s.shown It.failovers) ++ toLE 8 (s.shown It.copyCycle) ++ toLE 4 (s.shown It.lastGapNs) ++ toLE 4 (s.shown It.maxGapNs)) s

/-- An activation runs: upd_state 4 STARTING to 7 COMPLETING (Table 14.7). Log entry: 152 DEDUCED. -/
def State.activating (s : State) : Bool := decide (4 ≤ s.get It.updState)

def opLaneSwitch : OpFn := fun _ f s =>
  let x := u8At f.p 0
  if 1 < x ∨ !zeroAt f.p 1 3 then refuse stRange s
  else if s.lane x ≠ 3 ∨ s.lanes.sw.isSome ∨ s.activating then refuse stConflict s
  else reply [] (s.startSwitch x 0)

/-- Log entry: 138 DEDUCED. -/
def opLaneRestart : OpFn := fun _ f s =>
  let x := u8At f.p 0
  if 1 < x ∨ !zeroAt f.p 1 3 then refuse stRange s
  else if s.lane x = 4 ∨ s.lane x = 1 ∨ s.lane x = 2 ∨ s.activating then refuse stConflict s
  else
    reply [] ((s.modLanes fun l => { l with starts := upd l.starts x fun _ => [] }).restartLane x 15)

end Sys2Proof.Machine
end

