-- ==== Sys2Proof/Machine/Ageing.lean ====
section
/-! DEFINITION. The margin re-plan of an orderly park and the coming into force of a plan (R348, R396 to R399). -/

namespace Sys2Proof.Machine

/-- The core rail offset in mV, the slack there, and whether the offset limit applies: the smallest offset in steps of 5 mV
whose canary slack (q16.16 ps) reaches 60 ps (R397). Log entry: 157 DEDUCED. -/
def coreOffset (slack : List Nat) : Nat × Nat × Bool :=
  match (List.range 11).find? fun i => decide (60 * 65536 ≤ slack.getD i 0) with
  | some i => (5 * i, slack.getD i 0, false)
  | none => (50, slack.getD 10 0, true)

/-- The SRAM rail offset in mV and whether the limit applies: the margin (q16.16 mV, at the rail offset in use) reaches 50 mV;
a higher rail raises the margin by as much (R397). Log entry: 157 DEDUCED. -/
def sramOffset (inUse margin : Nat) : Nat × Bool :=
  match (List.range 9).find? fun i => decide (50 * 65536 + inUse ≤ margin + 5 * i * 65536) with
  | some i => (5 * i, false)
  | none => (40, true)

/-- holdup_ms in tenths from the capacitance in µF and the ESR in mΩ, both q16.16 (R397). -/
def holdupTenths (c esr : Nat) : Nat :=
  let v := 25 * 25000 * 65536 + 26 * esr
  let full := 75 * 25000 * 65536
  if full ≤ v then 0 else c * (full * full - v * v) / (65536 * 5200 * (25000 * 65536) * (25000 * 65536))

/-- Tenths as q16.16, rounded down. -/
def tenths (n : Nat) : Nat := n * 65536 / 10

/-- The holdup values of a capacitance and an ESR (R348); with the flag that holdup_decision_ms is 0. -/
def State.setHoldup (t : Nat) (s : State) : State :=
  ((s.set It.holdupMs (tenths t)).set It.holdupReserveMs (tenths (t - 220))).set It.holdupDecisionMs (tenths (t - 250))

/-- The bank plan in tenths of an ampere, from the high-side resistance, its reference and the coil guard (R397). -/
def bankPlan (rref ron : Nat) (below : Bool) : Nat :=
  let top := if below then 108 else 120
  if ron ≤ rref then top else isqrt (top * top * rref / ron)

/-- The demand on a bank's current limit of rules 0x20 and 0x21, q16.16 A (Table 8.11). -/
def State.bankDemand (s : State) (b : Nat) : Nat :=
  let cs := chansOf b
  let dith := ((cs.filter fun c => s.get (It.chMode c) == 2).map fun c => s.get (It.chImaxA c)).sum
  let peak := ((cs.filter fun c => s.get (It.chMode c) == 1).map fun c => s.get (It.chPeakA c)).foldl max 0
  let safe := ((cs.filter fun c => s.get (It.chSafe c) == 1).map fun c => s.get (It.chSafeA c)).sum
  max (dith + peak) safe

/-- The plan of one bank; the flag says that the demand holds the value up. -/
def State.planBank (s : State) (b : Nat) : Nat × Bool :=
  let below := (chansOf b).any fun c => s.get (It.chMode c) != 0 && s.get (It.chCoilGuard c) == gBelow
  let p := tenths (bankPlan (s.get (It.ageHsRonRefMohm b)) (s.get (It.ageHsRonMohm b)) below)
  let d := s.bankDemand b
  if p < d then (d, true) else (p, false)

/-- The boost lead of a channel in µs, q16.16, at a rail of `volts`; none where the current cannot be reached (R397). -/
def State.boostLead (s : State) (c volts : Nat) : Option Nat :=
  let i := s.get (It.chPeakA c)
  let drop := i * s.get (It.ageBoostEsrMohm (c / 8)) / 1000
  let v := volts * 65536 * 65536
  if drop < v then some (s.get (It.chLMh c) * i * 1000 * 65536 / (v - drop)) else none

/-- The longest lead of a bank's boost-hold channels at a rail, limited to the item's range, and whether some lead exceeds
80 percent of its boost timeout in µs × 100. -/
def State.leadOf (s : State) (b volts : Nat) (limit : Nat → Nat) : Nat × Bool :=
  let cs := (chansOf b).filter fun c => s.get (It.chMode c) == 1
  cs.foldl (fun a c => match s.boostLead c volts with
    | some t => (max a.1 (min t (10000 * 65536)), a.2 || decide (80 * limit c * 65536 < t * 10000))
    | none => (10000 * 65536, true)) (0, false)

/-- The boost timeout of a channel at tier 0 and tier 1, in µs × 100 (R224). Log entry: 102 DEDUCED. -/
def State.leadLimit (s : State) (tier c : Nat) : Nat :=
  let p := s.get (It.chProfile c)
  s.get (It.profBoostMaxUs p) * (if tier = 0 then 100 else 100 + s.get (It.profStretchPct p))

/-- The plan body (Table 15.7). -/
def State.planBody (s : State) (flags : Nat) (slack : Nat × Nat) : List Byte :=
  toLE 4 (s.get It.agePlanNumber + 1) ++ toLE 4 flags ++
    toLE 4 (s.get (It.ageCoreOffsetMv 0)) ++ toLE 4 (s.get (It.ageCoreOffsetMv 1)) ++
    toLE 4 (s.get (It.ageSramOffsetMv 0)) ++ toLE 4 (s.get (It.ageSramOffsetMv 1)) ++ toLE 4 slack.1 ++ toLE 4 slack.2 ++
    toLE 4 (s.get It.holdupMs) ++ toLE 4 (s.get It.holdupReserveMs) ++ toLE 4 (s.get It.holdupDecisionMs) ++
    (List.range 16).flatMap fun b => toLE 4 (s.get (It.ageBankPlanA b))

/-- The holdup test at sag tier 0 and the values that follow from it; a degraded holdup sends POWER_EVENT kind 5 (R348,
R397, R399). Log entry: 158 DESIGN CHOICE. -/
def State.holdupTest (h : Nat × Nat) (s : State) : State :=
  if ((s.power.test.bind (·.tier)).getD (s.get It.sagTier)) ≠ 0 then s
  else
    let s := (s.ageSample 3 0 (min h.1 (1000 * 65536))).ageSample 4 0 (min h.2 (10000 * 65536))
    let t := min (holdupTenths h.1 h.2) 1000
    let s := s.setHoldup t
    if t < 250 then
      s.emit 0x0e80 (toLE 1 5 ++ toLE 1 (s.get It.sagTier) ++ toLE 2 0 ++ toLE 4 (s.get It.mainV) ++ toLE 4 (s.get It.kaV) ++
        toLE 8 s.now)
    else s

/-- The re-plan (Table 15.6): trend records, sweeps, holdup test, and the plan with its record.
Log entries: 157 DEDUCED, 158 DESIGN CHOICE. -/
def State.replan (rp : Replan) (s : State) : State :=
  let s := s.trends 1
  let a := coreOffset rp.slackA
  let b := coreOffset rp.slackB
  let sa := sramOffset (s.get (It.ageSramOffsetMv 0)) rp.marginA
  let sb := sramOffset (s.get (It.ageSramOffsetMv 1)) rp.marginB
  let s := (s.ageSample 2 0 rp.marginA).ageSample 2 1 rp.marginB
  let s := s.holdupTest rp.holdup
  let s := (s.set (It.ageCoreOffsetMv 0) (a.1 * 65536)).set (It.ageCoreOffsetMv 1) (b.1 * 65536)
  let s := (s.set (It.ageSramOffsetMv 0) (sa.1 * 65536)).set (It.ageSramOffsetMv 1) (sb.1 * 65536)
  let plans := (List.range 16).map s.planBank
  let lead := (List.range 16).map fun b => (s.leadOf b 96 (s.leadLimit 0), s.leadOf b 80 (s.leadLimit 1))
  let relay := s.get It.ageRelayLimitMohm * 65536
  let flags := b2n a.2.2 + 2 * b2n b.2.2 + 4 * b2n sa.2 + 8 * b2n sb.2 + 16 * b2n (s.get It.holdupDecisionMs == 0) +
    32 * b2n (plans.any (·.2)) + 64 * b2n (lead.any fun x => x.1.2 || x.2.2) +
    128 * b2n (decide (relay < s.get It.ageRelayWeMohm) || decide (relay < s.get It.ageRelayWwMohm)) +
    256 * b2n ((List.range 128).any fun c => decide (2 * s.get (It.ageLsRonRefMohm c) < s.get (It.ageLsRonMohm c)))
  let s := s.each (List.range 16) fun b s => ((s.set (It.ageBankPlanA b) (nth plans b).1).set (It.ageBoostLeadUs b)
    (nth lead b).1.1).set (It.ageBoostLeadT1Us b) (nth lead b).2.1
  let s := s.set It.agePlanFlags flags
  let body := s.planBody flags (a.2.1, b.2.1)
  (s.record (s.newRecord 6 (s.get It.carryNumber) s.now s.now 0 0xffff body)).modHist fun h => { h with newPlan := true }

/-- A start (R397, R398): a new plan comes into force with its record, and bank_limit_a takes its value with age_derate_enable 1;
without one the starts since the plan are counted. Log entry: 156 DEDUCED. -/
def State.planStart (s : State) : State :=
  if s.hist.newPlan then
    let s := s.modHist fun h => { h with plan := h.nextPlan.orElse fun _ => h.plan, nextPlan := none }
    let s := (s.set It.agePlanNumber ((s.get It.agePlanNumber + 1) % 4294967296)).set It.agePlanStarts 0
    if s.usePark It.ageDerateEnable = 1 then
      s.each (List.range 16) fun b s => s.set (It.bankLimitA b) (s.get (It.ageBankPlanA b))
    else s
  else s.set It.agePlanStarts (min (s.get It.agePlanStarts + 1) 65535)

/-- At the first K after the start carry: AGE_PLAN for a new plan, AGE_WARN when the starts since the plan reach their limit (R398).
Log entry: 156 DEDUCED. -/
def State.planAtK (s : State) : State :=
  if s.hist.newPlan then
    (s.modHist fun h => { h with newPlan := false }).emit 0x1180
      (toLE 4 (s.get It.agePlanNumber) ++ toLE 4 (s.get It.agePlanFlags) ++ toLE 8 s.cycle)
  else if s.get It.agePlanStarts = s.get It.agePlanStartsWarn then s.ageWarn 0 0 (min (s.get It.agePlanStarts) 32767 * 65536)
  else s

end Sys2Proof.Machine
end

