-- ==== Sys2Proof/Machine/Checks.lean ====
section
/-! DEFINITION. The checks of a slate (spec 04): the tests of an entry, the general consistency rules, the rules and
budgets of the owning chapters on the projected state, the carry instant, its order and its lead. -/

namespace Sys2Proof.Machine

/-! ## Entries (R97, R101, R102, R104) -/

/-- Items written without a slate (Table 4.3). -/
def directItem (k : Nat) : Bool :=
  (List.range 128).any (fun l => k == It.setPoint l) || (List.range 16).any (fun m => k == It.beamLimit m) ||
    (List.range 16).any (fun n => k == It.doCmd n) || k == It.panelPage

/-- A direct write that the owning chapter refuses: set_point of the inner of a cascade whose cas_state is not OFF (R208), and
do_cmd of the output of a camera trigger (R147). -/
def State.directRefused (s : State) (k : Nat) : Bool :=
  ((List.range 8).any fun c => s.useK (It.casEnable c) == 1 && k == It.setPoint (s.useK (It.casInner c)) && s.get (It.casState c) != 0) ||
    ((List.range 4).any fun p => s.get (It.camTrigMode p) != 0 && k == It.doCmd (s.get (It.camTrigDo p)))

/-- An entry of an ITEM_WRITE or of a slate image (Table 3.13), with the status of the first test of R97 that fails.
Log entry: 39 DEDUCED. -/
def State.entryOf (s : State) (direct : Bool) (e : List Byte) : Except Nat (Nat × Nat) :=
  let k := u32At e 0
  match (if k < 2 ^ 24 then findRow k else none) with
  | none => .error stNoItem
  | some r =>
    let n := r.ty.bytes
    let v := leAt e 8 n
    if u8At e 4 ≠ r.ty.code ∨ u8At e 5 ≠ n ∨ !zeroAt e 6 2 ∨ !zeroAt e (8 + n) (8 - n) then .error stRange
    else if r.apply = .immediate ∨ r.surv = .f then .error stConflict
    else if !r.inRange v then .error stRange
    else if direct && (!directItem k || s.directRefused k) then .error stConflict
    else .ok (k, v)

/-- An entry in a slate: one for a key that it holds keeps its place (R102). Log entry: 53 DEDUCED. -/
def putEntry (e : Nat × Nat) : List (Nat × Nat) → List (Nat × Nat)
  | [] => [e]
  | x :: r => if x.1 = e.1 then e :: r else x :: putEntry e r

/-- Entries taken in order into a list; the index and status of the first that is refused (R97, R101, R103).
Log entries: 39 DEDUCED, 53 DEDUCED. -/
def State.takeEntries (s : State) (direct : Bool) : Nat → List (List Byte) → List (Nat × Nat) → Except (Nat × Nat) (List (Nat × Nat))
  | _, [], acc => .ok acc
  | i, e :: r, acc =>
    match s.entryOf direct e with
    | .error st => .error (i, st)
    | .ok x =>
      let acc := putEntry x acc
      if 4096 < acc.length then .error (i, stAdmission) else s.takeEntries direct (i + 1) r acc

/-! ## General consistency rules (Table 4.5) -/

/-- A source of Table 7.1 exists and is enabled. Log entry: 42 DEDUCED. -/
def sourceOn (rd : Nat → Nat) (code inst : Nat) : Bool :=
  sourceInst code inst &&
  match code with
  | 1 => rd (It.stSource inst) != 0
  | 2 => rd (It.fuLevel inst) != 0
  | 3 => rd (It.aiMode inst) != 0
  | 4 => rd (It.encMode inst) != 0
  | 5 => rd (It.chMode inst) != 0
  | 6 => rd (It.rodEnable inst) == 1
  | 8 => rd (It.beamEnable inst) == 1
  | _ => true

/-- The input behind a stream exists and is enabled (Table 6.1). Log entry: 42 DEDUCED. -/
def streamOn (rd : Nat → Nat) (src : Nat) : Bool :=
  if src = 0 ∨ 39 ≤ src then true
  else if src ≤ 16 then rd (It.aiMode (src - 1)) != 0
  else if src ≤ 24 then rd (It.lsEnable (src - 17)) == 1
  else if src ≤ 32 then rd (It.encMode (src - 25)) != 0
  else rd (It.canMode (src - 33)) != 0

/-- The item that enables the input behind a stream. Log entry: 42 DEDUCED. -/
def streamKeys (src : Nat) : List Nat :=
  if src = 0 ∨ 39 ≤ src then []
  else if src ≤ 16 then [It.aiMode (src - 1)]
  else if src ≤ 24 then [It.lsEnable (src - 17)]
  else if src ≤ 32 then [It.encMode (src - 25)]
  else [It.canMode (src - 33)]

/-- The item that enables what a loop source names. Log entry: 42 DEDUCED. -/
def sourceKeys (src inst : Nat) : List Nat :=
  match src with
  | 1 => [It.stSource inst]
  | 2 => [It.fuLevel inst]
  | 3 => [It.aiMode inst]
  | 4 => [It.encMode inst]
  | 5 => [It.chMode inst]
  | 6 => [It.rodEnable inst]
  | 8 => [It.beamEnable inst]
  | _ => []

/-- Rule 0x01: what an item names exists and is enabled. Log entry: 42 DEDUCED. -/
def namedRules (rd : Nat → Nat) : List Failure :=
  (List.range 32).flatMap (fun n =>
    let p := rd (It.lmSource n)
    require (p == 0 || decide (4 < p) || rd (It.camEnable (p - 1)) == 1) ([It.lmSource n] ++ if p = 0 ∨ 4 < p then [] else [It.camEnable (p - 1)]) 0x01) ++
  (List.range 32).flatMap (fun n => require (streamOn rd (rd (It.stSource n))) (It.stSource n :: streamKeys (rd (It.stSource n))) 0x01) ++
  (groupsOn rd).flatMap (fun g =>
    require ((List.range 32).all fun k => !bit (rd (It.fuStreams g)) k || rd (It.stSource k) != 0)
      (It.fuStreams g :: ((List.range 32).filter fun k => bit (rd (It.fuStreams g)) k && rd (It.stSource k) == 0).map It.stSource) 0x01 ++
    require ((List.range 32).all fun k => !bit (rd (It.fuGroups g)) k || rd (It.fuLevel k) != 0)
      (It.fuGroups g :: ((List.range 32).filter fun k => bit (rd (It.fuGroups g)) k && rd (It.fuLevel k) == 0).map It.fuLevel) 0x01) ++
  require (decide (rd It.tkEjectProfile < 32)) [It.tkEjectProfile] 0x01 ++
  ((List.range 128).filter fun l => rd (It.rodEnable l) == 1).flatMap (fun l =>
    require (sourceOn rd (rd (It.rodPvSrc l)) (rd (It.rodPvInst l))) (It.rodPvSrc l :: It.rodPvInst l :: It.rodEnable l :: sourceKeys (rd (It.rodPvSrc l)) (rd (It.rodPvInst l))) 0x01 ++
    require (sourceOn rd (rd (It.rodFfSrc l)) (rd (It.rodFfInst l))) (It.rodFfSrc l :: It.rodFfInst l :: It.rodEnable l :: sourceKeys (rd (It.rodFfSrc l)) (rd (It.rodFfInst l))) 0x01) ++
  ((List.range 16).filter fun m => rd (It.beamEnable m) == 1).flatMap (fun m =>
    require ((beamLoops rd m).all fun l => rd (It.rodEnable l) == 1)
      (It.beamMembers m :: It.beamEnable m :: ((beamLoops rd m).filter fun l => rd (It.rodEnable l) != 1).map It.rodEnable) 0x01) ++
  ((List.range 8).filter fun k => rd (It.casEnable k) == 1).flatMap fun k =>
    require (rd (It.rodEnable (rd (It.casInner k))) == 1) [It.casInner k, It.casEnable k, It.rodEnable (rd (It.casInner k))] 0x01 ++
    require (if rd (It.casOuterKind k) = 1 then rd (It.beamEnable (rd (It.casOuter k))) == 1
      else rd (It.rodEnable (rd (It.casOuter k))) == 1) [It.casOuter k, It.casOuterKind k, It.casEnable k,
        if rd (It.casOuterKind k) = 1 then It.beamEnable (rd (It.casOuter k)) else It.rodEnable (rd (It.casOuter k))] 0x01

/-- Rules 0x02 and 0x03 of one guard window: lower ≤ upper, and the hysteresis bands lie inside it.
Log entry: 43 DEDUCED. -/
def windowRules (lo hi : Int) (hyst : Nat) (kLow kHigh kHyst : Nat) : List Failure :=
  require (decide (lo ≤ hi)) [kLow, kHigh] 0x02 ++
  require (decide (lo * 100 + lo.natAbs * hyst ≤ hi * 100) && decide (lo * 100 ≤ hi * 100 - hi.natAbs * hyst)) [kHyst, kLow, kHigh] 0x03

/-- Rules 0x02 and 0x03. Log entry: 43 DEDUCED. -/
def limitRules (rd : Nat → Nat) : List Failure :=
  let u := fun k : Nat => (rd k : Int)
  let q := fun k : Nat => signed32 (rd k)
  (List.range 8).flatMap (fun n => windowRules (u (It.encRateLow n)) (u (It.encRateHigh n)) (rd (It.encHystPct n)) (It.encRateLow n) (It.encRateHigh n) (It.encHystPct n)) ++
  (List.range 4).flatMap (fun n => windowRules (u (It.camRateLow n)) (u (It.camRateHigh n)) (rd (It.camHystPct n)) (It.camRateLow n) (It.camRateHigh n) (It.camHystPct n)) ++
  (List.range 32).flatMap (fun n => windowRules (q (It.stLow n)) (q (It.stHigh n)) (rd (It.stHystPct n)) (It.stLow n) (It.stHigh n) (It.stHystPct n)) ++
  (List.range 48).flatMap (fun n => windowRules (u (It.diRateLow n)) (u (It.diRateHigh n)) (rd (It.diHystPct n)) (It.diRateLow n) (It.diRateHigh n) (It.diHystPct n)) ++
  (List.range 16).flatMap (fun n => windowRules (q (It.aiLow n)) (q (It.aiHigh n)) (rd (It.aiHystPct n)) (It.aiLow n) (It.aiHigh n) (It.aiHystPct n)) ++
  (List.range 8).flatMap (fun n => windowRules (u (It.lsRateLow n)) (u (It.lsRateHigh n)) (rd (It.lsHystPct n)) (It.lsRateLow n) (It.lsRateHigh n) (It.lsHystPct n)) ++
  (List.range 128).flatMap (fun l =>
    require (decide (q (It.rodIMin l) ≤ q (It.rodIMax l))) [It.rodIMin l, It.rodIMax l] 0x02 ++
    require (decide (q (It.rodOutMin l) ≤ q (It.rodOutMax l))) [It.rodOutMin l, It.rodOutMax l] 0x02) ++
  (List.range 32).flatMap fun p =>
    require (rd (It.profHoldMaxMs p) == 0 || decide (rd (It.profHoldMinUs p) ≤ 1000 * rd (It.profHoldMaxMs p))) [It.profHoldMinUs p, It.profHoldMaxMs p] 0x02

/-- The items that bind a master (R84, R99). Log entry: 44 DEDUCED. -/
def bindKeys (m : Nat) : List Nat :=
  if isGateway m then [It.gwCanChannel m, It.gwReqId m, It.gwRspId m]
  else if isRingMaster m then [It.bindNode m] else []

/-- Rule 0x04 for CAN gateway identifiers and ring node bindings; the camera rules hold the in-line path.
Log entry: 44 DEDUCED. -/
def claimRules (rd : Nat → Nat) : List Failure :=
  let ids := fun m => [(rd (It.gwReqId m)), (rd (It.gwRspId m))]
  require (decide (5 < rd (It.gwCanChannel 12)) || rd (It.gwCanChannel 12) != rd (It.gwCanChannel 13) ||
    (ids 12).all fun a => !((ids 13).contains a)) ((bindKeys 12) ++ (bindKeys 13)) 0x04 ++
  [4, 5, 6, 7, 8, 9, 10, 11, 15].flatMap fun m =>
    require (rd (It.bindNode m) == 0xffff || [4, 5, 6, 7, 8, 9, 10, 11, 15].all fun n => n == m || rd (It.bindNode n) != rd (It.bindNode m))
      [It.bindNode m] 0x04

/-- Rule 0x05: the owner's own binding is unchanged. Log entry: 44 DEDUCED. -/
def State.bindRules (s : State) (rd : Nat → Nat) : List Failure :=
  match s.mail.owner with
  | none => []
  | some m => (bindKeys m).flatMap fun k => require (rd k == s.get k) [k] 0x05

/-! ## Checks 2 and 3 -/

/-- The channels of the tracker's ejector map. -/
def State.ejectMap (s : State) (rd : Nat → Nat) : List Nat :=
  if rd It.tkEjectMap < 8 then (nth s.fus.tables (rd It.tkEjectMap)).map.map fun e => 8 * e.2.2.1 + e.2.2.2 else []

/-- The failures of check 2 on a projected state (R105, R106). -/
def State.ruleFailures (s : State) (st : Store) : List Failure :=
  let rd := st.read s.variant
  namedRules rd ++ limitRules rd ++ claimRules rd ++ s.bindRules rd ++ camRules s s.get rd ++ fuRules s rd ++ rodRules rd ++
    valveRules rd (s.ejectMap rd) ++ ioRules rd ++ canRules rd ++ recRules rd

/-- The failures of check 3 on a projected state. -/
def State.budgetFailures (s : State) (st : Store) : List Failure :=
  let rd := st.read s.variant
  rodAdmission rd ++ camAdmission rd ++ fuAdmission rd ++ valveAdmission rd ++ canAdmission rd

/-! ## The check report (Table 4.13) -/

/-- A check report: index of the failing entry, status, rule code, resource, demand, available, earliest carry mtime. -/
structure Report where
  index : Nat := 0xffff
  status : Nat := 0
  rule : Nat := 0
  res : Nat := 0
  demand : Nat := 0
  avail : Nat := 0
  earliest : Nat := 0
  deriving DecidableEq, Repr

/-- The report of a slate on which no check ran: zero in every field (R105). Log entry: 40 DEDUCED. -/
def Report.none : Report := { index := 0 }

def Report.bytes (r : Report) : List Byte :=
  toLE 2 r.index ++ toLE 2 r.status ++ toLE 2 r.rule ++ toLE 1 r.res ++ toLE 1 0 ++ toLE 4 (sat32 r.demand) ++ toLE 4 (sat32 r.avail) ++
    toLE 8 r.earliest

/-- The place of a key among entries. Log entry: 41 DEDUCED. -/
def entryIndex (k : Nat) (es : List (Nat × Nat)) : Nat := (es.findIdx? fun e => e.1 == k).getD 0xffff

/-- The report of the failure whose entry comes first (R107). Log entry: 40 DEDUCED. -/
def reportOf (status : Nat) (es : List (Nat × Nat)) (fs : List Failure) : Option Report :=
  match fs with
  | [] => none
  | f :: r =>
    let g := r.foldl (fun a b => if entryIndex b.key es < entryIndex a.key es then b else a) f
    some { index := entryIndex g.key es, status := status, rule := g.key / 65536 * 256 + g.rule, res := g.res, demand := g.demand, avail := g.avail }

/-- A Range column that names another item, on the projected state: a phase below its modulus (R160), an exposure in trigger-width
mode (R149), a window in mtime (R194), a binding to another node than the module itself (R304). It holds for an entry of either
item. Log entry: 178 DEDUCED. -/
def rangeTogether (rd : Nat → Nat) (k : Nat) : Bool :=
  (List.range 8).all (fun c =>
    (k != It.ctxFramePhase c && k != It.ctxFrameMod c || decide (rd (It.ctxFramePhase c) < rd (It.ctxFrameMod c))) &&
    (k != It.ctxExposure c && k != It.ctxExpMode c || rd (It.ctxExpMode c) != 2 ||
      (decide (1 ≤ rd (It.ctxExposure c)) && decide (rd (It.ctxExposure c) ≤ 10000)))) &&
  (List.range 32).all (fun g =>
    k != It.fuWindow g && k != It.fuBasis g || rd (It.fuBasis g) != 0 ||
      (decide (20 ≤ rd (It.fuWindow g)) && decide (rd (It.fuWindow g) ≤ 60000000))) &&
  [4, 5, 6, 7, 8, 9, 10, 11, 15].all fun m => k != It.bindNode m && k != It.ringNode || rd (It.bindNode m) != rd It.ringNode

/-- Check 1: every entry still passes R10 and R11. Log entry: 178 DEDUCED. -/
def entryCheck (rd : Nat → Nat) (es : List (Nat × Nat)) : Option Report :=
  let inRange := fun (e : Nat × Nat) => match findRow e.1 with
    | some r => r.inRange e.2 && rangeTogether rd e.1
    | none => false
  let bad := es.findIdx? fun e => match findRow e.1 with
    | some r => !inRange e || r.apply == .immediate || r.surv == .f
    | none => true
  bad.map fun i => { index := i, status := if inRange (nth es i) then stConflict else stRange }

/-- Checks 1 to 3 of Table 4.4 (R105). Log entry: 41 DEDUCED. -/
def State.contentCheck (s : State) (es : List (Nat × Nat)) : Option Report :=
  let st := s.projected es
  (entryCheck (st.read s.variant) es).orElse fun _ => (reportOf stConflict es (s.ruleFailures st)).orElse fun _ =>
    reportOf stAdmission es (s.budgetFailures st)

/-! ## The carry instant (R43, R108, R109) -/

/-- The lead of one class in µs (Table 4.10). -/
def classLead (cls : Nat) : Nat :=
  if cls = 0x50 ∨ cls = 0x58 then 2000
  else if cls = 0x40 ∨ cls = 0x48 then 1000
  else if [0x30, 0x38, 0x60, 0x68, 0x6c].contains cls then 500
  else 200

/-- The slate lead in µs: the largest class lead of its entries; the source change lead of R42 is no longer than any class
lead (R109). A slate without an entry has no class and no lead. Log entry: 179 DESIGN CHOICE. -/
def slateLead (es : List (Nat × Nat)) : Nat := (es.map fun e => classLead (e.1 / 65536)).foldl max 0

/-- The first base-cycle boundary at or after an mtime. -/
def boundaryAfter (t : Nat) : Nat := (t + 99999) / 100000 * 100000

/-- Check 4: the instant lies within the scheduling horizon. Log entry: 40 DEDUCED. -/
def State.horizonCheck (s : State) (basis instant : Nat) : Option Report :=
  let ok := match basis with
    | 0 => withinTally s.time.lane s.now instant
    | 1 => withinTime s.now instant
    | _ => true
  if ok then none else some { status := stRange }


/-- Check 5: the order of carries. Log entry: 45 DEDUCED. -/
def State.orderCheck (s : State) (basis instant : Nat) : Option Report :=
  let others := s.sb.slates.filter fun x => x.st == .committed || x.st == .prepared
  if others.any fun x => x.basis != basis || instantBefore basis instant x.instant then some { status := stConflict } else none

/-- Check 6: the lead. Where tally_rate 0 converts no instant, the earliest carry is reported as the lead from now.
Log entry: 179 DESIGN CHOICE. -/
def State.leadCheck (s : State) (basis instant lead : Nat) : Option Report :=
  let d := posDiff instant s.pos
  let rate := s.time.lane.rate
  let ok := match basis with
    | 0 => if rate = 0 then decide (0 < d) else decide ((lead * 1000 : Nat) ≤ distanceNs d rate)
    | 1 => decide (s.now + lead * 1000 ≤ instant)
    | _ => true
  if ok then none else some { status := stTooLate, earliest := s.now + lead * 1000 }

/-- Every check of a commit or prepare (Table 4.4): the first failure. Log entry: 40 DEDUCED. -/
def State.slateCheck (s : State) (es : List (Nat × Nat)) (basis instant : Nat) : Option Report :=
  (s.contentCheck es).orElse fun _ => (s.horizonCheck basis instant).orElse fun _ =>
    (s.orderCheck basis instant).orElse fun _ => s.leadCheck basis instant (slateLead es)

/-- The instant that a commit fixes: for basis 2 the first K at or after the end of execution plus the lead (R109). -/
def State.commitInstant (s : State) (es : List (Nat × Nat)) (basis instant : Nat) : Nat :=
  if basis = 2 then boundaryAfter (s.now + slateLead es * 1000) else instant

end Sys2Proof.Machine
end

