-- ==== Sys2Proof/Machine/Slates.lean ====
section
/-! DEFINITION. Slates, the carry, ring-wide carries and snapshots (spec 04), and ITEM_WRITE (R97). -/

namespace Sys2Proof.Machine

/-! ## The store (R116, R433) -/

/-- The P items among some entries. Log entry: 50 DEDUCED. -/
def persisted (es : List (Nat × Nat)) : List (Nat × Nat) :=
  es.filter fun e => match findRow e.1 with
    | some r => r.surv == .p
    | none => false

/-- The store transaction of a carry's or a direct write's P items opens (Table 4.7 step 8).
Log entry: 50 DEDUCED. -/
def State.openTxn (es : List (Nat × Nat)) (s : State) : State :=
  if (persisted es).isEmpty then s
  else (s.modSb fun b => { b with txnOpen := b.txnOpen ++ [persisted es] }).set It.persistPending 1

/-- The oldest open store transaction completes, whole (R116). Log entry: 50 DEDUCED. -/
def State.txnDone (s : State) : State :=
  match s.sb.txnOpen with
  | [] => s
  | t :: r => (s.modSb fun b => { b with stored := Store.putAll s.variant t b.stored, txnOpen := r }).set It.persistPending (b2n (!r.isEmpty))

/-- Every open store transaction completes, in order. Log entry: 50 DEDUCED. -/
def State.storeDone (s : State) : State := s.sb.txnOpen.foldl (fun s _ => s.txnDone) s

/-- Only the lane that holds the role writes the store (R24). -/
def execStoreTransactionDone (dt : Nat) (s : State) : Host.Outcome State Fault Refusal :=
  timedRun dt (fun s => if (s.mail.reck.up || s.phase == .shuttingDown) && s.lanes.accepting then s.txnDone else s) s

/-- The carry ceiling above a carry number (R433). Log entry: 50 DEDUCED. -/
def raised (ceiling n : Nat) : Nat := if n < ceiling then ceiling else n / 1024 * 1024 + 1024

/-- A park, a power-fail shut-down or a requested warm module reset ends by writing carry_number and closing the store
(R433), after every open store transaction (R116). Log entry: 50 DEDUCED. -/
def State.storeClose (s : State) : State :=
  s.storeDone.modSb fun b => { b with storedCarry := s.get It.carryNumber, closed := true }

/-! ## ITEM_WRITE and SLATE_LOAD (R97, R102 to R104) -/

/-- The response of ITEM_WRITE and SLATE_LOAD: index of the first refused entry and its status.
Log entry: 39 DEDUCED. -/
def refusedAt (i st : Nat) : List Byte := toLE 2 i ++ toLE 2 st ++ toLE 4 0

/-- A refusal of the whole request. Log entry: 39 DEDUCED. -/
def refuseWrite (st : Nat) (s : State) : State × Reply := (s, { status := st, payload := refusedAt 0xffff 0 })

def State.slate (s : State) (i : Nat) : Slate := nth s.sb.slates i

def State.modSlate (i : Nat) (f : Slate → Slate) (s : State) : State :=
  s.modSb fun b => { b with slates := upd b.slates i f }

/-- A slate that its owner may fill: OPEN, with no offer pending (R91, R102). -/
def State.fillable (s : State) (i : Nat) : Bool := (s.slate i).st == .opened && s.mail.offer.isNone

/-- The release of direct writes (R104). -/
def State.writeDirect (es : List (Nat × Nat)) (s : State) : State :=
  let s := { s with items := Store.putAll s.variant es s.items }
  (s.panelRelease (es.map (·.1))).openTxn es

/-- The slate field is checked first (R97), then the request (R430) and its entries. Log entry: 39 DEDUCED. -/
def opItemWrite : OpFn := fun _ f s =>
  let n := u16At f.p 0
  let i := f.h.slate.toNat
  let rows := (List.range n).map fun j => (f.p.drop (4 + 16 * j)).take 16
  if i ≠ 0xff ∧ !s.fillable i then refuseWrite stConflict s
  else if n = 0 ∨ 62 < n ∨ !zeroAt f.p 2 2 then refuseWrite stRange s
  else if i = 0xff then
    match s.takeEntries true 0 rows [] with
    | .error (j, st) => (s, { status := st, payload := refusedAt j st })
    | .ok es => reply (refusedAt 0xffff 0) (s.writeDirect es)
  else
    match s.takeEntries false 0 rows (s.slate i).entries with
    | .error (j, st) => (s, { status := st, payload := refusedAt j st })
    | .ok es => (s.modSlate i fun x => { x with entries := es }, { status := stStaged, payload := refusedAt 0xffff 0 })

/-- Log entry: 39 DEDUCED. -/
def opSlateLoad : OpFn := fun m f s =>
  let i := f.h.slate.toNat
  let first := u16At f.p 0
  let n := u16At f.p 2
  if i = 0xff ∨ !zeroAt f.p 12 4 then refuseWrite stRange s
  else if !s.fillable i then refuseWrite stConflict s
  else
    match s.blkImage m first n (u32At f.p 4) (u32At f.p 8) with
    | .error st => refuseWrite st s
    | .ok img =>
      let c := u16At img 8
      if u32At img 0 ≠ 1 ∨ u32At img 4 ≠ 0x9648 ∨ c = 0 ∨ 4096 < c ∨ !zeroAt img 10 2 ∨ img.length ≠ 16 + 16 * c then refuseWrite stRange s
      else
        let rows := (List.range c).map fun j => (img.drop (16 + 16 * j)).take 16
        match s.takeEntries false 0 rows (s.slate i).entries with
        | .error (j, st) => (s, { status := st, payload := refusedAt j st })
        | .ok es =>
          ((s.modSlate i fun x => { x with entries := es, build := u32At img 12 }).blkConsume m first n,
            { status := stStaged, payload := refusedAt 0xffff 0 })

/-! ## Opening, checking and committing (R100, R105) -/

def opSlateOpen : OpFn := fun _ f s =>
  let i := f.h.slate.toNat
  let pick := if i = 0xff then (s.slatesIn [.free]).head? else if (s.slate i).st = .free then some i else none
  match pick with
  | some j => if s.mail.offer.isSome then refuse stConflict s
    else (s.modSlate j fun _ => { st := .opened }, { slate := some j })
  | none => refuse stConflict s

/-- A response with a check report. -/
def report (st : Nat) (r : Report) (s : State) : State × Reply := (s, { status := st, payload := r.bytes })

def opSlateCheck : OpFn := fun _ f s =>
  let i := f.h.slate.toNat
  if i = 0xff then report stRange {} s
  else if (s.slate i).st ≠ .opened then report stConflict Report.none s
  else match s.contentCheck (s.slate i).entries with
    | some r => report r.status r s
    | none => report stOk {} s

/-- The drive dies that a slate concerns, each with the values it stages: the valve items and the tally's settings. -/
def dieEntries (die : Nat) (es : List (Nat × Nat)) : List (Nat × Nat) :=
  es.filter fun e =>
    let cls := e.1 / 65536
    let ins := e.1 / 256 % 256
    (cls == 0x60 && ins / 4 == die) || (cls == 0x68 && ins / 32 == die) || cls == 0x6c ||
      e.1 == It.tallySource || e.1 == It.tallyPrescale || e.1 == It.reversePolicy

/-- The staging of a slate COMMITTED or PREPARED for the drive dies (Tables 4.1, 4.7 step 1 and 4.11 step 1); the next cycle-start
message brings it to each die. What was staged for this slate at its prepare is replaced at the decision. -/
def State.stageDies (i : Nat) (s : State) : State :=
  let x := s.slate i
  let was := fun (d : Nat) => s.valve.stage.any fun e => e.slate == i && e.die == d && e.number.isNone && e.loaded
  s.modValve fun v => { v with stage := (v.stage.filter fun e => e.slate != i || e.number.isSome) ++ (List.range 4).map fun d =>
    { slate := i, die := d, order := x.order, basis := x.basis, instant := x.instant, number := none, entries := dieEntries d x.entries
      loaded := x.ringWide && x.st == .committed && was d } }

def opSlateCommit : OpFn := fun _ f s =>
  let i := f.h.slate.toNat
  let basis := u8At f.p 0
  let instant := u64At f.p 8
  if i = 0xff ∨ 2 < basis ∨ !zeroAt f.p 1 7 ∨ (basis = 2 ∧ instant ≠ 0) then report stRange {} s
  else if !s.fillable i ∨ s.phase = .parking then report stConflict {} s
  else
    let es := (s.slate i).entries
    let at_ := s.commitInstant es basis instant
    match s.slateCheck es basis at_ with
    | some r => report r.status r s
    | none =>
      let s := s.modSlate i fun x => { x with st := .committed, basis := basis, instant := at_, order := s.sb.nextOrder }
      report stOk {} ((s.modSb fun b => { b with nextOrder := b.nextOrder + 1 }).stageDies i)

/-! ## Cancel (R114) -/

def opSlateCancel : OpFn := fun _ f s =>
  let i := f.h.slate.toNat
  let x := s.slate i
  if i = 0xff then refuse stRange s
  else if s.mail.offer.isSome then refuse stConflict s
  else match x.st with
    | .free => refuse stConflict s
    | .opened => reply [] (s.discardSlate i 0)
    | _ =>
      if (x.st = .committed ∧ x.ringWide) ∨ x.cancelK.isSome then refuse stConflict s
      else (s.modSlate i fun x => { x with cancelK := some s.clk.kLast }, { wait := .cancel i })


/-- A waiting cancel takes effect at the next K. Log entry: 46 DEDUCED. -/
def State.cancelEffect (i : Nat) (s : State) : State :=
  match (s.slate i).cancelK with
  | some k => if k < s.clk.kLast then s.discardSlate i 0 else s
  | none => s

def execSlateCancelEffect (dt : Nat) (sl : Fin 8) (s : State) : Host.Outcome State Fault Refusal :=
  timed dt (State.cancelEffect sl) s

/-! ## Ring-wide carry (R120 to R123) -/

/-- The decision deadline of a prepare: 10 ms to 1000 ms after execution, and at least the lead before the carry instant, where
that can be told (R121). Log entry: 45 DEDUCED. -/
def State.deadlineOk (s : State) (basis instant deadline lead : Nat) : Bool :=
  let d := posDiff instant s.pos
  let rate := s.time.lane.rate
  let carryAt : Int := if basis = 1 then instant else s.now + distanceNs d rate
  decide (s.now + 10000000 ≤ deadline) && decide (deadline ≤ s.now + 1000000000) &&
    ((basis == 0 && rate == 0) || decide ((deadline : Int) + (lead * 1000 : Nat) ≤ carryAt))

/-- Log entries: 45 DEDUCED, 46 DEDUCED. -/
def opRingPrepare : OpFn := fun m f s =>
  let i := f.h.slate.toNat
  let id := u32At f.p 0
  let basis := u8At f.p 4
  let n := u8At f.p 5
  let instant := u64At f.p 8
  let deadline := u64At f.p 16
  let x := s.slate i
  if m < 4 ∨ 11 < m then report stDenied {} s
  else if i = 0xff ∨ 1 < basis ∨ n = 0 ∨ 64 < n ∨ !zeroAt f.p 6 2 then report stRange {} s
  else if !s.fillable i ∨ !(s.slatesIn [.prepared]).isEmpty ∨ s.phase = .parking then report stConflict {} s
  else match s.slateCheck x.entries basis instant with
    | some r => report r.status r s
    | none =>
      if !s.deadlineOk basis instant deadline (slateLead x.entries) then report stRange {} s
      else
        let s := s.modSlate i fun x => { x with
          st := .prepared, basis := basis, instant := instant, txn := id, deadline := deadline, ringWide := true, order := s.sb.nextOrder }
        report stOk {} ((s.modSb fun b => { b with nextOrder := b.nextOrder + 1, expired := b.expired.filter (· != id) }).stageDies i)

/-- A decision to commit puts the slate at its place in the order of commits (R108); a cancel that waits for it is answered CONFLICT,
since the slate now belongs to a ring-wide carry (R114). Log entry: 46 DEDUCED. -/
def opRingDecide : OpFn := fun m f s =>
  let i := f.h.slate.toNat
  let id := u32At f.p 0
  let d := u8At f.p 4
  let x := s.slate i
  if m < 4 ∨ 11 < m then refuse stDenied s
  else if i = 0xff ∨ 1 < d ∨ !zeroAt f.p 5 3 then refuse stRange s
  else if s.mail.offer.isSome then refuse stConflict s
  else if x.st ≠ .prepared ∨ x.txn ≠ id then refuse (if s.sb.expired.contains id then stTooLate else stConflict) s
  else if x.deadline ≤ s.now then refuse stTooLate s
  else if d = 0 then reply [] (s.discardSlate i 3)
  else
    let s := if x.cancelK.isSome then s.cancelAnswer i stConflict else s
    let s := s.modSlate i fun x => { x with st := .committed, deadline := 0, order := s.sb.nextOrder, cancelK := none }
    reply [] ((s.modSb fun b => { b with nextOrder := b.nextOrder + 1 }).stageDies i)

/-- A PREPARED slate reaches its decision deadline (R122). Log entry: 46 DEDUCED. -/
def State.deadlineExpiry (i : Nat) (s : State) : State :=
  let x := s.slate i
  if x.st = .prepared ∧ x.deadline ≤ s.now then
    ((s.modSb fun b => { b with expired := b.expired ++ [x.txn] }).bump It.ringAborts).discardSlate i 4
  else s

def execDecisionDeadlineExpiry (dt : Nat) (sl : Fin 8) (s : State) : Host.Outcome State Fault Refusal :=
  timed dt (State.deadlineExpiry sl) s

/-! ## Lists (R124, R127) -/

def slateCode : SlateState → Nat
  | .free => 0 | .opened => 1 | .committed => 2 | .prepared => 3

/-- The slate items of the snapshot of a K (Table 4.14). -/
def State.slateItems (s : State) : State :=
  let s := s.each (List.range 8) fun i s =>
    let x := s.slate i
    let s := ((s.set (It.slateState i) (slateCode x.st)).set (It.slateEntries i) x.entries.length).set (It.slateBasis i) x.basis
    let s := ((s.set (It.slateInstant i) x.instant).set (It.slateTxn i) x.txn).set (It.slateDeadline i)
      (if x.st = .prepared then x.deadline else 0)
    s.set (It.slateBuild i) x.build
  (s.set It.slatesFree (s.slatesIn [.free]).length).set It.pinsInUse s.sb.pins.length

/-- Log entry: 53 DEDUCED. -/
def opSlateList : OpFn := fun _ f s =>
  let rd := s.sb.snap.items.read s.variant
  if f.h.slate.toNat = 0xff then refuse stRange s
  else reply ((List.range 8).flatMap fun i =>
    toLE 1 (rd (It.slateState i)) ++ toLE 1 (rd (It.slateBasis i)) ++ toLE 2 (rd (It.slateEntries i)) ++
      toLE 4 (rd (It.slateTxn i)) ++ toLE 8 (rd (It.slateInstant i)) ++ toLE 8 (rd (It.slateDeadline i))) s

/-- An entry as in ITEM_WRITE (Table 3.13). Log entry: 53 DEDUCED. -/
def entryBytes (e : Nat × Nat) : List Byte :=
  match findRow e.1 with
  | some r => toLE 4 e.1 ++ toLE 1 r.ty.code ++ toLE 1 r.ty.bytes ++ toLE 2 0 ++ toLE 8 e.2
  | none => toLE 4 e.1 ++ toLE 4 0 ++ toLE 8 e.2

/-- Log entry: 53 DEDUCED. -/
def opSlateEntries : OpFn := fun _ f s =>
  let i := f.h.slate.toNat
  let first := u16At f.p 0
  let n := u16At f.p 2
  if i = 0xff ∨ n = 0 ∨ 62 < n then refuse stRange s
  else
    let x := s.slate i
    if x.st = .free then refuse stConflict s
    else if x.entries.length < first then refuse stRange s
    else
      let es := (x.entries.drop first).take n
      reply (toLE 2 es.length ++ toLE 2 0 ++ es.flatMap entryBytes) s

/-! ## Snapshots (R126) -/

/-- Log entry: 47 DEDUCED. -/
def opSnapshotPin : OpFn := fun m _ s =>
  if 2 ≤ (s.sb.pins.filter fun p => p.master == m).length ∨ 8 ≤ s.sb.pins.length then
    let (v, s) := s.fresh
    (s.bump (It.busySent m), { status := stBusy, payload := toLE 4 (busyHint v) })
  else
    let used := fun h => s.sb.pins.any fun p => p.handle == h
    let h := (((List.range 16).map fun i => (s.sb.nextHandle + i) % 256).find? fun h => !used h).getD 0
    let sn := s.sb.snap
    let s := s.modSb fun b => { b with
      pins := b.pins ++ [{ handle := h, master := m, at_ := s.now, snap := sn }], nextHandle := (h + 1) % 256
      gone := b.gone.filter fun g => g.1 != h, lost := b.lost.filter fun g => g.1 != h }
    reply (toLE 1 h ++ toLE 3 0 ++ toLE 4 sn.carry ++ toLE 8 sn.cycle) s

/-- Log entry: 47 DEDUCED. -/
def opSnapshotRead : OpFn := fun m f s =>
  let h := u8At f.p 0
  let n := u16At f.p 2
  if n = 0 ∨ 62 < n ∨ !zeroAt f.p 1 1 then refuse stRange s
  else match s.sb.pins.find? fun p => p.handle == h && p.master == m with
    | some p => reply (readPayload s.variant false p.snap (readKeys f.p n)) s
    | none => refuse (if s.sb.gone.contains (h, m) then stTimeout else stConflict) s

/-- A pin freed. Log entry: 47 DEDUCED. -/
def State.unpin (h : Nat) (s : State) : State :=
  s.modSb fun b => { b with
    pins := b.pins.filter fun p => p.handle != h
    gone := b.gone ++ (b.pins.filter fun p => p.handle == h).map fun p => (h, p.master) }

def opSnapshotRelease : OpFn := fun m f s =>
  let h := u8At f.p 0
  if !zeroAt f.p 1 3 then refuse stRange s
  else if s.sb.pins.any fun p => p.handle == h && p.master == m then reply [] (s.unpin h)
  else refuse stConflict s

def execPinLifetimeExpiry (dt : Nat) (handle : Nat) (s : State) : Host.Outcome State Fault Refusal :=
  timed dt (fun s =>
    if s.sb.pins.any fun p => p.handle == handle && decide (p.at_ + s.get It.pinLifetimeMs * 1000000 ≤ s.now) then s.unpin handle
    else s) s

/-! ## The carry (R110 to R117, Table 4.7 step 4 on) -/

/-- A change of the tally's source or prescale at C (R42): the counters keep their position and begin again. A change of
reverse_policy alone leaves accumulator and reverse_debt as they stand. Log entry: 173 DESIGN CHOICE. -/
def State.tallyCarry (old : Nat → Nat) (s : State) : State :=
  if old It.tallySource = s.get It.tallySource ∧ old It.tallyPrescale = s.get It.tallyPrescale then s
  else
    let st := s.time.lane.st
    ((s.setCount (s.time.lane.changeSource s.now)).modTime fun tm => { tm with standby := tm.standby.changeSource s.now }).tallyEvent st

/-- A latency monitor whose source changes begins again; with source off it is OFF (R57, R58).
Log entry: 49 DEDUCED. -/
def State.lmCarry (old : Nat → Nat) (s : State) : State :=
  s.each (List.range 32) fun n s =>
    let v := s.get (It.lmSource n)
    if old (It.lmSource n) = v then s
    else (s.modTime fun tm => { tm with lat := upd tm.lat n fun _ => {} }).setLm n (if v = 0 then 0 else 1)

/-- Sessions that a carry closes: of a master whose binding changed, and of master 15 when test_access goes to 0 (R84,
R86). -/
def State.sessionCarry (old : Nat → Nat) (s : State) : State :=
  s.each (List.range 16) fun m s =>
    if s.sessionOpen m ∧ ((bindKeys m).any (fun k => old k != s.get k) ∨ (m = 15 ∧ old It.testAccess = 1 ∧ s.get It.testAccess = 0)) then
      s.closeSession m 4
    else s

/-- What the subsystems do at C (Table 4.9). Log entry: 49 DEDUCED. -/
def State.carryHooks (old : Store) (keys : List Nat) (s : State) : State :=
  let rd := old.read s.variant
  let classes := (keys.map (· / 65536)).eraseDups
  let s := (((s.tallyCarry rd).lmCarry rd).camCarry rd).trackerCarry rd
  let s := s.each (List.range 6) (State.canCarry rd)
  let s := (((s.recorderCarry rd classes).rodsCarry keys).ioCarry keys).ringCarry keys
  (s.panelRelease keys).sessionCarry rd

/-- The carry instant of a slate is reached: on the tally while it is RUNNING, or on mtime (R44, R45, R115). -/
def State.carryDue (s : State) (x : Slate) : Bool :=
  if x.basis = 0 then s.time.lane.st == .running && s.time.lane.reached s.now x.instant else decide (x.instant ≤ s.now)

/-- The lateness of a carry in ns, from the distance passed; a free value where no rate converts it.
Log entry: 48 DESIGN CHOICE. -/
def State.carryLate (x : Slate) (s : State) : Nat × State :=
  if x.basis = 0 then
    let d := posDiff s.pos x.instant
    let rate := s.time.lane.rate
    if d = 0 then (0, s) else if rate = 0 then s.fresh else ((distanceNs d rate).toNat, s)
  else (s.now - x.instant, s)

/-- The values of a carry in force on the lanes, with its number (R111, R433), and its store transaction. -/
def State.releaseEntries (es : List (Nat × Nat)) (s : State) : State :=
  let n := s.get It.carryNumber + 1
  let s := { s with items := Store.putAll s.variant es s.items }
  let s := (((s.set It.carryNumber n).set It.lastCarryMtime s.now).set It.lastCarryTally s.pos).openTxn es
  s.modSb fun b => { b with ceiling := raised b.ceiling n }

/-- The items before a carry at this instant kept for what is stamped before C (R119). -/
def State.keepBefore (s : State) : State :=
  s.modSb fun b => { b with before := (b.before.filter fun x => decide (s.now < x.1 + 100000000)) ++ [(s.now, s.items)] }

/-- The carry C of a slate that is first in the order of commits (R108, R110, R112). Log entry: 51 DEDUCED. -/
def State.carryNow (i : Nat) (x : Slate) (s : State) : State :=
  let old := s.items
  let (late, s) := s.carryLate x
  let s := if x.cancelK.isSome then s.cancelAnswer i stTooLate else s
  let s := s.keepBefore.releaseEntries x.entries
  let n := s.get It.carryNumber
  let s := s.modSb fun b => { b with
    slates := upd b.slates i fun _ => {}
    carried := b.carried ++ [{ slate := i, basis := x.basis, number := n, mtime := s.now, tally := s.pos, late := late }] }
  let s := s.modValve fun v => { v with stage := v.stage.map fun d =>
    if d.slate = i ∧ d.order = x.order then { d with number := some n } else d }
  let s := s.modLanes fun l => { l with carriedSince := l.carriedSince ++ [(s.cycle, i, x.entries)] }
  s.carryHooks old (x.entries.map (·.1))

/-- Slates of one instant carry at one C, in the order of their commits, at most `n` of them (R112). -/
def State.carryWith (basis instant : Nat) : Nat → State → State
  | 0, s => s
  | n + 1, s =>
    match s.committed with
    | y :: _ =>
      if y.basis = basis ∧ y.instant = instant then
        match (List.range 8).find? fun j => s.slate j == y with
        | some j => State.carryWith basis instant n (s.carryNow j y)
        | none => s
      else s
    | [] => s

/-- CARRY: the slate is COMMITTED, its instant is reached, and no slate that carries before it still waits (R108). -/
def State.carry (i : Nat) (s : State) : State :=
  let x := s.slate i
  if x.st = .committed ∧ s.carryDue x ∧ s.committed.head? = some x then (s.carryNow i x).carryWith x.basis x.instant 7 else s

def execCarry (dt : Nat) (sl : Fin 8) (s : State) : Host.Outcome State Fault Refusal := timed dt (State.carry sl) s

/-- SLATE_CARRIED at the first K at or after C (Table 4.7 step 7). -/
def State.carriedAtK (s : State) : State :=
  let l := s.sb.carried
  l.foldl (fun s c => s.emit 0x0380 (toLE 1 c.slate ++ toLE 1 c.basis ++ toLE 2 0 ++ toLE 4 c.number ++ toLE 8 c.mtime ++
    toLE 8 c.tally ++ toLE 4 (sat32 c.late) ++ toLE 4 0)) (s.modSb fun b => { b with carried := [] })

/-! ## The carry at a drive die (R117, Table 4.7 step 4) -/

/-- Staged values stand: their slate is COMMITTED, or the lanes have carried it. Log entry: 52 DEDUCED. -/
def State.stageStands (s : State) (d : DieStage) : Bool :=
  let x := s.slate d.slate
  d.number.isSome || (x.st == .committed && x.order == d.order)

/-- Staged values that may still be released: they stand, or their slate is PREPARED. -/
def State.stageStays (s : State) (d : DieStage) : Bool :=
  let x := s.slate d.slate
  s.stageStands d || (x.st == .prepared && x.order == d.order)

/-- The carry instant is reached at a die's follower, with the staged values there. Log entry: 52 DEDUCED. -/
def State.dieReached (s : State) (d : DieStage) : Bool :=
  d.loaded &&
  if d.basis = 0 then s.beadIsDue (4 * d.die) { (default : Bead) with position := BitVec.ofNat 64 d.instant, onMtime := false }
  else s.atDie (4 * d.die) true d.instant

/-- The follower's settings from the values in force at the die (R42). Log entry: 173 DESIGN CHOICE. -/
def State.dieTally (die : Nat) (es : List (Nat × Nat)) (s : State) : State :=
  let v := fun k old => ((es.filter fun e => e.1 == k).getLast?.map (·.2)).getD old
  s.modTime fun tm => { tm with dies := upd tm.dies die fun f =>
    let src := v It.tallySource f.src
    let pre := v It.tallyPrescale f.prescale
    let f := if src = f.src ∧ pre = f.prescale then f
      else { f.setCnt s.up (f.cnt.changeSource s.up) with src := src, prescale := pre }
    { f with discard := v It.reversePolicy (b2n f.discard) == 1 } }

/-- A drive die releases staged values: new settings, the carry number, the follower's source, and what the banks and
channels do at C. -/
def State.dieRelease (die number : Nat) (es : List (Nat × Nat)) (s : State) : State :=
  let old := (nth s.valve.dies die).cfg.read s.variant
  let es' := es.filter fun e => decide (0x60 ≤ e.1 / 65536)
  let s := s.modValve fun v => { v with dies := upd v.dies die fun d => { d with cfg := Store.putAll s.variant es' d.cfg, carry := number } }
  (s.dieTally die es).valveCarry old (es'.map (·.1))

/-- DRIVE_DIE_CARRY: the first of the staged values of a die that stand, for this slate, when its instant is reached.
Log entry: 52 DEDUCED. -/
def State.dieCarry (die i : Nat) (s : State) : State :=
  match (s.valve.stage.filter fun d => d.die == die && s.stageStands d).foldl (fun a d => match a with
      | none => some d
      | some b => if carriesBefore d.basis d.instant d.order b.instant b.order then some d else a) none with
  | some d =>
    if d.slate = i ∧ s.dieReached d then
      let s := s.modValve fun v => { v with stage := v.stage.filter fun e => e != d && (e.die != die || s.stageStays e) }
      s.dieRelease die (d.number.getD (s.get It.carryNumber + 1)) d.entries
    else s
  | none => s

/-- Log entry: 52 DEDUCED. -/
def execDriveDieCarry (dt : Nat) (die : Fin 4) (sl : Fin 8) (s : State) : Host.Outcome State Fault Refusal :=
  timedDie dt (State.dieCarry die sl) s

/-! ## The start carry (R111, R433) -/

/-- The configuration of the store released as a start carry: its number, and every drive die set to it.
Log entry: 51 DEDUCED. -/
def State.startCarry (s : State) : State :=
  let n := if s.sb.closed then s.sb.storedCarry + 1 else s.sb.ceiling + 1
  let s := ((s.set It.carryNumber n).set It.lastCarryMtime s.now).set It.lastCarryTally s.pos
  let s := s.modSb fun b => { b with closed := false, storedCarry := n, ceiling := raised b.ceiling n, txnOpen := [], carried := [] }
  let s := s.modValve fun v => { v with stage := [] }
  let s := { s with cfgRestart := s.items }
  s.each (List.range 4) fun d s =>
    let es := s.items.filter fun e => decide (0x60 ≤ e.1 / 65536) && decide (e.1 / 65536 ≤ 0x6f)
    let s := s.modValve fun v => { v with dies := upd v.dies d fun _ => { cfg := es, carry := n } }
    s.dieTally d [(It.tallySource, s.get It.tallySource), (It.tallyPrescale, s.get It.tallyPrescale), (It.reversePolicy, s.get It.reversePolicy)]

end Sys2Proof.Machine
end

