-- ==== Sys2Proof/Machine/Power.lean ====
section
/-! DEFINITION. Supplies, sag tiers, the power-fail shut-down, operating states, the orderly park and the wake (spec 13). -/

namespace Sys2Proof.Machine

/-- Volts as q16.16. -/
def volts (n : Nat) : Nat := n * 65536

/-- POWER_EVENT (Table 13.11). -/
def State.powerEvent (kind : Nat) (s : State) : State :=
  s.emit 0x0e80 (toLE 1 kind ++ toLE 1 (s.get It.sagTier) ++ toLE 2 0 ++ toLE 4 s.power.main ++ toLE 4 s.power.ka ++ toLE 8 s.now)

/-- STATE_CHANGE (Table 13.11): causes 0 command, 1 start, 2 retention lost. -/
def State.stateChange (old cause : Nat) (s : State) : State :=
  s.emit 0x0e81 (toLE 1 old ++ toLE 1 (s.get It.opState) ++ toLE 2 cause ++ toLE 4 0 ++ toLE 8 s.cycle)

/-- The logic rails are up: every phase but OFF and PARK. -/
def State.railsUp (s : State) : Bool :=
  match s.phase with
  | .off | .park => false
  | _ => true

/-! ## Starts and wakes (R351, R353) -/

/-- A start trigger of Table 13.7: kind 0 cold start, 3 leaving PARK, with the wake source.
Log entry: 147 DEDUCED. -/
def State.beginStart (kind src : Nat) (s : State) : State :=
  { s.modPower fun p => { p with startKind := kind, wakeSrc := src, wake := none, latched := none } with phase := .starting }

/-- A status item of the drive dies or of the isolated section, lost with their power. Log entry: 144 DEDUCED. -/
def unpoweredItem (k : Nat) : Bool :=
  (k / 65536 == 0x60 || k / 65536 == 0x68 || k / 65536 == 0x70 || k / 65536 == 0x78) &&
    (match findRow k with
      | some r => r.surv == .v && r.apply == .immediate
      | none => false)

/-- The drive dies and the isolated section lose their power: every channel and output is off (R353).
Log entry: 144 DEDUCED. -/
def State.unpower (s : State) : State :=
  { s with items := s.items.filter fun e => !unpoweredItem e.1, valve := {}, io := {} }

/-- The slates that an entry into PARK frees, reported at the next start (Table 4.1). -/
def State.slatesParked (s : State) : State :=
  s.each (s.slatesIn [.opened, .prepared, .committed]) fun i s => s.modSb fun b => { b with
    atStart := b.atStart ++ [(i, (nth b.slates i).txn)], slates := upd b.slates i fun _ => {} }

/-- The entry into PARK, or into OFF without KA+ (Table 13.4 step 4, Table 13.6 step 4): items with Apply "at park" come into use
(R12), slates are freed (Table 4.1). Log entry: 144 DEDUCED. -/
def State.enterPark (s : State) : State :=
  let cal := s.calendar
  let s := ({ s with cfgPark := s.items } : State).slatesParked.unpower
  let s := s.modPower fun p => { p with
    parkAt := s.up, parkCal := cal, pend := none, counted := 0, running := none, outside := none, replan := none, test := none
    stepTwo := false
    below := p.below || decide (p.main < volts 35) }
  if s.power.ka < volts 8 then { s.modPower fun p => { p with lost := true } with phase := .off }
  else { s.modPower fun p => { p with lost := false } with phase := .park }

/-- A wake from a source of park_wake: at once with MAIN+ at the start threshold, else it waits; in an orderly park it is
latched (R353, R354). Log entry: 142 DEDUCED. -/
def State.wakeFrom (src : Nat) (enabled : Bool) (s : State) : State :=
  match s.phase with
  | .park =>
    if !enabled then s
    else if volts 35 ≤ s.power.main then s.beginStart 3 src
    else if s.power.wake.isSome then s
    else s.modPower fun p => { p with wake := some (src, s.up) }
  | .parking => if enabled then s.modPower fun p => { p with latched := some (p.latched.getD src) } else s
  | _ => s

/-- A bit of park_wake: that in use in PARK, or the one that the orderly park takes into use. -/
def State.wakeBit (s : State) (k i : Nat) : Bool :=
  bit (if s.phase = .park then s.usePark k else s.get k) i

def execWakeInput (dt : Nat) (s : State) : Host.Outcome State Fault Refusal :=
  timedAny dt (fun s => s.wakeFrom 2 (s.wakeBit It.parkWake 0)) s

def execCanWakePattern (dt : Nat) (ch : Fin 6) (s : State) : Host.Outcome State Fault Refusal :=
  timedAny dt (fun s => s.wakeFrom 3 (s.wakeBit It.parkWake 1 && s.wakeBit (It.canWake ch) 0)) s

/-- park_timer_s has elapsed since the entry into PARK. -/
def State.parkTimer (s : State) : State :=
  let t := s.usePark It.parkTimerS
  if s.phase = .park ∧ t ≠ 0 ∧ s.power.parkAt + t * 1000000000 ≤ s.up then s.wakeFrom 4 (s.wakeBit It.parkWake 2) else s

def execParkTimerExpiry (dt : Nat) (s : State) : Host.Outcome State Fault Refusal := timedAny dt State.parkTimer s

/-- The wake wait of 2 s has passed without MAIN+ at the start threshold (R353). Log entry: 142 DEDUCED. -/
def State.wakeWaitEnd (s : State) : State :=
  match s.phase, s.power.wake with
  | .park, some (_, t) =>
    if t + 2000000000 ≤ s.up then (s.modPower fun p => { p with wake := none }).bump It.wakesNoMain else s
  | _, _ => s

def execWakeWaitExpiry (dt : Nat) (s : State) : Host.Outcome State Fault Refusal := timedAny dt State.wakeWaitEnd s

/-- MAIN+ holds the start threshold for the start dwell: cold start from OFF; a wake from PARK when MAIN+ has risen to it or a
wake waits (R351, R353). Log entry: 142 DEDUCED. -/
def State.startDwell (s : State) : State :=
  let s := s.modPower fun p => { p with main := max p.main (volts 35) }
  match s.phase with
  | .off => s.beginStart 0 1
  | .park =>
    match s.power.wake with
    | some (src, _) => s.beginStart 3 src
    | none => if s.power.below then s.beginStart 3 1 else s
  | _ => s

/-- Log entry: 142 DEDUCED. -/
def execMainStartDwell (dt : Nat) (s : State) : Host.Outcome State Fault Refusal :=
  timedAny dt (fun s => if s.railsUp then s else s.startDwell) s

/-- The queued records reach the store before the logic rails go off (Tables 13.4 and 13.6).
Log entry: 145 DEDUCED. -/
def State.storeQueue (s : State) : State :=
  s.hist.queue.foldl (fun s r => s.storeRecord r) (s.modHist fun h => { h with queue := [] })

/-! ## The power-fail shut-down (Table 13.4) -/

/-- Step 1: from here on no event is placed and no frame is taken. -/
def State.shutDown (s : State) : State :=
  let s := (if s.phase = .parking then s.bump It.parkReplanSkipped else s).set It.opState 3
  let s := s.powerEvent 4
  let y := 1 - s.lanes.latch
  let s := { s.modPower fun p => { p with below := true, pend := none, replan := none, test := none } with phase := .shuttingDown }
  let s := (s.modLanes fun l => { l with flight := none, sw := none }).set (It.laneState y) 0
  s.panelStop.bypassClose

/-- holdup_decision_ms in ns. -/
def State.decisionNs (s : State) : Nat := s.get It.holdupDecisionMs * 1000000 / 65536

/-- The holdup decision timer, ns. -/
def State.holdupTimer (s : State) : Nat :=
  s.power.counted + match s.power.running with
    | some t => s.up - t
    | none => 0

/-- A phase in which the holdup decision leads to a shut-down. -/
def State.mayShut (s : State) : Bool := s.railsUp && s.phase != .shuttingDown

/-- The decision timer reaches holdup_decision_ms in tier 3 (R346, R349). -/
def State.holdupDecision (s : State) : State :=
  if s.mayShut ∧ s.power.running.isSome ∧ s.decisionNs ≤ s.holdupTimer then s.shutDown else s

def execHoldupDecision (dt : Nat) (s : State) : Host.Outcome State Fault Refusal := timedAny dt State.holdupDecision s

/-- The timer returns to zero 50 ms after MAIN+ left tier 3 (R346). -/
def State.recharged (s : State) : State :=
  match s.power.outside with
  | some t =>
    if t + 50000000 ≤ s.up ∧ s.power.running.isNone then s.modPower fun p => { p with counted := 0, outside := none } else s
  | none => s

def execHoldupRechargeEnd (dt : Nat) (s : State) : Host.Outcome State Fault Refusal := timedAny dt State.recharged s

/-- Step 2: store transactions and open records completed. It completes before step 3, whose trigger it shares (R17).
Log entry: 145 DEDUCED. -/
def State.shutStore (s : State) : State :=
  if s.phase = .shuttingDown ∧ !s.power.stepTwo then
    ((((s.recorderEnd 2).storeQueue.storeDone.bump It.powerFails).set It.lastShutdown 1).modPower fun p => { p with stepTwo := true })
  else s

/-- The bypass relays have closed (R314); in a shut-down step 2 of Table 13.4 completes first. -/
def execBypassCloseDone (dt : Nat) (s : State) : Host.Outcome State Fault Refusal :=
  timedAny dt (fun s => if s.get It.bypassState = 3 then s.shutStore.setBypass 0 else s) s

/-- Steps 2 to 4: the store is closed and the logic rails go off. Log entry: 145 DEDUCED. -/
def State.shutEnd (s : State) : State :=
  match s.phase with
  | .shuttingDown => s.shutStore.storeClose.enterPark
  | _ => s

def execShutdownComplete (dt : Nat) (s : State) : Host.Outcome State Fault Refusal := timedAny dt State.shutEnd s

/-- A fault of the active lane ends a shut-down at once, without what is still open in the store (R350). -/
def State.shutFault (s : State) : State := (s.modSb fun b => { b with txnOpen := [] }).enterPark

/-! ## Supply measurement (R343 to R347, R355) -/

/-- Entries into tiers 2 and 3 on the way from a tier to another (R344). Log entry: 143 DEDUCED. -/
def tierEntries (old new : Nat) : Nat :=
  if old < new then ((List.range new).filter fun i => decide (old ≤ i) && decide (1 ≤ i)).length
  else if new = 2 ∧ old = 3 then 1 else 0

/-- The decision timer follows the entry into tier 3 and the leaving of it (R346). Log entry: 143 DEDUCED. -/
def State.tierTimer (old new : Nat) (s : State) : State :=
  if old < 3 ∧ new = 3 then s.recharged.modPower fun p => { p with running := some s.up, outside := none }
  else if old = 3 ∧ new < 3 then s.modPower fun p => { p with counted := s.holdupTimer, running := none, outside := some s.up }
  else s

/-- MAIN+ above the operating maximum of 80 V (R347): once until it has returned. -/
def State.supplyOver (v : Nat) (s : State) : State :=
  if volts 80 < v then
    if s.power.overs then s else ((s.modPower fun p => { p with overs := true }).bump It.supplyOver).powerEvent 1
  else s.modPower fun p => { p with overs := false }

/-- A change of the sag tier after the start of the holdup test leaves the tier that the test began at (R399). -/
def State.tierAtTest (s : State) : State :=
  s.modPower fun p => { p with test := p.test.map fun t =>
    if t.from_ ≤ s.up then { t with tier := some (t.tier.getD (s.get It.sagTier)) } else t }

/-- The power stage's measurement of MAIN+ (q16.16 V). An entry into tier 3 while the holdup test of a park runs begins the shut-down
at once (R399). Log entries: 142 DEDUCED, 143 DEDUCED. -/
def State.mainTo (v : Nat) (s : State) : State :=
  let s := s.modPower fun p => { p with main := v }
  match s.phase with
  | .off => s
  | .park =>
    if v < volts 35 then s.modPower fun p => { p with below := true }
    else match s.power.wake with
      | some (src, _) => s.beginStart 3 src
      | none => s
  | .shuttingDown => s
  | _ =>
    let old := s.get It.sagTier
    let new := sagTier old v
    let s := ((s.tierAtTest.set It.mainV (min v (volts 110))).set It.sagTier new).supplyOver v
    let s := (s.bumpBy It.sagEvents (tierEntries old new)).tierTimer old new
    let s := if old = new then s else s.powerEvent 0
    let testing := s.phase == .parking && s.power.test.any fun t => decide (t.from_ ≤ s.up) && decide (s.up < t.to_)
    if new = 3 ∧ (s.decisionNs = 0 ∨ (old ≠ 3 ∧ testing)) then s.shutDown else s

def execPowerTierChange (dt : Nat) (volts : Nat) (s : State) : Host.Outcome State Fault Refusal := timedAny dt (State.mainTo volts) s

def execSupplyAboveOperatingMax (dt : Nat) (volts : Nat) (s : State) : Host.Outcome State Fault Refusal :=
  timedAny dt (State.mainTo volts) s

/-- The measurement of KA+ (q16.16 V): lost below 8 V, restored at its operating minimum of 9 V (R355).
Log entry: 144 DEDUCED. -/
def State.kaTo (v : Nat) (s : State) : State :=
  let s := s.modPower fun p => { p with ka := v }
  let s := if s.railsUp then s.set It.kaV (min v (volts 40)) else s
  let lost := decide (v < volts 8)
  let back := decide (volts 9 ≤ v)
  if s.phase = .park ∧ lost then { s.modPower fun p => { p with lost := true, kaLost := true } with phase := .off }
  else if lost ∧ !s.power.kaLost then (s.modPower fun p => { p with kaLost := true }).powerEvent 2
  else if back ∧ s.power.kaLost then (s.modPower fun p => { p with kaLost := false }).powerEvent 3
  else s

def execKaSupplyChange (dt : Nat) (volts : Nat) (s : State) : Host.Outcome State Fault Refusal := timedAny dt (State.kaTo volts) s

/-! ## Operating states (R352, R354, R362) -/

/-- Step 1 of the orderly park (Table 13.6). -/
def State.parkBegin (rp : Replan) (s : State) : State :=
  let old := s.get It.opState
  let s := (s.set It.opState 3).stateChange old 0
  let s := (s.valveIdle true).modIo fun b => { b with forcePark := true }
  let s := (s.each (List.range 6) State.canFlush).panelPark
  { s.modPower fun p => { p with
      replan := some rp, test := some { from_ := s.up + rp.test.1, to_ := s.up + rp.test.2 } } with phase := .parking }

/-- RUN or IDLE takes effect. -/
def State.runIdle (st : Nat) (s : State) : State :=
  let old := s.get It.opState
  ((s.set It.opState st).valveIdle (st == 2)).stateChange old 0

/-- The pending change whose response was released before this K (R362). Log entry: 141 DEDUCED. -/
def State.pendingDue (s : State) : Option Nat :=
  match s.power.pend with
  | some x => if x.released.any fun k => decide (k < s.clk.kLast) then some x.what else none
  | none => none

/-- A pending STATE_SET takes effect. Log entry: 141 DEDUCED. -/
def State.stateEffect (rp : Replan) (s : State) : State :=
  match s.pendingDue with
  | some 0 => (s.modPower fun p => { p with pend := none }).runIdle 1
  | some 1 => (s.modPower fun p => { p with pend := none }).runIdle 2
  | some 2 => (s.modPower fun p => { p with pend := none }).parkBegin rp
  | _ => s

/-- Log entry: 158 DESIGN CHOICE. -/
def execStateChangeEffect (dt : Nat) (rp : Replan) (s : State) : Host.Outcome State Fault Refusal :=
  timed dt (State.stateEffect rp) s

/-- Steps 2 to 4 of the orderly park: the re-plan, the store, the final panel update, PARK.
Log entry: 145 DEDUCED. -/
def State.parkEnd (s : State) : State :=
  let s := match s.power.replan with
    | some rp => s.replan rp
    | none => s
  let s := (s.recorderEnd 0).storeQueue.panelParkEnd.set It.lastShutdown 2
  let s := s.each (List.range 16) fun m s => s.set (It.sessionState m) 0
  let s := s.bypassClose.storeClose
  let wake := s.power.latched
  let s := (s.modPower fun p => { p with below := false }).enterPark
  match wake with
  | some src => (s.modPower fun p => { p with latched := none }).wakeFrom src true
  | none => s

def execOrderlyParkComplete (dt : Nat) (s : State) : Host.Outcome State Fault Refusal :=
  timedAny dt (fun s => match s.phase with
    | .parking => s.parkEnd
    | _ => s) s

/-! ## Opcodes (Table 13.11) -/

def opPowerRead : OpFn := fun _ _ s =>
  reply (toLE 1 (s.shown It.opState) ++ toLE 1 (s.shown It.sagTier) ++ toLE 1 (s.shown It.lastStartKind) ++ toLE 1 (s.shown It.lastShutdown) ++
    toLE 4 (s.shown It.mainV) ++ toLE 4 (s.shown It.kaV) ++ toLE 4 (s.shown It.holdupMs) ++ toLE 4 (s.shown It.holdupReserveMs) ++
    toLE 4 (s.shown It.holdupDecisionMs) ++ toLE 4 0) s

/-- A change set pending (R362). Log entry: 141 DEDUCED. -/
def State.setPending (what : Nat) (s : State) : State :=
  s.modPower fun p => { p with pend := some { what := what, cycle := s.cycle } }

/-- Log entry: 141 DEDUCED. -/
def opStateSet : OpFn := fun _ f s =>
  let v := u8At f.p 0
  let st := s.get It.opState
  if 2 < v ∨ !zeroAt f.p 1 3 then refuse stRange s
  else if st = v + 1 ∨ s.power.pend.isSome ∨ st = 0 ∨ st = 3 ∨ (v = 2 ∧ s.power.ka < volts 9) ∨ s.activating then refuse stConflict s
  else reply [] (s.setPending v)

/-- Log entry: 141 DEDUCED. -/
def opModuleReset : OpFn := fun _ f s =>
  if u8At f.p 0 ≠ 0 ∨ !zeroAt f.p 1 3 then refuse stRange s
  else if s.activating then refuse stConflict s
  else reply [] (s.setPending 3)

end Sys2Proof.Machine
end

