-- ==== Sys2Proof/Machine/Update.lean ====
section
/-! DEFINITION. Firmware banks, manifests, update sessions, activation, confirmation and fall-back (spec 14). -/

namespace Sys2Proof.Machine

def State.modFw (f : UpdBank → UpdBank) (s : State) : State := { s with fw := f s.fw }
def State.modSes (f : UpdSession → UpdSession) (s : State) : State := s.modFw fun w => { w with ses := w.ses.map f }

/-- The image flash of a lane. Log entry: 153 DEDUCED. -/
def State.laneFw (s : State) (x : Nat) : LaneFw := nth s.fw.lanes x

/-- The bank that a lane runs. -/
def LaneFw.running (l : LaneFw) : FwBank := nth l.banks l.boot

/-! ## Manifests (R366 to R368) -/

/-- The kinds of Table 14.1. -/
def kindOk (k : Nat) : Bool := (decide (1 ≤ k) && decide (k ≤ 7)) || (decide (0x10 ≤ k) && decide (k ≤ 0x13))

/-- One component entry of a manifest (Table 14.3). -/
def compOf (m : Man) (e : List Byte) : Comp :=
  { kind := u8At e 0, version := u32At e 4, size := u32At e 8, level := u16At e 12, copyLo := u16At e 16, copyHi := u16At e 18
    reqs := ((List.range 4).map fun i => (u8At e (24 + 8 * i), u16At e (26 + 8 * i), u16At e (28 + 8 * i))).filter fun r => r.1 != 0
    hash := beNat ((e.drop 56).take 48), man := m }

/-- The reserved fields of a component entry are zero, and copy levels stand only at kind 0x02. -/
def entryZeros (e : List Byte) : Bool :=
  zeroAt e 1 3 && zeroAt e 14 2 && zeroAt e 20 4 && (u8At e 0 == 2 || zeroAt e 16 4) &&
    (List.range 4).all fun i => zeroAt e (25 + 8 * i) 1 && zeroAt e (30 + 8 * i) 2

/-- The entries of a manifest as bytes. -/
def manEntries (b : List Byte) : List (List Byte) := (List.range (u8At b 18)).map fun i => (b.drop (32 + 104 * i)).take 104

/-- The header of a manifest. -/
def manOf (b : List Byte) : Man :=
  { bytes := b, signer := u8At b 16, sv := u8At b 17, build := u32At b 8, hwLo := u16At b 12, hwHi := u16At b 14, flags := u8At b 19 }

/-- The components of a manifest. -/
def manComps (b : List Byte) : List Comp := (manEntries b).map (compOf (manOf b))

/-- Check 4 of R369. -/
def manOk (b : List Byte) : Bool :=
  let n := u8At b 18
  let ks := (manComps b).map (·.kind)
  decide (1 ≤ n) && decide (n ≤ 16) && b.length == 128 + 104 * n && u32At b 0 == 1 && u32At b 4 == 0x9648 &&
    decide (u8At b 16 ≤ 1) && decide (u8At b 17 ≤ 63) && decide (u8At b 19 ≤ 3) && zeroAt b 20 12 && ks.all kindOk && ks.eraseDups == ks &&
    (manEntries b).all entryZeros && decide (((manComps b).map (·.size)).sum ≤ 64 * 1048576)

/-- The maker's key from the maker certificate in a bank, as a key index of `Config.verifies` other than 0 (R367). -/
def makerKey (b : FwBank) : Option Nat :=
  match b.comps.find? fun c => c.kind == 7 with
  | some c => if c.data.length = 105 ∧ u32At c.data 0 = 1 then some (1 + beNat (c.data.drop 8)) else none
  | none => none

/-- Check 5: the signature, by the signer's key (R367). Log entry: 3 DESIGN CHOICE. -/
def signatureOk (running : FwBank) (b : List Byte) : Bool :=
  let m := manOf b
  let signed := b.take (b.length - 96)
  let sig := b.drop (b.length - 96)
  if m.signer = 0 then Config.verifies 0 signed sig
  else (manComps b).all (fun c => decide (0x10 ≤ c.kind)) && match makerKey running with
    | some k => Config.verifies k signed sig
    | none => false

/-- The anti-rollback counter of a lane and domain (R368). -/
def fuseItem (x signer : Nat) : Nat := if signer = 0 then It.fuseSvQuerik x else It.fuseSvMaker x

/-- A manifest's security version does not lie below its counter on a lane. -/
def State.svOk (s : State) (x : Nat) (m : Man) : Bool := m.factory || decide (s.get (fuseItem x m.signer) ≤ m.sv)

/-- hw_revision lies in a manifest's range. -/
def State.hwOk (s : State) (m : Man) : Bool :=
  m.factory || (decide (m.hwLo ≤ s.get It.hwRevision) && decide (s.get It.hwRevision ≤ m.hwHi))

/-! ## Compatibility (R370) -/

/-- The components of a session laid over those of a bank. -/
def resulting (new : List Comp) (old : FwBank) : List Comp :=
  new ++ old.comps.filter fun c => !(new.any fun d => d.kind == c.kind)

/-- The first requirement of some components that a set does not meet: failing kind, required kind, level found. -/
def unmet (cs set : List Comp) : Option (Nat × Nat × Nat) :=
  cs.findSome? fun c => c.reqs.findSome? fun r =>
    match set.find? fun d => d.kind == r.1 with
    | some d => if r.2.1 ≤ d.level ∧ d.level ≤ r.2.2 then none else some (c.kind, r.1, d.level)
    | none => some (c.kind, r.1, 0xffff)

/-- The new and the running kind 0x02 accept each other's level as a copy level. -/
def copyRefused (new old : List Comp) : Option (Nat × Nat × Nat) :=
  match new.find? (fun c => c.kind == 2), old.find? (fun c => c.kind == 2) with
  | some a, some b =>
    if a.copyLo ≤ b.level ∧ b.level ≤ a.copyHi then
      if b.copyLo ≤ a.level ∧ a.level ≤ b.copyHi then none else some (2, 2, a.level)
    else some (2, 2, b.level)
  | _, _ => none

/-- The components that must also suit the shared parts. -/
def forShared (new : List Comp) : List Comp :=
  (new.filter fun c => c.kind == 2 || c.kind == 3 || c.kind == 4).map fun c =>
    { c with reqs := c.reqs.filter fun r => r.1 == 5 || r.1 == 6 }

/-- The compatibility of a manifest's components with a bank. -/
def State.incompatible (s : State) (new : List Comp) (flags mode : Nat) (bank : FwBank) : Option (Nat × Nat × Nat) :=
  let set := resulting new bank
  match unmet set set with
  | some r => some r
  | none =>
    if s.phase = .recovery then none
    else match unmet (forShared new) s.fw.shared with
      | some r => some r
      | none =>
        if mode = 1 then none
        else if bit flags 1 then some (0, 0, 0)
        else copyRefused new bank.comps

/-! ## Banks (R365, R373, R376) -/

/-- The bank that ROM recovery mode writes (R382): not the CONFIRMED one of highest sequence, or bank 0. -/
def LaneFw.confirmed (l : LaneFw) : Option Nat :=
  let c := fun i => (nth l.banks i).st == 4
  match c 0, c 1 with
  | true, true => some (if (nth l.banks 0).seq < (nth l.banks 1).seq then 1 else 0)
  | true, false => some 0
  | false, true => some 1
  | false, false => none

def LaneFw.target (l : LaneFw) : Nat :=
  match l.confirmed with
  | some i => 1 - i
  | none => 0

/-- The bank against which a manifest is held: the running bank, or in ROM recovery mode the one written over. -/
def State.baseBank (s : State) (x : Nat) : FwBank :=
  if s.phase = .recovery then nth (s.laneFw x).banks (s.laneFw x).target else (s.laneFw x).running

/-- The check of a bank by the ROM (R368, R373): every manifest's signature, by the key of the bank itself for a maker's, its
counter and hw_revision range, and the digest of every component. The set that the module comes with has passed, and the header of
a bank that is not EMPTY passes its CRC. Log entries: 3 DESIGN CHOICE, 153 DEDUCED. -/
def State.bootable (s : State) (x : Nat) (b : FwBank) : Bool :=
  b.comps.all fun c => c.man.factory ||
    (signatureOk b c.man.bytes && s.svOk x c.man && s.hwOk c.man && Config.sha384 c.data == c.hash)

/-- A bank of a lane changed. -/
def State.modBank (x i : Nat) (f : FwBank → FwBank) (s : State) : State :=
  s.modFw fun w => { w with lanes := upd w.lanes x fun l => { l with banks := upd l.banks i f } }

/-- The bank items of a lane (Table 14.10). -/
def State.bankItems (x : Nat) (s : State) : State :=
  let l := s.laneFw x
  let b0 := nth l.banks 0
  let b1 := nth l.banks 1
  let s := ((s.set (It.bootBank x) l.boot).set (It.bank0State x) b0.st).set (It.bank1State x) b1.st
  let s := (s.set (It.bank0Seq x) b0.seq).set (It.bank1Seq x) b1.seq
  s.set (It.fwVersion x) (((l.running.comps.find? fun c => c.kind == 2).map (·.version)).getD 0)

/-- Every TRIAL bank INVALID and every boot-once flag cleared, at a module start (R373). -/
def State.endTrials (s : State) : State :=
  s.modFw fun w => { w with lanes := w.lanes.map fun (l : LaneFw) => { l with banks := l.banks.map fun (b : FwBank) =>
    { b with st := if b.st = 3 then 1 else b.st, once := false } } }

/-- The boot rule of a lane start (R373); the flag tells whether a bank passed. -/
def State.bootLane (x : Nat) (s : State) : State × Bool :=
  let l := s.laneFw x
  let trial := [0, 1].find? fun i => (nth l.banks i).st == 3 && (nth l.banks i).once
  let go := fun (i : Nat) (s : State) => s.modFw fun w => { w with lanes := upd w.lanes x fun l => { l with boot := i } }
  match trial.orElse fun _ => l.confirmed with
  | none => (s, false)
  | some i =>
    let s := s.modBank x i fun b => { b with once := false }
    if s.bootable x (nth l.banks i) then (go i s, true)
    else
      let s := s.modBank x i fun b => { b with st := 1 }
      match (s.laneFw x).confirmed with
      | none => (s, false)
      | some j =>
        if s.bootable x (nth (s.laneFw x).banks j) then (go j s, true) else (s, false)

/-- The counters of a lane advanced to the security versions of its running bank, domain by domain (R376). -/
def State.blowFuses (x : Nat) (s : State) : State :=
  (s.laneFw x).running.comps.foldl (fun s c =>
    if c.man.factory ∨ c.man.sv ≤ s.get (fuseItem x c.man.signer) then s else s.set (fuseItem x c.man.signer) c.man.sv) s

/-- The manifests, as bytes, of a bank. -/
def FwBank.manifests (b : FwBank) : List Man := (b.comps.map (·.man)).eraseDups

/-- upd_mixed: the lanes run banks of different manifests (R377). -/
def State.mixed (s : State) : State :=
  let a := (s.laneFw 0).running.manifests
  let b := (s.laneFw 1).running.manifests
  s.set It.updMixed (b2n !(a.all b.contains && b.all a.contains))

/-! ## Blocks (R371) -/

/-- How many blocks a component has. -/
def Comp.blocks (c : Comp) : Nat := (c.size + 4095) / 4096

/-- Blocks of a session that are missing. -/
def UpdSession.missing (u : UpdSession) : Nat := (u.comps.map Comp.blocks).sum - u.blocks.length

/-- The bytes of a component from its blocks, in order; none while one is missing. -/
def UpdSession.dataOf (u : UpdSession) (i : Nat) : Option (List Byte) :=
  ((List.range (nth (u.comps.map Comp.blocks) i)).mapM fun n =>
    (u.blocks.find? fun b => b.1 == i && b.2.1 == n).map fun b => b.2.2).map List.flatten

/-- Every component is complete and verified. -/
def UpdSession.complete (u : UpdSession) : Bool := (List.range u.comps.length).all u.verified.contains

/-- A block frame (Table 14.4) taken into a session, or its status. -/
def UpdSession.take (u : UpdSession) (p : List Byte) : Except Nat UpdSession :=
  let i := u8At p 0
  let n := u32At p 4
  let len := u32At p 8
  match u.comps[i]? with
  | none => .error stRange
  | some c =>
    if c.blocks ≤ n ∨ len ≠ min 4096 (c.size - 4096 * n) ∨ p.length ≠ 16 + len ∨ !zeroAt p 1 3 then .error stRange
    else if crc32c (p.drop 16) ≠ u32At p 12 then .error stIntegrity
    else .ok { u with blocks := (i, n, p.drop 16) :: u.blocks.filter fun b => !(b.1 == i && b.2.1 == n)
                      verified := u.verified.filter (· != i) }

/-- The frames of UPD_BLOCKS in order; the first that is refused with its status. Log entry: 151 DEDUCED. -/
def takeBlocks : Nat → List BlkSeen → UpdSession → UpdSession × Option (Nat × Nat)
  | _, [], u => (u, none)
  | i, f :: r, u =>
    match u.take f.payload with
    | .ok u => takeBlocks (i + 1) r u
    | .error st => let x := takeBlocks (i + 1) r u; (x.1, some (i, st))

/-- Every component verified: the banks are written (R372); in ROM recovery mode UPD_ACTIVATE writes them (R382).
Log entry: 149 DEDUCED. -/
def State.updWriting (s : State) : State :=
  match s.fw.ses with
  | some u => if s.get It.updState = 1 ∧ u.complete then s.setUpd (if s.phase = .recovery then 3 else 2) 0 else s
  | none => s

/-- The SHA-384 of a component whose last block is stored is computed (R371).
Log entries: 3 DESIGN CHOICE, 149 DEDUCED. -/
def State.componentHash (s : State) : State :=
  match s.fw.ses with
  | none => s
  | some u =>
    if s.get It.updState ≠ 1 then s
    else match (List.range u.comps.length).find? fun i => !(u.verified.contains i) && (u.dataOf i).isSome with
      | none => s
      | some i =>
        let data := (u.dataOf i).getD []
        if Config.sha384 data = (u.comps[i]?.map (·.hash)).getD 0 then
          (s.modSes fun u => { u with verified := u.verified ++ [i] }).updWriting
        else
          let s := s.modSes fun u => { u with blocks := u.blocks.filter fun b => b.1 != i }
          (s.set It.updBlocksMissing ((s.fw.ses.map UpdSession.missing).getD 0)).setUpd 1 1

def execComponentHashDone (dt : Nat) (s : State) : Host.Outcome State Fault Refusal := timedRom dt State.componentHash s

/-! ## Writing the banks (R372, R382) -/

/-- The bank that a session writes on a lane. -/
def State.newBank (s : State) (x : Nat) (u : UpdSession) (st : Nat) : FwBank :=
  let new := u.comps.mapIdx fun i c => { c with data := (u.dataOf i).getD [] }
  let l := s.laneFw x
  let seq := if s.phase = .recovery then max (nth l.banks 0).seq (nth l.banks 1).seq else l.running.seq
  { st := st, seq := seq + 1, comps := resulting new (s.baseBank x) }

/-- The place that a session writes on a lane. Log entry: 149 DEDUCED. -/
def State.writeAt (s : State) (x : Nat) : Nat := if s.phase = .recovery then (s.laneFw x).target else 1 - (s.laneFw x).boot

/-- ROM recovery mode ends in a module start of kind recovery boot (R382). Log entry: 153 DEDUCED. -/
def State.leaveRecovery (s : State) : State :=
  { (s.modPower fun p => { p with startKind := 2, pend := none }).modFw fun w => { w with ses := none, forced := false } with
    phase := .starting }

/-- A lane has written its bank and read it back. Log entry: 149 DEDUCED. -/
def State.bankWritten (x : Nat) (ok : Bool) (s : State) : State :=
  match s.fw.ses with
  | none => s
  | some u =>
    if s.get It.updState ≠ 2 ∨ nth u.written x ∨ u.lag.any (· != x) then s
    else
      let i := s.writeAt x
      if ok then
        let s := (s.modBank x i fun _ => s.newBank x u (if s.phase = .recovery then 4 else 2)).modSes fun u =>
          { u with written := upd u.written x fun _ => true }
        let done := match u.lag with
          | some _ => true
          | none => nth u.written (1 - x)
        if !done then s
        else if s.phase = .recovery then (s.endSession 0 0).leaveRecovery
        else s.setUpd 3 0
      else ((s.modBank x i fun b => { b with st := 1 }).setUpd 1 2).updWriting

def execBankWriteDone (dt : Nat) (lane : Fin 2) (ok : Bool) (s : State) : Host.Outcome State Fault Refusal :=
  timedRom dt (State.bankWritten lane ok) s

/-! ## Fall-back and confirmation (R375 to R378, Table 14.6) -/

/-- A lane restarts from its CONFIRMED bank: its new bank is INVALID, and a lane that is not already due to restart, nor runs its
CONFIRMED bank, is restarted. -/
def State.dropTrial (x : Nat) (s : State) : State :=
  let i := [0, 1].find? fun i => (nth (s.laneFw x).banks i).st == 3
  let s := match i with
    | some i => s.modBank x i fun b => { b with st := 1, once := false }
    | none => s
  if s.lane x = 0 ∨ s.lane x = 5 ∨ s.lane x = 4 ∨ (s.laneFw x).running.st = 4 then s else s.restartLane x 16

/-- Every row of Table 14.6. Log entry: 150 DEDUCED. -/
def State.fallBack (s : State) : State :=
  match s.fw.ses with
  | none => s
  | some u => ((s.dropTrial u.lane).bump It.updFallbacks).endSession 1 3

/-- A mode 1 fall-back: a second warm module reset, with UPD_END at the start that follows (R378). -/
def State.fallBackReset (s : State) : State :=
  match s.fw.ses with
  | none => s
  | some u =>
    let s := (s.endTrials.bump It.updFallbacks).modFw fun w => { w with ended := some (u.id, 1, u.lane), ses := none }
    s.storeClose.resetDies 1

/-- Fall-back in CONFIRMING: a planned switch back to the yielded lane, or the second reset.
Log entry: 150 DEDUCED. -/
def State.revert (s : State) : State :=
  match s.fw.ses with
  | none => s
  | some u => if u.mode = 1 then s.fallBackReset else s.modSes fun u => { u with back := true }

/-- The lane of the new image has kept its part: ACTIVE, without a Reckoner restart since step 4 (R375). -/
def State.holdsTrial (s : State) (u : UpdSession) : Bool :=
  s.lane u.lane == 4 && s.mail.reck.up && s.get It.reckonerRestarts == u.restarts

/-- A lane's TRIAL bank CONFIRMED and its counters advanced. -/
def State.confirmLane (x : Nat) (s : State) : State :=
  let i := (s.laneFw x).boot
  (s.modBank x i fun b => { b with st := 4, once := false }).blowFuses x

/-- Step 6: the other lane restarts into its new bank. -/
def State.completing (s : State) : State :=
  match s.fw.ses with
  | none => s
  | some u =>
    let z := 1 - u.lane
    let s := (s.modSpare z fun b => { b with st := 3, once := true }).setUpd 7 0
    if s.lane z = 0 then s else s.restartLane z 16

/-- Confirmation (R375, R378). -/
def State.confirmImage (s : State) : State :=
  match s.fw.ses with
  | none => s
  | some u =>
    if u.mode = 1 then (((s.confirmLane 0).confirmLane 1).bump It.updDone).endSession 0 0
    else (s.confirmLane u.lane).completing

/-- The owner must confirm: upd_confirm_mode 1 or manifest flag [0]. -/
def State.ownerConfirms (s : State) (u : UpdSession) : Bool := s.get It.updConfirmMode == 1 || bit u.man.flags 0

/-- The end of the confirmation window. -/
def State.windowOver (s : State) : State :=
  match s.fw.ses with
  | none => s
  | some u =>
    if s.get It.updState ≠ 6 ∨ u.back ∨ s.up < u.until_ then s
    else if s.holdsTrial u ∧ (!s.ownerConfirms u ∨ u.confirm) then s.confirmImage
    else s.revert

def execConfirmationWindowEnd (dt : Nat) (s : State) : Host.Outcome State Fault Refusal := timed dt State.windowOver s

/-- Step 4 of Table 14.5: the confirmation timer starts. -/
def State.confirming (s : State) : State :=
  (s.modSes fun u => { u with until_ := s.up + s.get It.updConfirmS * 1000000000, restarts := s.get It.reckonerRestarts }).setUpd 6 0

/-! ## What lane changes mean to a session (Tables 14.5 to 14.7) -/

/-- STARTING: the standby lane restarts once the response is released, and the switch follows when it is STANDBY. -/
def State.updStarting (u : UpdSession) (s : State) : State :=
  let y := u.lane
  match u.start with
  | some c =>
    if s.lane y ≠ 3 then s.fallBack
    else if (s.lanes.copied.any fun x => decide (c ≤ x.cycle)) then (s.modSes fun u => { u with start := none }).restartLane y 16
    else s
  | none =>
    if s.lane y = 3 ∧ (s.laneFw y).running.st = 3 then (s.startSwitch y 1).setUpd 5 0
    else if s.lane y = 3 ∨ s.lane y = 5 ∨ s.lane y = 6 then s.fallBack
    else s

/-- SWITCHING: CONFIRMING once the new lane is ACTIVE, fall-back when the switch is abandoned. -/
def State.updSwitching (u : UpdSession) (s : State) : State :=
  if s.lanes.sw.isSome then s
  else if s.lane u.lane = 4 then s.confirming
  else s.fallBack

/-- CONFIRMING: a give-up of the new lane or a Reckoner restart falls back; a hand-back ends when the other lane is ACTIVE. -/
def State.updConfirming (u : UpdSession) (s : State) : State :=
  if u.mode = 1 then (if s.holdsTrial u then s else s.fallBackReset)
  else if s.lane u.lane ≠ 4 then (if s.lanes.gap.isSome then s else s.fallBack)
  else if u.back then
    if s.lanes.sw.isNone ∧ s.standby ∧ s.lane (1 - u.lane) = 3 then s.startSwitch (1 - u.lane) 1 else s
  else if s.holdsTrial u then s
  else s.modSes fun u => { u with back := true }

/-- COMPLETING: the other lane's bank is CONFIRMED at STANDBY, or the session ends mixed (R377). A lane whose trial bank failed the
ROM's check is STANDBY on its CONFIRMED bank, and has failed (R373). -/
def State.updCompleting (u : UpdSession) (s : State) : State :=
  let z := 1 - u.lane
  if s.lane z = 3 ∧ (s.laneFw z).running.st = 3 then (((s.confirmLane z).bump It.updDone).mixed).endSession 0 0
  else if s.lane z = 3 ∨ s.lane z = 5 ∨ s.lane z = 6 then ((s.dropTrial z).endSession 4 0).set It.updMixed 1
  else s

/-- A session follows the lanes. -/
def State.updFollow (s : State) : State :=
  match s.fw.ses with
  | none => s
  | some u =>
    match s.get It.updState with
    | 4 => if u.mode = 1 then s else s.updStarting u
    | 5 => s.updSwitching u
    | 6 => s.updConfirming u
    | 7 => s.updCompleting u
    | _ => s

/-- After a change of the lanes: a session not yet activated ends at a fail-over or lane restart (Table 14.7), and another follows
what the lanes do. Log entry: 150 DEDUCED. -/
def State.updLanes (s before : State) : State :=
  let moved := before.get It.failovers != s.get It.failovers || before.get (It.laneRestarts 0) != s.get (It.laneRestarts 0) ||
    before.get (It.laneRestarts 1) != s.get (It.laneRestarts 1)
  (if moved then s.updDiscard 3 else s).updFollow

/-! ## Opcodes (Table 14.9) -/

/-- The response of UPD_OPEN. -/
def openReply (id blocks : Nat) (r : Nat × Nat × Nat) : List Byte :=
  toLE 4 id ++ toLE 4 blocks ++ toLE 1 r.1 ++ toLE 1 r.2.1 ++ toLE 2 r.2.2

/-- A refused UPD_OPEN. -/
def refuseOpen (st : Nat) (s : State) : State × Reply := (s, { status := st, payload := openReply 0 0 (0, 0, 0) })

/-- The lane that alone is written: the other one runs this manifest CONFIRMED already (R377). -/
def State.lagging (s : State) (b : List Byte) : Option Nat :=
  let x := s.lanes.latch
  let has := fun y => let r := (s.laneFw y).running; r.st == 4 && r.comps.any fun c => c.man.bytes == b
  if s.phase ≠ .recovery ∧ has x ∧ !has (1 - x) then some (1 - x) else none

/-- A checked manifest opens a session. Log entries: 36 DESIGN CHOICE, 151 DEDUCED. -/
def State.openSession (b : List Byte) (mode : Nat) (s : State) : State × Reply :=
  let (v, s) := s.fresh
  let cs := manComps b
  let id := 1 + v % 4294967295
  let u : UpdSession := { id := id, mode := mode, man := manOf b, comps := cs, lag := s.lagging b, lastBlk := s.up
                          lane := match s.lagging b with
                            | some z => 1 - z
                            | none => 1 - s.lanes.latch }
  let s := ((s.modFw fun w => { w with ses := some u }).set It.updSession id).set It.updBlocksMissing u.missing
  reply (openReply id u.missing (0, 0, 0)) (s.setUpd 1 0)

def opUpdOpen : OpFn := fun m f s =>
  let mode := u8At f.p 2
  let x := if s.phase = .recovery then 0 else s.lanes.latch
  if 1 < mode ∨ !zeroAt f.p 3 1 then refuseOpen stRange s
  else if s.get It.updState ≠ 0 ∨ (s.phase ≠ .recovery ∧ (s.laneFw x).running.st ≠ 4) then refuseOpen stConflict s
  else match s.blkImage m (u16At f.p 0) 1 (u32At f.p 4) (u32At f.p 8) with
    | .error st => refuseOpen st s
    | .ok b =>
      if !manOk b then refuseOpen stRange s
      else if !signatureOk (s.baseBank x) b then refuseOpen stSignature s
      else if !(s.svOk 0 (manOf b) && s.svOk 1 (manOf b)) then refuseOpen stRollback s
      else if !s.hwOk (manOf b) then refuseOpen stIncompatible s
      else match s.incompatible (manComps b) (manOf b).flags mode (s.baseBank x) with
        | some r => (s, { status := stIncompatible, payload := openReply 0 0 r })
        | none => (s.blkConsume m (u16At f.p 0) 1).openSession b mode

/-- Log entries: 29 DEDUCED, 151 DEDUCED. -/
def opUpdBlocks : OpFn := fun m f s =>
  let first := u16At f.p 0
  let n := u16At f.p 2
  let no := fun (st : Nat) (s : State) => ((s, { status := st, payload := refusedAt 0xffff 0 }) : State × Reply)
  if n = 0 ∨ 3 < n ∨ !zeroAt f.p 4 4 then no stRange s
  else match s.fw.ses with
    | none => no stConflict s
    | some u =>
      if s.get It.updState ≠ 1 then no stConflict s
      else match s.blkFrames m first n with
        | none => no stTimeout s
        | some fs =>
          if fs.any (·.flagged) then no stRange s else
          let r := takeBlocks 0 fs { u with lastBlk := s.up }
          let s := ((s.modSes fun _ => r.1).set It.updBlocksMissing r.1.missing).blkConsume m first n
          match r.2 with
          | none => reply (toLE 2 0xffff ++ toLE 2 0 ++ toLE 4 r.1.missing) s
          | some x => (s, { status := x.2, payload := toLE 2 x.1 ++ toLE 2 x.2 ++ toLE 4 r.1.missing })

def opUpdActivate : OpFn := fun _ _ s =>
  match s.fw.ses with
  | none => refuse stConflict s
  | some u =>
    if s.get It.updState ≠ 3 then refuse stConflict s
    else if s.phase = .recovery then
      if s.fw.rcvy then refuse stConflict s else reply [] (s.setUpd 2 0)
    else if u.mode = 1 ∧ u.lag.isNone then
      let s := ((s.modSpare 0 fun b => { b with st := 3, once := true }).modSpare 1 fun b => { b with st := 3, once := true }).setUpd 4 0
      reply [] (s.setPending 5)
    else if !s.standby ∨ s.lanes.sw.isSome then refuse stConflict s
    else match s.incompatible u.comps u.man.flags u.mode (s.laneFw s.lanes.latch).running with
      | some _ => refuse stIncompatible s
      | none =>
        if u.lag.isSome then reply [] ((s.modSes fun u => { u with lane := s.lanes.latch }).completing)
        else
          let y := 1 - s.lanes.latch
          let s := s.modSpare y fun b => { b with st := 3, once := true }
          reply [] ((s.modSes fun u => { u with lane := y, start := some s.cycle }).setUpd 4 0)

def opUpdConfirm : OpFn := fun _ _ s =>
  if s.get It.updState = 6 then reply [] (s.modSes fun u => { u with confirm := true }) else refuse stConflict s

/-- Log entry: 150 DEDUCED. -/
def opUpdAbort : OpFn := fun _ _ s =>
  match s.get It.updState with
  | 0 => refuse stConflict s
  | 7 => refuse stConflict s
  | 6 => reply [] s.revert
  | 5 => reply [] (s.endSwitch 3 0).fallBack
  | 4 =>
    let s := if s.power.pend.any fun p => p.what == 5 then s.modPower fun p => { p with pend := none } else s
    if s.fw.ses.any fun u => u.mode == 1 then reply [] ((s.endTrials.bump It.updFallbacks).endSession 1 3) else reply [] s.fallBack
  | _ =>
    let (v, s) := s.fresh
    reply [] (s.updDiscard (v % 5))

/-- One component of UPD_INVENTORY. -/
def Comp.listed (c : Comp) : List Byte :=
  toLE 1 c.kind ++ toLE 3 0 ++ toLE 4 c.version ++ toLE 2 c.level ++ toLE 1 c.man.signer ++ toLE 1 c.man.sv ++ toLE 4 c.man.build

def opUpdInventory : OpFn := fun _ f s =>
  let x := u8At f.p 0
  let i := u8At f.p 1
  if 1 < x ∨ 1 < i ∨ !zeroAt f.p 2 2 then refuse stRange s
  else
    let b := nth (s.laneFw x).banks i
    reply (toLE 1 b.st ++ toLE 1 b.manifests.length ++ toLE 2 b.comps.length ++ toLE 4 b.seq ++ b.comps.flatMap Comp.listed) s

/-- Log entry: 153 DEDUCED. -/
def opUpdRecovery : OpFn := fun _ _ s =>
  if s.get It.updState ≠ 0 then refuse stConflict s else reply [] (s.setPending 4)

/-- Log entry: 153 DEDUCED. -/
def opUpdRecoveryExit : OpFn := fun _ _ s =>
  if s.phase ≠ .recovery ∨ s.fw.rcvy then refuse stConflict s else reply [] (s.setPending 6)

/-- No UPD_BLOCKS for 60 s (Table 14.7). Log entry: 151 DEDUCED. -/
def State.updIdle (s : State) : State :=
  match s.fw.ses with
  | some u => if s.get It.updState = 1 ∧ u.lastBlk + 60000000000 ≤ s.up then s.updDiscard 3 else s
  | none => s

def execUpdateSessionIdle (dt : Nat) (s : State) : Host.Outcome State Fault Refusal := timedRom dt State.updIdle s

/-! ## A reset that a command has asked for (R362) -/

/-- MODULE_RESET, UPD_RECOVERY and a mode 1 activation take effect at the first K after their response.
Log entry: 152 DEDUCED. -/
def State.resetEffect (s : State) : State :=
  match s.pendingDue with
  | some 3 => s.storeClose.resetDies 1
  | some 4 => ((s.set It.recoveryCause 2).modFw fun w => { w with forced := true }).resetDies 2
  | some 5 => (s.storeClose.modFw fun w => { w with trialReset := true }).resetDies 1
  | _ => s

/-- Log entry: 152 DEDUCED. -/
def execModuleResetEffect (dt : Nat) (s : State) : Host.Outcome State Fault Refusal := timed dt State.resetEffect s

end Sys2Proof.Machine
end

