-- ==== Sys2Proof/Machine/Start.lean ====
section
/-! DEFINITION. The module start (Table 13.8), what survives a reset (Tables 13.9 and 13.10), the claim of a lane at a start
(R326), and ROM recovery mode (R380 to R382). -/

namespace Sys2Proof.Machine

/-! ## Survival of items (R14, R360) -/

/-- A status of code V that shows the present state of a drive die, which a warm module reset leaves alone (Table 13.7): the item
goes to its Default with the lanes (R14) and reads the die's state again from the start on, as this model keeps that state in the
item. The latest boost time and lateness and the lane of the last message are no present state. Log entry: 148 DEDUCED. -/
def presentItem (k : Nat) : Bool :=
  (k / 65536 == 0x60 && decide (k / 256 % 256 < 16) && [0x20, 0x23, 0x24, 0x25, 0x26, 0x27, 0x29].contains (k % 256)) ||
    (k / 65536 == 0x60 && decide (16 ≤ k / 256 % 256) && decide (k % 256 < 2)) ||
    (k / 65536 == 0x68 && [0x20, 0x21, 0x22].contains (k % 256))

/-- An item is configuration, written by carries and direct writes and restored from the store. -/
def configItem (k : Nat) : Bool :=
  match findRow k with
  | some r => r.surv == .p && r.apply != .immediate
  | none => false

/-- An item that keeps its value over a start: P and F, W over a warm module reset whose retention memory passed its check, and
what shows the present state of a drive die over a warm module reset. Log entry: 148 DEDUCED. -/
def survives (warm retained : Bool) (k : Nat) : Bool :=
  match findRow k with
  | some r => match r.surv with
    | .p => r.apply == .immediate
    | .f => true
    | .w => warm && retained
    | .v => warm && presentItem k
  | none => false

/-- The items at a start: what survives, with the configuration as the store holds it (R116).
Log entries: 50 DEDUCED, 148 DEDUCED. -/
def State.itemsAtStart (warm retained : Bool) (s : State) : Store :=
  Store.putAll s.variant (s.sb.stored.filter fun e => configItem e.1) (s.items.filter fun e => survives warm retained e.1)

/-! ## What is not held in items (Table 13.10) -/

/-- Mailboxes: rings and caches are emptied; owner and sessions survive a warm module reset. -/
def mailAtStart (kept : Bool) (s : State) : Mail :=
  if kept then { masters := List.replicate 16 {}, owner := s.mail.owner, offer := s.mail.offer } else {}

/-- A drive die's follower runs free on the old mtime when that of the lanes restarts at the claim of a start (R53). -/
def State.freeRun (s : State) (f : Follower) : Follower := { f with off := f.off + s.now }

/-- The isolated section runs on over a warm module reset; the lanes' side begins again. -/
def ioAtStart (warm : Bool) (b : IoBank) : IoBank :=
  if warm then { sec := b.sec, dos := b.dos, forceOwner := b.forceOwner
                 lss := b.lss.map fun (l : Ls) => { count := l.count, hit := l.hit } }
  else {}

/-- Calendar time at the start (R59, R61, R355): it goes on with the rails up, by the always-on clock through PARK, and from 0
when the always-on domain has lost its supply. -/
def State.calendarAtStart (s : State) : Nat :=
  if s.power.lost then 0
  else if s.power.startKind = 3 then
    let d := s.up - s.power.parkAt
    s.power.parkCal + (max 0 ((d : Int) + fdiv ((d : Int) * s.geti It.calendarParkTrimPpb) 1000000000)).toNat
  else s.calendar

/-- Steps 1 to 3 of Table 13.8: everything that a start of this kind resets. -/
def State.bringUp (inp : StartInputs) (s : State) : State :=
  let kind := s.power.startKind
  let warm := kind == 1
  let kept := warm && inp.retained
  let cal := s.calendarAtStart
  let lost := s.power.lost
  let startK := if warm && !inp.retained then some 2 else none
  let freed := s.sb.atStart ++ (s.slatesIn [.opened, .prepared, .committed]).map fun i => (i, (nth s.sb.slates i).txn)
  let s := { s with
    items := s.itemsAtStart warm inp.retained
    time := { enc := s.time.enc.map fun (e : Encoder) => { a := e.a, b := e.b }
              dies := if warm then s.time.dies else List.replicate 4 { lastMsg := s.up }, calBase := cal, calAt := s.now }
    mail := mailAtStart kept s
    sb := { stored := s.sb.stored, storedCarry := s.sb.storedCarry, ceiling := s.sb.ceiling, closed := s.sb.closed, atStart := freed }
    cam := { tables := s.cam.tables }
    can := if kept then { chs := s.can.chs.map fun (c : CanCh) => { held := c.held } } else {}
    hist := { hist := s.hist.hist, age := s.hist.age, plan := s.hist.plan, nextPlan := s.hist.nextPlan, newPlan := s.hist.newPlan }
    fus := { tables := s.fus.tables }
    rods := {}
    valve := if warm then { s.valve with stage := [], outbound := [], written := [], waiting := [], setOut := [] } else {}
    io := ioAtStart warm s.io
    ring := {}
    panel := { pages := s.panel.pages, glass := s.panel.glass, rec_ := s.panel.rec_, since := s.panel.since
               want := s.panel.want, clear := s.panel.clear }
    lanes := { starts := if kept then s.lanes.starts else [[], []], booted := [true, true] }
    power := { s.power with pend := none, wake := none, latched := none, replan := none, test := none, overs := false, lost := false, startK := startK } }
  let s := if warm && !inp.retained then s.bump It.retainedLost else s
  let s := if kind = 0 ∨ kind = 3 then s.set It.lastWake s.power.wakeSrc else s.set It.lastWake 0
  let s := (s.set It.lastStartKind kind).bump It.starts
  let s := if kind = 2 then s.bump It.recoveryBoots else s
  let s := ((s.set It.mainV (min s.power.main (volts 110))).set It.kaV (min s.power.ka (volts 40))).set It.sagTier (sagTier 0 s.power.main)
  let s := ((s.set It.engineOkA inp.engA.toNat).set It.engineOkB inp.engB.toNat).set It.driveOk inp.drive.toNat
  (if lost then s.set It.calendarValid 0 else s).set It.calendarNs cal

/-- The boot of both lanes (R373): the sessions that a start ends, the banks that may boot. -/
def State.bootBoth (s : State) : State × Bool × Bool :=
  let s := if s.fw.trialReset then s
    else
      let s := match s.fw.ses with
        | some u => s.modFw fun w => { w with ended := some (u.id, 3, u.lane), ses := none }
        | none => s
      s.endTrials
  let (s, a) := s.bootLane 0
  let (s, b) := s.bootLane 1
  (s, a, b)

/-! ## The claim of a lane at a start (R326, Table 13.8 steps 4 to 6) -/

/-- The clock of a new epoch. Log entry: 146 DEDUCED. -/
def Clock.restart (c : Clock) : Clock := { mtime := 0, wall := c.wall, kLast := 0, tickNext := 0 }

/-- The owner at a start (R358, R432): an owner that survived has its pending offer ended, and the window opens without effect;
else ownership is vacant. test_access has gone to 0 at the start carry, which closes the session of master 15 (R86). -/
def State.ownerAtStart (s : State) : State :=
  let test := s.sessionOpen 15 && s.get It.testAccess != 1
  let s := if test then s.closeSession 15 4 else s
  match s.mail.owner with
  | some w =>
    let s := (s.endOffer 4).setSession w 2
    s.modMail fun ml => { ml with lapseFrom := 0, window := some (s.get It.electionWindowMs * 1000000) }
  | none => if s.mail.window.isSome then s else s.openElection 0xff

/-- The followers and items that a new epoch starts from (Table 2.8); calendar time goes on. -/
def State.newEpoch (s : State) : State :=
  let cal := s.calendar
  let s := { s with clk := s.clk.restart, time := { s.time with
    lane := {}, standby := {}, standbyOff := 0, hist := [], dies := s.time.dies.map s.freeRun, calBase := cal, calAt := 0 } }
  (s.set It.mtimeEpoch ((s.get It.mtimeEpoch + 1) % 4294967296)).set It.calendarNs cal

/-- Safe states of the ownerless action that a warm module reset keeps with ownerless_applied (W): the groups that stood in them. -/
def State.ownerlessAtStart (s : State) : State :=
  if s.get It.ownerlessApplied = 1 then s
  else
    let s : State := { s with can := { s.can with chs := s.can.chs.map fun (c : CanCh) => { c with held := false } } }
    s.modIo fun b => { b with forceOwner := 0 }

/-- The subsystems come into service with the start carry (Table 13.8 step 6). -/
def State.serviceStart (ohms : Nat) (s : State) : State :=
  let off := fun _ : Nat => 0
  let s := ((s.lmCarry off).camCarry off).each (List.range 6) (State.canCarry off)
  let s := (s.each (List.range 8) fun n s => s.lsOpen n 0).ownerlessAtStart
  let s := s.each (List.range 6) fun ch s => if s.get (It.canMode ch) = 1 then s.canStart ch else s
  let idle := s.useRestart It.startState == 1
  let s := s.rodSafeSync
  let s := if s.power.startKind = 1 then s.valveIdle idle else (s.valveStart).valveIdle idle
  let (v, s) := s.fresh
  let s := s.set It.isoLatencyNs (v % 4294967296)
  (s.panelBoot ohms).ringJoin

/-- Shared parts load their components at a start that powers them (Table 14.1). Log entry: 50 DEDUCED. -/
def State.loadShared (y : Nat) (s : State) : State :=
  if s.power.startKind = 1 then s
  else s.modFw fun w => { w with shared := (s.laneFw y).running.comps.filter fun c => c.kind == 5 || c.kind == 6 }

/-- Counters of a lane whose bank is CONFIRMED are completed (R376, R382). -/
def State.fusesOf (x : Nat) (s : State) : State := if (s.laneFw x).running.st = 4 then s.blowFuses x else s

/-- Slates freed by the start or by the entry into PARK before it (Table 4.1). -/
def State.slatesReported (s : State) : State :=
  let l := s.sb.atStart
  l.foldl (fun s x => (s.bump It.slatesDiscarded).emit 0x0381 (toLE 1 x.1 ++ toLE 1 0 ++ toLE 2 5 ++ toLE 4 x.2 ++ toLE 8 s.cycle))
    (s.modSb fun b => { b with atStart := [] })

/-- What a start does to an update session: its end is reported, or a mode 1 activation goes on to CONFIRMING (R378, R379).
Log entry: 152 DEDUCED. -/
def State.updAtStart (y : Nat) (s : State) : State :=
  let s := match s.fw.ended with
    | some e => (s.updEnd e.1 e.2.1 e.2.2).modFw fun w => { w with ended := none }
    | none => s
  let trial := s.fw.trialReset && s.fw.ses.isSome
  let s := s.modFw fun w => { w with trialReset := false, forced := false }
  if trial then ((s.set It.updSession ((s.fw.ses.map (·.id)).getD 0)).modSes fun u => { u with lane := y }).confirming else s

/-- A lane claims at a start: it is ACTIVE in a new epoch, the start carry is released, and the module serves. The other lane
syncs from it. Log entry: 16 DEDUCED. -/
def State.startClaim (y ohms : Nat) (s : State) : State :=
  let z := 1 - y
  let s := { s.newEpoch with phase := .up }
  let s := (s.setLatch y true).modLanes fun l => { l with consuming := true }
  let s := (s.planStart.loadShared y).startCarry
  let s := { s with cfgK := s.items }
  let s := ((s.setLane y 4 0).fusesOf y).set It.laneLink (b2n (nth s.lanes.passed z).isSome)
  let s := if (nth s.lanes.passed z).isSome then s.setLane z 2 0 else s
  let s := (s.ownerAtStart.slatesReported.serviceStart ohms).updAtStart y
  let s := (s.bankItems 0).bankItems 1
  let snap : Snap := { cycle := 0, carry := s.get It.carryNumber, items := s.items }
  (s.mixed.modSb fun b => { b with snap := snap }).modPower fun p => { p with startK := some (p.startK.getD 1) }

/-! ## ROM recovery mode (R380, R381) -/

/-- Why ROM recovery mode is selected: 1 the RCVY input, 3 no bootable bank; a forced one has its cause already.
Log entry: 146 DEDUCED. -/
def State.romCause (rcvy okA okB : Bool) (s : State) : Option Nat :=
  if rcvy then some 1
  else if s.fw.forced then some (s.get It.recoveryCause)
  else if !okA && !okB then some 3
  else none

/-- ROM recovery mode is entered: outputs de-energised, no engine runs, Lane A's ROM serves master 4 bound to host 0x0081. The
start begins a new epoch as every start does (Table 2.8). Log entry: 146 DEDUCED. -/
def State.enterRom (cause : Nat) (rcvy : Bool) (s : State) : State :=
  let s := s.newEpoch
  let s := { s with phase := .recovery, mail := {}, valve := {}, io := {}, time := { s.time with dies := List.replicate 4 {} } }
  let s := s.each (List.range 16) fun m s => (s.set (It.sessionState m) 0).set (It.sessionId m) 0
  let s := ((s.set It.recoveryCause cause).set (It.bindNode 4) 0x0081).modFw fun w =>
    { w with rcvy := rcvy, forced := false, trialReset := false, ses := none }
  let s := (s.setLatch 0 false).modLanes fun l => { l with restartCfg := [s.items, s.items] }
  (({ s with cfgRestart := s.items }.bankItems 0).bankItems 1).ringJoin

/-! ## The start (R357) -/

/-- A lane's self-test has passed, or it is HELD with cause 14. -/
def State.testResult (x : Nat) (pass : Bool) (s : State) : State :=
  if pass then s.modLanes fun l => { l with passed := upd l.passed x fun _ => some s.up } else s.setLane x 6 14

/-- What is known of the lanes' self-tests in phase starting: the preferred lane claims once it has passed; with both HELD the
module has no lane that can run. Log entry: 146 DEDUCED. -/
def State.startJudge (ohms : Nat) (s : State) : State :=
  let p := s.useRestart It.redPreferredLane
  if (nth s.lanes.passed p).isSome then s.startClaim p ohms
  else if s.lane 0 = 6 ∧ s.lane 1 = 6 then s.recoveryBoot
  else s

/-- The whole start up to the claim of the preferred lane. Log entries: 11 DESIGN CHOICE, 16 DEDUCED, 147 DEDUCED. -/
def State.moduleStart (inp : StartInputs) (s : State) : State :=
  let s := s.bringUp inp
  let (s, okA, okB) := s.bootBoth
  match s.romCause inp.rcvy okA okB with
  | some c => s.enterRom c inp.rcvy
  | none =>
    let s := { s.modFw fun w => { w with rcvy := false } with cfgRestart := s.items }
    let s := s.modLanes fun l => { l with restartCfg := [s.items, s.items], latch := s.useRestart It.redPreferredLane }
    let s := (s.setLatch s.lanes.latch false).each [0, 1] fun x s => s.set (It.laneState x) 1
    let s := s.modPanel fun p => { p with bootOhms := inp.ohms }
    let test := fun (x : Nat) (r : Option Bool) (ok : Bool) (s : State) => match r with
      | some b => s.testResult x (b && ok)
      | none => if ok then s else s.testResult x false
    (test 1 inp.passB okB (test 0 inp.passA okA s)).startJudge inp.ohms

/-- A command in which a lane may claim: at a start, ROM recovery mode among it, the mtime of the new epoch begins at 0; a lane
that takes the role from another continues its own mtime (Table 2.8). -/
def timedStart (dt : Nat) (f : State → State) (s : State) : Host.Outcome State Fault Refusal :=
  let a := s.advance dt
  let r := f a
  let claimed := a.phase == .starting && (r.phase == .up || r.phase == .recovery)
  let took := a.lanes.gap.isSome && r.lanes.gap.isNone && a.lanes.latch != r.lanes.latch
  .next { r with
    clk := if claimed then a.clk.restart else if took then a.clk.shift a.time.standbyOff else a.clk, pending := a.pending }

/-- Log entry: 11 DESIGN CHOICE. -/
def execModuleStart (dt : Nat) (inp : StartInputs) (s : State) : Host.Outcome State Fault Refusal :=
  timedStart dt (fun s => if s.phase = .starting then s.moduleStart inp else s) s

end Sys2Proof.Machine
end

