-- ==== Sys2Proof/Machine/LaneCmds.lean ====
section
/-! DEFINITION. The commands of the lanes, the role latch and the state copy (spec 12), and what they mean to an update
session (spec 14). -/

namespace Sys2Proof.Machine

/-- A command of the lanes: its effect, and what the change means to an update session. Log entry: 134 DEDUCED. -/
def laneRow (dt : Nat) (f : State → State) (s : State) : Host.Outcome State Fault Refusal :=
  timed dt (fun s => (f s).updLanes s) s

/-! ## Giving up and departure (R325, R327, R350) -/

/-- A fault of the active lane while the power-fail shut-down runs ends it at once (R350). -/
def State.faultIn (x : Nat) (f : State → State) (s : State) : State :=
  match s.phase with
  | .shuttingDown => if x = s.lanes.latch then s.shutFault else s
  | _ => if s.live then (f s).updLanes s else s

/-- Log entry: 134 DEDUCED. -/
def execLaneGiveUp (dt : Nat) (lane : Fin 2) (cause : Fin 18) (detectNs : Nat) (s : State) : Host.Outcome State Fault Refusal :=
  timedAny dt (fun s => s.faultIn lane (State.monitor lane cause detectNs)) s

/-- The vital line of the named lane makes no transition for the vital timeout: cause 11, detected within 20 µs.
Log entry: 134 DEDUCED. -/
def execVitalTimeout (dt : Nat) (s : State) : Host.Outcome State Fault Refusal :=
  timedAny dt (fun s => s.faultIn s.lanes.latch fun s =>
    match s.activeLane with
    | some x => s.giveUp x 11 20000
    | none => s) s

def execTenantCoreRestart (dt : Nat) (lane : Fin 2) (part : Fin 4) (s : State) : Host.Outcome State Fault Refusal :=
  laneRow dt (State.tenantRestart lane part) s

/-- Log entry: 166 DESIGN CHOICE. -/
def execMemoryScrub (dt : Nat) (lane : Fin 2) (finding : ScrubFinding) (s : State) : Host.Outcome State Fault Refusal :=
  timed dt (State.scrub lane finding) s

/-! ## Claims (R325, R326, Tables 12.4 and 12.5) -/

def execQuietTimeEnd (dt : Nat) (s : State) : Host.Outcome State Fault Refusal := laneRow dt State.quietEnd s

/-- A claim while the latch is HOLDING: after a departure or a yield, or at a start once the lane has passed its self-test. -/
def State.claim (x : Nat) (s : State) : State :=
  match s.phase with
  | .starting =>
    let p := s.useRestart It.redPreferredLane
    if (nth s.lanes.passed x).isSome ∧ (x = p ∨ (nth s.lanes.passed x).any fun t => decide (t + s.useRestart It.redStartWaitMs * 1000000 ≤ s.up)) then
      s.startClaim x s.panel.bootOhms
    else s
  | .up | .parking =>
    match s.lanes.gap with
    | some g =>
      if s.mayClaim x g then (if x = g.lane then s.reclaim g else s.takeRole x g).updLanes s else s
    | none => s
  | _ => s

def execLaneClaim (dt : Nat) (lane : Fin 2) (s : State) : Host.Outcome State Fault Refusal := timedStart dt (State.claim lane) s

/-- red_start_wait_ms has passed since the other lane's self-test without a claim (R326). -/
def execStartWaitExpiry (dt : Nat) (s : State) : Host.Outcome State Fault Refusal :=
  timedStart dt (fun s => if s.phase = .starting then s.claim (1 - s.useRestart It.redPreferredLane) else s) s

def execLaneYield (dt : Nat) (s : State) : Host.Outcome State Fault Refusal := laneRow dt State.yieldLane s

def execPlannedSwitchAtK (dt : Nat) (s : State) : Host.Outcome State Fault Refusal := laneRow dt State.switchAtK s

def execHandoverBoundExpiry (dt : Nat) (s : State) : Host.Outcome State Fault Refusal := laneRow dt State.handoverBound s

/-! ## The state copy (R330 to R334) -/

/-- Log entry: 166 DESIGN CHOICE. -/
def execCopyReceived (dt : Nat) (match_ : Bool) (s : State) : Host.Outcome State Fault Refusal := laneRow dt (State.copyApplied match_) s

/-- A lane that becomes STANDBY on a CONFIRMED bank has its counters completed (R376, R382). -/
def State.copyAckedThen (cycle : Nat) (s : State) : State :=
  let y := 1 - s.lanes.latch
  let t := s.copyAcked cycle
  if s.lane y = 2 ∧ t.lane y = 3 then t.fusesOf y else t

def execCopyAck (dt : Nat) (cycle : Nat) (s : State) : Host.Outcome State Fault Refusal := laneRow dt (State.copyAckedThen cycle) s

def execCopyFailed (dt : Nat) (s : State) : Host.Outcome State Fault Refusal := laneRow dt State.copyLost s

def execLaneLinkDown (dt : Nat) (s : State) : Host.Outcome State Fault Refusal := laneRow dt State.linkDown s

/-- Log entry: 137 DEDUCED. -/
def execLaneLinkUp (dt : Nat) (s : State) : Host.Outcome State Fault Refusal := laneRow dt State.linkComesUp s

/-- Log entry: 166 DESIGN CHOICE. -/
def execLaneLinkKMessage (dt : Nat) (off : Int) (s : State) : Host.Outcome State Fault Refusal := laneRow dt (State.laneMessage off) s

/-! ## Returning a lane to service (R339, R340) -/

def execLaneRestartDelayEnd (dt : Nat) (lane : Fin 2) (s : State) : Host.Outcome State Fault Refusal := laneRow dt (State.restartDue lane) s

/-- The engines of a lane after its self-test at a lane restart (R33): all of them present and passing when it passed; when it
failed, which of them did is a free value. Log entry: 172 DEDUCED. -/
def State.enginesTested (x : Nat) (passed : Bool) (s : State) : State :=
  let k := if x = 1 then It.engineOkB else It.engineOkA
  if passed then s.set k 0x3ffffff
  else
    let (v, s) := s.fresh
    s.set k (v % 0x4000000)

/-- The self-test of a restarting lane ends (Table 12.6 steps 2 and 3): it boots by R373; passed, its link to the other lane comes
UP and its full sync begins; failed, it is HELD. Log entry: 172 DEDUCED. -/
def State.restartTested (x : Nat) (passed : Bool) (s : State) : State :=
  if s.lane x ≠ 1 ∨ s.activeLane = some x then s
  else
    let s := s.enginesTested x passed
    let (s, ok) := if nth s.lanes.booted x then (s, true) else s.bootLane x
    let s := s.modLanes fun l => { l with booted := upd l.booted x fun _ => true }
    if passed && ok then
      ((s.modLanes fun l => { l with passed := upd l.passed x fun _ => some s.up, synced := upd l.synced x fun _ => false }).set
        It.laneLink 1).setLane x 2 0
    else s.setLane x 6 14

/-- A start self-test ends: at a module start, or at a lane restart. -/
def State.selfTest (x : Nat) (passed : Bool) (s : State) : State :=
  match s.phase with
  | .starting => if s.lane x = 1 then (s.testResult x passed).startJudge s.panel.bootOhms else s
  | .up | .parking => (s.restartTested x passed).updLanes s
  | _ => s

def execSelfTestDone (dt : Nat) (lane : Fin 2) (passed : Bool) (s : State) : Host.Outcome State Fault Refusal :=
  timedStart dt (State.selfTest lane passed) s

/-- A full sync is complete (Table 12.6 step 4): the lane follows the active lane's mtime and count, and the rings of its tenant
partitions begin at the consumer indices (R70). -/
def State.fullSync (x : Nat) (s : State) : State :=
  if s.lane x = 2 ∧ s.lanes.accepting ∧ x ≠ s.lanes.latch ∧ s.linkCarries then
    let begun := fun (m : Nat) (p : PartRing) =>
      if p.cmds.isEmpty && p.blks.isEmpty then
        let ma := s.master m
        { p with cmdProd := ma.cmd.cons, cmdWord := ma.cmd.cons, blkProd := ma.blk.cons, blkWord := ma.blk.cons }
      else p
    (s.modLanes fun l => { l with synced := upd l.synced x fun _ => true, parts := l.parts.mapIdx begun }).modTime fun tm =>
      { tm with standby := tm.lane, standbyOff := 0 }
  else s

def execFullSyncDone (dt : Nat) (lane : Fin 2) (s : State) : Host.Outcome State Fault Refusal := laneRow dt (State.fullSync lane) s

end Sys2Proof.Machine
end

