-- ==== Sys2Proof/Machine/Serve.lean ====
section
/-! DEFINITION. The service of the command rings (R79): the opcodes by number, the round over the masters, and the commands by
which frames reach the rings: doorbells, ring frames and gateway slots. -/

namespace Sys2Proof.Machine

/-- The execution of an opcode; check 7 of Table 3.6 keeps every other number from here. -/
def opOf (op : Nat) : OpFn :=
  match op with
  | 0x0500 => opTimeRead
  | 0x0501 => opCalendarSet
  | 0x0502 => opTallyForecast
  | 0x0503 => opLatencyRelearn
  | 0x0100 => opSessionOpen
  | 0x0101 => opSessionClose
  | 0x0102 => opHeartbeat
  | 0x0103 => opOwnClaim
  | 0x0104 => opOwnRelease
  | 0x0105 => opOwnOffer
  | 0x0106 => opOwnAccept
  | 0x0107 => opOutputsResume
  | 0x0108 => opSessionList
  | 0x0109 => opEvtMaskSet
  | 0x0200 => opItemRead
  | 0x0201 => opItemWrite
  | 0x0300 => opSlateOpen
  | 0x0301 => opSlateLoad
  | 0x0302 => opSlateCheck
  | 0x0303 => opSlateCommit
  | 0x0304 => opSlateCancel
  | 0x0305 => opSlateList
  | 0x0306 => opSlateEntries
  | 0x0310 => opRingPrepare
  | 0x0311 => opRingDecide
  | 0x0400 => opSnapshotPin
  | 0x0401 => opSnapshotRead
  | 0x0402 => opSnapshotRelease
  | 0x0700 => opCamStatsRead
  | 0x0701 => opCamFrameGrab
  | 0x0702 => opCamTableLoad
  | 0x0800 => opTrackRead
  | 0x0801 => opSolveRead
  | 0x0802 => opFuTableLoad
  | 0x0803 => opCellRead
  | 0x0600 => opRodRead
  | 0x0601 => opRodReset
  | 0x0602 => opBeamRead
  | 0x0603 => opRodTraceArm
  | 0x0604 => opRodTraceRead
  | 0x0900 => opValveBead
  | 0x0901 => opBeadCancel
  | 0x0902 => opQueueRead
  | 0x0903 => opBeadLogRead
  | 0x0904 => opValveClear
  | 0x0905 => opCoilMeasure
  | 0x0a00 => opLsHistRead
  | 0x0a01 => opDoClear
  | 0x0b00 => opCanTx
  | 0x0b01 => opCanTxCancel
  | 0x0b02 => opCanTxList
  | 0x0b03 => opCanRecover
  | 0x0b04 => opCanHpRead
  | 0x0c00 => opRingRead
  | 0x0c01 => opRingBypass
  | 0x1300 => opLinkTestStart
  | 0x1301 => opLinkTestStop
  | 0x1302 => opLinkTestRead
  | 0x1303 => opFaultInject
  | 0x0d00 => opRedRead
  | 0x0d01 => opLaneSwitch
  | 0x0d02 => opLaneRestart
  | 0x0e00 => opPowerRead
  | 0x0e01 => opStateSet
  | 0x0e02 => opModuleReset
  | 0x0f00 => opUpdOpen
  | 0x0f01 => opUpdBlocks
  | 0x0f02 => opUpdActivate
  | 0x0f03 => opUpdConfirm
  | 0x0f04 => opUpdAbort
  | 0x0f05 => opUpdInventory
  | 0x0f06 => opUpdRecovery
  | 0x0f07 => opUpdRecoveryExit
  | 0x1000 => opHistRead
  | 0x1001 => opHistClear
  | 0x1100 => opAgeRead
  | 0x1101 => opAgeMonitorRead
  | 0x1200 => opPanelPageLoad
  | 0x1201 => opPanelRead
  | 0x1202 => opPanelRefresh
  | _ => fun _ _ => refuse stNoOpcode

/-! ## The round (R79) -/

/-- A master has a frame waiting that may be taken now. -/
def State.canTake (s : State) (m : Nat) : Bool :=
  match (s.master m).waiting with
  | [] => false
  | f :: _ => s.serves m && s.rspRoom m && s.mayStart f.op.toNat

/-- The master whose frame is taken next: the owner, else the next after the last served. -/
def State.nextMaster (s : State) : Option Nat :=
  let round := ((List.range 16).map fun i => (s.mail.lastServed + 1 + i) % 16).find? s.canTake
  match s.mail.owner with
  | some w => if s.canTake w then some w else round
  | none => round

/-- The waiting frames taken in turn, at most `n` of them. -/
def State.serveN : Nat → State → State
  | 0, s => s
  | n + 1, s =>
    match s.nextMaster with
    | none => s
    | some m =>
      match (s.master m).waiting with
      | [] => s
      | f :: r => State.serveN n ((s.modMaster m fun ma => { ma with waiting := r }).takeNext (opOf f.op.toNat) m f)

/-- The BLK frames of a master are taken in their turn (R79): where it is served and no command frame of it waits, its ring is
consumed, and what was in it is held for the transfer that names it. Log entry: 29 DEDUCED. -/
def State.takeBlks (s : State) (m : Nat) : State :=
  if s.serves m && (s.master m).waiting.isEmpty then s.modMaster m fun ma => { ma with blk := ma.blk.drain } else s

/-- Every waiting frame that may be taken is taken. Log entries: 29 DEDUCED, 30 DEDUCED. -/
def State.serve (s : State) : State :=
  (s.serveN ((s.mail.masters.map fun ma => ma.waiting.length).sum)).each (List.range 16) fun m s => s.takeBlks m

/-- A command frame of whatever opcode arrives. -/
def State.arriveCmd (m : Nat) (f : Frame) (s : State) : State := s.submit (opOf f.op.toNat) m f

/-- A BLK frame arrives. It takes the place of one held with the same sequence. Log entry: 29 DEDUCED. -/
def State.arriveBlk (m : Nat) (f : Frame) (s : State) : State :=
  (s.modMaster m fun ma => { ma with
    blk := ma.blk.produce (frameSlots f.p.length)
    blks := ma.blks.filter (fun b => b.seq != f.h.seq.toNat) ++ [seenAt s.now f] }).takeBlks m

/-! ## The tenant window (R67) -/

/-- The frames of a ring that lie whole before a producer index `n` slots ahead. Log entry: 27 DEDUCED. -/
def published : Nat → List Frame → List Frame
  | _, [] => []
  | n, f :: r => if frameSlots f.p.length ≤ n then f :: published (n - frameSlots f.p.length) r else []

/-- A doorbell: the module examines the producer indices of the partition's BLK and CMD rings and takes what they publish of the
frames placed there. Log entry: 27 DEDUCED. -/
def State.doorbell (m : Nat) (cmds blks : List Frame) (s : State) : State :=
  let ma := s.master m
  let cs := published ((ma.cmdWord + 65536 - ma.cmd.prod) % 65536) cmds
  let bs := published ((ma.blkWord + 65536 - ma.blk.prod) % 65536) blks
  cs.foldl (fun s f => s.arriveCmd m f) (bs.foldl (fun s f => s.arriveBlk m f) s)

/-- A doorbell on the lane that is not active: the frames stay in that lane's rings (R70). Log entry: 28 DEDUCED. -/
def State.standbyDoorbell (m : Nat) (cmds blks : List Frame) (s : State) : State :=
  s.modLanes fun l => { l with parts := upd l.parts m fun p =>
    let cs := published ((p.cmdWord + 65536 - p.cmdProd) % 65536) cmds
    let bs := published ((p.blkWord + 65536 - p.blkProd) % 65536) blks
    { p with cmds := tailSlots 256 (p.cmds ++ cs), cmdProd := (p.cmdProd + (cs.map fun f => frameSlots f.p.length).sum) % 65536
             blks := tailSlots 256 (p.blks ++ bs), blkProd := (p.blkProd + (bs.map fun f => frameSlots f.p.length).sum) % 65536 } }

/-- Log entry: 28 DEDUCED. -/
def execDoorbellWrite (dt : Nat) (part : TenantPort) (cmds blks : List Frame) (s : State) :
    Host.Outcome State Fault Refusal :=
  timed dt (fun s => if part.lane = s.lanes.latch then s.doorbell part.part cmds blks else s.standbyDoorbell part.part cmds blks) s

/-- The base address of the mailbox window in a partition's address space (R67). -/
def windowBase : Nat := 0xf0000000

/-- The index words that a partition writes, by their address (Table 3.3). -/
def windowWord (addr : Nat) : Option WindowWord :=
  if addr = windowBase + 0x10000 then some .cmdProducer
  else if addr = windowBase + 0x1000c then some .rspConsumer
  else if addr = windowBase + 0x10014 then some .evtConsumer
  else if addr = windowBase + 0x10018 then some .blkProducer
  else none

/-- What a partition on the active lane reads at a word of its window (Table 3.3): the index words, the interrupt status, and the
words of a frame that stands in the RSP or EVT ring between consumer and producer index. Of a slot outside them, and of the rings
that the partition itself writes, the spec states no content that the module gives. Log entry: 28 DEDUCED. -/
def State.windowRead (s : State) (m addr : Nat) : Option Nat :=
  let ma := s.master m
  let ringAt := fun (code cons : Nat) (l : List OutFrame) (o : Nat) =>
    let slots := l.flatMap fun f => slotsOf (f.bytes m code)
    let i := (o / 64 + 256 - cons % 256) % 256
    if i < slots.length then some (u32At (nth slots i) (o % 64)) else none
  if addr < windowBase ∨ addr % 4 ≠ 0 then none
  else
    let o := addr - windowBase
    if 0x4000 ≤ o ∧ o < 0x8000 then ringAt 1 ma.rsp.cons ma.rspFrames (o - 0x4000)
    else if 0x8000 ≤ o ∧ o < 0xc000 then ringAt 2 ma.evt.cons ma.evtFrames (o - 0x8000)
    else match o with
      | 0x10000 => some ma.cmdWord | 0x10004 => some ma.cmd.cons | 0x10008 => some ma.rsp.prod | 0x1000c => some ma.rsp.cons
      | 0x10010 => some ma.evt.prod | 0x10014 => some ma.evt.cons | 0x10018 => some ma.blkWord | 0x1001c => some ma.blk.cons
      | 0x10024 => some ma.irq
      | _ => none

/-- An index word of the window written: a producer index is examined at the next doorbell; a consumer index within the ring frees
its slots. Log entry: 28 DEDUCED. -/
def State.windowWrite (m : Nat) (w : WindowWord) (v : Nat) (s : State) : State :=
  let ma := s.master m
  match w with
  | .cmdProducer => s.modMaster m fun ma => { ma with cmdWord := v }
  | .blkProducer => s.modMaster m fun ma => { ma with blkWord := v }
  | .rspConsumer =>
    if (v + 65536 - ma.rsp.cons) % 65536 ≤ ma.rsp.used then ((s.modMaster m (Master.consumeRsp v)).flush m).serve else s
  | .evtConsumer =>
    if (v + 65536 - ma.evt.cons) % 65536 ≤ ma.evt.used then s.modMaster m (Master.consumeEvt v) else s

/-- An index word written on the lane that is not active: its producer words are kept, and its RSP and EVT rings are empty (R70).
Log entry: 28 DEDUCED. -/
def State.standbyWrite (m : Nat) (w : WindowWord) (v : Nat) (s : State) : State :=
  let put := fun (f : PartRing → PartRing) => s.modLanes fun l => { l with parts := upd l.parts m f }
  match w with
  | .cmdProducer => put fun p => { p with cmdWord := v }
  | .blkProducer => put fun p => { p with blkWord := v }
  | .rspConsumer | .evtConsumer => s

/-- A word written at an address of the window: an index word that the partition writes is taken; a write anywhere else has no
behaviour of its own (Table 3.3). Log entry: 28 DEDUCED. -/
def execMailboxWindowWrite (dt : Nat) (part : TenantPort) (addr value : BitVec 32) (s : State) :
    Host.Outcome State Fault Refusal :=
  timed dt (fun s => match windowWord addr.toNat with
    | some w => if part.lane = s.lanes.latch then s.windowWrite part.part w (value.toNat % 65536)
      else s.standbyWrite part.part w (value.toNat % 65536)
    | none => s) s

/-! ## The Reckoner resumes (R83) -/

def execReckonerResume (dt : Nat) (s : State) : Host.Outcome State Fault Refusal :=
  timed dt (fun s => if s.mail.reck.up then s else s.reckonerUp.serve) s

/-! ## Ring hosts (R311, R312) -/

/-- MBX_INDEX (R311): a producer index for a CMD or BLK ring, a consumer index or a resend request for an RSP or EVT ring. -/
def State.mbxIndex (src : Nat) (b : List Byte) (s : State) : State :=
  let m := u8At b 0
  let ring := u8At b 1
  let index := u16At b 4
  let into := ring == 0 || ring == 3
  let out := ring == 1 || ring == 2
  if !s.boundTo m src then s.strayFrame m
  else if b.length ≠ 12 then s
  else match u8At b 2 with
    | 0 =>
      if into then
        match s.publishedSlots m ring index (u32At b 8) with
        | none => s.requestResend m ring
        | some l =>
          let s := s.dropPublished m ring
          (framesOf (l.length / 64) l).foldl (fun s f => if ring = 0 then s.arriveCmd m f else s.arriveBlk m f) s
      else s
    | 1 => if out then (s.hostConsumes m ring index).serve else s
    | 2 => if out then s.sendSlots m ring index else s
    | _ => s

/-- Log entry: 120 DESIGN CHOICE. -/
def execMbxIndex (dt : Nat) (src : BitVec 16) (body : List Byte) (s : State) : Host.Outcome State Fault Refusal :=
  timedRom dt (State.mbxIndex src.toNat body) s

/-- A ring frame is received; what it carries for this module takes effect. Log entry: 120 DESIGN CHOICE. -/
def State.ringFrame (port : Nat) (bytes : List Byte) (s : State) : State :=
  match s.ringRx port bytes with
  | (s, some (1, src, b)) => s.mbxSlots src b
  | (s, some (2, src, b)) => s.mbxIndex src b
  | (s, some _) => s.ringJudge
  | (s, none) => s

/-- Log entry: 120 DESIGN CHOICE. -/
def execRingFrameRx (dt : Nat) (port : Fin 2) (bytes : List Byte) (s : State) : Host.Outcome State Fault Refusal :=
  timedRom dt (State.ringFrame port bytes) s

/-! ## CAN (R69, R285) -/

/-- A slot of a gateway master: a gap beyond the inter-slot limit discards the frame in progress; a whole frame arrives on the CMD
ring. Log entry: 33 DEDUCED. -/
def State.gatewaySlot (m : Nat) (slot : List Byte) (s : State) : State :=
  let s := s.gatewayGap m
  let part := (s.master m).gwPart ++ slot
  if part.length = 64 * frameSlots (u16At part 4) then
    ((s.modMaster m fun ma => { ma with gwPart := [] }).arriveCmd m (frameOfBytes part)).gateways
  else s.modMaster m fun ma => { ma with gwPart := part, gwAt := s.now }

/-- A valid frame on a channel that receives, offered in the order of R285; an FD frame on a classic channel is treated as can_pex
selects (R284). Its stamps are those of its start-of-frame, `sof` ns ago
(Table 2.10). Log entry: 33 DEDUCED. -/
def State.canFrame (ch sof : Nat) (f : CanFrame) (s : State) : State :=
  if s.get (It.canMode ch) = 0 then s
  else if !s.canCarries ch f then s.protocolException ch
  else
    let g := s.now - sof
    let s := s.canCount ch f
    match [12, 13].find? fun m => s.get (It.gwCanChannel m) == ch && CanFrame.isId f (s.get (It.gwReqId m)) with
    | some m => if f.fd ∧ f.data.length = 64 then s.gatewaySlot m f.data else s
    | none =>
      let s := s.lmFeed (fun s n => s.get (It.lmSource n) == 5 + ch && s.getAt g (It.lmSource n) == 5 + ch &&
        CanFrame.isId f (s.getAt g (It.lmCanId n))) g f.data
      ((s.feedCan ch g f).confirmCan ch f).canOffer ch g f

def execCanFrameValid (dt : Nat) (ch : Fin 6) (got : CanArrival) (s : State) : Host.Outcome State Fault Refusal :=
  timedRun dt (State.canFrame ch got.sof got.frame) s

/-! ## The opcode rows -/

def execTimeRead (dt : Nat) (m : Fin 16) (h : Hdr) (p : List Byte) (s : State) : Host.Outcome State Fault Refusal :=
  cmdRow opTimeRead 0x0500 dt m h p s

def execCalendarSet (dt : Nat) (m : Fin 16) (h : Hdr) (p : List Byte) (s : State) : Host.Outcome State Fault Refusal :=
  cmdRow opCalendarSet 0x0501 dt m h p s

def execTallyForecast (dt : Nat) (m : Fin 16) (h : Hdr) (p : List Byte) (s : State) : Host.Outcome State Fault Refusal :=
  cmdRow opTallyForecast 0x0502 dt m h p s

def execLatencyRelearn (dt : Nat) (m : Fin 16) (h : Hdr) (p : List Byte) (s : State) : Host.Outcome State Fault Refusal :=
  cmdRow opLatencyRelearn 0x0503 dt m h p s

def execSessionOpen (dt : Nat) (m : Fin 16) (h : Hdr) (p : List Byte) (s : State) : Host.Outcome State Fault Refusal :=
  cmdRow opSessionOpen 0x0100 dt m h p s

def execSessionClose (dt : Nat) (m : Fin 16) (h : Hdr) (p : List Byte) (s : State) : Host.Outcome State Fault Refusal :=
  cmdRow opSessionClose 0x0101 dt m h p s

def execHeartbeat (dt : Nat) (m : Fin 16) (h : Hdr) (p : List Byte) (s : State) : Host.Outcome State Fault Refusal :=
  cmdRow opHeartbeat 0x0102 dt m h p s

def execOwnClaim (dt : Nat) (m : Fin 16) (h : Hdr) (p : List Byte) (s : State) : Host.Outcome State Fault Refusal :=
  cmdRow opOwnClaim 0x0103 dt m h p s

def execOwnRelease (dt : Nat) (m : Fin 16) (h : Hdr) (p : List Byte) (s : State) : Host.Outcome State Fault Refusal :=
  cmdRow opOwnRelease 0x0104 dt m h p s

def execOwnOffer (dt : Nat) (m : Fin 16) (h : Hdr) (p : List Byte) (s : State) : Host.Outcome State Fault Refusal :=
  cmdRow opOwnOffer 0x0105 dt m h p s

def execOwnAccept (dt : Nat) (m : Fin 16) (h : Hdr) (p : List Byte) (s : State) : Host.Outcome State Fault Refusal :=
  cmdRow opOwnAccept 0x0106 dt m h p s

def execOutputsResume (dt : Nat) (m : Fin 16) (h : Hdr) (p : List Byte) (s : State) : Host.Outcome State Fault Refusal :=
  cmdRow opOutputsResume 0x0107 dt m h p s

def execSessionList (dt : Nat) (m : Fin 16) (h : Hdr) (p : List Byte) (s : State) : Host.Outcome State Fault Refusal :=
  cmdRow opSessionList 0x0108 dt m h p s

def execEvtMaskSet (dt : Nat) (m : Fin 16) (h : Hdr) (p : List Byte) (s : State) : Host.Outcome State Fault Refusal :=
  cmdRow opEvtMaskSet 0x0109 dt m h p s

def execItemRead (dt : Nat) (m : Fin 16) (h : Hdr) (p : List Byte) (s : State) : Host.Outcome State Fault Refusal :=
  cmdRow opItemRead 0x0200 dt m h p s

def execItemWrite (dt : Nat) (m : Fin 16) (h : Hdr) (p : List Byte) (s : State) : Host.Outcome State Fault Refusal :=
  cmdRow opItemWrite 0x0201 dt m h p s

def execSlateOpen (dt : Nat) (m : Fin 16) (h : Hdr) (p : List Byte) (s : State) : Host.Outcome State Fault Refusal :=
  cmdRow opSlateOpen 0x0300 dt m h p s

def execSlateLoad (dt : Nat) (m : Fin 16) (h : Hdr) (p : List Byte) (s : State) : Host.Outcome State Fault Refusal :=
  cmdRow opSlateLoad 0x0301 dt m h p s

def execSlateCheck (dt : Nat) (m : Fin 16) (h : Hdr) (p : List Byte) (s : State) : Host.Outcome State Fault Refusal :=
  cmdRow opSlateCheck 0x0302 dt m h p s

def execSlateCommit (dt : Nat) (m : Fin 16) (h : Hdr) (p : List Byte) (s : State) : Host.Outcome State Fault Refusal :=
  cmdRow opSlateCommit 0x0303 dt m h p s

def execSlateCancel (dt : Nat) (m : Fin 16) (h : Hdr) (p : List Byte) (s : State) : Host.Outcome State Fault Refusal :=
  cmdRow opSlateCancel 0x0304 dt m h p s

def execSlateList (dt : Nat) (m : Fin 16) (h : Hdr) (p : List Byte) (s : State) : Host.Outcome State Fault Refusal :=
  cmdRow opSlateList 0x0305 dt m h p s

def execSlateEntries (dt : Nat) (m : Fin 16) (h : Hdr) (p : List Byte) (s : State) : Host.Outcome State Fault Refusal :=
  cmdRow opSlateEntries 0x0306 dt m h p s

def execRingPrepare (dt : Nat) (m : Fin 16) (h : Hdr) (p : List Byte) (s : State) : Host.Outcome State Fault Refusal :=
  cmdRow opRingPrepare 0x0310 dt m h p s

def execRingDecide (dt : Nat) (m : Fin 16) (h : Hdr) (p : List Byte) (s : State) : Host.Outcome State Fault Refusal :=
  cmdRow opRingDecide 0x0311 dt m h p s

def execSnapshotPin (dt : Nat) (m : Fin 16) (h : Hdr) (p : List Byte) (s : State) : Host.Outcome State Fault Refusal :=
  cmdRow opSnapshotPin 0x0400 dt m h p s

def execSnapshotRead (dt : Nat) (m : Fin 16) (h : Hdr) (p : List Byte) (s : State) : Host.Outcome State Fault Refusal :=
  cmdRow opSnapshotRead 0x0401 dt m h p s

def execSnapshotRelease (dt : Nat) (m : Fin 16) (h : Hdr) (p : List Byte) (s : State) : Host.Outcome State Fault Refusal :=
  cmdRow opSnapshotRelease 0x0402 dt m h p s

def execCamStatsRead (dt : Nat) (m : Fin 16) (h : Hdr) (p : List Byte) (s : State) : Host.Outcome State Fault Refusal :=
  cmdRow opCamStatsRead 0x0700 dt m h p s

def execCamFrameGrab (dt : Nat) (m : Fin 16) (h : Hdr) (p : List Byte) (s : State) : Host.Outcome State Fault Refusal :=
  cmdRow opCamFrameGrab 0x0701 dt m h p s

def execCamTableLoad (dt : Nat) (m : Fin 16) (h : Hdr) (p : List Byte) (s : State) : Host.Outcome State Fault Refusal :=
  cmdRow opCamTableLoad 0x0702 dt m h p s

def execTrackRead (dt : Nat) (m : Fin 16) (h : Hdr) (p : List Byte) (s : State) : Host.Outcome State Fault Refusal :=
  cmdRow opTrackRead 0x0800 dt m h p s

def execSolveRead (dt : Nat) (m : Fin 16) (h : Hdr) (p : List Byte) (s : State) : Host.Outcome State Fault Refusal :=
  cmdRow opSolveRead 0x0801 dt m h p s

def execFuTableLoad (dt : Nat) (m : Fin 16) (h : Hdr) (p : List Byte) (s : State) : Host.Outcome State Fault Refusal :=
  cmdRow opFuTableLoad 0x0802 dt m h p s

def execCellRead (dt : Nat) (m : Fin 16) (h : Hdr) (p : List Byte) (s : State) : Host.Outcome State Fault Refusal :=
  cmdRow opCellRead 0x0803 dt m h p s

def execRodRead (dt : Nat) (m : Fin 16) (h : Hdr) (p : List Byte) (s : State) : Host.Outcome State Fault Refusal :=
  cmdRow opRodRead 0x0600 dt m h p s

def execRodReset (dt : Nat) (m : Fin 16) (h : Hdr) (p : List Byte) (s : State) : Host.Outcome State Fault Refusal :=
  cmdRow opRodReset 0x0601 dt m h p s

def execBeamRead (dt : Nat) (m : Fin 16) (h : Hdr) (p : List Byte) (s : State) : Host.Outcome State Fault Refusal :=
  cmdRow opBeamRead 0x0602 dt m h p s

def execRodTraceArm (dt : Nat) (m : Fin 16) (h : Hdr) (p : List Byte) (s : State) : Host.Outcome State Fault Refusal :=
  cmdRow opRodTraceArm 0x0603 dt m h p s

def execRodTraceRead (dt : Nat) (m : Fin 16) (h : Hdr) (p : List Byte) (s : State) : Host.Outcome State Fault Refusal :=
  cmdRow opRodTraceRead 0x0604 dt m h p s

def execValveBead (dt : Nat) (m : Fin 16) (h : Hdr) (p : List Byte) (s : State) : Host.Outcome State Fault Refusal :=
  cmdRow opValveBead 0x0900 dt m h p s

def execBeadCancel (dt : Nat) (m : Fin 16) (h : Hdr) (p : List Byte) (s : State) : Host.Outcome State Fault Refusal :=
  cmdRow opBeadCancel 0x0901 dt m h p s

def execQueueRead (dt : Nat) (m : Fin 16) (h : Hdr) (p : List Byte) (s : State) : Host.Outcome State Fault Refusal :=
  cmdRow opQueueRead 0x0902 dt m h p s

def execBeadLogRead (dt : Nat) (m : Fin 16) (h : Hdr) (p : List Byte) (s : State) : Host.Outcome State Fault Refusal :=
  cmdRow opBeadLogRead 0x0903 dt m h p s

def execValveClear (dt : Nat) (m : Fin 16) (h : Hdr) (p : List Byte) (s : State) : Host.Outcome State Fault Refusal :=
  cmdRow opValveClear 0x0904 dt m h p s

def execCoilMeasure (dt : Nat) (m : Fin 16) (h : Hdr) (p : List Byte) (s : State) : Host.Outcome State Fault Refusal :=
  cmdRow opCoilMeasure 0x0905 dt m h p s

def execLsHistRead (dt : Nat) (m : Fin 16) (h : Hdr) (p : List Byte) (s : State) : Host.Outcome State Fault Refusal :=
  cmdRow opLsHistRead 0x0a00 dt m h p s

def execDoClear (dt : Nat) (m : Fin 16) (h : Hdr) (p : List Byte) (s : State) : Host.Outcome State Fault Refusal :=
  cmdRow opDoClear 0x0a01 dt m h p s

def execCanTx (dt : Nat) (m : Fin 16) (h : Hdr) (p : List Byte) (s : State) : Host.Outcome State Fault Refusal :=
  cmdRow opCanTx 0x0b00 dt m h p s

def execCanTxCancel (dt : Nat) (m : Fin 16) (h : Hdr) (p : List Byte) (s : State) : Host.Outcome State Fault Refusal :=
  cmdRow opCanTxCancel 0x0b01 dt m h p s

def execCanTxList (dt : Nat) (m : Fin 16) (h : Hdr) (p : List Byte) (s : State) : Host.Outcome State Fault Refusal :=
  cmdRow opCanTxList 0x0b02 dt m h p s

def execCanRecover (dt : Nat) (m : Fin 16) (h : Hdr) (p : List Byte) (s : State) : Host.Outcome State Fault Refusal :=
  cmdRow opCanRecover 0x0b03 dt m h p s

def execCanHpRead (dt : Nat) (m : Fin 16) (h : Hdr) (p : List Byte) (s : State) : Host.Outcome State Fault Refusal :=
  cmdRow opCanHpRead 0x0b04 dt m h p s

def execRingRead (dt : Nat) (m : Fin 16) (h : Hdr) (p : List Byte) (s : State) : Host.Outcome State Fault Refusal :=
  cmdRow opRingRead 0x0c00 dt m h p s

def execRingBypass (dt : Nat) (m : Fin 16) (h : Hdr) (p : List Byte) (s : State) : Host.Outcome State Fault Refusal :=
  cmdRow opRingBypass 0x0c01 dt m h p s

def execLinkTestStart (dt : Nat) (m : Fin 16) (h : Hdr) (p : List Byte) (s : State) : Host.Outcome State Fault Refusal :=
  cmdRow opLinkTestStart 0x1300 dt m h p s

def execLinkTestStop (dt : Nat) (m : Fin 16) (h : Hdr) (p : List Byte) (s : State) : Host.Outcome State Fault Refusal :=
  cmdRow opLinkTestStop 0x1301 dt m h p s

def execLinkTestRead (dt : Nat) (m : Fin 16) (h : Hdr) (p : List Byte) (s : State) : Host.Outcome State Fault Refusal :=
  cmdRow opLinkTestRead 0x1302 dt m h p s

def execFaultInject (dt : Nat) (m : Fin 16) (h : Hdr) (p : List Byte) (s : State) : Host.Outcome State Fault Refusal :=
  cmdRow opFaultInject 0x1303 dt m h p s

def execRedRead (dt : Nat) (m : Fin 16) (h : Hdr) (p : List Byte) (s : State) : Host.Outcome State Fault Refusal :=
  cmdRow opRedRead 0x0d00 dt m h p s

def execLaneSwitch (dt : Nat) (m : Fin 16) (h : Hdr) (p : List Byte) (s : State) : Host.Outcome State Fault Refusal :=
  cmdRow opLaneSwitch 0x0d01 dt m h p s

def execLaneRestart (dt : Nat) (m : Fin 16) (h : Hdr) (p : List Byte) (s : State) : Host.Outcome State Fault Refusal :=
  cmdRow opLaneRestart 0x0d02 dt m h p s

def execPowerRead (dt : Nat) (m : Fin 16) (h : Hdr) (p : List Byte) (s : State) : Host.Outcome State Fault Refusal :=
  cmdRow opPowerRead 0x0e00 dt m h p s

def execStateSet (dt : Nat) (m : Fin 16) (h : Hdr) (p : List Byte) (s : State) : Host.Outcome State Fault Refusal :=
  cmdRow opStateSet 0x0e01 dt m h p s

def execModuleReset (dt : Nat) (m : Fin 16) (h : Hdr) (p : List Byte) (s : State) : Host.Outcome State Fault Refusal :=
  cmdRow opModuleReset 0x0e02 dt m h p s

def execUpdOpen (dt : Nat) (m : Fin 16) (h : Hdr) (p : List Byte) (s : State) : Host.Outcome State Fault Refusal :=
  cmdRow opUpdOpen 0x0f00 dt m h p s

def execUpdBlocks (dt : Nat) (m : Fin 16) (h : Hdr) (p : List Byte) (s : State) : Host.Outcome State Fault Refusal :=
  cmdRow opUpdBlocks 0x0f01 dt m h p s

def execUpdActivate (dt : Nat) (m : Fin 16) (h : Hdr) (p : List Byte) (s : State) : Host.Outcome State Fault Refusal :=
  cmdRow opUpdActivate 0x0f02 dt m h p s

def execUpdConfirm (dt : Nat) (m : Fin 16) (h : Hdr) (p : List Byte) (s : State) : Host.Outcome State Fault Refusal :=
  cmdRow opUpdConfirm 0x0f03 dt m h p s

def execUpdAbort (dt : Nat) (m : Fin 16) (h : Hdr) (p : List Byte) (s : State) : Host.Outcome State Fault Refusal :=
  cmdRow opUpdAbort 0x0f04 dt m h p s

def execUpdInventory (dt : Nat) (m : Fin 16) (h : Hdr) (p : List Byte) (s : State) : Host.Outcome State Fault Refusal :=
  cmdRow opUpdInventory 0x0f05 dt m h p s

def execUpdRecovery (dt : Nat) (m : Fin 16) (h : Hdr) (p : List Byte) (s : State) : Host.Outcome State Fault Refusal :=
  cmdRow opUpdRecovery 0x0f06 dt m h p s

def execUpdRecoveryExit (dt : Nat) (m : Fin 16) (h : Hdr) (p : List Byte) (s : State) : Host.Outcome State Fault Refusal :=
  cmdRow opUpdRecoveryExit 0x0f07 dt m h p s

def execHistRead (dt : Nat) (m : Fin 16) (h : Hdr) (p : List Byte) (s : State) : Host.Outcome State Fault Refusal :=
  cmdRow opHistRead 0x1000 dt m h p s

def execHistClear (dt : Nat) (m : Fin 16) (h : Hdr) (p : List Byte) (s : State) : Host.Outcome State Fault Refusal :=
  cmdRow opHistClear 0x1001 dt m h p s

def execAgeRead (dt : Nat) (m : Fin 16) (h : Hdr) (p : List Byte) (s : State) : Host.Outcome State Fault Refusal :=
  cmdRow opAgeRead 0x1100 dt m h p s

def execAgeMonitorRead (dt : Nat) (m : Fin 16) (h : Hdr) (p : List Byte) (s : State) : Host.Outcome State Fault Refusal :=
  cmdRow opAgeMonitorRead 0x1101 dt m h p s

def execPanelPageLoad (dt : Nat) (m : Fin 16) (h : Hdr) (p : List Byte) (s : State) : Host.Outcome State Fault Refusal :=
  cmdRow opPanelPageLoad 0x1200 dt m h p s

def execPanelRead (dt : Nat) (m : Fin 16) (h : Hdr) (p : List Byte) (s : State) : Host.Outcome State Fault Refusal :=
  cmdRow opPanelRead 0x1201 dt m h p s

def execPanelRefresh (dt : Nat) (m : Fin 16) (h : Hdr) (p : List Byte) (s : State) : Host.Outcome State Fault Refusal :=
  cmdRow opPanelRefresh 0x1202 dt m h p s

end Sys2Proof.Machine
end

