-- ==== Sys2Proof/Machine/Cycle.lean ====
section
/-! DEFINITION. The base-cycle boundary K (R25): latches, the values of Apply "next cycle", the status items and the snapshot
of a K (R124), and what the chapters do at a K. -/

namespace Sys2Proof.Machine

/-! ## Measurements -/

/-- Items that hold a measurement or a share of time that the operation cannot compute from the state; they are taken as the
subsystem gives them before a K. Log entry: 15 DESIGN CHOICE. -/
def measuredItem (k : Nat) : Bool :=
  k == It.reckonerLoadPct || k == It.pipeLoadPct || k == It.fuLoadPct ||
    (List.range 4).any (fun p => k == It.camPclkKhz p || k == It.camSyncErrors p || k == It.drvTempC p) ||
    (List.range 6).any fun c => k == It.canTdcValue c || k == It.canBusLoadPm c

/-- The monitor and instance of Table 15.5 whose latest value an item of class 0xb0 holds; monitor 1 has its own command. -/
def monitorOf (k : Nat) : Option (Nat × Nat) :=
  if k / 65536 = 0xb0 then
    [2, 3, 4, 5, 6, 7, 10].findSome? fun mon =>
      ((List.range (monInstances mon)).find? fun i => monItem mon i == k).map fun i => (mon, i)
  else none

/-- One measurement: a boost rail, a sample of an ageing monitor, or an item; a value outside the item's range is none.
Log entries: 15 DESIGN CHOICE, 160 DESIGN CHOICE. -/
def State.measure (k v : Nat) (s : State) : State :=
  if !((findRow k).any fun r => r.inRange v) then s
  else match (List.range 16).find? fun b => k == It.boostV b, monitorOf k with
    | some b, _ => s.railUpdate b v
    | none, some (mon, i) => s.ageSample mon i v
    | none, none => if measuredItem k then s.set k v else s

/-! ## Latches -/

/-- The latches of a K: the counters of both lanes, those of the drive dies at the K of their own mtime followers (R46), and
the end of the cycle for the encoders (R36). Log entry: 166 DESIGN CHOICE. -/
def State.latchAtK (s : State) : State :=
  let s := s.modTime fun tm => { tm with
    lane := tm.lane.latch s.now, standby := tm.standby.latch s.now
    dies := tm.dies.map (Follower.latch s.up), enc := tm.enc.map Encoder.endCycle }
  s.each (List.range 8) State.judgeEncoder

/-- Apply "next cycle" (R12): the items are in use from this K on. At the first K of a start every stream, group and view that they name
is new (R190). -/
def State.useAtK (s : State) : State :=
  let old := s.cfgK
  let was : Store := if s.power.startK.isSome then [] else old
  let s := { s with cfgK := s.items }
  ((s.fusionLatch (was.read s.variant)).rodsAtK old).ioAtK.sagReturn

/-! ## Ownerless action (R94, Table 3.11 step 5) -/

def State.ownerlessEvent (action : Nat) (s : State) : State :=
  s.emit 0x0185 (toLE 2 action ++ toLE 2 0 ++ toLE 4 0 ++ toLE 8 s.cycle)

/-- The groups whose bit is set go to their safe states. Log entry: 162 DEDUCED. -/
def State.ownerlessApply (s : State) : State :=
  let banks := s.get It.ownerlessBanks
  let chans := s.get It.ownerlessCan
  let s := s.each ((List.range 16).filter (bit banks)) fun b s => s.setCause b 0
  let s := s.modIo fun b => { b with forceOwner := s.get It.ownerlessDo }
  let s := s.each ((List.range 6).filter (bit chans)) fun ch s => (s.canFlush ch).modCan ch fun c => { c with held := true }
  (s.set It.ownerlessApplied 1).ownerlessEvent 0

/-- The groups resume after OUTPUTS_RESUME. Log entry: 162 DEDUCED. -/
def State.ownerlessResume (s : State) : State :=
  let s := s.modMail fun ml => { ml with resume := false }
  let s := s.each ((List.range 16).filter fun b => bit (s.get (It.bankSafeCause b)) 0) fun b s => s.clearCause b 0
  let s := s.modIo fun b => { b with forceOwner := 0 }
  let s := s.each (List.range 6) fun ch s => (s.modCan ch fun c => { c with held := false }).canStart ch
  (s.set It.ownerlessApplied 0).ownerlessEvent 1

/-- The ownerless action or its end at a K. A claim that this K grants is granted first. While the latch is HOLDING no output
takes a command (R29, R31): the lane that claims acts at its first K. Log entry: 162 DEDUCED. -/
def State.ownerlessAtK (s : State) : State :=
  if !s.lanes.accepting then s else
  let s := if s.mail.graceOver then s.grantAtK else s
  let due := s.mail.graceOver && s.mail.owner.isNone
  let s := s.modMail fun ml => { ml with graceOver := false }
  let s := if s.mail.resume then s.ownerlessResume else s
  if due then s.ownerlessApply else s

/-! ## Status items and the snapshot (R124) -/

/-- The PLL domains of Table 1.5 that are locked in a lane that gave up for cause 5: at least one has lost its lock; which ones,
nothing tells, so that two free values choose the one lost for certain and the others. Log entry: 159 DEDUCED. -/
def lockLost (v w : Nat) : Nat :=
  let d := nth [0, 1, 2, 3, 8, 9, 10, 11, 12] (v % 9)
  (w &&& 0x1f0f) - (if bit w d then 2 ^ d else 0)

/-- clock_lock of a lane (Tables 1.5 and 1.12): every domain of a lane that is not OFF, and of the camera ports those with a
PCLK; while a lane stands given up for cause 5, not every PLL domain (R26). Log entry: 159 DEDUCED. -/
def State.clockLock (s : State) (x : Nat) : Nat :=
  if s.lane x = 0 then 0
  else
    let plls := if s.lane x = 5 ∧ s.get (It.laneCause x) = 5 then
        lockLost (Config.freeValue (s.free + 2 * x)) (Config.freeValue (s.free + 2 * x + 1)) else 0x1f0f
    plls + 0x2000 + ((List.range 4).map fun p => if (s.port p).clock then 2 ^ (4 + p) else 0).sum

/-- The items of time and tally. -/
def State.timeItems (s : State) : State :=
  let c := s.time.lane
  let s := ((s.set It.cycleNumber s.cycle).set It.mtime s.now).set It.calendarNs s.calendar
  let s := ((s.set It.tallyPosition s.pos).set It.tallyRate c.rate).set It.tallyState c.st.code
  let s := s.set It.reverseDebt c.debt
  let off := s.time.dies.foldl (fun (m : Int) f => if m.natAbs < f.off.natAbs then f.off else m) 0
  s.seti It.followerOffsetNs (clampInt (-2147483648) 2147483647 off)

/-- The items of the Reckoner's own state, refreshed while it serves (R83). -/
def State.mailItems (s : State) : State :=
  if s.mail.reck.up then (s.set It.owner (s.mail.owner.getD 255)).set It.ownerState s.ownerState else s

/-- The demands in force and the rate of detections (Tables 5.17 and 6.21). -/
def State.demandItems (s : State) : State :=
  let s := (s.set It.pipeAdmittedKpx (demandPixels s.get)).set It.pipeAdmittedKcycles (demandCycles s.get)
  let s := (s.set It.fuAdmittedKcycles (demandFusion s.useK)).set It.fuBufferKb (demandBuffer s.useK)
  let recent := s.cam.detTimes.filter fun t => decide (s.now < t + 10000000)
  ({ s with cam := { s.cam with detTimes := recent } } : State).set It.pipeDetectionRate (100 * recent.length)

/-- The status items whose value another field holds. -/
def State.statusAtK (s : State) : State :=
  let s := (s.timeItems.mailItems.demandItems.slateItems.bankItems 0).bankItems 1
  let s := (s.each (List.range 4) State.camJudge).streamGuards
  let s := s.set It.tkSolvesPerS (s.fus.solves.filter fun t => decide (s.now < t + 1000000000)).length
  let s := ((s.set It.clockLockA (s.clockLock 0)).set It.clockLockB (s.clockLock 1)).useFree 4
  let s := s.each (List.range 16) fun b s => s.set (It.bankReservedA b) (min (s.reserved b) (volts 20))
  s.each (List.range 6) fun c s => s.set (It.canTxPending c) (s.canCh c).bufs.length

/-- The snapshot of a K. Log entry: 54 DESIGN CHOICE. -/
def State.snapshot (s : State) : State :=
  s.modSb fun b => { b with snap := { cycle := s.cycle, carry := s.get It.carryNumber, items := s.items } }

/-! ## The K -/

/-- The first K after a start (Table 13.8 step 7): RUN or IDLE, STATE_CHANGE, the recorder's windows, the ageing plan. -/
def State.startAtK (s : State) : State :=
  match s.power.startK with
  | none => s
  | some c =>
    let s := s.modPower fun p => { p with startK := none }
    let old := s.get It.opState
    let s := s.set It.opState (if s.useRestart It.startState = 1 then 2 else 1)
    let s := if c = 2 then s.stateChange old 2 else s
    (s.stateChange old 1).recorderBegin.planAtK

/-- What a K does in a module whose engines run. -/
def State.atK (meas : List (Nat × Nat)) (ingressEqual : Bool) (s : State) : State :=
  let s := s.ioBeforeK.latchAtK
  let s := (meas.foldl (fun s m => s.measure m.1 m.2) s).useAtK.feedEncoders
  let s := s.ownerlessAtK.startAtK.windowAtK
  let s := s.statusAtK.snapshot.recorderSample.carriedAtK
  let s := s.takeoverAtK.ringPump.gateways.updFollow
  (s.copyAtK ingressEqual).serve

/-- What a K does in a power-fail shut-down, where no carry is released and no mailbox served, and the standby lane has stopped
(Table 13.4). Log entry: 145 DEDUCED. -/
def State.shutAtK (meas : List (Nat × Nat)) (s : State) : State :=
  let s := s.ioBeforeK.latchAtK
  (meas.foldl (fun s m => s.measure m.1 m.2) s).useAtK.feedEncoders.recorderSample.carriedAtK

/-- What a K does in ROM recovery mode (R381): the values that ITEM_READ serves, and the ring; UPD_RECOVERY_EXIT takes effect once
its response has gone out. Log entry: 153 DEDUCED. -/
def State.romAtK (s : State) : State :=
  let s := ((((s.set It.cycleNumber s.cycle).set It.mtime s.now).bankItems 0).bankItems 1).snapshot.ringPump
  if s.power.pend.any fun p => p.what == 6 then s.leaveRecovery else s

/-- The clock at the next K: the next multiple of 100 000 ns (R25). Log entry: 5 DESIGN CHOICE. -/
def Clock.toK (c : Clock) : Clock :=
  let t := max ((c.kLast + 1) * 100000) ((c.mtime + 99999) / 100000 * 100000)
  { c with mtime := t, wall := c.wall + (t - c.mtime), kLast := t / 100000 }

/-- The clock at this K: a start stands at the boundary of its mtime 0 until that K has run (Table 13.8 step 7).
Log entry: 16 DEDUCED. -/
def State.kClock (s : State) : Clock :=
  if s.live && s.power.startK.isSome && s.now == 0 then s.clk else s.clk.toK

/-- Log entries: 5 DESIGN CHOICE, 15 DESIGN CHOICE. -/
def execBaseCycleBoundary (meas : List (Nat × Nat)) (ingressEqual : Bool) (s : State) :
    Host.Outcome State Fault Refusal :=
  let a := { s with clk := s.kClock }
  let b := if a.live then a.atK meas ingressEqual else match a.phase with
    | .recovery => a.romAtK
    | .shuttingDown => a.shutAtK meas
    | _ => a
  .next { b with clk := a.clk, pending := a.pending }

end Sys2Proof.Machine
end

