-- ==== Sys2Proof/Machine/Dispatch.lean ====
section
/-! DEFINITION. One arm per command (the rows of the operation table): each is one direct call of that command's meaning. -/

namespace Sys2Proof.Machine

def exec (i : Instr) (s : State) : Host.Outcome State Fault Refusal :=
  match i with
  | .baseCycleBoundary meas ingressEqual => Sys2Proof.Machine.execBaseCycleBoundary meas ingressEqual s
  | .encoderEdge dt n a b seen => Sys2Proof.Machine.execEncoderEdge dt n a b seen s
  | .internalTallyTick => Sys2Proof.Machine.execInternalTallyTick s
  | .tallyStall dt => Sys2Proof.Machine.execTallyStall dt s
  | .encoderStale dt n => Sys2Proof.Machine.execEncoderStale dt n s
  | .cycleStartMessage dt die lane off => Sys2Proof.Machine.execCycleStartMessage dt die lane off s
  | .followerCorrection dt die => Sys2Proof.Machine.execFollowerCorrection dt die s
  | .laneLinkKMessage dt off => Sys2Proof.Machine.execLaneLinkKMessage dt off s
  | .latencyMonitorSilent dt n => Sys2Proof.Machine.execLatencyMonitorSilent dt n s
  | .timeRead dt m h p => Sys2Proof.Machine.execTimeRead dt m h p s
  | .calendarSet dt m h p => Sys2Proof.Machine.execCalendarSet dt m h p s
  | .tallyForecast dt m h p => Sys2Proof.Machine.execTallyForecast dt m h p s
  | .latencyRelearn dt m h p => Sys2Proof.Machine.execLatencyRelearn dt m h p s
  | .doorbellWrite dt part cmds blks => Sys2Proof.Machine.execDoorbellWrite dt part cmds blks s
  | .mailboxIrqClear dt part bits => Sys2Proof.Machine.execMailboxIrqClear dt part bits s
  | .mailboxWindowWrite dt part addr value => Sys2Proof.Machine.execMailboxWindowWrite dt part addr value s
  | .gatewaySlotGap dt gw => Sys2Proof.Machine.execGatewaySlotGap dt gw s
  | .sessionOpen dt m h p => Sys2Proof.Machine.execSessionOpen dt m h p s
  | .sessionClose dt m h p => Sys2Proof.Machine.execSessionClose dt m h p s
  | .heartbeat dt m h p => Sys2Proof.Machine.execHeartbeat dt m h p s
  | .ownClaim dt m h p => Sys2Proof.Machine.execOwnClaim dt m h p s
  | .ownRelease dt m h p => Sys2Proof.Machine.execOwnRelease dt m h p s
  | .ownOffer dt m h p => Sys2Proof.Machine.execOwnOffer dt m h p s
  | .ownAccept dt m h p => Sys2Proof.Machine.execOwnAccept dt m h p s
  | .outputsResume dt m h p => Sys2Proof.Machine.execOutputsResume dt m h p s
  | .sessionList dt m h p => Sys2Proof.Machine.execSessionList dt m h p s
  | .evtMaskSet dt m h p => Sys2Proof.Machine.execEvtMaskSet dt m h p s
  | .itemRead dt m h p => Sys2Proof.Machine.execItemRead dt m h p s
  | .itemWrite dt m h p => Sys2Proof.Machine.execItemWrite dt m h p s
  | .electionWindowEnd dt => Sys2Proof.Machine.execElectionWindowEnd dt s
  | .ownershipGrantAtK dt => Sys2Proof.Machine.execOwnershipGrantAtK dt s
  | .ownershipSwitch dt => Sys2Proof.Machine.execOwnershipSwitch dt s
  | .offerExpiry dt => Sys2Proof.Machine.execOfferExpiry dt s
  | .ownershipLapse dt => Sys2Proof.Machine.execOwnershipLapse dt s
  | .sessionIdleExpiry dt m => Sys2Proof.Machine.execSessionIdleExpiry dt m s
  | .ownerlessGraceExpiry dt => Sys2Proof.Machine.execOwnerlessGraceExpiry dt s
  | .reckonerWatchdogExpiry dt inExec => Sys2Proof.Machine.execReckonerWatchdogExpiry dt inExec s
  | .reckonerRestartTimeout dt => Sys2Proof.Machine.execReckonerRestartTimeout dt s
  | .reckonerResume dt => Sys2Proof.Machine.execReckonerResume dt s
  | .slateOpen dt m h p => Sys2Proof.Machine.execSlateOpen dt m h p s
  | .slateLoad dt m h p => Sys2Proof.Machine.execSlateLoad dt m h p s
  | .slateCheck dt m h p => Sys2Proof.Machine.execSlateCheck dt m h p s
  | .slateCommit dt m h p => Sys2Proof.Machine.execSlateCommit dt m h p s
  | .slateCancel dt m h p => Sys2Proof.Machine.execSlateCancel dt m h p s
  | .slateCancelEffect dt sl => Sys2Proof.Machine.execSlateCancelEffect dt sl s
  | .slateList dt m h p => Sys2Proof.Machine.execSlateList dt m h p s
  | .slateEntries dt m h p => Sys2Proof.Machine.execSlateEntries dt m h p s
  | .ringPrepare dt m h p => Sys2Proof.Machine.execRingPrepare dt m h p s
  | .ringDecide dt m h p => Sys2Proof.Machine.execRingDecide dt m h p s
  | .decisionDeadlineExpiry dt sl => Sys2Proof.Machine.execDecisionDeadlineExpiry dt sl s
  | .snapshotPin dt m h p => Sys2Proof.Machine.execSnapshotPin dt m h p s
  | .snapshotRead dt m h p => Sys2Proof.Machine.execSnapshotRead dt m h p s
  | .snapshotRelease dt m h p => Sys2Proof.Machine.execSnapshotRelease dt m h p s
  | .pinLifetimeExpiry dt handle => Sys2Proof.Machine.execPinLifetimeExpiry dt handle s
  | .carry dt sl => Sys2Proof.Machine.execCarry dt sl s
  | .driveDieCarry dt die sl => Sys2Proof.Machine.execDriveDieCarry dt die sl s
  | .storeTransactionDone dt => Sys2Proof.Machine.execStoreTransactionDone dt s
  | .cameraLineStart dt port px overflow => Sys2Proof.Machine.execCameraLineStart dt port px overflow s
  | .cameraFrameStart dt port => Sys2Proof.Machine.execCameraFrameStart dt port s
  | .cameraClockLoss dt port => Sys2Proof.Machine.execCameraClockLoss dt port s
  | .cameraStale dt port => Sys2Proof.Machine.execCameraStale dt port s
  | .detectionEmit dt ctx => Sys2Proof.Machine.execDetectionEmit dt ctx s
  | .statisticsFinal dt ctx => Sys2Proof.Machine.execStatisticsFinal dt ctx s
  | .cameraTrigger dt port => Sys2Proof.Machine.execCameraTrigger dt port s
  | .camStatsRead dt m h p => Sys2Proof.Machine.execCamStatsRead dt m h p s
  | .camFrameGrab dt m h p => Sys2Proof.Machine.execCamFrameGrab dt m h p s
  | .camTableLoad dt m h p => Sys2Proof.Machine.execCamTableLoad dt m h p s
  | .horizonRelease dt cons => Sys2Proof.Machine.execHorizonRelease dt cons s
  | .memberWatermarkTimeout dt cons member => Sys2Proof.Machine.execMemberWatermarkTimeout dt cons member s
  | .batchClose dt view => Sys2Proof.Machine.execBatchClose dt view s
  | .solveDone dt view ns => Sys2Proof.Machine.execSolveDone dt view ns s
  | .solveLate dt view => Sys2Proof.Machine.execSolveLate dt view s
  | .trackExpired dt track => Sys2Proof.Machine.execTrackExpired dt track s
  | .trackRead dt m h p => Sys2Proof.Machine.execTrackRead dt m h p s
  | .solveRead dt m h p => Sys2Proof.Machine.execSolveRead dt m h p s
  | .fuTableLoad dt m h p => Sys2Proof.Machine.execFuTableLoad dt m h p s
  | .cellRead dt m h p => Sys2Proof.Machine.execCellRead dt m h p s
  | .loopRelease dt loop completes execNs => Sys2Proof.Machine.execLoopRelease dt loop completes execNs s
  | .runDeadline dt loop => Sys2Proof.Machine.execRunDeadline dt loop s
  | .rodRead dt m h p => Sys2Proof.Machine.execRodRead dt m h p s
  | .rodReset dt m h p => Sys2Proof.Machine.execRodReset dt m h p s
  | .rodResetEffect dt loop => Sys2Proof.Machine.execRodResetEffect dt loop s
  | .beamRead dt m h p => Sys2Proof.Machine.execBeamRead dt m h p s
  | .rodTraceArm dt m h p => Sys2Proof.Machine.execRodTraceArm dt m h p s
  | .rodTraceRead dt m h p => Sys2Proof.Machine.execRodTraceRead dt m h p s
  | .beadArrival dt lane bank bead => Sys2Proof.Machine.execBeadArrival dt lane bank bead s
  | .beadDue dt bank => Sys2Proof.Machine.execBeadDue dt bank s
  | .boostEnd dt ch riseNs => Sys2Proof.Machine.execBoostEnd dt ch riseNs s
  | .boostTimeout dt ch sense => Sys2Proof.Machine.execBoostTimeout dt ch sense s
  | .peakDwellEnd dt ch => Sys2Proof.Machine.execPeakDwellEnd dt ch s
  | .beadEnd dt ch => Sys2Proof.Machine.execBeadEnd dt ch s
  | .quenchEnd dt ch => Sys2Proof.Machine.execQuenchEnd dt ch s
  | .currentLoopPeriod dt bank sense => Sys2Proof.Machine.execCurrentLoopPeriod dt bank sense s
  | .ditherSetpoint dt lane ch value => Sys2Proof.Machine.execDitherSetpoint dt lane ch value s
  | .channelShortTrip dt ch => Sys2Proof.Machine.execChannelShortTrip dt ch s
  | .highSideShortTrip dt bank => Sys2Proof.Machine.execHighSideShortTrip dt bank s
  | .channelRetryExpiry dt ch => Sys2Proof.Machine.execChannelRetryExpiry dt ch s
  | .boostRailReady dt bank volts => Sys2Proof.Machine.execBoostRailReady dt bank volts s
  | .boostLowTimeout dt bank => Sys2Proof.Machine.execBoostLowTimeout dt bank s
  | .driveTierChange dt die volts => Sys2Proof.Machine.execDriveTierChange dt die volts s
  | .sagRecoveryReady dt => Sys2Proof.Machine.execSagRecoveryReady dt s
  | .driveOutputTimeout dt die => Sys2Proof.Machine.execDriveOutputTimeout dt die s
  | .valveBead dt m h p => Sys2Proof.Machine.execValveBead dt m h p s
  | .beadCancel dt m h p => Sys2Proof.Machine.execBeadCancel dt m h p s
  | .queueRead dt m h p => Sys2Proof.Machine.execQueueRead dt m h p s
  | .beadLogRead dt m h p => Sys2Proof.Machine.execBeadLogRead dt m h p s
  | .valveClear dt m h p => Sys2Proof.Machine.execValveClear dt m h p s
  | .valveClearEffect dt bank => Sys2Proof.Machine.execValveClearEffect dt bank s
  | .coilMeasure dt m h p => Sys2Proof.Machine.execCoilMeasure dt m h p s
  | .inputFrameRx dt lane sense lowCurrent => Sys2Proof.Machine.execInputFrameRx dt lane sense lowCurrent s
  | .outputFrameTick dt lane => Sys2Proof.Machine.execOutputFrameTick dt lane s
  | .outputFrameRx dt lane bytes => Sys2Proof.Machine.execOutputFrameRx dt lane bytes s
  | .isoLinkStale dt lane => Sys2Proof.Machine.execIsoLinkStale dt lane s
  | .diEdgeAccept dt n => Sys2Proof.Machine.execDiEdgeAccept dt n s
  | .diStale dt n => Sys2Proof.Machine.execDiStale dt n s
  | .diWireBreak dt n broken => Sys2Proof.Machine.execDiWireBreak dt n broken s
  | .aiStale dt n => Sys2Proof.Machine.execAiStale dt n s
  | .aiShuntTrip dt n => Sys2Proof.Machine.execAiShuntTrip dt n s
  | .aiShuntReclose dt n => Sys2Proof.Machine.execAiShuntReclose dt n s
  | .lsImpact dt n amplitude => Sys2Proof.Machine.execLsImpact dt n amplitude s
  | .lsStale dt n => Sys2Proof.Machine.execLsStale dt n s
  | .lsTest dt passed => Sys2Proof.Machine.execLsTest dt passed s
  | .lsHistWindow dt n => Sys2Proof.Machine.execLsHistWindow dt n s
  | .doTrip dt n => Sys2Proof.Machine.execDoTrip dt n s
  | .doRetryExpiry dt n => Sys2Proof.Machine.execDoRetryExpiry dt n s
  | .doPulseStart dt n => Sys2Proof.Machine.execDoPulseStart dt n s
  | .doOutputTimeout dt => Sys2Proof.Machine.execDoOutputTimeout dt s
  | .fieldSupplyChange dt volts => Sys2Proof.Machine.execFieldSupplyChange dt volts s
  | .lsHistRead dt m h p => Sys2Proof.Machine.execLsHistRead dt m h p s
  | .doClear dt m h p => Sys2Proof.Machine.execDoClear dt m h p s
  | .canFrameValid dt ch got => Sys2Proof.Machine.execCanFrameValid dt ch got s
  | .canHpIrqWordRead dt part => Sys2Proof.Machine.execCanHpIrqWordRead dt part s
  | .canBusError dt ch err => Sys2Proof.Machine.execCanBusError dt ch err s
  | .canTxAttemptEnd dt ch outcome => Sys2Proof.Machine.execCanTxAttemptEnd dt ch outcome s
  | .canBusoffRecovered dt ch => Sys2Proof.Machine.execCanBusoffRecovered dt ch s
  | .canBusIdleIntegration dt ch => Sys2Proof.Machine.execCanBusIdleIntegration dt ch s
  | .canTx dt m h p => Sys2Proof.Machine.execCanTx dt m h p s
  | .canTxCancel dt m h p => Sys2Proof.Machine.execCanTxCancel dt m h p s
  | .canTxList dt m h p => Sys2Proof.Machine.execCanTxList dt m h p s
  | .canRecover dt m h p => Sys2Proof.Machine.execCanRecover dt m h p s
  | .canHpRead dt m h p => Sys2Proof.Machine.execCanHpRead dt m h p s
  | .ringPortUp dt port => Sys2Proof.Machine.execRingPortUp dt port s
  | .ringPortDown dt port codeErrors => Sys2Proof.Machine.execRingPortDown dt port codeErrors s
  | .ringFrameRx dt port bytes => Sys2Proof.Machine.execRingFrameRx dt port bytes s
  | .mbxSlots dt src body => Sys2Proof.Machine.execMbxSlots dt src body s
  | .mbxIndex dt src body => Sys2Proof.Machine.execMbxIndex dt src body s
  | .status dt src port body => Sys2Proof.Machine.execStatus dt src port body s
  | .statusPeriod dt => Sys2Proof.Machine.execStatusPeriod dt s
  | .ringMemberTimeout dt node => Sys2Proof.Machine.execRingMemberTimeout dt node s
  | .ringResendExpiry dt m ring => Sys2Proof.Machine.execRingResendExpiry dt m ring s
  | .ringJoinWaitEnd dt => Sys2Proof.Machine.execRingJoinWaitEnd dt s
  | .ringBypassSettled dt up => Sys2Proof.Machine.execRingBypassSettled dt up s
  | .linkTestExpiry dt link => Sys2Proof.Machine.execLinkTestExpiry dt link s
  | .faultInjectExpiry dt link => Sys2Proof.Machine.execFaultInjectExpiry dt link s
  | .ringRead dt m h p => Sys2Proof.Machine.execRingRead dt m h p s
  | .ringBypass dt m h p => Sys2Proof.Machine.execRingBypass dt m h p s
  | .linkTestStart dt m h p => Sys2Proof.Machine.execLinkTestStart dt m h p s
  | .linkTestStop dt m h p => Sys2Proof.Machine.execLinkTestStop dt m h p s
  | .linkTestRead dt m h p => Sys2Proof.Machine.execLinkTestRead dt m h p s
  | .faultInject dt m h p => Sys2Proof.Machine.execFaultInject dt m h p s
  | .laneGiveUp dt lane cause detectNs => Sys2Proof.Machine.execLaneGiveUp dt lane cause detectNs s
  | .tenantCoreRestart dt lane part => Sys2Proof.Machine.execTenantCoreRestart dt lane part s
  | .vitalTimeout dt => Sys2Proof.Machine.execVitalTimeout dt s
  | .quietTimeEnd dt => Sys2Proof.Machine.execQuietTimeEnd dt s
  | .laneClaim dt lane => Sys2Proof.Machine.execLaneClaim dt lane s
  | .laneYield dt => Sys2Proof.Machine.execLaneYield dt s
  | .plannedSwitchAtK dt => Sys2Proof.Machine.execPlannedSwitchAtK dt s
  | .handoverBoundExpiry dt => Sys2Proof.Machine.execHandoverBoundExpiry dt s
  | .copyReceived dt match_ => Sys2Proof.Machine.execCopyReceived dt match_ s
  | .copyAck dt cycle => Sys2Proof.Machine.execCopyAck dt cycle s
  | .copyFailed dt => Sys2Proof.Machine.execCopyFailed dt s
  | .laneLinkDown dt => Sys2Proof.Machine.execLaneLinkDown dt s
  | .laneRestartDelayEnd dt lane => Sys2Proof.Machine.execLaneRestartDelayEnd dt lane s
  | .selfTestDone dt lane passed => Sys2Proof.Machine.execSelfTestDone dt lane passed s
  | .fullSyncDone dt lane => Sys2Proof.Machine.execFullSyncDone dt lane s
  | .startWaitExpiry dt => Sys2Proof.Machine.execStartWaitExpiry dt s
  | .memoryScrub dt lane finding => Sys2Proof.Machine.execMemoryScrub dt lane finding s
  | .redRead dt m h p => Sys2Proof.Machine.execRedRead dt m h p s
  | .laneSwitch dt m h p => Sys2Proof.Machine.execLaneSwitch dt m h p s
  | .laneRestart dt m h p => Sys2Proof.Machine.execLaneRestart dt m h p s
  | .powerTierChange dt volts => Sys2Proof.Machine.execPowerTierChange dt volts s
  | .holdupDecision dt => Sys2Proof.Machine.execHoldupDecision dt s
  | .holdupRechargeEnd dt => Sys2Proof.Machine.execHoldupRechargeEnd dt s
  | .shutdownComplete dt => Sys2Proof.Machine.execShutdownComplete dt s
  | .kaSupplyChange dt volts => Sys2Proof.Machine.execKaSupplyChange dt volts s
  | .mainStartDwell dt => Sys2Proof.Machine.execMainStartDwell dt s
  | .wakeInput dt => Sys2Proof.Machine.execWakeInput dt s
  | .canWakePattern dt ch => Sys2Proof.Machine.execCanWakePattern dt ch s
  | .parkTimerExpiry dt => Sys2Proof.Machine.execParkTimerExpiry dt s
  | .wakeWaitExpiry dt => Sys2Proof.Machine.execWakeWaitExpiry dt s
  | .moduleStart dt inp => Sys2Proof.Machine.execModuleStart dt inp s
  | .stateChangeEffect dt rp => Sys2Proof.Machine.execStateChangeEffect dt rp s
  | .moduleResetEffect dt => Sys2Proof.Machine.execModuleResetEffect dt s
  | .orderlyParkComplete dt => Sys2Proof.Machine.execOrderlyParkComplete dt s
  | .powerRead dt m h p => Sys2Proof.Machine.execPowerRead dt m h p s
  | .stateSet dt m h p => Sys2Proof.Machine.execStateSet dt m h p s
  | .moduleReset dt m h p => Sys2Proof.Machine.execModuleReset dt m h p s
  | .componentHashDone dt => Sys2Proof.Machine.execComponentHashDone dt s
  | .bankWriteDone dt lane ok => Sys2Proof.Machine.execBankWriteDone dt lane ok s
  | .confirmationWindowEnd dt => Sys2Proof.Machine.execConfirmationWindowEnd dt s
  | .updateSessionIdle dt => Sys2Proof.Machine.execUpdateSessionIdle dt s
  | .updOpen dt m h p => Sys2Proof.Machine.execUpdOpen dt m h p s
  | .updBlocks dt m h p => Sys2Proof.Machine.execUpdBlocks dt m h p s
  | .updActivate dt m h p => Sys2Proof.Machine.execUpdActivate dt m h p s
  | .updConfirm dt m h p => Sys2Proof.Machine.execUpdConfirm dt m h p s
  | .updAbort dt m h p => Sys2Proof.Machine.execUpdAbort dt m h p s
  | .updInventory dt m h p => Sys2Proof.Machine.execUpdInventory dt m h p s
  | .updRecovery dt m h p => Sys2Proof.Machine.execUpdRecovery dt m h p s
  | .updRecoveryExit dt m h p => Sys2Proof.Machine.execUpdRecoveryExit dt m h p s
  | .recorderWindowClose dt ch => Sys2Proof.Machine.execRecorderWindowClose dt ch s
  | .recordWritten dt => Sys2Proof.Machine.execRecordWritten dt s
  | .ageTrendTick dt => Sys2Proof.Machine.execAgeTrendTick dt s
  | .canaryMeasure dt lane slack => Sys2Proof.Machine.execCanaryMeasure dt lane slack s
  | .histRead dt m h p => Sys2Proof.Machine.execHistRead dt m h p s
  | .histClear dt m h p => Sys2Proof.Machine.execHistClear dt m h p s
  | .ageRead dt m h p => Sys2Proof.Machine.execAgeRead dt m h p s
  | .ageMonitorRead dt m h p => Sys2Proof.Machine.execAgeMonitorRead dt m h p s
  | .panelUpdateStart dt ohms => Sys2Proof.Machine.execPanelUpdateStart dt ohms s
  | .panelFrame dt temp => Sys2Proof.Machine.execPanelFrame dt temp s
  | .panelUpdateEnd dt => Sys2Proof.Machine.execPanelUpdateEnd dt s
  | .panelTempRead dt temp => Sys2Proof.Machine.execPanelTempRead dt temp s
  | .edgeLoopCheck dt ohms => Sys2Proof.Machine.execEdgeLoopCheck dt ohms s
  | .panelPageLoad dt m h p => Sys2Proof.Machine.execPanelPageLoad dt m h p s
  | .panelRead dt m h p => Sys2Proof.Machine.execPanelRead dt m h p s
  | .panelRefresh dt m h p => Sys2Proof.Machine.execPanelRefresh dt m h p s
  | .cameraClockReturn dt port => Sys2Proof.Machine.execCameraClockReturn dt port s
  | .streamStale dt stream => Sys2Proof.Machine.execStreamStale dt stream s
  | .canProtocolException dt ch => Sys2Proof.Machine.execCanProtocolException dt ch s
  | .bypassCloseDone dt => Sys2Proof.Machine.execBypassCloseDone dt s
  | .checkerLock dt link bits errors => Sys2Proof.Machine.execCheckerLock dt link bits errors s
  | .checkerSyncLoss dt link bits errors => Sys2Proof.Machine.execCheckerSyncLoss dt link bits errors s
  | .laneLinkUp dt => Sys2Proof.Machine.execLaneLinkUp dt s
  | .supplyAboveOperatingMax dt volts => Sys2Proof.Machine.execSupplyAboveOperatingMax dt volts s
  | .coilMeasureDone dt ch result => Sys2Proof.Machine.execCoilMeasureDone dt ch result s

end Sys2Proof.Machine
end

