-- ==== Sys2Proof/Safety.lean ====
section
/-! DEFINITION. What counts as a safe run, in the terms that statements use: the clocks agree, the item stores keep their
canonical form, and a step answers a next state; and when a command frame is executed at once. -/

namespace Sys2Proof.Safety

open Sys2Proof.Machine

/-- The clock is consistent: no boundary and no tick of the internal tally source lies in the future, and module time does not
exceed the time since power-on (R25, R50). -/
def ClockOk (c : Clock) : Prop := c.kLast * 100000 ≤ c.mtime ∧ c.tickNext * 1000 ≤ c.mtime + 1000 ∧ c.mtime ≤ c.wall

/-- A step goes on: it answers a next state. -/
def GoesOn (o : Host.Outcome State Fault Refusal) : Prop := ∃ t, o = .next t

/-! ## What a command leaves -/

/-- No item differs between two states but those listed and the counters of lost events (R98). -/
def ItemsBut (ks : List Nat) (s t : State) : Prop := ∀ k, k ∉ ks → (∀ i < 16, k ≠ It.eventsLost i) → t.get k = s.get k

/-- Ownership, claims, timers and the Reckoner are the same in two states; the mailboxes may differ. -/
def SameOwner (s t : State) : Prop := t.mail = { s.mail with masters := t.mail.masters }

/-! ## Commands that are taken at once -/

/-- The frame of an opcode row. -/
def rowFrame (code : Nat) (h : Hdr) (p : List Byte) : Frame := { op := BitVec.ofNat 16 code, h := h, p := p }

/-- The module takes a frame from a master's CMD ring at once and executes it: it serves the master, the RSP ring has room (R98),
no earlier frame waits, the copy of this cycle has room for what it changes (R332), every check of Table 3.6 passes, it is no
retry (R74), and back-pressure does not turn it away (R80). -/
@[reducible] def Accepts (m : Nat) (f : Frame) (a : State) : Prop :=
  a.speaks = true ∧ a.serves m = true ∧ a.rspRoom m = true ∧ (a.master m).waiting = [] ∧ a.mayStart f.op.toNat = true ∧
    frontCheck m f a = .accept ∧ f.h.flags.toNat ≠ 2 ∧ backCheck m f a = none ∧ a.busy m f.op.toNat = false

/-- The state in which the opcode of a taken frame executes: the frame has passed through the CMD ring and is counted, the
session is kept alive, and the owner's lapse timer is restarted (R66, R84, R90). -/
def taking (m : Nat) (f : Frame) (a : State) : State :=
  let n := frameSlots f.p.length
  let ms := upd a.mail.masters m fun ma => { ma with cmd := (ma.cmd.produce n).consume n, lastFrame := a.now }
  let lapse := if a.mail.owner = some m then a.now else a.mail.lapseFrom
  { a with items := (a.bump (It.framesRx m)).items, mail := { a.mail with masters := ms, lapseFrom := lapse } }

/-- An accepted command's response with a payload (R78). -/
@[reducible] def okWith (p : List Byte) : Reply := { payload := p }

/-- A response with a status other than OK and no payload (R78). -/
@[reducible] def denies (status : Nat) : Reply := { status := status }

/-- What follows the execution of a taken frame: the command is noted for the next copy, its response is queued, a
response to a command that changes module state until the copy of this cycle is acknowledged (R81), a check report where the opcode answers one (R127), and a master that is not
`owner` has its turn of the round (R79). -/
def answered (owner : Option Nat) (m : Nat) (f : Frame) (r : Reply) (b : State) : State :=
  let c := b.modMaster m fun ma => { ma with taken := ma.taken ++ [(b.cycle, f.h.seq.toNat, f.op.toNat)] }
  let held := if r.wait = .ready then (if changingOp f.op.toNat && b.live then .copy b.cycle else .ready) else r.wait
  let d := c.respond m { seq := f.h.seq.toNat, op := f.op.toNat, status := r.status, slate := r.slate.getD f.h.slate.toNat,
                         payload := payloadOf f.op.toNat r.payload, cycle := b.cycle, changing := changingOp f.op.toNat, wait := held }
  let turn := if owner = some m then b.mail.lastServed else m
  { d with mail := { d.mail with lastServed := turn } }

/-- The state after a frame that the module takes `dt` ns later and executes at once: `e` is the effect of its opcode, `r` what it
answers; a state-changing command takes room of the copy of this cycle (R332). -/
def replied (dt m : Nat) (f : Frame) (r : Reply) (e : State → State) (s : State) : State :=
  answered s.mail.owner m f r ((e (taking m f (s.advance dt))).useBudget f.op.toNat)

/-! ## The opcode rows together -/

/-- A command frame that a row stands for: its opcode, the time before it, the master, and the frame's header and payload. -/
structure OpCmd where
  code : Nat
  dt : Nat
  m : Fin 16
  h : Hdr
  p : List Byte
  deriving DecidableEq, Repr

/-- The frame of a command. -/
def OpCmd.frame (c : OpCmd) : Frame := rowFrame c.code c.h c.p

/-- The rows that stand for a command frame of one opcode. -/
def opRow (i : Instr) : Option OpCmd :=
  match i with
  | .baseCycleBoundary _ _ => none
  | .encoderEdge _ _ _ _ _ => none
  | .internalTallyTick => none
  | .tallyStall _ => none
  | .encoderStale _ _ => none
  | .cycleStartMessage _ _ _ _ => none
  | .followerCorrection _ _ => none
  | .laneLinkKMessage _ _ => none
  | .latencyMonitorSilent _ _ => none
  | .timeRead dt m h p => some { code := 0x0500, dt := dt, m := m, h := h, p := p }
  | .calendarSet dt m h p => some { code := 0x0501, dt := dt, m := m, h := h, p := p }
  | .tallyForecast dt m h p => some { code := 0x0502, dt := dt, m := m, h := h, p := p }
  | .latencyRelearn dt m h p => some { code := 0x0503, dt := dt, m := m, h := h, p := p }
  | .doorbellWrite _ _ _ _ => none
  | .mailboxIrqClear _ _ _ => none
  | .mailboxWindowWrite _ _ _ _ => none
  | .gatewaySlotGap _ _ => none
  | .sessionOpen dt m h p => some { code := 0x0100, dt := dt, m := m, h := h, p := p }
  | .sessionClose dt m h p => some { code := 0x0101, dt := dt, m := m, h := h, p := p }
  | .heartbeat dt m h p => some { code := 0x0102, dt := dt, m := m, h := h, p := p }
  | .ownClaim dt m h p => some { code := 0x0103, dt := dt, m := m, h := h, p := p }
  | .ownRelease dt m h p => some { code := 0x0104, dt := dt, m := m, h := h, p := p }
  | .ownOffer dt m h p => some { code := 0x0105, dt := dt, m := m, h := h, p := p }
  | .ownAccept dt m h p => some { code := 0x0106, dt := dt, m := m, h := h, p := p }
  | .outputsResume dt m h p => some { code := 0x0107, dt := dt, m := m, h := h, p := p }
  | .sessionList dt m h p => some { code := 0x0108, dt := dt, m := m, h := h, p := p }
  | .evtMaskSet dt m h p => some { code := 0x0109, dt := dt, m := m, h := h, p := p }
  | .itemRead dt m h p => some { code := 0x0200, dt := dt, m := m, h := h, p := p }
  | .itemWrite dt m h p => some { code := 0x0201, dt := dt, m := m, h := h, p := p }
  | .electionWindowEnd _ => none
  | .ownershipGrantAtK _ => none
  | .ownershipSwitch _ => none
  | .offerExpiry _ => none
  | .ownershipLapse _ => none
  | .sessionIdleExpiry _ _ => none
  | .ownerlessGraceExpiry _ => none
  | .reckonerWatchdogExpiry _ _ => none
  | .reckonerRestartTimeout _ => none
  | .reckonerResume _ => none
  | .slateOpen dt m h p => some { code := 0x0300, dt := dt, m := m, h := h, p := p }
  | .slateLoad dt m h p => some { code := 0x0301, dt := dt, m := m, h := h, p := p }
  | .slateCheck dt m h p => some { code := 0x0302, dt := dt, m := m, h := h, p := p }
  | .slateCommit dt m h p => some { code := 0x0303, dt := dt, m := m, h := h, p := p }
  | .slateCancel dt m h p => some { code := 0x0304, dt := dt, m := m, h := h, p := p }
  | .slateCancelEffect _ _ => none
  | .slateList dt m h p => some { code := 0x0305, dt := dt, m := m, h := h, p := p }
  | .slateEntries dt m h p => some { code := 0x0306, dt := dt, m := m, h := h, p := p }
  | .ringPrepare dt m h p => some { code := 0x0310, dt := dt, m := m, h := h, p := p }
  | .ringDecide dt m h p => some { code := 0x0311, dt := dt, m := m, h := h, p := p }
  | .decisionDeadlineExpiry _ _ => none
  | .snapshotPin dt m h p => some { code := 0x0400, dt := dt, m := m, h := h, p := p }
  | .snapshotRead dt m h p => some { code := 0x0401, dt := dt, m := m, h := h, p := p }
  | .snapshotRelease dt m h p => some { code := 0x0402, dt := dt, m := m, h := h, p := p }
  | .pinLifetimeExpiry _ _ => none
  | .carry _ _ => none
  | .driveDieCarry _ _ _ => none
  | .storeTransactionDone _ => none
  | .cameraLineStart _ _ _ _ => none
  | .cameraFrameStart _ _ => none
  | .cameraClockLoss _ _ => none
  | .cameraStale _ _ => none
  | .detectionEmit _ _ => none
  | .statisticsFinal _ _ => none
  | .cameraTrigger _ _ => none
  | .camStatsRead dt m h p => some { code := 0x0700, dt := dt, m := m, h := h, p := p }
  | .camFrameGrab dt m h p => some { code := 0x0701, dt := dt, m := m, h := h, p := p }
  | .camTableLoad dt m h p => some { code := 0x0702, dt := dt, m := m, h := h, p := p }
  | .horizonRelease _ _ => none
  | .memberWatermarkTimeout _ _ _ => none
  | .batchClose _ _ => none
  | .solveDone _ _ _ => none
  | .solveLate _ _ => none
  | .trackExpired _ _ => none
  | .trackRead dt m h p => some { code := 0x0800, dt := dt, m := m, h := h, p := p }
  | .solveRead dt m h p => some { code := 0x0801, dt := dt, m := m, h := h, p := p }
  | .fuTableLoad dt m h p => some { code := 0x0802, dt := dt, m := m, h := h, p := p }
  | .cellRead dt m h p => some { code := 0x0803, dt := dt, m := m, h := h, p := p }
  | .loopRelease _ _ _ _ => none
  | .runDeadline _ _ => none
  | .rodRead dt m h p => some { code := 0x0600, dt := dt, m := m, h := h, p := p }
  | .rodReset dt m h p => some { code := 0x0601, dt := dt, m := m, h := h, p := p }
  | .rodResetEffect _ _ => none
  | .beamRead dt m h p => some { code := 0x0602, dt := dt, m := m, h := h, p := p }
  | .rodTraceArm dt m h p => some { code := 0x0603, dt := dt, m := m, h := h, p := p }
  | .rodTraceRead dt m h p => some { code := 0x0604, dt := dt, m := m, h := h, p := p }
  | .beadArrival _ _ _ _ => none
  | .beadDue _ _ => none
  | .boostEnd _ _ _ => none
  | .boostTimeout _ _ _ => none
  | .peakDwellEnd _ _ => none
  | .beadEnd _ _ => none
  | .quenchEnd _ _ => none
  | .currentLoopPeriod _ _ _ => none
  | .ditherSetpoint _ _ _ _ => none
  | .channelShortTrip _ _ => none
  | .highSideShortTrip _ _ => none
  | .channelRetryExpiry _ _ => none
  | .boostRailReady _ _ _ => none
  | .boostLowTimeout _ _ => none
  | .driveTierChange _ _ _ => none
  | .sagRecoveryReady _ => none
  | .driveOutputTimeout _ _ => none
  | .valveBead dt m h p => some { code := 0x0900, dt := dt, m := m, h := h, p := p }
  | .beadCancel dt m h p => some { code := 0x0901, dt := dt, m := m, h := h, p := p }
  | .queueRead dt m h p => some { code := 0x0902, dt := dt, m := m, h := h, p := p }
  | .beadLogRead dt m h p => some { code := 0x0903, dt := dt, m := m, h := h, p := p }
  | .valveClear dt m h p => some { code := 0x0904, dt := dt, m := m, h := h, p := p }
  | .valveClearEffect _ _ => none
  | .coilMeasure dt m h p => some { code := 0x0905, dt := dt, m := m, h := h, p := p }
  | .inputFrameRx _ _ _ _ => none
  | .outputFrameTick _ _ => none
  | .outputFrameRx _ _ _ => none
  | .isoLinkStale _ _ => none
  | .diEdgeAccept _ _ => none
  | .diStale _ _ => none
  | .diWireBreak _ _ _ => none
  | .aiStale _ _ => none
  | .aiShuntTrip _ _ => none
  | .aiShuntReclose _ _ => none
  | .lsImpact _ _ _ => none
  | .lsStale _ _ => none
  | .lsTest _ _ => none
  | .lsHistWindow _ _ => none
  | .doTrip _ _ => none
  | .doRetryExpiry _ _ => none
  | .doPulseStart _ _ => none
  | .doOutputTimeout _ => none
  | .fieldSupplyChange _ _ => none
  | .lsHistRead dt m h p => some { code := 0x0a00, dt := dt, m := m, h := h, p := p }
  | .doClear dt m h p => some { code := 0x0a01, dt := dt, m := m, h := h, p := p }
  | .canFrameValid _ _ _ => none
  | .canHpIrqWordRead _ _ => none
  | .canBusError _ _ _ => none
  | .canTxAttemptEnd _ _ _ => none
  | .canBusoffRecovered _ _ => none
  | .canBusIdleIntegration _ _ => none
  | .canTx dt m h p => some { code := 0x0b00, dt := dt, m := m, h := h, p := p }
  | .canTxCancel dt m h p => some { code := 0x0b01, dt := dt, m := m, h := h, p := p }
  | .canTxList dt m h p => some { code := 0x0b02, dt := dt, m := m, h := h, p := p }
  | .canRecover dt m h p => some { code := 0x0b03, dt := dt, m := m, h := h, p := p }
  | .canHpRead dt m h p => some { code := 0x0b04, dt := dt, m := m, h := h, p := p }
  | .ringPortUp _ _ => none
  | .ringPortDown _ _ _ => none
  | .ringFrameRx _ _ _ => none
  | .mbxSlots _ _ _ => none
  | .mbxIndex _ _ _ => none
  | .status _ _ _ _ => none
  | .statusPeriod _ => none
  | .ringMemberTimeout _ _ => none
  | .ringResendExpiry _ _ _ => none
  | .ringJoinWaitEnd _ => none
  | .ringBypassSettled _ _ => none
  | .linkTestExpiry _ _ => none
  | .faultInjectExpiry _ _ => none
  | .ringRead dt m h p => some { code := 0x0c00, dt := dt, m := m, h := h, p := p }
  | .ringBypass dt m h p => some { code := 0x0c01, dt := dt, m := m, h := h, p := p }
  | .linkTestStart dt m h p => some { code := 0x1300, dt := dt, m := m, h := h, p := p }
  | .linkTestStop dt m h p => some { code := 0x1301, dt := dt, m := m, h := h, p := p }
  | .linkTestRead dt m h p => some { code := 0x1302, dt := dt, m := m, h := h, p := p }
  | .faultInject dt m h p => some { code := 0x1303, dt := dt, m := m, h := h, p := p }
  | .laneGiveUp _ _ _ _ => none
  | .tenantCoreRestart _ _ _ => none
  | .vitalTimeout _ => none
  | .quietTimeEnd _ => none
  | .laneClaim _ _ => none
  | .laneYield _ => none
  | .plannedSwitchAtK _ => none
  | .handoverBoundExpiry _ => none
  | .copyReceived _ _ => none
  | .copyAck _ _ => none
  | .copyFailed _ => none
  | .laneLinkDown _ => none
  | .laneRestartDelayEnd _ _ => none
  | .selfTestDone _ _ _ => none
  | .fullSyncDone _ _ => none
  | .startWaitExpiry _ => none
  | .memoryScrub _ _ _ => none
  | .redRead dt m h p => some { code := 0x0d00, dt := dt, m := m, h := h, p := p }
  | .laneSwitch dt m h p => some { code := 0x0d01, dt := dt, m := m, h := h, p := p }
  | .laneRestart dt m h p => some { code := 0x0d02, dt := dt, m := m, h := h, p := p }
  | .powerTierChange _ _ => none
  | .holdupDecision _ => none
  | .holdupRechargeEnd _ => none
  | .shutdownComplete _ => none
  | .kaSupplyChange _ _ => none
  | .mainStartDwell _ => none
  | .wakeInput _ => none
  | .canWakePattern _ _ => none
  | .parkTimerExpiry _ => none
  | .wakeWaitExpiry _ => none
  | .moduleStart _ _ => none
  | .stateChangeEffect _ _ => none
  | .moduleResetEffect _ => none
  | .orderlyParkComplete _ => none
  | .powerRead dt m h p => some { code := 0x0e00, dt := dt, m := m, h := h, p := p }
  | .stateSet dt m h p => some { code := 0x0e01, dt := dt, m := m, h := h, p := p }
  | .moduleReset dt m h p => some { code := 0x0e02, dt := dt, m := m, h := h, p := p }
  | .componentHashDone _ => none
  | .bankWriteDone _ _ _ => none
  | .confirmationWindowEnd _ => none
  | .updateSessionIdle _ => none
  | .updOpen dt m h p => some { code := 0x0f00, dt := dt, m := m, h := h, p := p }
  | .updBlocks dt m h p => some { code := 0x0f01, dt := dt, m := m, h := h, p := p }
  | .updActivate dt m h p => some { code := 0x0f02, dt := dt, m := m, h := h, p := p }
  | .updConfirm dt m h p => some { code := 0x0f03, dt := dt, m := m, h := h, p := p }
  | .updAbort dt m h p => some { code := 0x0f04, dt := dt, m := m, h := h, p := p }
  | .updInventory dt m h p => some { code := 0x0f05, dt := dt, m := m, h := h, p := p }
  | .updRecovery dt m h p => some { code := 0x0f06, dt := dt, m := m, h := h, p := p }
  | .updRecoveryExit dt m h p => some { code := 0x0f07, dt := dt, m := m, h := h, p := p }
  | .recorderWindowClose _ _ => none
  | .recordWritten _ => none
  | .ageTrendTick _ => none
  | .canaryMeasure _ _ _ => none
  | .histRead dt m h p => some { code := 0x1000, dt := dt, m := m, h := h, p := p }
  | .histClear dt m h p => some { code := 0x1001, dt := dt, m := m, h := h, p := p }
  | .ageRead dt m h p => some { code := 0x1100, dt := dt, m := m, h := h, p := p }
  | .ageMonitorRead dt m h p => some { code := 0x1101, dt := dt, m := m, h := h, p := p }
  | .panelUpdateStart _ _ => none
  | .panelFrame _ _ => none
  | .panelUpdateEnd _ => none
  | .panelTempRead _ _ => none
  | .edgeLoopCheck _ _ => none
  | .panelPageLoad dt m h p => some { code := 0x1200, dt := dt, m := m, h := h, p := p }
  | .panelRead dt m h p => some { code := 0x1201, dt := dt, m := m, h := h, p := p }
  | .panelRefresh dt m h p => some { code := 0x1202, dt := dt, m := m, h := h, p := p }
  | .cameraClockReturn _ _ => none
  | .streamStale _ _ => none
  | .canProtocolException _ _ => none
  | .bypassCloseDone _ => none
  | .checkerLock _ _ _ _ => none
  | .checkerSyncLoss _ _ _ _ => none
  | .laneLinkUp _ => none
  | .supplyAboveOperatingMax _ _ => none
  | .coilMeasureDone _ _ _ => none

/-- The rows that change a module in OFF or PARK: its supplies, its wake sources, the timers of both, and the contacts of the ring
bypass (R314, R343, R351, R353, R355). -/
def supplyRow (i : Instr) : Bool :=
  match i with
  | .baseCycleBoundary _ _ => false
  | .encoderEdge _ _ _ _ _ => false
  | .internalTallyTick => false
  | .tallyStall _ => false
  | .encoderStale _ _ => false
  | .cycleStartMessage _ _ _ _ => false
  | .followerCorrection _ _ => false
  | .laneLinkKMessage _ _ => false
  | .latencyMonitorSilent _ _ => false
  | .timeRead _ _ _ _ => false
  | .calendarSet _ _ _ _ => false
  | .tallyForecast _ _ _ _ => false
  | .latencyRelearn _ _ _ _ => false
  | .doorbellWrite _ _ _ _ => false
  | .mailboxIrqClear _ _ _ => false
  | .mailboxWindowWrite _ _ _ _ => false
  | .gatewaySlotGap _ _ => false
  | .sessionOpen _ _ _ _ => false
  | .sessionClose _ _ _ _ => false
  | .heartbeat _ _ _ _ => false
  | .ownClaim _ _ _ _ => false
  | .ownRelease _ _ _ _ => false
  | .ownOffer _ _ _ _ => false
  | .ownAccept _ _ _ _ => false
  | .outputsResume _ _ _ _ => false
  | .sessionList _ _ _ _ => false
  | .evtMaskSet _ _ _ _ => false
  | .itemRead _ _ _ _ => false
  | .itemWrite _ _ _ _ => false
  | .electionWindowEnd _ => false
  | .ownershipGrantAtK _ => false
  | .ownershipSwitch _ => false
  | .offerExpiry _ => false
  | .ownershipLapse _ => false
  | .sessionIdleExpiry _ _ => false
  | .ownerlessGraceExpiry _ => false
  | .reckonerWatchdogExpiry _ _ => false
  | .reckonerRestartTimeout _ => false
  | .reckonerResume _ => false
  | .slateOpen _ _ _ _ => false
  | .slateLoad _ _ _ _ => false
  | .slateCheck _ _ _ _ => false
  | .slateCommit _ _ _ _ => false
  | .slateCancel _ _ _ _ => false
  | .slateCancelEffect _ _ => false
  | .slateList _ _ _ _ => false
  | .slateEntries _ _ _ _ => false
  | .ringPrepare _ _ _ _ => false
  | .ringDecide _ _ _ _ => false
  | .decisionDeadlineExpiry _ _ => false
  | .snapshotPin _ _ _ _ => false
  | .snapshotRead _ _ _ _ => false
  | .snapshotRelease _ _ _ _ => false
  | .pinLifetimeExpiry _ _ => false
  | .carry _ _ => false
  | .driveDieCarry _ _ _ => false
  | .storeTransactionDone _ => false
  | .cameraLineStart _ _ _ _ => false
  | .cameraFrameStart _ _ => false
  | .cameraClockLoss _ _ => false
  | .cameraStale _ _ => false
  | .detectionEmit _ _ => false
  | .statisticsFinal _ _ => false
  | .cameraTrigger _ _ => false
  | .camStatsRead _ _ _ _ => false
  | .camFrameGrab _ _ _ _ => false
  | .camTableLoad _ _ _ _ => false
  | .horizonRelease _ _ => false
  | .memberWatermarkTimeout _ _ _ => false
  | .batchClose _ _ => false
  | .solveDone _ _ _ => false
  | .solveLate _ _ => false
  | .trackExpired _ _ => false
  | .trackRead _ _ _ _ => false
  | .solveRead _ _ _ _ => false
  | .fuTableLoad _ _ _ _ => false
  | .cellRead _ _ _ _ => false
  | .loopRelease _ _ _ _ => false
  | .runDeadline _ _ => false
  | .rodRead _ _ _ _ => false
  | .rodReset _ _ _ _ => false
  | .rodResetEffect _ _ => false
  | .beamRead _ _ _ _ => false
  | .rodTraceArm _ _ _ _ => false
  | .rodTraceRead _ _ _ _ => false
  | .beadArrival _ _ _ _ => false
  | .beadDue _ _ => false
  | .boostEnd _ _ _ => false
  | .boostTimeout _ _ _ => false
  | .peakDwellEnd _ _ => false
  | .beadEnd _ _ => false
  | .quenchEnd _ _ => false
  | .currentLoopPeriod _ _ _ => false
  | .ditherSetpoint _ _ _ _ => false
  | .channelShortTrip _ _ => false
  | .highSideShortTrip _ _ => false
  | .channelRetryExpiry _ _ => false
  | .boostRailReady _ _ _ => false
  | .boostLowTimeout _ _ => false
  | .driveTierChange _ _ _ => false
  | .sagRecoveryReady _ => false
  | .driveOutputTimeout _ _ => false
  | .valveBead _ _ _ _ => false
  | .beadCancel _ _ _ _ => false
  | .queueRead _ _ _ _ => false
  | .beadLogRead _ _ _ _ => false
  | .valveClear _ _ _ _ => false
  | .valveClearEffect _ _ => false
  | .coilMeasure _ _ _ _ => false
  | .inputFrameRx _ _ _ _ => false
  | .outputFrameTick _ _ => false
  | .outputFrameRx _ _ _ => false
  | .isoLinkStale _ _ => false
  | .diEdgeAccept _ _ => false
  | .diStale _ _ => false
  | .diWireBreak _ _ _ => false
  | .aiStale _ _ => false
  | .aiShuntTrip _ _ => false
  | .aiShuntReclose _ _ => false
  | .lsImpact _ _ _ => false
  | .lsStale _ _ => false
  | .lsTest _ _ => false
  | .lsHistWindow _ _ => false
  | .doTrip _ _ => false
  | .doRetryExpiry _ _ => false
  | .doPulseStart _ _ => false
  | .doOutputTimeout _ => false
  | .fieldSupplyChange _ _ => false
  | .lsHistRead _ _ _ _ => false
  | .doClear _ _ _ _ => false
  | .canFrameValid _ _ _ => false
  | .canHpIrqWordRead _ _ => false
  | .canBusError _ _ _ => false
  | .canTxAttemptEnd _ _ _ => false
  | .canBusoffRecovered _ _ => false
  | .canBusIdleIntegration _ _ => false
  | .canTx _ _ _ _ => false
  | .canTxCancel _ _ _ _ => false
  | .canTxList _ _ _ _ => false
  | .canRecover _ _ _ _ => false
  | .canHpRead _ _ _ _ => false
  | .ringPortUp _ _ => false
  | .ringPortDown _ _ _ => false
  | .ringFrameRx _ _ _ => false
  | .mbxSlots _ _ _ => false
  | .mbxIndex _ _ _ => false
  | .status _ _ _ _ => false
  | .statusPeriod _ => false
  | .ringMemberTimeout _ _ => false
  | .ringResendExpiry _ _ _ => false
  | .ringJoinWaitEnd _ => false
  | .ringBypassSettled _ _ => false
  | .linkTestExpiry _ _ => false
  | .faultInjectExpiry _ _ => false
  | .ringRead _ _ _ _ => false
  | .ringBypass _ _ _ _ => false
  | .linkTestStart _ _ _ _ => false
  | .linkTestStop _ _ _ _ => false
  | .linkTestRead _ _ _ _ => false
  | .faultInject _ _ _ _ => false
  | .laneGiveUp _ _ _ _ => false
  | .tenantCoreRestart _ _ _ => false
  | .vitalTimeout _ => false
  | .quietTimeEnd _ => false
  | .laneClaim _ _ => false
  | .laneYield _ => false
  | .plannedSwitchAtK _ => false
  | .handoverBoundExpiry _ => false
  | .copyReceived _ _ => false
  | .copyAck _ _ => false
  | .copyFailed _ => false
  | .laneLinkDown _ => false
  | .laneRestartDelayEnd _ _ => false
  | .selfTestDone _ _ _ => false
  | .fullSyncDone _ _ => false
  | .startWaitExpiry _ => false
  | .memoryScrub _ _ _ => false
  | .redRead _ _ _ _ => false
  | .laneSwitch _ _ _ _ => false
  | .laneRestart _ _ _ _ => false
  | .powerTierChange _ _ => true
  | .holdupDecision _ => false
  | .holdupRechargeEnd _ => true
  | .shutdownComplete _ => false
  | .kaSupplyChange _ _ => true
  | .mainStartDwell _ => true
  | .wakeInput _ => true
  | .canWakePattern _ _ => true
  | .parkTimerExpiry _ => true
  | .wakeWaitExpiry _ => true
  | .moduleStart _ _ => false
  | .stateChangeEffect _ _ => false
  | .moduleResetEffect _ => false
  | .orderlyParkComplete _ => false
  | .powerRead _ _ _ _ => false
  | .stateSet _ _ _ _ => false
  | .moduleReset _ _ _ _ => false
  | .componentHashDone _ => false
  | .bankWriteDone _ _ _ => false
  | .confirmationWindowEnd _ => false
  | .updateSessionIdle _ => false
  | .updOpen _ _ _ _ => false
  | .updBlocks _ _ _ _ => false
  | .updActivate _ _ _ _ => false
  | .updConfirm _ _ _ _ => false
  | .updAbort _ _ _ _ => false
  | .updInventory _ _ _ _ => false
  | .updRecovery _ _ _ _ => false
  | .updRecoveryExit _ _ _ _ => false
  | .recorderWindowClose _ _ => false
  | .recordWritten _ => false
  | .ageTrendTick _ => false
  | .canaryMeasure _ _ _ => false
  | .histRead _ _ _ _ => false
  | .histClear _ _ _ _ => false
  | .ageRead _ _ _ _ => false
  | .ageMonitorRead _ _ _ _ => false
  | .panelUpdateStart _ _ => false
  | .panelFrame _ _ => false
  | .panelUpdateEnd _ => false
  | .panelTempRead _ _ => false
  | .edgeLoopCheck _ _ => false
  | .panelPageLoad _ _ _ _ => false
  | .panelRead _ _ _ _ => false
  | .panelRefresh _ _ _ _ => false
  | .cameraClockReturn _ _ => false
  | .streamStale _ _ => false
  | .canProtocolException _ _ => false
  | .bypassCloseDone _ => true
  | .checkerLock _ _ _ _ => false
  | .checkerSyncLoss _ _ _ _ => false
  | .laneLinkUp _ => false
  | .supplyAboveOperatingMax _ _ => true
  | .coilMeasureDone _ _ _ => false

/-- A frame reaches the checks at once: the module serves the master, the RSP ring has room, no earlier frame waits, and the copy of
this cycle has room for what the opcode changes (R79, R83, R98, R332). -/
@[reducible] def Reaches (m : Nat) (f : Frame) (a : State) : Prop :=
  a.speaks = true ∧ a.serves m = true ∧ a.rspRoom m = true ∧ (a.master m).waiting = [] ∧ a.mayStart f.op.toNat = true

/-- The state after a frame has passed through the CMD ring and is counted, before any check (R66). -/
def counted (m : Nat) (f : Frame) (a : State) : State :=
  let n := frameSlots f.p.length
  (a.modMaster m fun ma => { ma with cmd := (ma.cmd.produce n).consume n }).bump (It.framesRx m)

/-- A master that is not `owner` has had its turn of the round (R79). -/
def turned (owner : Option Nat) (m : Nat) (b : State) : State :=
  { b with mail := { b.mail with lastServed := if owner = some m then b.mail.lastServed else m } }

/-- The kept response that a repeated frame finds: the newest of its sequence (R74). -/
def kept (m : Nat) (f : Frame) (a : State) : Option Resp :=
  if f.h.flags.toNat = 2 then (a.master m).cache.reverse.find? (fun r => r.seq == f.h.seq.toNat) else none

/-- The state after a frame that is executed as its opcode says. -/
def executed (m : Nat) (f : Frame) (s : State) (a : State) : State :=
  let r := opOf f.op.toNat m f (taking m f a)
  { answered s.mail.owner m f r.2 (r.1.useBudget f.op.toNat) with clk := a.clk, pending := a.pending }

/-! ## Responses in parts -/

/-- How many frames a response takes: its payload in parts of 1008 bytes, at least one (R76). -/
def respParts (r : Resp) : Nat := max 1 ((r.payload.length + 1007) / 1008)

/-- The `k`-th frame of a response: CONT is set on every frame but the last (R76, Table 3.5). -/
def respFrame (served : Nat) (r : Resp) (k : Nat) : OutFrame :=
  { flags := served + (if k + 1 < respParts r then 1 else 0), seq := r.seq, op := r.op, status := r.status, slate := r.slate
    payload := (r.payload.drop (1008 * k)).take 1008 }

/-- A master's RSP ring takes a whole response, each part of which fills at most 16 slots (R66, R98). -/
@[reducible] def RoomFor (r : Resp) (ma : Master) : Prop :=
  ma.rsp.prod < 65536 ∧ ma.rsp.cons < 65536 ∧ ma.rsp.used + 16 * respParts r ≤ 256

/-! ## The tally -/

/-- A counter whose fraction lies below one unit, and that has no debt while it is RUNNING (R37, R39, R40). -/
@[reducible] def TallyOk (c : Counter) : Prop := c.frac < 65536 ∧ (c.st = .running → c.debt = 0)

end Sys2Proof.Safety
end

