-- ==== Sys2Proof/Certificates/Slice0/Obligations.lean ====
section
/-! DEFINITION. The statements about the model. -/

open Sys2Proof Sys2Proof.Machine Sys2Proof.Safety

/-- (a) ENCODER_EDGE: an edge that Table 2.2 counts moves enc_count by one up or down modulo 2^32, keeps the interval to the edge before, judges the range window with the rate of that interval, and changes no item but enc_count, enc_rate and enc_guard of this encoder (and counters of lost events). (b) A transition of A and B within one filter window in a quadrature mode counts no edge, increments enc_quad_errors and the errors of this cycle, and breaks the encoder after more than 3 of them; the tally does not move. (c) ENCODER_STALE: an encoder that is not BROKEN and has had no edge for enc_stale_ms goes to STALE with rate 0 and sends ENCODER_GUARD. -/
def Obligations.EncoderInputsCount : Prop :=
  (∀ (s : State) (dt : Nat) (n : Fin 8) (a b : Bool) (seen : BitVec 6) (forward : Bool),
    s.live = true →
    illegalEdge (s.get (It.encMode n)) (nth s.time.enc n).a ((nth s.time.enc n).b != (s.get (It.encInvert n) == 1)) a (b != (s.get (It.encInvert n) == 1)) = false →
    decodeEdge (s.get (It.encMode n)) (nth s.time.enc n).a ((nth s.time.enc n).b != (s.get (It.encInvert n) == 1)) a (b != (s.get (It.encInvert n) == 1)) = some forward →
    ∃ t, exec (.encoderEdge dt n a b seen) s = .next t ∧
      t.get (It.encCount n) = (if forward then s.get (It.encCount n) + 1 else s.get (It.encCount n) + 4294967295) % 4294967296 ∧
      t.time.enc = upd s.time.enc n (fun e => { e with a := a, b := b, prev := e.last, last := some (s.now + dt), forward := forward, win := (nth t.time.enc n).win }) ∧
      ItemsBut [It.encCount n, It.encRate n, It.encGuard n] s t ∧ SameOwner s t ∧
      t = { s with clk := s.clk.advance dt, items := t.items, mail := t.mail, time := { s.time with enc := t.time.enc, lane := t.time.lane, standby := t.time.standby, dies := t.time.dies, hist := t.time.hist } }) ∧
  (∀ (s : State) (dt : Nat) (n : Fin 8) (a b : Bool) (seen : BitVec 6),
    s.live = true →
    illegalEdge (s.get (It.encMode n)) (nth s.time.enc n).a ((nth s.time.enc n).b != (s.get (It.encInvert n) == 1)) a (b != (s.get (It.encInvert n) == 1)) = true →
    ∃ t, exec (.encoderEdge dt n a b seen) s = .next t ∧
      t.get (It.encQuadErrors n) = sat32 (s.get (It.encQuadErrors n) + 1) ∧
      t.time = { s.time with enc := upd s.time.enc n fun e => { e with a := a, b := b, illegal := e.illegal + 1, clean := 0, broken := e.broken || decide (3 < e.illegal + 1), win := (nth t.time.enc n).win } } ∧
      ItemsBut [It.encQuadErrors n, It.encRate n, It.encGuard n] s t ∧ SameOwner s t ∧
      t = { s with clk := s.clk.advance dt, items := t.items, mail := t.mail, time := t.time }) ∧
  (∀ (s : State) (dt l : Nat) (n : Fin 8),
    s.live = true →
    s.get (It.encGuard n) ≠ 3 →
    (nth s.time.enc n).broken = false →
    (nth s.time.enc n).last = some l →
    s.get (It.encStaleMs n) * 1000000 ≤ s.now + dt - l →
    exec (.encoderStale dt n) s = .next (((({ s.advance dt with time := { s.time with enc := upd s.time.enc n fun e => { e with win := windowState (nth s.time.enc n).win 0 (s.get (It.encRateLow n)) (s.get (It.encRateHigh n)) (s.get (It.encHystPct n)) } } } : State).set (It.encRate n) 0).set (It.encGuard n) 3).emit 0x0585
      (toLE 1 n ++ toLE 1 0 ++ toLE 2 3 ++ toLE 4 0 ++ toLE 8 (s.now + dt))))

/-- (a) INTERNAL_TALLY_TICK comes at the next mtime multiple of 1000, that of its number, when none was missed; with tally_source internal, prescale 1, no debt and an empty accumulator the lane's counter moves on by one unit, its fraction restarts, it is RUNNING, and the interval is known when it was RUNNING before. (b) TALLY_STALL: an external source without a unit for tally_stall_ms leaves the lane's counter STALLED, the fraction frozen and the interval discarded. No command here changes an item (but counters of lost events). -/
def Obligations.TallyUnitsAndStalls : Prop :=
  (∀ (s : State),
    s.live = true →
    s.clk.mtime ≤ s.clk.tickNext * 1000 →
    s.get It.tallySource = 12 →
    s.get It.tallyPrescale = 1 →
    s.time.lane.acc = 0 →
    s.time.lane.debt = 0 →
    ∃ t, exec .internalTallyTick s = .next t ∧
      t.clk = { s.clk with mtime := s.clk.tickNext * 1000, wall := s.clk.wall + (s.clk.tickNext * 1000 - s.clk.mtime), tickNext := s.clk.tickNext + 1 } ∧
      t.time.lane = { s.time.lane with int := (s.time.lane.int + 1) % 2 ^ 48, frac := 0, tLast := t.clk.mtime, st := .running, pLast := (if s.time.lane.st = .running then some (t.clk.mtime - s.time.lane.tLast) else none), near := s.time.lane.near || decide (t.clk.mtime - s.time.lane.latchAt ≤ 250) } ∧
      t.time.hist = ({ int := t.time.lane.int, at_ := t.clk.mtime, p := t.time.lane.pLast } :: s.time.hist).take 65536 ∧
      ItemsBut [] s t ∧ SameOwner s t ∧
      t = { s with clk := t.clk, items := t.items, mail := t.mail, time := { s.time with lane := t.time.lane, standby := t.time.standby, dies := t.time.dies, hist := t.time.hist } }) ∧
  (∀ (s : State) (dt : Nat),
    s.live = true →
    s.get It.tallySource ≠ 12 →
    s.time.lane.st = .running →
    s.get It.tallyStallMs * 1000000 ≤ s.now + dt - s.time.lane.tLast →
    ∃ t, exec (.tallyStall dt) s = .next t ∧
      t.time.lane = { s.time.lane with frac := s.time.lane.fraction (s.now + dt), pLast := none, st := .stalled } ∧
      t.time.hist = pushUnit 65536 (s.now + dt) s.time.lane t.time.lane s.time.hist ∧
      ItemsBut [] s t ∧ SameOwner s t ∧
      t = { s with clk := s.clk.advance dt, items := t.items, mail := t.mail, time := { s.time with lane := t.time.lane, standby := t.time.standby, dies := t.time.dies, hist := t.time.hist } })

/-- (a) CYCLE_START_MESSAGE of a lane that the latch does not accept is discarded and counted. (b) One of the accepted lane to a die of the same epoch with no correction due, whose latched tally differs by d units with neither side near K, steers the die's mtime follower to within 200 ns, sets up the correction d, counts follower_mismatch and sends FOLLOWER_MISMATCH. (c) FOLLOWER_CORRECTION: after the K that follows, the difference is added to the follower. (d) LANE_LINK_K_MESSAGE: a standby whose latched tally agrees only has its mtime offset reported, and is steered by at most 10 ns towards the active lane. (e) LATENCY_MONITOR_SILENT: a monitor without sample for lm_stale_ms goes to SILENT with its event. -/
def Obligations.FollowersKeepStep : Prop :=
  (∀ (s : State) (dt : Nat) (die : Fin 4) (lane : Fin 2) (off : Int),
    s.powered = true →
    s.accepts lane = false →
    exec (.cycleStartMessage dt die lane off) s = .next ((s.advance dt).bump It.arbitrationDiscards)) ∧
  (∀ (s : State) (dt : Nat) (die : Fin 4) (lane : Fin 2) (off : Int),
    s.powered = true →
    s.accepts lane = true →
    (nth s.time.dies die).corr = none →
    (nth s.time.dies die).epoch = s.get It.mtimeEpoch →
    s.time.lane.near = false →
    (nth s.time.dies die).cnt.near = false →
    unitDiff s.time.lane.latched (nth s.time.dies die).cnt.latched ≠ 0 →
    (∀ b < 16, b / 4 ≠ die.val ∨ bit (s.get (It.bankSafeCause b)) 1 = false) →
    exec (.cycleStartMessage dt die lane off) s = .next (((({ (s.advance dt).set (It.drvLane die) (lane + 1) with
        time := { s.time with dies := upd s.time.dies die fun f => { f with off := clampInt (-200) 200 off, lastMsg := s.up + dt, epoch := s.get It.mtimeEpoch, corr := some (unitDiff s.time.lane.latched (nth s.time.dies die).cnt.latched, s.clk.kLast) } }
        valve := { s.valve with stage := s.valve.stage.map fun d => if d.die = die.val then { d with loaded := true } else d } } : State).bump It.followerMismatch).emit 0x0581
      (toLE 1 die ++ toLE 3 0 ++ toLE 4 (twos 32 (unitDiff s.time.lane.latched (nth s.time.dies die).cnt.latched)) ++
        toLE 8 ((s.now + dt) / 100000))))) ∧
  (∀ (s : State) (dt : Nat) (die : Fin 4) (d : Int) (k : Nat),
    s.live = true →
    (nth s.time.dies die).corr = some (d, k) →
    k < s.clk.kLast →
    exec (.followerCorrection dt die) s = .next { s.advance dt with time := { s.time with dies := upd s.time.dies die fun f =>
      let c := { f.cnt with int := twos 48 (f.cnt.int + d), latched := twos 48 (f.cnt.latched + d) }
      { f with corr := none, cnt := c, jumps := if 0 < d then ((f.cnt.pos (s.up + dt), c.pos (s.up + dt)) :: f.jumps).take 4096 else f.jumps } } }) ∧
  (∀ (s : State) (dt : Nat) (off : Int),
    s.live = true →
    s.lanes.accepting = true →
    s.lane (1 - s.lanes.latch) = 3 →
    s.linkCarries = true →
    s.fw.ses = none →
    s.time.standby.latched = s.time.lane.latched →
    -1000 ≤ s.time.standbyOff + off →
    s.time.standbyOff + off ≤ 1000 →
    ∃ t, exec (.laneLinkKMessage dt off) s = .next t ∧
      (s.time.standbyOff + off - t.time.standbyOff).natAbs ≤ 10 ∧
      t.time.standbyOff.natAbs ≤ (s.time.standbyOff + off).natAbs ∧
      t = { (s.advance dt).seti It.laneOffsetNs (s.time.standbyOff + off) with time := { s.time with standbyOff := t.time.standbyOff }, free := s.free + 1 }) ∧
  (∀ (s : State) (dt l : Nat) (n : Fin 32),
    s.live = true →
    s.get (It.lmState n) ≠ 0 →
    s.get (It.lmState n) ≠ 5 →
    s.get (It.lmSource n) ≠ 0 →
    (nth s.time.lat n).lastAt = some l →
    s.get (It.lmStaleMs n) * 1000000 ≤ s.now + dt - l →
    exec (.latencyMonitorSilent dt n) s = .next (((s.advance dt).set (It.lmState n) 5).emit 0x0583
      (toLE 1 n ++ toLE 1 0 ++ toLE 2 5 ++ toLE 4 0 ++ toLE 8 (s.now + dt))))

/-- For a frame that is taken at once. (a) TIME_READ answers mtime, position, calendar time, cycle number, rate, epoch, tally_state and calendar_valid of the instant and changes nothing. (b) CALENDAR_SET with a valid_at not in the future, at most 10 s old, and a calendar time from 2020 on sets calendar time to the value plus the mtime since valid_at, calendar_valid 1, and counts it. (c) TALLY_FORECAST answers now plus distance over rate while a rate is known (flag 2 when the position is reached). (d) LATENCY_RELEARN clears the window of the monitor and puts it into LEARNING. -/
def Obligations.TimeCommandsAnswer : Prop :=
  (∀ (s : State) (dt : Nat) (m : Fin 16) (h : Hdr) (p : List Byte),
    Accepts m (rowFrame 0x0500 h p) (s.advance dt) →
    exec (.timeRead dt m h p) s = .next (replied dt m (rowFrame 0x0500 h p) (okWith (toLE 8 (s.now + dt) ++ toLE 8 (s.advance dt).pos ++ toLE 8 ((s.time.calBase : Int) + ((s.now + dt : Nat) - (s.time.calAt : Int))).toNat ++
      toLE 8 ((s.now + dt) / 100000) ++ toLE 4 s.time.lane.rate ++ toLE 4 (s.get It.mtimeEpoch) ++ toLE 2 s.time.lane.st.code ++
      toLE 2 (s.get It.calendarValid) ++ toLE 4 0)) id s)) ∧
  (∀ (s : State) (dt : Nat) (m : Fin 16) (h : Hdr) (p : List Byte),
    Accepts m (rowFrame 0x0501 h p) (s.advance dt) →
    u64At p 8 ≤ s.now + dt →
    s.now + dt ≤ u64At p 8 + 10000000000 →
    1577836800000000000 ≤ u64At p 0 →
    exec (.calendarSet dt m h p) s = .next (replied dt m (rowFrame 0x0501 h p) (okWith []) (fun b =>
      (({ b with time := { b.time with calBase := u64At p 0 + (s.now + dt - u64At p 8), calAt := s.now + dt } } : State).set It.calendarValid 1).bump
        It.calendarSets) s)) ∧
  (∀ (s : State) (dt : Nat) (m : Fin 16) (h : Hdr) (p : List Byte),
    Accepts m (rowFrame 0x0502 h p) (s.advance dt) →
    (posDiff (u64At p 0) (s.advance dt).pos).natAbs ≤ 2 ^ 56 →
    s.time.lane.rate ≠ 0 →
    exec (.tallyForecast dt m h p) s = .next (replied dt m (rowFrame 0x0502 h p) (okWith (toLE 8 (twos 64 ((s.now + dt : Nat) + posDiff (u64At p 0) (s.advance dt).pos * 1000000000000 / (65536 * (s.time.lane.rate : Int)))) ++
      toLE 2 (if posDiff (u64At p 0) (s.advance dt).pos ≤ 0 then 2 else 0) ++ toLE 6 0)) id s)) ∧
  (∀ (s : State) (dt : Nat) (m : Fin 16) (h : Hdr) (p : List Byte),
    Accepts m (rowFrame 0x0503 h p) (s.advance dt) →
    u8At p 0 ≤ 31 →
    zeroAt p 1 3 = true →
    s.get (It.lmSource (u8At p 0)) ≠ 0 →
    s.get (It.lmState (u8At p 0)) ≠ 1 →
    exec (.latencyRelearn dt m h p) s = .next (replied dt m (rowFrame 0x0503 h p) (okWith []) (fun b =>
      (({ b with time := { b.time with lat := upd b.time.lat (u8At p 0) fun x => { x with seen := 0, blocks := [], part := [] } } } : State).set
        (It.lmState (u8At p 0)) 1).emit 0x0583
        (toLE 1 (u8At p 0) ++ toLE 1 0 ++ toLE 2 1 ++ toLE 4 0 ++ toLE 8 (s.now + dt))) s))

/-- (a) BASE_CYCLE_BOUNDARY, in every state but that of (b), advances module time to the next boundary when none was missed (the first multiple of 100 000 ns after the last one), the cycle number is that boundary's, the time since power-on advances by as much, and it leaves the internal ticks and the queue alone. (b) The first K of a start whose module time still stands at 0 is the boundary of mtime 0 (the model's reading, log entry 16): it moves no clock. (c) In a module whose engines do not run, that is not in recovery mode and not shutting down, the boundary changes nothing but the clock. -/
def Obligations.CycleBoundaryAdvances : Prop :=
  (∀ (s : State) (meas : List (Nat × Nat)) (eq : Bool),
    s.clk.kLast = s.clk.mtime / 100000 →
    (s.live = true → s.power.startK.isSome = true → s.clk.mtime ≠ 0) →
    ∃ t, exec (.baseCycleBoundary meas eq) s = .next t ∧ t.clk.mtime = (s.clk.kLast + 1) * 100000 ∧ t.clk.kLast = s.clk.kLast + 1 ∧
      t.cycle = s.cycle + 1 ∧ t.clk.wall = s.clk.wall + (t.clk.mtime - s.clk.mtime) ∧ t.clk.tickNext = s.clk.tickNext ∧
      t.pending = s.pending) ∧
  (∀ (s : State) (meas : List (Nat × Nat)) (eq : Bool),
    s.live = true →
    s.power.startK.isSome = true →
    s.clk.mtime = 0 →
    ∃ t, exec (.baseCycleBoundary meas eq) s = .next t ∧ t.clk = s.clk ∧ t.pending = s.pending) ∧
  (∀ (s : State) (meas : List (Nat × Nat)) (eq : Bool),
    s.clk.kLast = s.clk.mtime / 100000 →
    s.live = false →
    s.phase ≠ .recovery →
    s.phase ≠ .shuttingDown →
    exec (.baseCycleBoundary meas eq) s = .next { s with clk := { s.clk with mtime := (s.clk.kLast + 1) * 100000, kLast := s.clk.kLast + 1, wall := s.clk.wall + ((s.clk.kLast + 1) * 100000 - s.clk.mtime) } })

/-- (a) MAILBOX_IRQ_CLEAR clears exactly the bits of the interrupt status written with 1. (b) MAILBOX_WINDOW_WRITE of a producer word (Table 3.3) only keeps the index for the next doorbell; (c) of the EVT consumer word within the ring frees the slots before it. All of them come from a partition of the lane that the latch accepts. (d) DOORBELL_WRITE takes a frame that the CMD producer word publishes exactly as the row of its opcode does (shown for HEARTBEAT). (e) GATEWAY_SLOT_GAP discards a frame in progress and counts a frame error. -/
def Obligations.TenantWindowServes : Prop :=
  (∀ (s : State) (dt : Nat) (lane : Fin 2) (part : Fin 4) (bits : BitVec 32),
    s.live = true →
    lane.val = s.lanes.latch →
    exec (.mailboxIrqClear dt { lane := lane, part := part } bits) s = .next { s.advance dt with mail := { s.mail with masters := upd s.mail.masters part fun x => { x with irq := x.irq &&& (3 ^^^ (bits.toNat % 4)) } } }) ∧
  (∀ (s : State) (dt : Nat) (lane : Fin 2) (part : Fin 4) (value : BitVec 32),
    s.live = true →
    lane.val = s.lanes.latch →
    exec (.mailboxWindowWrite dt { lane := lane, part := part } 0xf0010000 value) s = .next { s.advance dt with mail := { s.mail with masters := upd s.mail.masters part fun x => { x with cmdWord := value.toNat % 65536 } } } ∧
    exec (.mailboxWindowWrite dt { lane := lane, part := part } 0xf0010018 value) s = .next { s.advance dt with mail := { s.mail with masters := upd s.mail.masters part fun x => { x with blkWord := value.toNat % 65536 } } }) ∧
  (∀ (s : State) (dt : Nat) (lane : Fin 2) (part : Fin 4) (value : BitVec 32),
    s.live = true →
    lane.val = s.lanes.latch →
    (value.toNat % 65536 + 65536 - (s.master part).evt.cons) % 65536 ≤ (s.master part).evt.used →
    exec (.mailboxWindowWrite dt { lane := lane, part := part } 0xf0010014 value) s = .next { s.advance dt with mail := { s.mail with masters := upd s.mail.masters part fun x => { x with evt := { x.evt with cons := value.toNat % 65536 }, evtFrames := dropSlots ((value.toNat % 65536 + 65536 - x.evt.cons) % 65536) x.evtFrames } } }) ∧
  (∀ (s : State) (dt : Nat) (lane : Fin 2) (part : Fin 4) (h : Hdr),
    s.live = true →
    lane.val = s.lanes.latch →
    (s.master part).cmd.prod < 65536 →

    (s.master part).cmdWord = ((s.master part).cmd.prod + 1) % 65536 →
    Accepts part (rowFrame 0x0102 h []) (s.advance dt) →
    exec (.doorbellWrite dt { lane := lane, part := part } [rowFrame 0x0102 h []] []) s = .next (replied dt part (rowFrame 0x0102 h [])
      (okWith (toLE 1 (s.mail.owner.getD 0xff) ++ toLE 1 (s.get It.reckonerLoadPct) ++ toLE 2 (s.get (It.sessionState part)) ++
        toLE 4 (if s.mail.owner = some part.val then 500 else 0))) id s)) ∧
  (∀ (s : State) (dt : Nat) (gw : Fin 2),
    s.live = true →
    (s.master (12 + gw)).gwPart ≠ [] →
    (s.master (12 + gw)).gwAt + 10000000 < s.now + dt →
    exec (.gatewaySlotGap dt gw) s = .next (({ s.advance dt with mail := { s.mail with masters := upd s.mail.masters (12 + gw) fun x => { x with gwPart := [] } } } : State).bump (It.frameErrors (12 + gw))))

/-- For a frame that is taken at once. (a) HEARTBEAT answers owner, Reckoner load, session state and the ms until the lapse, counted from this frame for the owner, and changes nothing else. (b) EVT_MASK_SET sets the event mask. (c) SESSION_LIST answers state, priority and id of every master from the latest snapshot. (d) ITEM_READ of 1 to 62 keys answers from one snapshot. (e) SESSION_OPEN of a master without session and claims opens it with the mask given and a new session id; ownership is as before. -/
def Obligations.SessionCommandsAnswer : Prop :=
  (∀ (s : State) (dt : Nat) (m : Fin 16) (h : Hdr) (p : List Byte),
    Accepts m (rowFrame 0x0102 h p) (s.advance dt) →
    exec (.heartbeat dt m h p) s = .next (replied dt m (rowFrame 0x0102 h p) (okWith (toLE 1 (s.mail.owner.getD 0xff) ++ toLE 1 (s.get It.reckonerLoadPct) ++ toLE 2 (s.get (It.sessionState m)) ++
      toLE 4 (if s.mail.owner = some m.val then 500 else 0))) id s)) ∧
  (∀ (s : State) (dt : Nat) (m : Fin 16) (h : Hdr) (p : List Byte),
    Accepts m (rowFrame 0x0109 h p) (s.advance dt) →
    u32At p 0 < 2 ^ 19 →
    exec (.evtMaskSet dt m h p) s = .next (replied dt m (rowFrame 0x0109 h p) (okWith []) (State.set (It.evtMask m) (u32At p 0)) s)) ∧
  (∀ (s : State) (dt : Nat) (m : Fin 16) (h : Hdr) (p : List Byte),
    Accepts m (rowFrame 0x0108 h p) (s.advance dt) →
    exec (.sessionList dt m h p) s = .next (replied dt m (rowFrame 0x0108 h p) (okWith ((List.range 16).flatMap fun i => toLE 1 i ++ toLE 1 (s.shown (It.sessionState i)) ++ toLE 1 (s.shown (It.ownPriority i)) ++ toLE 1 0 ++
      toLE 4 (s.shown (It.sessionId i)))) id s)) ∧
  (∀ (s : State) (dt : Nat) (m : Fin 16) (h : Hdr) (p : List Byte),
    Accepts m (rowFrame 0x0200 h p) (s.advance dt) →
    0 < u16At p 0 →
    u16At p 0 ≤ 62 →
    zeroAt p 2 2 = true →
    exec (.itemRead dt m h p) s = .next (replied dt m (rowFrame 0x0200 h p) (okWith (toLE 8 s.sb.snap.cycle ++ toLE 4 s.sb.snap.carry ++ toLE 2 (u16At p 0) ++ toLE 2 0 ++
      ((List.range (u16At p 0)).map fun i => u32At p (4 + 4 * i)).flatMap (readEntry s.variant (s.phase == .recovery) s.sb.snap.items))) id s)) ∧
  (∀ (s : State) (dt : Nat) (m : Fin 16) (h : Hdr) (p : List Byte),
    Accepts m (rowFrame 0x0100 h p) (s.advance dt) →
    u16At p 0 ≤ 1 →
    zeroAt p 2 2 = true →
    u32At p 8 < 2 ^ 19 →
    s.mail.owner ≠ some m.val →
    s.mail.offer = none →
    ∃ t, exec (.sessionOpen dt m h p) s = .next t ∧ t.get (It.sessionState m) = 1 ∧ t.get (It.evtMask m) = u32At p 8 ∧
      t.get (It.sessionId m) = Config.freeValue s.free % 4294967296 ∧ t.mail.owner = s.mail.owner ∧
      ItemsBut [It.sessionState m, It.evtMask m, It.sessionId m, It.framesRx m, It.copyBytesPeak] s t ∧
      t = { s with clk := s.clk.advance dt, free := t.free, items := t.items, mail := t.mail, lanes := t.lanes, rods := s.rods })

/-- (a) OWN_CLAIM while ownership is vacant, by a master with a priority, is held and ownership does not change. (b) OWN_RELEASE leaves ownership vacant with its election window and grace timer set, the former owner's session OPEN, and no slate OPEN. (c) SESSION_CLOSE of a master that is not the owner leaves its session CLOSED and no claim of it. (d) ELECTION_WINDOW_END with a single held claim makes that master the owner. (e) OWNERSHIP_GRANT_AT_K grants a claim held over a K while no window is open. -/
def Obligations.OwnershipIsClaimedAndGivenUp : Prop :=
  (∀ (s : State) (dt : Nat) (m : Fin 16) (h : Hdr) (p : List Byte),
    Accepts m (rowFrame 0x0103 h p) (s.advance dt) →
    s.phase ≠ .recovery →
    s.mail.owner = none →
    s.get (It.ownPriority m) ≠ 0 →
    exec (.ownClaim dt m h p) s = .next (replied dt m (rowFrame 0x0103 h p) { wait := .claim } (fun b => { b with mail := { b.mail with claims := b.mail.claims ++ [(m.val, s.clk.kLast)] } }) s)) ∧
  (∀ (s : State) (dt : Nat) (m : Fin 16) (h : Hdr) (p : List Byte),
    Accepts m (rowFrame 0x0104 h p) (s.advance dt) →
    s.mail.owner = some m.val →
    ∃ t, exec (.ownRelease dt m h p) s = .next t ∧ t.mail.owner = none ∧ t.mail.offer = none ∧
      t.mail.window = some (s.now + dt + s.get It.electionWindowMs * 1000000) ∧
      t.mail.grace = some (s.now + dt + s.get It.ownerlessGraceMs * 1000000) ∧ t.get (It.sessionState m) = 1 ∧
      (∀ i < 8, (nth t.sb.slates i).st ≠ .opened) ∧
      t = { s with clk := s.clk.advance dt, free := t.free, items := t.items, mail := t.mail, lanes := t.lanes, sb := t.sb, fw := t.fw }) ∧
  (∀ (s : State) (dt : Nat) (m : Fin 16) (h : Hdr) (p : List Byte),
    Accepts m (rowFrame 0x0101 h p) (s.advance dt) →
    s.mail.owner ≠ some m.val →
    s.mail.offer = none →
    ∃ t, exec (.sessionClose dt m h p) s = .next t ∧ t.get (It.sessionState m) = 0 ∧ t.mail.owner = s.mail.owner ∧ t.mail.claims = s.mail.claims.filter (fun x => x.1 != m.val) ∧
      ItemsBut [It.sessionState m, It.framesRx m, It.copyBytesPeak] s t ∧
      t = { s with clk := s.clk.advance dt, free := t.free, items := t.items, mail := t.mail, lanes := t.lanes, rods := t.rods }) ∧
  (∀ (s : State) (dt w m k : Nat),
    s.live = true →
    m < 16 →
    s.mail.window = some w →
    w ≤ s.now + dt →
    s.mail.owner = none →
    s.mail.claims = [(m, k)] →
    ∃ t, exec (.electionWindowEnd dt) s = .next t ∧ t.mail.owner = some m ∧ t.mail.window = none ∧ t.mail.grace = none ∧ t.mail.claims = [] ∧
      t.mail.lapseFrom = s.now + dt ∧ t.get (It.sessionState m) = 2 ∧ ItemsBut [It.sessionState m] s t ∧
      t = { s with clk := s.clk.advance dt, items := t.items, mail := t.mail }) ∧
  (∀ (s : State) (dt m k : Nat),
    s.live = true →
    m < 16 →
    s.mail.window = none →
    s.mail.owner = none →
    s.mail.claims = [(m, k)] →
    k < s.clk.kLast →
    ∃ t, exec (.ownershipGrantAtK dt) s = .next t ∧ t.mail.owner = some m ∧ t.mail.grace = none ∧ t.mail.claims = [] ∧
      t.mail.lapseFrom = s.now + dt ∧ t.get (It.sessionState m) = 2 ∧ ItemsBut [It.sessionState m] s t ∧
      t = { s with clk := s.clk.advance dt, items := t.items, mail := t.mail })

/-- For frames taken at once. (a) OWN_OFFER to an open master with a priority, while no offer is pending, sets the offer, the owner's session YIELDING and sends HANDOVER phase 0. (b) OWN_ACCEPT of the target is held and marks the offer accepted. (c) OWNERSHIP_SWITCH after the next K makes the target the owner, its session OWNER, the former one's OPEN, and counts a handover. (d) OFFER_EXPIRY after 200 ms without acceptance ends the offer and returns the owner's session to OWNER. (e) OUTPUTS_RESUME with the ownerless action applied asks for its end at the next K. -/
def Obligations.OwnershipIsHandedOver : Prop :=
  (∀ (s : State) (dt : Nat) (m : Fin 16) (h : Hdr) (p : List Byte),
    Accepts m (rowFrame 0x0105 h p) (s.advance dt) →
    u8At p 0 ≤ 15 →
    u8At p 1 ≤ 1 →
    zeroAt p 2 2 = true →
    s.sessionOpen (u8At p 0) = true →
    s.get (It.ownPriority (u8At p 0)) ≠ 0 →
    s.mail.offer = none →
    exec (.ownOffer dt m h p) s = .next (replied dt m (rowFrame 0x0105 h p) (okWith []) (fun b => (({ b with mail := { b.mail with offer := some { target := u8At p 0, keep := u8At p 1 == 1, at_ := s.now + dt } } } : State).set (It.sessionState m) 3).emit 0x0182
      (toLE 1 (s.mail.owner.getD 0xff) ++ toLE 1 (u8At p 0) ++ toLE 2 0 ++ toLE 4 0 ++ toLE 8 ((s.now + dt) / 100000))) s)) ∧
  (∀ (s : State) (dt : Nat) (m : Fin 16) (h : Hdr) (p : List Byte) (o : Offer),
    Accepts m (rowFrame 0x0106 h p) (s.advance dt) →
    u8At p 0 = 0 →
    zeroAt p 1 3 = true →
    s.mail.offer = some o →
    o.target = m.val →
    exec (.ownAccept dt m h p) s = .next (replied dt m (rowFrame 0x0106 h p) { wait := .accept } (fun b => { b with mail := { b.mail with offer := some { o with accepted := some s.clk.kLast } } }) s)) ∧
  (∀ (s : State) (dt w k : Nat) (o : Offer),
    s.live = true →
    s.mail.owner = some w →
    s.mail.offer = some o →
    o.accepted = some k →
    k < s.clk.kLast →
    w ≠ o.target →
    w < 16 →
    o.target < 16 →
    ∃ t, exec (.ownershipSwitch dt) s = .next t ∧ t.mail.owner = some o.target ∧ t.mail.offer = none ∧ t.mail.lapseFrom = s.now + dt ∧
      t.get (It.sessionState w) = 1 ∧ t.get (It.sessionState o.target) = 2 ∧ t.get It.handovers = sat32 (s.get It.handovers + 1) ∧
      t = { s with clk := s.clk.advance dt, items := t.items, mail := t.mail, sb := t.sb, fw := t.fw } ∧ (o.keep = true → t.sb = s.sb)) ∧
  (∀ (s : State) (dt w : Nat) (o : Offer),
    s.live = true →
    s.mail.owner = some w →
    w < 16 →
    s.mail.offer = some o →
    o.accepted = none →
    o.at_ + 200000000 ≤ s.now + dt →
    ∃ t, exec (.offerExpiry dt) s = .next t ∧ t.mail.owner = some w ∧ t.mail.offer = none ∧ t.get (It.sessionState w) = 2 ∧
      ItemsBut [It.sessionState w] s t ∧ t = { s with clk := s.clk.advance dt, items := t.items, mail := t.mail }) ∧
  (∀ (s : State) (dt : Nat) (m : Fin 16) (h : Hdr) (p : List Byte),
    Accepts m (rowFrame 0x0107 h p) (s.advance dt) →
    s.get It.ownerlessApplied ≠ 0 →
    exec (.outputsResume dt m h p) s = .next (replied dt m (rowFrame 0x0107 h p) (okWith []) (fun b => { b with mail := { b.mail with resume := true } }) s))

/-- (a) OWNERSHIP_LAPSE 500 ms after the owner's last accepted frame vacates ownership, leaves its session OPEN, and counts. (b) SESSION_IDLE_EXPIRY closes an OPEN session without an accepted frame for session_idle_s. (c) OWNERLESS_GRACE_EXPIRY without an owner makes the ownerless action due. (d) RECKONER_WATCHDOG_EXPIRY with nothing in execution restarts the Reckoner and is a finding of the latch's lane from the fourth within 60 s on. (e) RECKONER_RESTART_TIMEOUT after 50 ms counts as a further expiry. -/
def Obligations.OwnershipEndsByTime : Prop :=
  (∀ (s : State) (dt w : Nat),
    s.live = true →
    s.mail.owner = some w →
    w < 16 →
    s.mail.reck.up = true →
    s.mail.lapseFrom + 500000000 ≤ s.now + dt →
    ∃ t, exec (.ownershipLapse dt) s = .next t ∧ t.mail.owner = none ∧ t.mail.offer = none ∧
      t.mail.window = some (s.now + dt + s.get It.electionWindowMs * 1000000) ∧
      t.mail.grace = some (s.now + dt + s.get It.ownerlessGraceMs * 1000000) ∧
      t.get (It.sessionState w) = 1 ∧ t.get It.ownerLapses = sat32 (s.get It.ownerLapses + 1) ∧
      t = { s with clk := s.clk.advance dt, items := t.items, mail := t.mail, sb := t.sb, fw := t.fw }) ∧
  (∀ (s : State) (dt : Nat) (m : Fin 16),
    s.live = true →
    s.mail.owner ≠ some m.val →
    s.mail.offer = none →
    s.get (It.sessionState m) = 1 →
    (s.master m).lastFrame + s.get It.sessionIdleS * 1000000000 ≤ s.now + dt →
    ∃ t, exec (.sessionIdleExpiry dt m) s = .next t ∧ t.get (It.sessionState m) = 0 ∧ t.mail.owner = s.mail.owner ∧
      ItemsBut [It.sessionState m] s t ∧ t = { s with clk := s.clk.advance dt, items := t.items, mail := t.mail, rods := t.rods }) ∧
  (∀ (s : State) (dt g : Nat),
    s.live = true →
    s.mail.grace = some g →
    g ≤ s.now + dt →
    s.mail.owner = none →
    exec (.ownerlessGraceExpiry dt) s = .next { s.advance dt with mail := { s.mail with grace := none, graceOver := true } }) ∧
  (∀ (s : State) (dt : Nat),
    s.live = true →
    s.mail.reck.up = true →
    exec (.reckonerWatchdogExpiry dt none) s = .next { s.advance dt with mail := { s.mail with reck := { up := false, since := s.now + dt, expiries := (s.mail.reck.expiries.filter fun x => s.now + dt < x + 60000000000) ++ [s.now + dt] } }, lanes := { s.lanes with found := (if 3 ≤ (s.mail.reck.expiries.filter fun x => s.now + dt < x + 60000000000).length then s.lanes.found ++ [(s.lanes.latch, 6)] else s.lanes.found) } }) ∧
  (∀ (s : State) (dt : Nat),
    s.live = true →
    s.mail.reck.up = false →
    s.mail.reck.since + 50000000 ≤ s.now + dt →
    ∃ t, exec (.reckonerRestartTimeout dt) s = .next t ∧ t.mail.reck.up = false ∧ t.mail.reck.since = s.now + dt ∧
      t.mail.reck.expiries.getLast? = some (s.now + dt) ∧
      t = { s with clk := s.clk.advance dt, mail := { s.mail with reck := t.mail.reck }, lanes := t.lanes })

/-- (a) RECKONER_RESUME brings the Reckoner up, counts the restart, starts the lapse timer from zero and leaves no event held. (b) ITEM_WRITE into an open slate whose entries are all accepted answers STAGED and fills the slate with the entries; (c) one with a refused entry changes nothing and answers the index and status of the first refused entry. -/
def Obligations.ReckonerResumesAndItemsAreStaged : Prop :=
  (∀ (s : State) (dt : Nat),
    s.live = true →
    s.mail.reck.up = false →
    s.lanes.consuming = false →
    ∃ t, exec (.reckonerResume dt) s = .next t ∧ t.mail.reck.up = true ∧ t.mail.lapseFrom = s.now + dt ∧
      t.get It.reckonerRestarts = sat32 (s.get It.reckonerRestarts + 1) ∧ (∀ m < 16, (t.master m).held = []) ∧
      ItemsBut [It.reckonerRestarts] s t ∧ t = { s with clk := s.clk.advance dt, items := t.items, mail := t.mail }) ∧
  (∀ (s : State) (dt : Nat) (m : Fin 16) (h : Hdr) (p : List Byte) (es : List (Nat × Nat)),
    Accepts m (rowFrame 0x0201 h p) (s.advance dt) →
    0 < u16At p 0 →
    u16At p 0 ≤ 62 →
    zeroAt p 2 2 = true →
    h.slate.toNat < 8 →
    (s.slate h.slate.toNat).st = .opened →
    s.mail.offer = none →
    ((taking m (rowFrame 0x0201 h p) (s.advance dt)).takeEntries false 0 ((List.range (u16At p 0)).map fun j => (p.drop (4 + 16 * j)).take 16) (s.slate h.slate.toNat).entries).toOption = some es →
    exec (.itemWrite dt m h p) s = .next (replied dt m (rowFrame 0x0201 h p) { status := stStaged, payload := toLE 2 0xffff ++ toLE 2 0 ++ toLE 4 0 } (fun b => { b with sb := { b.sb with slates := upd b.sb.slates h.slate.toNat fun x => { x with entries := es } } }) s)) ∧
  (∀ (s : State) (dt : Nat) (m : Fin 16) (h : Hdr) (p : List Byte) (j st : Nat),
    Accepts m (rowFrame 0x0201 h p) (s.advance dt) →
    0 < u16At p 0 →
    u16At p 0 ≤ 62 →
    zeroAt p 2 2 = true →
    h.slate.toNat < 8 →
    (s.slate h.slate.toNat).st = .opened →
    s.mail.offer = none →
    (match (taking m (rowFrame 0x0201 h p) (s.advance dt)).takeEntries false 0 ((List.range (u16At p 0)).map fun j => (p.drop (4 + 16 * j)).take 16) (s.slate h.slate.toNat).entries with | .error e => some e | .ok _ => none) = some (j, st) →
    exec (.itemWrite dt m h p) s = .next (replied dt m (rowFrame 0x0201 h p) { status := st, payload := toLE 2 j ++ toLE 2 st ++ toLE 4 0 } id s))

/-- For a frame taken at once. (a) SLATE_OPEN with slate 0xff and no offer pending opens the lowest free slate and answers its number; (b) naming a free slate, it opens that one, empty. (c) SLATE_LOAD of a whole accepted image into an open slate answers STAGED, fills the slate with its entries and build number and consumes the transfer. (d) SLATE_LIST that names a slate answers the eight slates of the latest snapshot. (e) SLATE_ENTRIES answers entries from a first index of a slate that is not free. -/
def Obligations.SlatesAreOpenedAndFilled : Prop :=
  (∀ (s : State) (dt : Nat) (m : Fin 16) (h : Hdr) (p : List Byte) (j : Nat),
    Accepts m (rowFrame 0x0300 h p) (s.advance dt) →
    h.slate.toNat = 0xff →
    (s.slatesIn [.free]).head? = some j →
    s.mail.offer = none →
    exec (.slateOpen dt m h p) s = .next (replied dt m (rowFrame 0x0300 h p) { slate := some j } (fun b => { b with sb := { b.sb with slates := upd b.sb.slates j fun _ => { st := .opened } } }) s)) ∧
  (∀ (s : State) (dt : Nat) (m : Fin 16) (h : Hdr) (p : List Byte),
    Accepts m (rowFrame 0x0300 h p) (s.advance dt) →
    h.slate.toNat < 8 →
    (nth s.sb.slates h.slate.toNat).st = .free →
    s.mail.offer = none →
    exec (.slateOpen dt m h p) s = .next (replied dt m (rowFrame 0x0300 h p) { slate := some h.slate.toNat } (fun b => { b with sb := { b.sb with slates := upd b.sb.slates h.slate.toNat fun _ => { st := .opened } } }) s)) ∧
  (∀ (s : State) (dt : Nat) (m : Fin 16) (h : Hdr) (p img : List Byte) (es : List (Nat × Nat)),
    Accepts m (rowFrame 0x0301 h p) (s.advance dt) →
    h.slate.toNat < 8 →
    zeroAt p 12 4 = true →
    (nth s.sb.slates h.slate.toNat).st = .opened →
    s.mail.offer = none →
    ((taking m (rowFrame 0x0301 h p) (s.advance dt)).blkImage m (u16At p 0) (u16At p 2) (u32At p 4) (u32At p 8)).toOption = some img →
    u32At img 0 = 1 →
    u32At img 4 = 0x9648 →
    0 < u16At img 8 →
    u16At img 8 ≤ 4096 →
    zeroAt img 10 2 = true →
    img.length = 16 + 16 * u16At img 8 →
    ((taking m (rowFrame 0x0301 h p) (s.advance dt)).takeEntries false 0 ((List.range (u16At img 8)).map fun j => (img.drop (16 + 16 * j)).take 16) (nth s.sb.slates h.slate.toNat).entries).toOption = some es →
    exec (.slateLoad dt m h p) s = .next (replied dt m (rowFrame 0x0301 h p) { status := stStaged, payload := toLE 2 0xffff ++ toLE 2 0 ++ toLE 4 0 } (fun b => (({ b with sb := { b.sb with slates := upd b.sb.slates h.slate.toNat fun x => { x with entries := es, build := u32At img 12 } } } : State).blkConsume m (u16At p 0) (u16At p 2))) s)) ∧
  (∀ (s : State) (dt : Nat) (m : Fin 16) (h : Hdr) (p : List Byte),
    Accepts m (rowFrame 0x0305 h p) (s.advance dt) →
    h.slate.toNat ≠ 0xff →
    exec (.slateList dt m h p) s = .next (replied dt m (rowFrame 0x0305 h p) (okWith ((List.range 8).flatMap fun i => toLE 1 (s.shown (It.slateState i)) ++ toLE 1 (s.shown (It.slateBasis i)) ++ toLE 2 (s.shown (It.slateEntries i)) ++
      toLE 4 (s.shown (It.slateTxn i)) ++ toLE 8 (s.shown (It.slateInstant i)) ++ toLE 8 (s.shown (It.slateDeadline i)))) id s)) ∧
  (∀ (s : State) (dt : Nat) (m : Fin 16) (h : Hdr) (p : List Byte),
    Accepts m (rowFrame 0x0306 h p) (s.advance dt) →
    h.slate.toNat < 8 →
    0 < u16At p 2 →
    u16At p 2 ≤ 62 →
    (nth s.sb.slates h.slate.toNat).st ≠ .free →
    u16At p 0 ≤ (nth s.sb.slates h.slate.toNat).entries.length →
    exec (.slateEntries dt m h p) s = .next (replied dt m (rowFrame 0x0306 h p) (okWith (toLE 2 (((nth s.sb.slates h.slate.toNat).entries.drop (u16At p 0)).take (u16At p 2)).length ++ toLE 2 0 ++
      (((nth s.sb.slates h.slate.toNat).entries.drop (u16At p 0)).take (u16At p 2)).flatMap entryBytes)) id s))

/-- For a frame taken at once. (a) SLATE_CHECK of an open slate whose entries pass answers OK with the empty report and changes nothing. (b) SLATE_COMMIT that passes every check makes the slate COMMITTED with its instant (basis 2: the first boundary after the lead) and its place in the order, and stages it in the drive dies. (c) SLATE_CANCEL of an OPEN slate frees it at once, with SLATE_DISCARDED cause 0; (d) of a COMMITTED one it waits for the next K. (e) SLATE_CANCEL_EFFECT after that K frees the slate and counts it. -/
def Obligations.SlatesAreCommittedAndCancelled : Prop :=
  (∀ (s : State) (dt : Nat) (m : Fin 16) (h : Hdr) (p : List Byte),
    Accepts m (rowFrame 0x0302 h p) (s.advance dt) →
    h.slate.toNat < 8 →
    (nth s.sb.slates h.slate.toNat).st = .opened →
    (taking m (rowFrame 0x0302 h p) (s.advance dt)).contentCheck (nth s.sb.slates h.slate.toNat).entries = none →
    exec (.slateCheck dt m h p) s = .next (replied dt m (rowFrame 0x0302 h p) (okWith (toLE 2 0xffff ++ toLE 2 0 ++ toLE 2 0 ++ toLE 1 0 ++ toLE 1 0 ++ toLE 4 0 ++ toLE 4 0 ++ toLE 8 0)) id s)) ∧
  (∀ (s : State) (dt : Nat) (m : Fin 16) (h : Hdr) (p : List Byte),
    Accepts m (rowFrame 0x0303 h p) (s.advance dt) →
    h.slate.toNat < 8 →
    u8At p 0 ≤ 2 →
    zeroAt p 1 7 = true →
    (u8At p 0 = 2 → u64At p 8 = 0) →
    (nth s.sb.slates h.slate.toNat).st = .opened →
    s.mail.offer = none →
    s.phase ≠ .parking →
    (taking m (rowFrame 0x0303 h p) (s.advance dt)).slateCheck (nth s.sb.slates h.slate.toNat).entries (u8At p 0) ((s.advance dt).commitInstant (nth s.sb.slates h.slate.toNat).entries (u8At p 0) (u64At p 8)) = none →
    exec (.slateCommit dt m h p) s = .next (replied dt m (rowFrame 0x0303 h p) (okWith (toLE 2 0xffff ++ toLE 2 0 ++ toLE 2 0 ++ toLE 1 0 ++ toLE 1 0 ++ toLE 4 0 ++ toLE 4 0 ++ toLE 8 0)) (fun b => State.stageDies h.slate.toNat ({ b with sb := { b.sb with nextOrder := b.sb.nextOrder + 1, slates := upd b.sb.slates h.slate.toNat fun x => { x with st := .committed, basis := u8At p 0, order := b.sb.nextOrder, instant := (s.advance dt).commitInstant (nth s.sb.slates h.slate.toNat).entries (u8At p 0) (u64At p 8) } } })) s)) ∧
  (∀ (s : State) (dt : Nat) (m : Fin 16) (h : Hdr) (p : List Byte),
    Accepts m (rowFrame 0x0304 h p) (s.advance dt) →
    h.slate.toNat < 8 →
    s.mail.offer = none →
    (nth s.sb.slates h.slate.toNat).st = .opened →
    exec (.slateCancel dt m h p) s = .next (replied dt m (rowFrame 0x0304 h p) (okWith []) (fun b => ((({ b with sb := { b.sb with slates := upd b.sb.slates h.slate.toNat fun _ => {} } } : State).bump It.slatesDiscarded).emit 0x0381
      (toLE 1 h.slate.toNat ++ toLE 1 0 ++ toLE 2 0 ++ toLE 4 (nth s.sb.slates h.slate.toNat).txn ++ toLE 8 ((s.now + dt) / 100000)))) s)) ∧
  (∀ (s : State) (dt : Nat) (m : Fin 16) (h : Hdr) (p : List Byte),
    Accepts m (rowFrame 0x0304 h p) (s.advance dt) →
    h.slate.toNat < 8 →
    s.mail.offer = none →
    (nth s.sb.slates h.slate.toNat).st = .committed →
    (nth s.sb.slates h.slate.toNat).ringWide = false →
    (nth s.sb.slates h.slate.toNat).cancelK = none →
    exec (.slateCancel dt m h p) s = .next (replied dt m (rowFrame 0x0304 h p) { wait := .cancel h.slate.toNat } (fun b => { b with sb := { b.sb with slates := upd b.sb.slates h.slate.toNat fun x => { x with cancelK := some s.clk.kLast } } }) s)) ∧
  (∀ (s : State) (dt k : Nat) (sl : Fin 8),
    s.live = true →
    (nth s.sb.slates sl).cancelK = some k →
    k < s.clk.kLast →
    ∃ t, exec (.slateCancelEffect dt sl) s = .next t ∧ t.sb = { s.sb with slates := upd s.sb.slates sl fun _ => {} } ∧
      t.get It.slatesDiscarded = sat32 (s.get It.slatesDiscarded + 1) ∧ ItemsBut [It.slatesDiscarded] s t ∧ SameOwner s t ∧
      t = { s with clk := s.clk.advance dt, items := t.items, mail := t.mail, sb := t.sb })

/-- For a frame of a ring master taken at once. (a) RING_PREPARE that passes the checks and the deadline rule makes the slate PREPARED with transaction, instant and deadline, which is the yes vote, and stages it in the drive dies. (b) RING_DECIDE commit before the deadline makes it COMMITTED at its place in the order of commits; (c) RING_DECIDE abort frees it with cause 3. (d) DECISION_DEADLINE_EXPIRY frees it, counts ring_aborts and keeps the transaction as expired. (e) STORE_TRANSACTION_DONE on the lane that holds the role writes the oldest open transaction whole to the store, and clears persist_pending when it was the last. -/
def Obligations.RingWideCarryVotes : Prop :=
  (∀ (s : State) (dt : Nat) (m : Fin 16) (h : Hdr) (p : List Byte),
    Accepts m (rowFrame 0x0310 h p) (s.advance dt) →
    4 ≤ m.val →
    m.val ≤ 11 →
    h.slate.toNat < 8 →
    u8At p 4 ≤ 1 →
    0 < u8At p 5 →
    u8At p 5 ≤ 64 →
    zeroAt p 6 2 = true →
    (nth s.sb.slates h.slate.toNat).st = .opened →
    s.mail.offer = none →
    s.slatesIn [.prepared] = [] →
    s.phase ≠ .parking →
    (taking m (rowFrame 0x0310 h p) (s.advance dt)).slateCheck (nth s.sb.slates h.slate.toNat).entries (u8At p 4) (u64At p 8) = none →
    (taking m (rowFrame 0x0310 h p) (s.advance dt)).deadlineOk (u8At p 4) (u64At p 8) (u64At p 16) (slateLead (nth s.sb.slates h.slate.toNat).entries) = true →
    exec (.ringPrepare dt m h p) s = .next (replied dt m (rowFrame 0x0310 h p) (okWith (toLE 2 0xffff ++ toLE 2 0 ++ toLE 2 0 ++ toLE 1 0 ++ toLE 1 0 ++ toLE 4 0 ++ toLE 4 0 ++ toLE 8 0)) (fun b => State.stageDies h.slate.toNat { b with sb := { b.sb with nextOrder := b.sb.nextOrder + 1, expired := b.sb.expired.filter (· != u32At p 0), slates := upd b.sb.slates h.slate.toNat fun x => { x with st := .prepared, basis := u8At p 4, instant := u64At p 8, txn := u32At p 0, deadline := u64At p 16, ringWide := true, order := b.sb.nextOrder } } }) s)) ∧
  (∀ (s : State) (dt : Nat) (m : Fin 16) (h : Hdr) (p : List Byte),
    Accepts m (rowFrame 0x0311 h p) (s.advance dt) →
    4 ≤ m.val →
    m.val ≤ 11 →
    h.slate.toNat < 8 →
    u8At p 4 = 1 →
    zeroAt p 5 3 = true →
    s.mail.offer = none →
    (nth s.sb.slates h.slate.toNat).st = .prepared →
    (nth s.sb.slates h.slate.toNat).txn = u32At p 0 →
    (nth s.sb.slates h.slate.toNat).cancelK = none →
    s.now + dt < (nth s.sb.slates h.slate.toNat).deadline →
    exec (.ringDecide dt m h p) s = .next (replied dt m (rowFrame 0x0311 h p) (okWith []) (fun b => State.stageDies h.slate.toNat { b with sb := { b.sb with nextOrder := b.sb.nextOrder + 1, slates := upd b.sb.slates h.slate.toNat fun x => { x with st := .committed, deadline := 0, order := b.sb.nextOrder } } }) s)) ∧
  (∀ (s : State) (dt : Nat) (m : Fin 16) (h : Hdr) (p : List Byte),
    Accepts m (rowFrame 0x0311 h p) (s.advance dt) →
    4 ≤ m.val →
    m.val ≤ 11 →
    h.slate.toNat < 8 →
    u8At p 4 = 0 →
    zeroAt p 5 3 = true →
    s.mail.offer = none →
    (nth s.sb.slates h.slate.toNat).st = .prepared →
    (nth s.sb.slates h.slate.toNat).txn = u32At p 0 →
    (nth s.sb.slates h.slate.toNat).cancelK = none →
    s.now + dt < (nth s.sb.slates h.slate.toNat).deadline →
    exec (.ringDecide dt m h p) s = .next (replied dt m (rowFrame 0x0311 h p) (okWith []) (fun b => ((({ b with sb := { b.sb with slates := upd b.sb.slates h.slate.toNat fun _ => {} } } : State).bump It.slatesDiscarded).emit 0x0381
      (toLE 1 h.slate.toNat ++ toLE 1 0 ++ toLE 2 3 ++ toLE 4 (nth s.sb.slates h.slate.toNat).txn ++ toLE 8 ((s.now + dt) / 100000)))) s)) ∧
  (∀ (s : State) (dt : Nat) (sl : Fin 8),
    s.live = true →
    (nth s.sb.slates sl).st = .prepared →
    (nth s.sb.slates sl).deadline ≤ s.now + dt →
    ∃ t, exec (.decisionDeadlineExpiry dt sl) s = .next t ∧
      t.sb = { s.sb with expired := s.sb.expired ++ [(nth s.sb.slates sl).txn], slates := upd s.sb.slates sl fun _ => {} } ∧
      t.get It.ringAborts = sat32 (s.get It.ringAborts + 1) ∧ t.get It.slatesDiscarded = sat32 (s.get It.slatesDiscarded + 1) ∧
      ItemsBut [It.ringAborts, It.slatesDiscarded] s t ∧ SameOwner s t ∧
      t = { s with clk := s.clk.advance dt, items := t.items, mail := t.mail, sb := t.sb }) ∧
  (∀ (s : State) (dt : Nat) (t : List (Nat × Nat)) (r : List (List (Nat × Nat))),
    s.live = true →
    s.mail.reck.up = true →
    s.lanes.accepting = true →
    s.sb.txnOpen = t :: r →
    exec (.storeTransactionDone dt) s = .next (State.set It.persistPending (if r = [] then 0 else 1) { s.advance dt with sb := { s.sb with stored := t.foldl (fun st e => st.put e.1 (itemDefault s.variant e.1) e.2) s.sb.stored, txnOpen := r } }))

/-- For a frame taken at once. (a) SNAPSHOT_PIN of a master with fewer than 2 of fewer than 8 pins keeps the latest complete snapshot under the next handle and answers handle, carry and cycle. (b) SNAPSHOT_READ serves the keys from the pinned snapshot. (c) SNAPSHOT_RELEASE frees the pin of that handle. (d) PIN_LIFETIME_EXPIRY frees a pin of the lifetime, and its handle is known as expired. -/
def Obligations.SnapshotsArePinned : Prop :=
  (∀ (s : State) (dt : Nat) (m : Fin 16) (h : Hdr) (p : List Byte),
    Accepts m (rowFrame 0x0400 h p) (s.advance dt) →
    (s.sb.pins.filter fun x => x.master == m.val).length < 2 →
    s.sb.pins.length < 8 →
    s.sb.nextHandle < 256 →
    s.sb.pins.any (fun x => x.handle == s.sb.nextHandle) = false →
    exec (.snapshotPin dt m h p) s = .next (replied dt m (rowFrame 0x0400 h p) (okWith (toLE 1 s.sb.nextHandle ++ toLE 3 0 ++ toLE 4 s.sb.snap.carry ++ toLE 8 s.sb.snap.cycle)) (fun b => { b with sb := { b.sb with pins := b.sb.pins ++ [{ handle := s.sb.nextHandle, master := m, at_ := s.now + dt, snap := s.sb.snap }], nextHandle := (s.sb.nextHandle + 1) % 256, gone := b.sb.gone.filter (fun g => g.1 != s.sb.nextHandle), lost := b.sb.lost.filter (fun g => g.1 != s.sb.nextHandle) } }) s)) ∧
  (∀ (s : State) (dt : Nat) (m : Fin 16) (h : Hdr) (p : List Byte) (x : Pin),
    Accepts m (rowFrame 0x0401 h p) (s.advance dt) →
    0 < u16At p 2 →
    u16At p 2 ≤ 62 →
    zeroAt p 1 1 = true →
    s.sb.pins.find? (fun y => y.handle == u8At p 0 && y.master == m.val) = some x →
    exec (.snapshotRead dt m h p) s = .next (replied dt m (rowFrame 0x0401 h p) (okWith (toLE 8 x.snap.cycle ++ toLE 4 x.snap.carry ++ toLE 2 (u16At p 2) ++ toLE 2 0 ++
      ((List.range (u16At p 2)).map fun i => u32At p (4 + 4 * i)).flatMap (readEntry s.variant false x.snap.items))) id s)) ∧
  (∀ (s : State) (dt : Nat) (m : Fin 16) (h : Hdr) (p : List Byte),
    Accepts m (rowFrame 0x0402 h p) (s.advance dt) →
    zeroAt p 1 3 = true →
    s.sb.pins.any (fun y => y.handle == u8At p 0 && y.master == m.val) = true →
    exec (.snapshotRelease dt m h p) s = .next (replied dt m (rowFrame 0x0402 h p) (okWith []) (fun b => { b with sb := { b.sb with pins := b.sb.pins.filter (fun y => y.handle != u8At p 0), gone := b.sb.gone ++ (b.sb.pins.filter fun y => y.handle == u8At p 0).map fun y => (u8At p 0, y.master) } }) s)) ∧
  (∀ (s : State) (dt handle : Nat),
    s.live = true →
    s.sb.pins.any (fun x => x.handle == handle && decide (x.at_ + s.get It.pinLifetimeMs * 1000000 ≤ s.now + dt)) = true →
    exec (.pinLifetimeExpiry dt handle) s = .next { s.advance dt with sb := { s.sb with pins := s.sb.pins.filter (fun y => y.handle != handle), gone := s.sb.gone ++ (s.sb.pins.filter fun y => y.handle == handle).map fun y => (handle, y.master) } })

/-- (a) CARRY of the first COMMITTED slate, on the mtime basis, at or after its instant and with no cancel waiting: its values are in force, carry_number is one higher, the position and mtime of the carry are kept, its P items open a store transaction, the slate is free, the carry waits to be reported at the next K, the stages of the dies have its number, and the items before C are kept for what is stamped before C; then the subsystems take the new values, and the slates of the same instant carry in the order of their commits. (b) DRIVE_DIE_CARRY at the instant of the only stage that stands for the die puts its valve items into force at the die with the carry's number. -/
def Obligations.CarryReleases : Prop :=
  (∀ (s : State) (dt : Nat) (sl : Fin 8) (x : Slate),
    s.live = true →
    nth s.sb.slates sl = x →
    x.st = .committed →
    x.basis = 1 →
    x.instant ≤ s.now + dt →
    x.cancelK = none →
    s.committed.head? = some x →
    exec (.carry dt sl) s = .next (let a := s.advance dt
      let b := State.openTxn x.entries (((State.set It.carryNumber (s.get It.carryNumber + 1) { a with items := Store.putAll s.variant x.entries a.items }).set
        It.lastCarryMtime a.now).set It.lastCarryTally a.pos)
      let d : State := { b with sb := { b.sb with before := (s.sb.before.filter fun y => decide (a.now < y.1 + 100000000)) ++ [(a.now, s.items)], ceiling := raised b.sb.ceiling (s.get It.carryNumber + 1), slates := upd b.sb.slates sl (fun _ => {}), carried := b.sb.carried ++ [{ slate := sl, basis := 1, number := s.get It.carryNumber + 1, mtime := a.now, tally := a.pos, late := a.now - x.instant }] }, valve := { b.valve with stage := b.valve.stage.map fun d => if d.slate = sl.val ∧ d.order = x.order then { d with number := some (s.get It.carryNumber + 1) } else d }, lanes := { b.lanes with carriedSince := b.lanes.carriedSince ++ [(a.cycle, sl.val, x.entries)] } }
      { (d.carryHooks s.items (x.entries.map (·.1))).carryWith 1 x.instant 7 with clk := a.clk, pending := a.pending })) ∧
  (∀ (s : State) (dt n : Nat) (die : Fin 4) (sl : Fin 8) (d : DieStage),
    s.powered = true →
    s.valve.stage.filter (fun d => d.die == die.val && s.stageStands d) = [d] →
    d.slate = sl.val →
    d.basis = 1 →
    d.number = some n →
    d.loaded = true →
    (s.advance dt).atDie (4 * die) true d.instant = true →
    d.die = die.val →
    exec (.driveDieCarry dt die sl) s = .next (let a := s.advance dt
      let b : State := { a with valve := { a.valve with stage := a.valve.stage.filter (fun e => e != d && (e.die != die.val || a.stageStays e)), dies := upd a.valve.dies die fun v => { v with cfg := Store.putAll s.variant (d.entries.filter fun e => decide (0x60 ≤ e.1 / 65536)) v.cfg, carry := n } } }
      { (b.dieTally die d.entries).valveCarry ((nth s.valve.dies die).cfg.read s.variant) ((d.entries.filter fun e => decide (0x60 ≤ e.1 / 65536)).map (·.1)) with clk := a.clk, pending := a.pending }))

/-- For an enabled port. (a) CAMERA_CLOCK_LOSS with no frame open leaves the port NO_CLOCK and its guard BROKEN. (b) CAMERA_CLOCK_RETURN with no frame open brings a port without clock to SEARCHING. (c) CAMERA_STALE: with PCLK present and within its limit, no line-start edge for cam_stale_ms leaves the guard STALE and the state as it was. (d) CAMERA_LINE_START: an image line of an open frame that no context owns, not its last, counts one more line and row and notes the edge. These change the guard, state and line rate of this port, the camera bank, and for an edge the tally and the latency monitors. -/
def Obligations.CameraPortsAreWatched : Prop :=
  (∀ (s : State) (dt : Nat) (port : Fin 4),
    s.live = true →
    port.val < s.cam.ports.length →
    s.get (It.camEnable port) ≠ 0 →
    (s.port port).frame = none →
    ∃ t, exec (.cameraClockLoss dt port) s = .next t ∧ t.get (It.camState port) = 1 ∧ t.get (It.camGuard port) = 4 ∧
      t.cam = { s.cam with ports := upd s.cam.ports port fun x => { x with clock := false, win := (t.port port).win } } ∧
      ItemsBut [It.camState port, It.camGuard port, It.camLineRate port] s t ∧ SameOwner s t ∧
      t = { s with clk := s.clk.advance dt, items := t.items, mail := t.mail, cam := t.cam }) ∧
  (∀ (s : State) (dt : Nat) (port : Fin 4),
    s.live = true →
    port.val < s.cam.ports.length →
    s.get (It.camEnable port) ≠ 0 →
    (s.port port).frame = none →
    ∃ t, exec (.cameraClockReturn dt port) s = .next t ∧ t.get (It.camState port) = 2 ∧
      t.cam = { s.cam with ports := upd s.cam.ports port fun x => { x with clock := true, win := (t.port port).win } } ∧
      ItemsBut [It.camState port, It.camGuard port, It.camLineRate port] s t ∧ SameOwner s t ∧
      t = { s with clk := s.clk.advance dt, items := t.items, mail := t.mail, cam := t.cam }) ∧
  (∀ (s : State) (dt l : Nat) (port : Fin 4),
    s.live = true →
    s.get (It.camEnable port) ≠ 0 →
    (s.port port).clock = true →
    (s.port port).lastLine = some l →
    s.get (It.camStaleMs port) * 1000000 ≤ s.now + dt - l →
    s.get (It.camPclkKhz port) * 100 ≤ s.get (It.camPclkMaxKhz port) * 102 →
    ∃ t, exec (.cameraStale dt port) s = .next t ∧ t.get (It.camGuard port) = 3 ∧
      t.get (It.camState port) = (if (s.port port).frame = none then 2 else 3) ∧
      t.cam = { s.cam with ports := upd s.cam.ports port fun x => { x with win := (t.port port).win } } ∧
      ItemsBut [It.camState port, It.camGuard port, It.camLineRate port] s t ∧ SameOwner s t ∧
      t = { s with clk := s.clk.advance dt, items := t.items, mail := t.mail, cam := t.cam }) ∧
  (∀ (s : State) (dt : Nat) (port : Fin 4) (px : List (BitVec 16)) (overflow : Bool) (fr : CamFrame),
    s.live = true →
    port.val < s.cam.ports.length →
    s.get (It.camEnable port) ≠ 0 →
    (s.port port).frame = some fr →
    fr.ctx = none →
    fr.cfg.read s.variant (It.camEmbeddedLines port) ≤ fr.emb →
    fr.img + 1 ≠ fr.cfg.read s.variant (It.camHeight port) →
    ∃ t, exec (.cameraLineStart dt port px overflow) s = .next t ∧
      (t.port port).frame = some { fr with img := fr.img + 1, sof := if fr.emb = 0 ∧ fr.img = 0 then { fr.sof with lat := t.portLatency port } else fr.sof } ∧
      (t.port port).row = (s.port port).row + 1 ∧ (t.port port).lastLine = some (s.now + dt) ∧ (t.port port).clock = true ∧
      t.cam = { s.cam with ports := upd s.cam.ports port fun _ => t.port port } ∧ SameOwner s t ∧
      t = { s with clk := s.clk.advance dt, free := t.free, items := t.items, mail := t.mail, cam := t.cam, time := t.time })

/-- (a) CAMERA_FRAME_START on a VSYNC-framed port with no frame open, no trigger pulse ahead and no context enabled opens the frame of the next port frame number, stamped with row, mtime, position and latency. (b) CAMERA_TRIGGER with the mtime basis, for a new instant, sends one pulse command for cam_trig_do at the first multiple of the period at least 100 µs ahead, and notes the frame that it triggers, with the items in force. (c) STATISTICS_FINAL moves the oldest record that may become final to the kept records, of which the latest 16 stay, with the frame and carries in the context's items. (d) DETECTION_EMIT of a context that no view takes removes the oldest closed object, counts it and notes its time. -/
def Obligations.CameraFramesAndTriggers : Prop :=
  (∀ (s : State) (dt : Nat) (port : Fin 4),
    s.live = true →
    port.val < s.cam.ports.length →
    s.get (It.camEnable port) ≠ 0 →
    s.get (It.camFraming port) ≠ 1 →
    (s.port port).frame = none →
    (s.port port).trigs = [] →
    (∀ c < 8, s.get (It.ctxEnable c) ≠ 1) →
    ∃ t, exec (.cameraFrameStart dt port) s = .next t ∧ t.get (It.camPortFrame port) = s.get (It.camPortFrame port) + 1 ∧
      (t.port port).frame.map (fun f => (f.n, f.ctx, f.sof)) = some (s.get (It.camPortFrame port) + 1, none, { row := (s.port port).row, mtime := s.now + dt, tally := (s.advance dt).pos, lat := s.portLatency port }) ∧
      (t.port port).frame.map (fun f => (f.emb, f.img, f.dropped, f.tables)) = some (0, 0, false, s.cam.tables) ∧
      (t.port port).after = none ∧
      (t.port port).clock = true ∧ t.get (It.camState port) = 3 ∧ SameOwner s t ∧
      t = { s with clk := s.clk.advance dt, items := t.items, mail := t.mail, cam := t.cam }) ∧
  (∀ (s : State) (dt : Nat) (port : Fin 4),
    s.live = true →
    s.lanes.accepting = true →
    s.get (It.camTrigMode port) = 2 →
    0 < s.get (It.camTrigPeriodUs port) →
    s.committed = [] →
    (∀ c < 8, s.get (It.ctxEnable c) ≠ 1) →
    (s.port port).lastTrig ≠ some ((s.now + dt + 100000 + s.get (It.camTrigPeriodUs port) * 1000 - 1) / (s.get (It.camTrigPeriodUs port) * 1000) * (s.get (It.camTrigPeriodUs port) * 1000)) →
    exec (.cameraTrigger dt port) s = .next (let at_ := (s.now + dt + 100000 + s.get (It.camTrigPeriodUs port) * 1000 - 1) / (s.get (It.camTrigPeriodUs port) * 1000) * (s.get (It.camTrigPeriodUs port) * 1000)
      { s.advance dt with cam := { s.cam with ports := upd s.cam.ports port fun x => { x with lastTrig := some at_, trigs := x.trigs ++ [{ start := at_, frame := s.get (It.camPortFrame port) + 1 + (s.port port).trigs.length, carry := s.get It.carryNumber, cfg := s.items }] }, pulses := s.cam.pulses ++ [{ out := s.get (It.camTrigDo port), start := at_, width := s.get (It.camTrigWidthUs port), port := port, ctx := none }] } })) ∧
  (∀ (s : State) (dt : Nat) (ctx : Fin 8) (x : CamStats),
    s.live = true →
    ctx.val < s.cam.ctxs.length →
    (s.ctx ctx).waiting.find? (·.ready) = some x →
    ∃ t, exec (.statisticsFinal dt ctx) s = .next t ∧ (t.ctx ctx).kept.dropLast = (s.ctx ctx).kept.drop ((s.ctx ctx).kept.length + 1 - 16) ∧
      (t.ctx ctx).kept.getLast?.map (fun y => (y.frame, y.sum, y.count, y.hist, y.mtime, y.tally)) = some (x.frame, x.sum, x.count, x.hist, x.mtime, x.tally) ∧
      (t.ctx ctx).waiting = (s.ctx ctx).waiting.filter (fun z => z.frame != x.frame || z.port != x.port) ∧
      t.get (It.ctxFrame ctx) = x.frame ∧ t.get (It.ctxPipeCarry ctx) = x.pipeCarry ∧
      ItemsBut [It.ctxFrame ctx, It.ctxPipeCarry ctx, It.ctxExpCarry ctx] s t ∧
      t = { s with clk := s.clk.advance dt, free := t.free, items := t.items, cam := t.cam }) ∧
  (∀ (s : State) (dt : Nat) (ctx : Fin 8) (x : ClosedObj) (r : List ClosedObj),
    s.live = true →
    (s.ctx ctx).queue = x :: r →
    (∀ v < 4, s.viewOn v = false ∨ s.useK (It.tkViewCtx v) ≠ ctx.val) →
    exec (.detectionEmit dt ctx) s = .next (State.bump (It.ctxDetections ctx) { s.advance dt with free := s.free + 1, cam := { s.cam with ctxs := upd s.cam.ctxs ctx (fun y => { y with queue := r }), detTimes := (s.cam.detTimes.filter fun t => decide (s.now + dt < t + 10000000)) ++ [s.now + dt] } }))

/-- For a frame taken at once. (a) CAM_STATS_READ answers the kept record of the frame named, the latest for 2^64 − 1, and changes nothing. (b) CAM_FRAME_GRAB with no grab in progress answers the lines named of a stored frame and marks its buffer. (c) CAM_TABLE_LOAD of a whole valid image into a slot that no configuration uses stores kind and entries, with kind, count, CRC and build in the slot's items, and consumes the transfer. -/
def Obligations.CameraCommandsAnswer : Prop :=
  (∀ (s : State) (dt : Nat) (m : Fin 16) (h : Hdr) (p : List Byte) (x : CamStats),
    Accepts m (rowFrame 0x0700 h p) (s.advance dt) →
    u8At p 0 ≤ 7 →
    zeroAt p 1 7 = true →
    (if u64At p 8 = 2 ^ 64 - 1 then (s.ctx (u8At p 0)).kept.getLast? else (s.ctx (u8At p 0)).kept.find? fun y => y.frame == u64At p 8) = some x →
    exec (.camStatsRead dt m h p) s = .next (replied dt m (rowFrame 0x0700 h p) (okWith (x.bytes (u8At p 0))) id s)) ∧
  (∀ (s : State) (dt : Nat) (m : Fin 16) (h : Hdr) (p : List Byte) (b : FrameBuf),
    Accepts m (rowFrame 0x0701 h p) (s.advance dt) →
    u8At p 0 ≤ 7 →
    zeroAt p 1 1 = true →
    0 < u16At p 4 →
    u16At p 4 ≤ 1024 →
    zeroAt p 6 2 = true →
    (taking m (rowFrame 0x0701 h p) (s.advance dt)).grabbing = false →
    s.get (It.camPath (s.get (It.ctxPort (u8At p 0)))) ≠ 1 →
    (s.port (s.get (It.ctxPort (u8At p 0)))).ring.find? (fun x => x.frame == u64At p 8 && x.ctx == u8At p 0) = some b →
    u16At p 2 + u16At p 4 ≤ b.lines.length →
    exec (.camFrameGrab dt m h p) s = .next (replied dt m (rowFrame 0x0701 h p) (okWith (toLE 8 (u64At p 8) ++ toLE 2 (u16At p 2) ++ toLE 2 (u16At p 4) ++ toLE 2 (((b.lines.drop (u16At p 2)).take (u16At p 4)).headD []).length ++ toLE 2 0 ++
      ((b.lines.drop (u16At p 2)).take (u16At p 4)).flatten)) (fun a => { a with cam := { a.cam with ports := upd a.cam.ports (s.get (It.ctxPort (u8At p 0))) fun x => { x with ring := x.ring.map fun y => { y with grab := y.frame == u64At p 8 } } } }) s)) ∧
  (∀ (s : State) (dt : Nat) (m : Fin 16) (h : Hdr) (p img : List Byte),
    Accepts m (rowFrame 0x0702 h p) (s.advance dt) →
    u8At p 0 ≤ 15 →
    zeroAt p 1 1 = true →
    0 < u16At p 4 →
    zeroAt p 6 2 = true →
    ((taking m (rowFrame 0x0702 h p) (s.advance dt)).blkImage m (u16At p 2) (u16At p 4) (u32At p 8) (u32At p 12)).toOption = some img →
    tableOk img = true →
    (taking m (rowFrame 0x0702 h p) (s.advance dt)).configs.any (fun st => tableInUse (st.read s.variant) (u8At p 0)) = false →
    exec (.camTableLoad dt m h p) s = .next (replied dt m (rowFrame 0x0702 h p) (okWith []) (fun a => ((((({ a with cam := { a.cam with tables := upd a.cam.tables (u8At p 0) fun _ => { kind := u8At img 8, entries := tableEntries (u8At img 8) (img.drop 20) } } } : State).set
      (It.tabKind (u8At p 0)) (u8At img 8)).set (It.tabEntries (u8At p 0)) (u32At img 12)).set (It.tabCrc (u8At p 0)) (u32At p 12)).set (It.tabBuild (u8At p 0)) (u32At img 16)).blkConsume m (u16At p 2) (u16At p 4)) s))

/-- (a) HORIZON_RELEASE of the tracker with one buffered detection at or below the new horizon, no open batch of its view and no track: the horizon advances, and the detection, placed, begins the view's next batch. (b) BATCH_CLOSE of an open batch while the solver is busy queues it with its close instant. (c) SOLVE_DONE of a solve without candidates, on a view that gives no births: the record is kept, each detection counts as unmatched. (d) SOLVE_LATE after 2 ms drops the batch unsolved and counts. (e) MEMBER_WATERMARK_TIMEOUT of an aligned view that lags by more than the window returns it to UNALIGNED and drops its buffered samples. -/
def Obligations.TrackerSolvesInOrder : Prop :=
  (∀ (s : State) (dt : Nat) (x : Sample) (d : Detection),
    s.live = true →
    s.useK It.tkEnable = 1 →
    (s.fus.tracker.buf.filter fun y => decide (y.e ≤ (s.advance dt).newHorizon .tracker)) = [x] →
    x.det = some d →
    s.fus.batches.any (fun b => b.view == x.mem) = false →
    s.fus.tracks = [] →
    exec (.horizonRelease dt .tracker) s = .next { s.advance dt with fus := { s.fus with tracker := { s.fus.tracker with horizon := (s.advance dt).newHorizon .tracker, buf := s.fus.tracker.buf.filter fun y => decide ((s.advance dt).newHorizon .tracker < y.e) }, batches := s.fus.batches ++ [{ view := x.mem, seq := nth s.fus.seqs x.mem, dets := [s.placeDet x.mem x d] }], seqs := upd s.fus.seqs x.mem (fun n => (n + 1) % 4294967296) } }) ∧
  (∀ (s : State) (dt : Nat) (view : Fin 4) (b : Batch),
    s.live = true →
    s.fus.batches.find? (fun b => b.view == view.val) = some b →
    (256 ≤ b.dets.length ∨ ((b.dets.head?).map (·.e)).getD 0 + s.useK It.tkBatchUs * 1000 ≤ s.fus.tracker.horizon) →
    s.fus.solve.isSome = true →
    exec (.batchClose dt view) s = .next { s.advance dt with fus := { s.fus with batches := s.fus.batches.filter (fun x => x.view != view.val), closed := s.fus.closed ++ [{ b with closedAt := s.now + dt }] } }) ∧
  (∀ (s : State) (dt ns : Nat) (view : Fin 4) (x : Solve),
    s.live = true →
    s.fus.solve = some x →
    x.batch.view = view.val →
    x.rows = [] →
    x.cost = [] →
    s.useK (It.tkViewBirth view) ≠ 1 →
    s.fus.closed = [] →
    ∃ t, exec (.solveDone dt view ns) s = .next t ∧ t.fus.solve = none ∧
      nth t.fus.records view = (if view.val < s.fus.records.length then some (toLE 2 0 ++ toLE 2 x.batch.dets.length ++
        toLE 4 (x.birth * x.batch.dets.length) ++ toLE 1 view ++ toLE 1 (b2n x.truncated) ++ toLE 2 (ns / 10) ++ toLE 4 x.batch.seq) else none) ∧
      t.get It.tkSolveMaxNs = max (s.get It.tkSolveMaxNs) (sat32 ns) ∧ t.fus.tracks = s.fus.tracks ∧
      ItemsBut [It.tkSolvesPerS, It.tkSolveMaxNs, It.tkUnmatched] s t ∧
      t = { s with clk := s.clk.advance dt, items := t.items, fus := { s.fus with solve := none, records := t.fus.records, solves := t.fus.solves } }) ∧
  (∀ (s : State) (dt : Nat) (view : Fin 4) (b : Batch),
    s.live = true →
    s.fus.closed = [b] →
    b.view = view.val →
    b.closedAt + 2000000 ≤ s.now + dt →
    b.dets = [] →
    exec (.solveLate dt view) s = .next (State.bump It.tkSolveLate { s.advance dt with fus := { s.fus with closed := [] } })) ∧
  (∀ (s : State) (dt : Nat) (view : Fin 4),
    s.live = true →
    s.useK It.tkEnable ≠ 0 →
    view.val < s.fus.tracker.mems.length →
    (nth s.fus.tracker.mems view).aligned = true →
    (s.useK It.tkAlignUs * 1000 : Int) < ((s.now + dt : Nat) : Int) - (s.advance dt).mark .tracker view (.view view) →
    ∃ t, exec (.memberWatermarkTimeout dt .tracker (Fin.castLE (by decide) view)) s = .next t ∧ (nth t.fus.tracker.mems view).aligned = false ∧
      t.fus = { s.fus with tracker := { s.fus.tracker with mems := t.fus.tracker.mems, buf := s.fus.tracker.buf.filter fun x => x.mem != view.val } } ∧
      t.get (It.tkViewUnaligned view) = sat32 (s.get (It.tkViewUnaligned view) + 1) ∧ t.get (It.tkViewState view) = 1 ∧
      ItemsBut [It.tkViewUnaligned view, It.tkViewState view] s t ∧ SameOwner s t ∧
      t = { s with clk := s.clk.advance dt, items := t.items, mail := t.mail, fus := t.fus })

/-- (a) TRACK_EXPIRED: an undecided track at its life leaves for the history as expired. (b) STREAM_STALE: a CAN stream without sample for st_stale_ms has its guard STALE. For frames taken at once: (c) TRACK_READ answers the record of a live or past track. (d) SOLVE_READ answers the latest record of a view. (e) FU_TABLE_LOAD of a valid image into a slot the tracker does not use stores the table and its items. (f) CELL_READ answers a kept cell. -/
def Obligations.TrackingCommandsAnswer : Prop :=
  (∀ (s : State) (dt track : Nat) (x : Track),
    s.live = true →
    s.fus.tracks.find? (fun t => t.id == track) = some x →
    x.st = 0 →
    x.birth.e + s.useK It.tkTrackLifeMs * 1000000 ≤ ((s.now + dt : Nat) : Int) →
    exec (.trackExpired dt track) s = .next (State.bump It.tkExpired (State.set It.tkLive (s.fus.tracks.filter (fun y => y.id != x.id)).length { s.advance dt with fus := { s.fus with tracks := s.fus.tracks.filter (fun y => y.id != x.id), history := ({ x with st := 3 } :: s.fus.history).take 16777216 } }))) ∧
  (∀ (s : State) (dt l : Nat) (stream : Fin 32),
    s.live = true →
    33 ≤ s.useK (It.stSource stream) →
    s.useK (It.stSource stream) ≤ 38 →
    (nth s.fus.streams stream).last = some l →
    s.useK (It.stStaleMs stream) * 1000000 ≤ s.now + dt - l →
    exec (.streamStale dt stream) s = .next ((s.advance dt).set (It.stGuard stream) 3)) ∧
  (∀ (s : State) (dt : Nat) (m : Fin 16) (h : Hdr) (p : List Byte) (x : Track),
    Accepts m (rowFrame 0x0800 h p) (s.advance dt) →
    zeroAt p 4 4 = true →
    (s.fus.tracks ++ s.fus.history).find? (fun t => t.id == u32At p 0) = some x →
    exec (.trackRead dt m h p) s = .next (replied dt m (rowFrame 0x0800 h p) (okWith (x.bytes s.free)) (State.useFree 3) s)) ∧
  (∀ (s : State) (dt : Nat) (m : Fin 16) (h : Hdr) (p : List Byte),
    Accepts m (rowFrame 0x0801 h p) (s.advance dt) →
    u8At p 0 ≤ 3 →
    zeroAt p 1 3 = true →
    s.useK It.tkEnable = 1 →
    exec (.solveRead dt m h p) s = .next (replied dt m (rowFrame 0x0801 h p) (okWith ((nth s.fus.records (u8At p 0)).getD (toLE 8 0 ++ toLE 1 (u8At p 0) ++ toLE 7 0))) id s)) ∧
  (∀ (s : State) (dt : Nat) (m : Fin 16) (h : Hdr) (p img : List Byte) (x : FuTable),
    Accepts m (rowFrame 0x0802 h p) (s.advance dt) →
    u8At p 0 ≤ 7 →
    zeroAt p 1 1 = true →
    0 < u16At p 4 →
    zeroAt p 6 2 = true →
    ((taking m (rowFrame 0x0802 h p) (s.advance dt)).blkImage m (u16At p 2) (u16At p 4) (u32At p 8) (u32At p 12)).toOption = some img →
    fuTableOf img = some x →
    (taking m (rowFrame 0x0802 h p) (s.advance dt)).configs.any (fun st => fuTableInUse (st.read s.variant) (u8At p 0)) = false →
    exec (.fuTableLoad dt m h p) s = .next (replied dt m (rowFrame 0x0802 h p) (okWith []) (fun a => ((((({ a with fus := { a.fus with tables := upd a.fus.tables (u8At p 0) fun _ => x } } : State).set (It.ftKind (u8At p 0)) x.kind).set
      (It.ftEntries (u8At p 0)) (u32At img 12)).set (It.ftCrc (u8At p 0)) (u32At p 12)).set (It.ftBuild (u8At p 0)) (u32At img 16)).blkConsume m (u16At p 2) (u16At p 4)) s)) ∧
  (∀ (s : State) (dt : Nat) (m : Fin 16) (h : Hdr) (p : List Byte) (x : Nat × Nat × List Byte),
    Accepts m (rowFrame 0x0803 h p) (s.advance dt) →
    u8At p 0 ≤ 31 →
    zeroAt p 1 7 = true →
    (if u64At p 8 = 2 ^ 64 - 1 then (nth s.fus.gst (u8At p 0)).cells.getLast? else (nth s.fus.gst (u8At p 0)).cells.find? fun y => y.1 == u64At p 8) = some x →
    exec (.cellRead dt m h p) s = .next (replied dt m (rowFrame 0x0803 h p) (okWith x.2.2) id s))

/-- (a) LOOP_RELEASE at a release instant of an mtime-clocked loop in RUN, with no release of a slot before it on its engine due, process value from a valid stream, no feed-forward source, beam, cascade, destination, rate limit or trace: rod_pv is the scaled value, rod_sp_eff the set-point, the integrator moves by its step within both clamps and what leaves the output in its limits, and rod_out is the rest plus the integrator, limited; rest and step are those of the law. (b) RUN_DEADLINE of a run still in progress at the next release abandons it: counted, flag [5], its run leaves the engine, loop HOLD below the overrun limit. (c) ROD_RESET_EFFECT after the next K returns a loop outside every cascade from FAILSAFE to RUN. -/
def Obligations.LoopsRun : Prop :=
  (∀ (s : State) (dt execNs : Nat) (loop : Fin 128),
    s.live = true →
    loop.val < s.rods.rods.length →
    s.get (It.rodState loop) = 1 →
    s.useK (It.rodClock loop) = 0 →
    (s.rod loop).relAt ≠ some (s.now + dt) →
    (∀ k < 16, loop.val % 16 ≤ k ∨ (s.advance dt).releaseNow (loop.val / 16 * 16 + k) = false) →
    (((s.now + dt : Nat) : Int) - 1000 * (s.useK (It.rodPhaseUs loop) : Int)) % (1000 * (s.useK (It.rodPeriodUs loop) : Int)) = 0 →
    (s.rod loop).running = none →
    s.useK (It.rodPvSrc loop) = 1 →
    s.get (It.stState (s.useK (It.rodPvInst loop))) = 2 →
    s.get (It.stGuard (s.useK (It.rodPvInst loop))) = 0 →
    s.useK (It.rodFfSrc loop) = 0 →
    s.useK (It.rodDest loop) = 0 →
    beamOf s.useK loop = none →
    innerOf s.useK loop = none →
    outersOf s.useK loop = [] →
    (s.rod loop).init = none →
    (s.rod loop).old = none →
    (s.rod loop).nofollow = false →
    s.useK (It.rodSpRate loop) = 0 →
    s.rods.trace = none →
    ∃ t, exec (.loopRelease dt loop true execNs) s = .next t ∧
      (let pv := qm (s.geti (It.stValue (s.useK (It.rodPvInst loop)))) (s.useKi (It.rodPvScale loop))
       let sp := s.useKi (It.setPoint loop)
       let o := s.law loop (s.gains loop) sp pv 0 (s.rod loop).d (s.geti (It.rodPv loop))
       let lo := s.useKi (It.rodOutMin loop)
       let hi := s.useKi (It.rodOutMax loop)
       let i := clampInt (s.useKi (It.rodIMin loop)) (s.useKi (It.rodIMax loop)) (clampInt (qs (lo - o.rest)) (qs (hi - o.rest)) (qs (s.geti (It.rodI loop) + o.di)))
       t.get (It.rodPv loop) = twos 32 pv ∧ t.get (It.rodSpEff loop) = twos 32 sp ∧ t.get (It.rodI loop) = twos 32 i ∧
         t.get (It.rodOut loop) = twos 32 (clampInt lo hi (qs (o.rest + i)))) ∧
      t.get (It.rodState loop) = 1 ∧ t.get (It.rodLastRelease loop) = s.now + dt ∧ (t.rod loop).runAt = some (s.now + dt) ∧ (t.rod loop).relAt = some (s.now + dt) ∧
      ItemsBut [It.rodPv loop, It.rodSpEff loop, It.rodI loop, It.rodOut loop, It.rodFlags loop, It.rodLastRelease loop, It.rodExecMaxNs loop, It.engPreemptions (loop / 16)] s t ∧
      t = { s with clk := s.clk.advance dt, items := t.items, rods := t.rods }) ∧
  (∀ (s : State) (dt : Nat) (run : RodRun) (loop : Fin 128),
    s.live = true →
    loop.val < s.rods.rods.length →
    (s.rod loop).running = some run →
    outersOf s.useK loop = [] →
    s.useK (It.rodClock loop) = 0 →
    s.nextRelease loop run.at_ ≤ ((s.now + dt : Nat) : Int) →
    s.get (It.rodState loop) = 1 →
    (s.rod loop).overs + 1 < s.useK (It.rodOverrunN loop) →
    innerOf s.useK loop = none →
    s.rods.trace = none →
    ∃ t, exec (.runDeadline dt loop) s = .next t ∧ t.get (It.rodState loop) = 2 ∧ t.get (It.rodOverruns loop) = sat32 (s.get (It.rodOverruns loop) + 1) ∧
      t.get (It.rodFlags loop) = ((s.get (It.rodFlags loop) &&& 1023) ||| 32) ∧
      t.rods = { s.rods with rods := upd s.rods.rods loop (fun r => { r with running := none, overs := r.overs + 1, good := 0, okRun := false }), jobs := t.rods.jobs, jobsAt := t.rods.jobsAt } ∧
      (nth t.rods.jobs (loop.val / 16)).any (fun j => j.slot == loop.val % 16) = false ∧
      ItemsBut [It.rodState loop, It.rodOverruns loop, It.rodFlags loop] s t ∧ SameOwner s t ∧
      t = { s with clk := s.clk.advance dt, items := t.items, mail := t.mail, rods := t.rods }) ∧
  (∀ (s : State) (dt k cause : Nat) (loop : Fin 128),
    s.live = true →
    loop.val < s.rods.rods.length →
    (s.rod loop).ending = some (k, cause) →
    k < s.clk.kLast →
    s.get (It.rodState loop) = 4 →
    (s.rod loop).fsChan = none →
    innerOf s.useK loop = none →
    outersOf s.useK loop = [] →
    exec (.rodResetEffect dt loop) s = .next ((State.set (It.rodState loop) 1 { s.advance dt with rods := { s.rods with rods := upd s.rods.rods loop fun r => { r with ending := none, init := some .failsafe, inval := 0, overs := 0 } } }).emit 0x0680
      (toLE 1 loop ++ toLE 1 0 ++ toLE 2 1 ++ toLE 2 cause ++ toLE 2 0 ++ toLE 8 (s.now + dt))))

/-- For frames taken at once. (a) ROD_READ answers the loop's record and changes nothing. (b) ROD_RESET of a loop in FAILSAFE asks for its end at the next K. (c) BEAM_READ answers the beam's latest evaluation. (d) ROD_TRACE_ARM of 1 to 256 runs, with no trace held, arms the trace of the loop for the master. (e) ROD_TRACE_READ of its master answers the runs traced so far and frees a complete trace. -/
def Obligations.LoopCommandsAnswer : Prop :=
  (∀ (s : State) (dt : Nat) (m : Fin 16) (h : Hdr) (p : List Byte),
    Accepts m (rowFrame 0x0600 h p) (s.advance dt) →
    u8At p 0 ≤ 127 →
    zeroAt p 1 3 = true →
    exec (.rodRead dt m h p) s = .next (replied dt m (rowFrame 0x0600 h p) (okWith (toLE 1 (u8At p 0) ++ toLE 1 (s.get (It.rodState (u8At p 0))) ++ toLE 2 (s.get (It.rodFlags (u8At p 0))) ++ toLE 4 (s.rod (u8At p 0)).carry ++
      toLE 8 (s.get (It.rodLastRelease (u8At p 0))) ++ toLE 8 (s.rod (u8At p 0)).tally ++ toLE 4 (s.get (It.rodPv (u8At p 0))) ++ toLE 4 (s.get (It.rodSpEff (u8At p 0))) ++
      toLE 4 (twos 32 (s.rod (u8At p 0)).p) ++ toLE 4 (s.get (It.rodI (u8At p 0))) ++ toLE 4 (twos 32 (s.rod (u8At p 0)).d) ++ toLE 4 (s.get (It.rodOut (u8At p 0))))) id s)) ∧
  (∀ (s : State) (dt : Nat) (m : Fin 16) (h : Hdr) (p : List Byte),
    Accepts m (rowFrame 0x0601 h p) (s.advance dt) →
    u8At p 0 ≤ 127 →
    zeroAt p 1 3 = true →
    s.get (It.rodState (u8At p 0)) = 4 →
    exec (.rodReset dt m h p) s = .next (replied dt m (rowFrame 0x0601 h p) (okWith []) (fun b => { b with rods := { b.rods with rods := upd b.rods.rods (u8At p 0) fun r => { r with ending := some (s.clk.kLast, 5) } } }) s)) ∧
  (∀ (s : State) (dt : Nat) (m : Fin 16) (h : Hdr) (p : List Byte),
    Accepts m (rowFrame 0x0602 h p) (s.advance dt) →
    u8At p 0 ≤ 15 →
    zeroAt p 1 3 = true →
    exec (.beamRead dt m h p) s = .next (replied dt m (rowFrame 0x0602 h p) (okWith (toLE 1 (u8At p 0) ++ toLE 1 (s.get (It.beamWinner (u8At p 0))) ++ toLE 2 (s.beam (u8At p 0)).members ++ toLE 4 (s.beam (u8At p 0)).carry ++
      toLE 8 (s.get (It.beamLastEval (u8At p 0))) ++ toLE 4 (s.get (It.beamOut (u8At p 0))) ++ toLE 4 (s.beam (u8At p 0)).limit ++
      (List.range 8).flatMap fun i => toLE 4 ((s.beam (u8At p 0)).outs.getD i 0))) id s)) ∧
  (∀ (s : State) (dt : Nat) (m : Fin 16) (h : Hdr) (p : List Byte),
    Accepts m (rowFrame 0x0603 h p) (s.advance dt) →
    u8At p 0 ≤ 127 →
    0 < u16At p 2 →
    u16At p 2 ≤ 256 →
    zeroAt p 1 1 = true →
    s.rods.trace = none →
    exec (.rodTraceArm dt m h p) s = .next (replied dt m (rowFrame 0x0603 h p) (okWith []) (fun b => { b with rods := { b.rods with trace := some { master := m, loop := u8At p 0, want := u16At p 2 } } }) s)) ∧
  (∀ (s : State) (dt : Nat) (m : Fin 16) (h : Hdr) (p : List Byte) (x : RodTrace),
    Accepts m (rowFrame 0x0604 h p) (s.advance dt) →
    s.rods.trace = some x →
    x.master = m.val →
    exec (.rodTraceRead dt m h p) s = .next (replied dt m (rowFrame 0x0604 h p) (okWith (toLE 1 x.loop ++ toLE 1 (b2n (x.runs.length == x.want)) ++ toLE 2 x.runs.length ++ toLE 4 0 ++ x.runs.flatten)) (fun b =>
      if x.runs.length = x.want then { b with rods := { b.rods with trace := none } } else b) s))

/-- (a) BEAD_ARRIVAL from the accepted lane at a bank in RUN, of a key not known and with room, queues the bead by position and counts the queue. (b) BEAD_DUE of the only queued bead, an on bead on mtime that every test of the decision admits, on an IDLE channel: it starts, takes the gate and is counted. (c) BOOST_END with no deferred bead: PEAK begins, the gate is released, the boost time is kept. (d) PEAK_DWELL_END: HOLD. (e) BEAD_END of a pulse bead past its end: QUENCH. (f) QUENCH_END: the bead is logged as completed, the channel is IDLE with no trips. Nothing else changes. -/
def Obligations.BeadsRunTheirProfile : Prop :=
  (∀ (s : State) (dt : Nat) (lane : Fin 2) (bank : Fin 16) (bead : Bead),
    s.powered = true →
    s.accepts lane = true →
    bead.ch.val / 8 = bank.val →
    bank.val < s.valve.banks.length →
    s.get (It.bankState bank) = 1 →
    (s.vb bank).started.contains (beadKey bead) = false →
    (s.vb bank).queue.any (fun q => beadKey q.bead == beadKey bead) = false →
    (s.vb bank).queue.length < 1024 →
    exec (.beadArrival dt lane bank bead) s = .next ((({ s.advance dt with valve := { s.valve with outbound := s.valve.outbound.erase bead, banks := upd s.valve.banks bank fun v => { v with queue := insertBead { bead := bead } v.queue } } } : State).set
      (It.queueDepth bank) ((s.vb bank).queue.length + 1)).set (It.queuePeak bank) (max (s.get (It.queuePeak bank)) ((s.vb bank).queue.length + 1)))) ∧
  (∀ (s : State) (dt : Nat) (bank : Fin 16) (x : Bead),
    s.powered = true →
    bank.val < s.valve.banks.length →
    x.ch.val < s.valve.chans.length →
    x.ch.val / 8 = bank.val →
    s.get (It.bankState bank) = 1 →
    (s.vb bank).queue = [{ bead := x }] →
    (s.vb bank).gate = none →
    x.op = .on →
    x.onMtime = true →
    x.position.toNat ≤ (s.advance dt).dieTime bank →
    (s.advance dt).dieTime bank - x.position.toNat ≤ s.up + dt →
    (s.advance dt).dieTime bank - x.position.toNat ≤ s.vget bank (It.profLateUs (s.profOf x)) * 1000 →
    s.vget bank (It.chMode x.ch) = 1 →
    s.chSt x.ch = 1 →
    (s.vc x.ch).run = none →
    s.tierOf bank < 2 →
    s.get (It.boostReady bank) = 1 →
    s.reserved bank + s.vget bank (It.chPeakA x.ch) ≤ s.get (It.bankLimitA bank) + s.reservation x.ch →
    ∃ t, exec (.beadDue dt bank) s = .next t ∧ t.chSt x.ch = 2 ∧ (t.vb bank).gate = some x.ch.val ∧ (t.vb bank).queue = [] ∧
      (t.vc x.ch).run.map (fun r => (r.bead, r.start, r.peak, r.hold)) = some (x, (s.advance dt).dieTime bank, s.vget bank (It.chPeakA x.ch), s.vget bank (It.chHoldA x.ch)) ∧
      (t.vc x.ch).at_ = s.up + dt ∧ t.get (It.beadsStarted bank) = sat32 (s.get (It.beadsStarted bank) + 1) ∧
      t.get (It.chPulses x.ch) = sat32 (s.get (It.chPulses x.ch) + 1) ∧
      t.get (It.chLatenessUs x.ch) = min (((s.advance dt).dieTime bank - x.position.toNat) / 1000) 65535 ∧
      ItemsBut [It.chState x.ch, It.beadsStarted bank, It.chPulses x.ch, It.chLatenessUs x.ch, It.queueDepth bank, It.queuePeak bank] s t ∧
      t = { s with clk := s.clk.advance dt, items := t.items, valve := { s.valve with banks := t.valve.banks, chans := t.valve.chans } }) ∧
  (∀ (s : State) (dt riseNs : Nat) (ch : Fin 128) (r : ProfRun),
    s.powered = true →
    ch.val / 8 < s.valve.banks.length →
    ch.val < s.valve.chans.length →
    s.chSt ch = 2 →
    (s.vc ch).run = some r →
    (s.vc ch).safe = .none →
    (s.vb (ch / 8)).gate = some ch.val →
    (∀ q ∈ (s.vb (ch / 8)).queue, q.reason = none) →
    (∀ c < 128, (s.vc c).safe ≠ .wait) →
    ∃ t, exec (.boostEnd dt ch riseNs) s = .next t ∧ t.chSt ch = 3 ∧ (t.vb (ch / 8)).gate = none ∧
      (t.vc ch).run = some { r with boost := s.up + dt - (s.vc ch).at_ } ∧ (t.vc ch).at_ = s.up + dt ∧
      t.get (It.chTBoostNs ch) = sat32 (s.up + dt - (s.vc ch).at_) ∧
      ItemsBut [It.chState ch, It.chTBoostNs ch, It.chLMh ch, It.chCoilGuard ch] s t ∧ SameOwner s t ∧
      t = { s with clk := s.clk.advance dt, free := s.free + 1, items := t.items, mail := t.mail, hist := t.hist, valve := { s.valve with banks := t.valve.banks, chans := t.valve.chans } }) ∧
  (∀ (s : State) (dt : Nat) (ch : Fin 128) (r : ProfRun),
    s.powered = true →
    s.chSt ch = 3 →
    (s.vc ch).run = some r →
    (s.vc ch).safe = .none →
    (s.vc ch).at_ + r.dwell ≤ s.up + dt →
    exec (.peakDwellEnd dt ch) s = .next { (s.advance dt).set (It.chState ch) 4 with valve := { s.valve with chans := upd s.valve.chans ch fun y => { y with at_ := s.up + dt, holdAt := s.up + dt } } }) ∧
  (∀ (s : State) (dt : Nat) (ch : Fin 128) (r : ProfRun),
    s.powered = true →
    s.chSt ch = 4 →
    (s.vc ch).run = some r →
    r.bead.op = .pulse →
    r.bead.onMtime = true →
    beadEndPos r.bead ≤ (s.advance dt).dieTime (ch / 8) →
    (s.vc ch).holdAt + r.holdMin ≤ s.up + dt →
    exec (.beadEnd dt ch) s = .next { (s.advance dt).set (It.chState ch) 5 with valve := { s.valve with banks := upd s.valve.banks (ch / 8) (fun v => { v with gate := if v.gate = some ch.val then none else v.gate }), chans := upd s.valve.chans ch fun y => { y with at_ := s.up + dt } } }) ∧
  (∀ (s : State) (dt : Nat) (ch : Fin 128) (r : ProfRun),
    s.powered = true →
    ch.val / 8 < s.valve.banks.length →
    ch.val < s.valve.chans.length →
    s.chSt ch = 5 →
    (s.vc ch).run = some r →
    (s.vc ch).rodSafe = false →
    s.get (It.bankState (ch / 8)) = 1 →
    s.vget (ch / 8) (It.chMode ch) = 1 →
    ∃ t, exec (.quenchEnd dt ch) s = .next t ∧ t.chSt ch = 1 ∧ (t.vc ch).run = none ∧ (t.vc ch).trips = 0 ∧
      (t.vb (ch / 8)).log.getLast? = some (beadRecord r.bead 0 r.late r.start r.carry r.boost r.tier (4 * b2n r.timedOut + 16 * b2n r.cut)) ∧
      (t.vb (ch / 8)).log.length ≤ 64 ∧ ItemsBut [It.chState ch] s t ∧
      t = { s with clk := s.clk.advance dt, items := t.items, valve := { s.valve with banks := t.valve.banks, chans := t.valve.chans } })

/-- (a) CURRENT_LOOP_PERIOD of a bank whose eight channels hold, none off: each measured current and their sum are shown, and the duty and integral of each channel follow the PI law from its hold current. (b) DITHER_SETPOINT from the accepted lane in the range of a channel that follows is its set-point. (c) BOOST_TIMEOUT with at least 0.2 A: fault 4, the open-load count, PEAK, the gate released. (d) CHANNEL_SHORT_TRIP in HOLD with retries left: the profile ends with outcome 6, RETRY_WAIT, fault 1, counted. (e) CHANNEL_RETRY_EXPIRY in a bank in RUN: a boost-hold channel is IDLE again. -/
def Obligations.ChannelsAreRegulatedAndProtected : Prop :=
  (∀ (s : State) (dt : Nat) (bank : Fin 16) (sense : BankSense),
    s.powered = true →
    bank.val < s.valve.banks.length →
    s.valve.chans.length = 128 →
    (∀ i < 8, s.chSt (bank.val * 8 + i) = 4) →
    (∀ i < 8, (s.vc (bank.val * 8 + i)).run ≠ none) →
    sense.off = [] →
    sense.ohms = [] →
    (∀ q ∈ (s.vb bank).queue, q.reason = none) →
    (∀ c < 128, (s.vc c).safe ≠ .wait) →
    ∃ t, exec (.currentLoopPeriod dt bank sense) s = .next t ∧ t.get (It.bankCurrentA bank) = (sense.current.map (·.2)).sum ∧
      (∀ i < 8, t.get (It.chCurrentA (bank.val * 8 + i)) = ((sense.current.find? fun o => o.1.val == i).map (·.2)).getD 0) ∧
      (∀ i < 8, t.get (It.chSpInUseA (bank.val * 8 + i)) = ((s.vc (bank.val * 8 + i)).run.map (·.hold)).getD 0) ∧
      (∀ i < 8, ((t.vc (bank.val * 8 + i)).duty, (t.vc (bank.val * 8 + i)).integ) = (match (s.vc (bank.val * 8 + i)).run with | some r => piStep r.kp r.ki ((r.hold : Int) - (t.get (It.chCurrentA (bank.val * 8 + i)) : Int)) (s.vc (bank.val * 8 + i)).integ | none => (0, 0))) ∧
      ItemsBut (It.bankCurrentA bank :: (List.range 8).flatMap fun i => [It.chCurrentA (bank.val * 8 + i), It.chSpInUseA (bank.val * 8 + i)]) s t ∧
      t = { s with clk := s.clk.advance dt, items := t.items, valve := { s.valve with chans := t.valve.chans } }) ∧
  (∀ (s : State) (dt : Nat) (lane : Fin 2) (ch : Fin 128) (value : BitVec 32),
    s.powered = true →
    s.accepts lane = true →
    s.get (It.bankState (ch / 8)) = 1 →
    s.chSt ch < 7 →
    value.toNat < 2147483648 →
    value.toNat ≤ s.vget (ch / 8) (It.chImaxA ch) →
    exec (.ditherSetpoint dt lane ch value) s = .next { s.advance dt with valve := { s.valve with setOut := s.valve.setOut.erase (ch.val, value.toNat), chans := upd s.valve.chans ch fun x => { x with sp := some value.toNat } } }) ∧
  (∀ (s : State) (dt : Nat) (ch : Fin 128) (sense : BoostSense) (r : ProfRun),
    s.powered = true →
    ch.val / 8 < s.valve.banks.length →
    ch.val < s.valve.chans.length →
    s.chSt ch = 2 →
    (s.vc ch).run = some r →
    (s.vc ch).safe = .none →
    (s.vc ch).vals.limit ≤ s.up + dt - (s.vc ch).at_ →
    65536 ≤ sense.current * 5 →
    (s.vb (ch / 8)).gate = some ch.val →
    (∀ q ∈ (s.vb (ch / 8)).queue, q.reason = none) →
    (∀ c < 128, (s.vc c).safe ≠ .wait) →
    ∃ t, exec (.boostTimeout dt ch sense) s = .next t ∧ t.chSt ch = 3 ∧ (t.vb (ch / 8)).gate = none ∧ t.get (It.chFault ch) = 4 ∧
      t.get (It.chOpenLoads ch) = sat32 (s.get (It.chOpenLoads ch) + 1) ∧ t.get (It.chTBoostNs ch) = sat32 (s.up + dt - (s.vc ch).at_) ∧
      (t.vc ch).run = some { r with boost := s.up + dt - (s.vc ch).at_, timedOut := true } ∧
      (2 * sense.current < (s.vc ch).vals.peak ∨ t.free = s.free + 1) ∧
      ItemsBut [It.chState ch, It.chFault ch, It.chOpenLoads ch, It.chTBoostNs ch, It.chLMh ch, It.chCoilGuard ch] s t ∧ SameOwner s t ∧
      t = { s with clk := s.clk.advance dt, free := t.free, items := t.items, mail := t.mail, hist := t.hist, valve := { s.valve with banks := t.valve.banks, chans := t.valve.chans } }) ∧
  (∀ (s : State) (dt : Nat) (ch : Fin 128) (r : ProfRun),
    s.powered = true →
    ch.val / 8 < s.valve.banks.length →
    ch.val < s.valve.chans.length →
    s.chSt ch = 4 →
    (s.vc ch).run = some r →
    (s.vc ch).trips < s.vget (ch / 8) (It.chRetryN ch) →
    (∀ q ∈ (s.vb (ch / 8)).queue, q.reason = none) →
    (∀ c < 128, (s.vc c).safe ≠ .wait) →
    ∃ t, exec (.channelShortTrip dt ch) s = .next t ∧ t.chSt ch = 8 ∧ t.get (It.chFault ch) = 1 ∧ t.get (It.chTrips ch) = sat32 (s.get (It.chTrips ch) + 1) ∧
      (t.vc ch).run = none ∧ (t.vc ch).trips = (s.vc ch).trips + 1 ∧ (t.vc ch).at_ = s.up + dt ∧
      (t.vb (ch / 8)).log.getLast? = some (beadRecord r.bead 6 r.late r.start r.carry r.boost r.tier (0 + 4 * b2n r.timedOut + 16 * b2n r.cut)) ∧
      ItemsBut [It.chState ch, It.chFault ch, It.chTrips ch] s t ∧ SameOwner s t ∧
      t = { s with clk := s.clk.advance dt, items := t.items, mail := t.mail, valve := { s.valve with banks := t.valve.banks, chans := t.valve.chans } }) ∧
  (∀ (s : State) (dt : Nat) (ch : Fin 128),
    s.powered = true →
    s.chSt ch = 8 →
    (s.vc ch).at_ + s.vget (ch / 8) (It.chRetryMs ch) * 1000000 ≤ s.up + dt →
    (s.vc ch).rodSafe = false →
    s.get (It.bankState (ch / 8)) = 1 →
    s.vget (ch / 8) (It.chMode ch) = 1 →
    ∃ t, exec (.channelRetryExpiry dt ch) s = .next t ∧ t.chSt ch = 1 ∧ ItemsBut [It.chState ch] s t ∧
      t = { s with clk := s.clk.advance dt, items := t.items, valve := { s.valve with banks := upd s.valve.banks (ch / 8) (fun v => { v with gate := if v.gate = some ch.val then none else v.gate }), chans := upd s.valve.chans ch fun x => { x with safe := .none, duty := 0, integ := 0, at_ := s.up + dt } } })

/-- A bank rests when it is in RUN with nothing queued, no cause, no fault, no wait, and its channels idle. (a) HIGH_SIDE_SHORT_TRIP of a resting bank: FAULT with cause [3] and fault [0], every channel safe with fault 5, counted. (b) BOOST_RAIL_READY at tier 0 of at least 90 V: ready, the converter at 96 V, or off for a bank disabled or at rest. (c) BOOST_LOW_TIMEOUT after 5 ms: fault [1] with its event. (d) DRIVE_TIER_CHANGE of a measurement that changes no tier: shown only; (e) from tier 0 to 1 on a die of disabled banks: the tier of its four banks. (f) SAG_RECOVERY_READY after 20 ms: the waiting bank returns at the next K. (g) DRIVE_OUTPUT_TIMEOUT after 2 ms without message on a die of resting banks: all SAFE with cause [1], counted. -/
def Obligations.BanksFailSafeAndRecover : Prop :=
  (∀ (s : State) (dt : Nat) (bank : Fin 16),
    s.powered = true →
    bank.val < s.valve.banks.length →
    s.valve.chans.length = 128 →
    s.get (It.bankState bank) = 1 →
    s.get (It.bankSafeCause bank) = 0 →
    s.get (It.bankFault bank) = 0 →
    s.vget bank (It.bankEnable bank) = 1 →
    (s.vb bank).idle = false →
    (s.vb bank).wait = none →
    (s.vb bank).queue = [] →
    (∀ i < 8, s.chSt (bank.val * 8 + i) = 1) →
    (∀ i < 8, (s.vc (bank.val * 8 + i)).run = none) →
    (∀ i < 8, (s.vc (bank.val * 8 + i)).safe = .none) →
    ∃ t, exec (.highSideShortTrip dt bank) s = .next t ∧ t.get (It.bankState bank) = 3 ∧ t.get (It.bankSafeCause bank) = 8 ∧ t.get (It.bankFault bank) = 1 ∧
      t.get (It.hsTrips bank) = sat32 (s.get (It.hsTrips bank) + 1) ∧
      (∀ i < 8, (t.get (It.chFault (bank.val * 8 + i)), t.chSt (bank.val * 8 + i), (t.vc (bank.val * 8 + i)).safe) = (5, 7, SafePhase.off)) ∧
      ItemsBut ([It.bankState bank, It.bankSafeCause bank, It.bankFault bank, It.hsTrips bank, It.queueDepth bank, It.queuePeak bank] ++ (List.range 8).flatMap fun i => [It.chFault (bank.val * 8 + i), It.chState (bank.val * 8 + i)]) s t ∧ SameOwner s t ∧
      t = { s with clk := s.clk.advance dt, items := t.items, mail := t.mail, valve := { s.valve with banks := t.valve.banks, chans := t.valve.chans } }) ∧
  (∀ (s : State) (dt volts : Nat) (bank : Fin 16),
    s.powered = true →
    s.tierOf bank = 0 →
    90 * 65536 ≤ volts →
    s.get (It.bankFault bank) = 0 →
    s.bankCode bank = s.get (It.bankState bank) →
    (∀ q ∈ (s.vb bank).queue, q.reason = none) →
    (∀ c < 128, (s.vc c).safe ≠ .wait) →
    ∃ t, exec (.boostRailReady dt bank volts) s = .next t ∧ t.get (It.boostV bank) = volts ∧ t.get (It.boostReady bank) = 1 ∧
      ItemsBut [It.boostV bank, It.boostReady bank] s t ∧
      t = { s with clk := s.clk.advance dt, items := t.items, valve := { s.valve with banks := upd s.valve.banks bank fun v => { v with notReady := none, target := if s.vget bank (It.bankEnable bank) = 0 ∨ v.idle = true then 0 else 96 } } }) ∧
  (∀ (s : State) (dt t0 : Nat) (bank : Fin 16),
    s.powered = true →
    (s.vb bank).notReady = some t0 →
    t0 + 5000000 ≤ s.up + dt →
    s.get (It.bankFault bank) = 0 →
    s.bankCode bank = s.get (It.bankState bank) →
    (∀ c < 128, (s.vc c).safe ≠ .wait) →
    ∃ t, exec (.boostLowTimeout dt bank) s = .next t ∧ t.get (It.bankFault bank) = 2 ∧ t.get (It.bankState bank) = s.get (It.bankState bank) ∧
      ItemsBut [It.bankFault bank] s t ∧ SameOwner s t ∧
      t = { s with clk := s.clk.advance dt, items := t.items, mail := t.mail, valve := { s.valve with banks := t.valve.banks } }) ∧
  (∀ (s : State) (dt volts : Nat) (die : Fin 4),
    s.powered = true →
    sagTier (s.tierOf (die.val * 4)) volts = s.tierOf (die.val * 4) →
    exec (.driveTierChange dt die volts) s = .next ((s.advance dt).set (It.drvMainsV die) volts)) ∧
  (∀ (s : State) (dt volts : Nat) (die : Fin 4),
    s.powered = true →
    s.tierOf (die.val * 4) = 0 →
    30 * 65536 ≤ volts →
    volts < 34 * 65536 →
    (∀ i < 4, s.get (It.bankState (die.val * 4 + i)) = 0) →
    (∀ i < 4, s.vget (die.val * 4 + i) (It.bankEnable (die.val * 4 + i)) = 0) →
    (∀ i < 4, s.get (It.bankFault (die.val * 4 + i)) = 0) →
    (∀ i < 4, (s.vb (die.val * 4 + i)).queue = []) →
    (∀ c < 128, (s.vc c).safe ≠ .wait) →
    ∃ t, exec (.driveTierChange dt die volts) s = .next t ∧ t.get (It.drvMainsV die) = volts ∧
      (∀ i < 4, t.tierOf (die.val * 4 + i) = 1) ∧
      (∀ i < 4, t.get (It.boostReady (die.val * 4 + i)) = b2n (decide (75 * 65536 ≤ s.get (It.boostV (die.val * 4 + i))))) ∧
      ItemsBut (It.drvMainsV die :: (List.range 4).flatMap fun i => [It.bankSagTier (die.val * 4 + i), It.boostReady (die.val * 4 + i)]) s t ∧ SameOwner s t ∧
      t = { s with clk := s.clk.advance dt, items := t.items, mail := t.mail, valve := { s.valve with banks := t.valve.banks } }) ∧
  (∀ (s : State) (dt t0 : Nat) (bank : Fin 16),
    s.powered = true →
    (s.vb bank).wait = some (t0, false) →
    t0 + 20000000 ≤ s.up + dt →
    (∀ b < 16, b = bank.val ∨ (s.vb b).wait = none) →
    exec (.sagRecoveryReady dt) s = .next { s.advance dt with valve := { s.valve with banks := upd s.valve.banks bank fun v => { v with go := true } } }) ∧
  (∀ (s : State) (dt : Nat) (die : Fin 4),
    s.powered = true →
    s.valve.banks.length = 16 →
    s.valve.chans.length = 128 →
    (s.follower (die.val * 4)).lastMsg + 2000000 ≤ s.up + dt →
    (∀ b < 16, b / 4 ≠ die.val ∨ (s.get (It.bankState b) = 1 ∧ s.get (It.bankSafeCause b) = 0 ∧ s.get (It.bankFault b) = 0 ∧ s.vget b (It.bankEnable b) = 1 ∧ (s.vb b).idle = false ∧ (s.vb b).wait = none ∧ (s.vb b).queue = [])) →
    (∀ c < 128, c / 32 ≠ die.val ∨ (s.chSt c = 1 ∧ (s.vc c).run = none ∧ s.vget (c / 8) (It.chSafe c) = 0)) →
    (∀ c < 128, (s.vc c).safe = .none) →
    ∃ t, exec (.driveOutputTimeout dt die) s = .next t ∧ t.get (It.drvTimeouts die) = sat32 (s.get (It.drvTimeouts die) + 1) ∧
      (∀ i < 4, (t.get (It.bankState (die.val * 4 + i)), t.get (It.bankSafeCause (die.val * 4 + i))) = (2, 2)) ∧
      (∀ i < 32, (t.chSt (die.val * 32 + i), (t.vc (die.val * 32 + i)).safe) = (7, SafePhase.off)) ∧
      ItemsBut (It.drvTimeouts die :: ((List.range 4).flatMap fun i => [It.bankState (die.val * 4 + i), It.bankSafeCause (die.val * 4 + i), It.queueDepth (die.val * 4 + i), It.queuePeak (die.val * 4 + i)]) ++ (List.range 32).map fun i => It.chState (die.val * 32 + i)) s t ∧ SameOwner s t ∧
      t = { s with clk := s.clk.advance dt, items := t.items, mail := t.mail, valve := { s.valve with banks := t.valve.banks, chans := t.valve.chans } })

/-- For frames taken at once. (a) VALVE_BEAD with no refused entry answers index 0xffff and holds the beads of this cycle until the response is released. (b) BEAD_CANCEL of the one queued bead with its key drops it with outcome 10. (c) QUEUE_READ and (d) BEAD_LOG_READ answer queue and log and change nothing. (e) VALVE_CLEAR of a LATCHED channel waits for the next K; (f) VALVE_CLEAR_EFFECT after it brings the boost-hold channel of a bank in RUN to IDLE. (g) COIL_MEASURE of an idle channel starts the measurement and holds its response. COIL_MEASURE_DONE answers (h) TIMEOUT without a result, (i) the values inside the window of an OK coil. -/
def Obligations.ValveCommandsAnswer : Prop :=
  (∀ (s : State) (dt : Nat) (m : Fin 16) (h : Hdr) (p : List Byte),
    Accepts m (rowFrame 0x0900 h p) (s.advance dt) →
    0 < u16At p 0 →
    u16At p 0 ≤ 40 →
    zeroAt p 2 2 = true →
    (∀ i < 40, u16At p 0 ≤ i ∨ (taking m (rowFrame 0x0900 h p) (s.advance dt)).beadRefused ((p.drop (4 + 24 * i)).take 24) = none) →
    exec (.valveBead dt m h p) s = .next (replied dt m (rowFrame 0x0900 h p) (okWith (toLE 2 0xffff ++ toLE 2 0 ++ toLE 4 0)) (fun a => { a with valve := { a.valve with waiting := a.valve.waiting ++ (List.range (u16At p 0)).map fun i => ((s.now + dt) / 100000, beadOf ((p.drop (4 + 24 * i)).take 24)) } }) s)) ∧
  (∀ (s : State) (dt : Nat) (m : Fin 16) (h : Hdr) (p : List Byte) (q : QBead),
    Accepts m (rowFrame 0x0901 h p) (s.advance dt) →
    u8At p 0 ≤ 15 →
    u8At p 1 = 0xff →
    u8At p 2 = 1 →
    zeroAt p 3 1 = true →
    (s.vb (u8At p 0)).queue = [q] →
    (s.vb (u8At p 0)).started = [] →
    q.bead.master = true →
    q.bead.key.toNat = u32At p 4 →
    exec (.beadCancel dt m h p) s = .next (replied dt m (rowFrame 0x0901 h p) (okWith (toLE 2 1 ++ toLE 2 0)) (fun a => ({ a with lanes := { a.lanes with cancelled := a.lanes.cancelled ++ [{ cycle := a.cycle, bank := u8At p 0, bead := q }] } } : State).dropBead (u8At p 0) 10 (q.lateness a.up) q.bead) s)) ∧
  (∀ (s : State) (dt : Nat) (m : Fin 16) (h : Hdr) (p : List Byte),
    Accepts m (rowFrame 0x0902 h p) (s.advance dt) →
    u8At p 0 ≤ 15 →
    u16At p 2 ≤ 1023 →
    0 < u16At p 4 →
    u16At p 4 ≤ 40 →
    zeroAt p 1 1 = true →
    zeroAt p 6 2 = true →
    exec (.queueRead dt m h p) s = .next (replied dt m (rowFrame 0x0902 h p) (okWith (toLE 2 (((s.vb (u8At p 0)).queue.drop (u16At p 2)).take (u16At p 4)).length ++ toLE 2 (s.vb (u8At p 0)).queue.length ++ toLE 4 0 ++
      (((s.vb (u8At p 0)).queue.drop (u16At p 2)).take (u16At p 4)).flatMap fun x => beadBytes x.bead)) id s)) ∧
  (∀ (s : State) (dt : Nat) (m : Fin 16) (h : Hdr) (p : List Byte),
    Accepts m (rowFrame 0x0903 h p) (s.advance dt) →
    u8At p 0 ≤ 15 →
    zeroAt p 1 3 = true →
    exec (.beadLogRead dt m h p) s = .next (replied dt m (rowFrame 0x0903 h p) (okWith (toLE 2 (s.vb (u8At p 0)).log.length ++ toLE 2 0 ++ toLE 4 0 ++ (s.vb (u8At p 0)).log.flatten)) id s)) ∧
  (∀ (s : State) (dt : Nat) (m : Fin 16) (h : Hdr) (p : List Byte),
    Accepts m (rowFrame 0x0904 h p) (s.advance dt) →
    u8At p 0 ≤ 15 →
    u8At p 1 ≤ 7 →
    zeroAt p 2 2 = true →
    s.chSt (u8At p 0 * 8 + u8At p 1) = 9 →
    exec (.valveClear dt m h p) s = .next (replied dt m (rowFrame 0x0904 h p) (okWith []) (fun a => { a with valve := { a.valve with clears := a.valve.clears ++ [(u8At p 0, u8At p 1, s.clk.kLast)] } }) s)) ∧
  (∀ (s : State) (dt k : Nat) (bank : Fin 16) (ch : Fin 8),
    s.live = true →
    bank.val * 8 + ch.val < s.valve.chans.length →
    s.valve.clears = [(bank.val, ch.val, k)] →
    k < s.clk.kLast →
    s.chSt (bank.val * 8 + ch.val) = 9 →
    (s.vc (bank.val * 8 + ch.val)).rodSafe = false →
    s.get (It.bankState bank) = 1 →
    s.vget bank (It.chMode (bank.val * 8 + ch.val)) = 1 →
    ∃ t, exec (.valveClearEffect dt bank) s = .next t ∧ t.chSt (bank.val * 8 + ch.val) = 1 ∧ (t.vc (bank.val * 8 + ch.val)).trips = 0 ∧
      ItemsBut [It.chState (bank.val * 8 + ch.val)] s t ∧
      t = { s with clk := s.clk.advance dt, items := t.items, valve := { s.valve with banks := t.valve.banks, chans := t.valve.chans, clears := [] } }) ∧
  (∀ (s : State) (dt : Nat) (m : Fin 16) (h : Hdr) (p : List Byte),
    Accepts m (rowFrame 0x0905 h p) (s.advance dt) →
    u8At p 0 ≤ 127 →
    zeroAt p 1 3 = true →
    s.chSt (u8At p 0) ≤ 1 →
    exec (.coilMeasure dt m h p) s = .next (replied dt m (rowFrame 0x0905 h p) { wait := .coil (u8At p 0) } (fun a => { a with valve := { a.valve with chans := upd a.valve.chans (u8At p 0) fun x => { x with measuring := true } } }) s)) ∧
  (∀ (s : State) (dt : Nat) (ch : Fin 128),
    s.live = true →
    (s.vc ch).measuring = true →
    exec (.coilMeasureDone dt ch none) s = .next (({ s.advance dt with valve := { s.valve with chans := upd s.valve.chans ch fun x => { x with measuring := false } } } : State).answerAll (.coil ch) 21 [])) ∧
  (∀ (s : State) (dt r l : Nat) (ch : Fin 128),
    s.live = true →
    (s.vc ch).measuring = true →
    coilCode r (s.vget (ch / 8) (It.chRNom ch)) (s.vget (ch / 8) (It.chCoilTolPct ch)) = 0 →
    coilCode l (s.vget (ch / 8) (It.chLNom ch)) (s.vget (ch / 8) (It.chCoilTolPct ch)) = 0 →
    s.get (It.chCoilGuard ch) = 0 →
    exec (.coilMeasureDone dt ch (some (r, l))) s = .next (((({ s.advance dt with valve := { s.valve with chans := upd s.valve.chans ch fun x => { x with measuring := false } } } : State).ageSample 8 ch r).ageSample 9 ch l).answerAll
      (.coil ch) 0 (toLE 4 r ++ toLE 4 l)))

/-- (a) INPUT_FRAME_RX: the section makes its next frame, 25 µs after the last at the earliest, and the UP link of the lane that the latch does not name notes its arrival, sequence and counter and counts the frames lost. (b) ISO_LINK_STALE after 200 µs: the link is DOWN, cause 8 is passed to that lane but while the link is under test, and on the lane that the latch names every guard is STALE or BROKEN. (c) DI_EDGE_ACCEPT of an edge older than di_filter_us: level, count and last edge. (d) DI_STALE: guard STALE. (e) DI_WIRE_BREAK: guard BROKEN, counted. (f) AI_STALE: guard STALE. (g) AI_SHUNT_TRIP in current mode at the section: shunt open, counted, guard BROKEN once the lane knows the mode. (h) AI_SHUNT_RECLOSE after 100 ms: shunt closed. -/
def Obligations.InputsAreWatched : Prop :=
  (∀ (s : State) (dt : Nat) (lane : Fin 2) (sense : FieldSense) (lowCurrent : BitVec 16) (q : Nat),
    s.live = true →
    (nth s.ring.tests (4 + lane.val)).isSome = false →
    (s.io.sec.made = 0 ∨ s.io.sec.frameAt + 25000 ≤ s.up + dt) →
    sense.noise = [] →
    lane.val ≠ s.lanes.latch →
    s.get (if lane.val = 1 then It.isoLinkB else It.isoLinkA) = 1 →
    (nth s.io.links lane).inSeq = some q →
    exec (.inputFrameRx dt lane sense lowCurrent) s = .next { (s.advance dt).bumpBy (if lane.val = 1 then It.isoFramesLostB else It.isoFramesLostA) ((s.io.sec.made % 65536 + 65535 - q) % 65536) with io := { s.io with sec := { s.io.sec with frame := (s.advance dt).secFrame sense, frameAt := s.up + dt, made := s.io.sec.made + 1, impacts := [], refused := 0, fresh := false }, links := upd s.io.links lane fun x => { x with got := s.io.sec.made + 1, lastRx := some (s.up + dt), inSeq := some (s.io.sec.made % 65536), conv := some (sense.counter.toNat, ((s.now + dt : Nat) : Int) + s.get It.isoLatencyNs) } } }) ∧
  (∀ (s : State) (dt t0 : Nat) (lane : Fin 2),
    s.live = true →
    (nth s.io.links lane).lastRx = some t0 →
    t0 + 200000 ≤ s.up + dt →
    s.get (if lane.val = 1 then It.isoLinkB else It.isoLinkA) = 1 →
    ∃ t, exec (.isoLinkStale dt lane) s = .next t ∧ t.get (if lane.val = 1 then It.isoLinkB else It.isoLinkA) = 0 ∧
      t.lanes = (if (nth s.ring.tests (4 + lane.val)).isSome then s.lanes else { s.lanes with found := s.lanes.found ++ [(lane.val, 8)] }) ∧
      (lane.val = s.lanes.latch → (∀ n < 48, 3 ≤ t.get (It.diGuard n)) ∧ (∀ n < 16, 3 ≤ t.get (It.aiGuard n)) ∧ (∀ n < 8, 3 ≤ t.get (It.lsGuard n))) ∧ SameOwner s t ∧
      (∀ n < 48, nth t.io.dis n = { nth s.io.dis n with win := (nth t.io.dis n).win }) ∧ (∀ n < 16, nth t.io.ais n = { nth s.io.ais n with win := (nth t.io.ais n).win }) ∧
      (∀ n < 8, nth t.io.lss n = { nth s.io.lss n with range := (nth t.io.lss n).range, win := (nth t.io.lss n).win }) ∧
      t = { s with clk := s.clk.advance dt, items := t.items, mail := t.mail, lanes := t.lanes, io := { s.io with dis := t.io.dis, ais := t.io.ais, lss := t.io.lss } }) ∧
  (∀ (s : State) (dt stamp : Nat) (n : Fin 48) (level : Bool),
    s.live = true →
    n.val < s.io.dis.length →
    (nth s.io.dis n).pend = some (stamp, level) →
    stamp + s.getAt stamp (It.diFilterUs n) * 1000 ≤ s.now + dt →
    ∃ t, exec (.diEdgeAccept dt n) s = .next t ∧ t.get (It.diLevel n) = b2n (level != (s.getAt stamp (It.diInvert n) == 1)) ∧
      t.get (It.diEdges n) = sat32 (s.get (It.diEdges n) + 1) ∧
      t.io = { s.io with dis := upd s.io.dis n fun d => { d with level := level, pend := none, last := some stamp, times := (d.times.filter fun x => decide (s.now + dt < x + 100000000)) ++ [stamp], win := (nth t.io.dis n).win } } ∧
      ItemsBut [It.diLevel n, It.diEdges n, It.diRate n, It.diGuard n, It.diBreaks n] s t ∧ SameOwner s t ∧
      t = { s with clk := s.clk.advance dt, items := t.items, mail := t.mail, io := t.io }) ∧
  (∀ (s : State) (dt l : Nat) (n : Fin 48),
    s.live = true →
    (nth s.io.dis n).last = some l →
    s.getAt (s.now + dt) (It.diStaleMs n) ≠ 0 →
    l + s.getAt (s.now + dt) (It.diStaleMs n) * 1000000 ≤ s.now + dt →
    (nth s.io.dis n).brk = false →
    ∃ t, exec (.diStale dt n) s = .next t ∧ t.get (It.diGuard n) = 3 ∧ t.get (It.diRate n) = 10 * ((nth s.io.dis n).times.filter fun x => decide (s.now + dt < x + 100000000)).length ∧
      ItemsBut [It.diRate n, It.diGuard n] s t ∧ SameOwner s t ∧
      t = { s with clk := s.clk.advance dt, items := t.items, mail := t.mail, io := { s.io with dis := upd s.io.dis n fun d => { d with win := (nth t.io.dis n).win } } }) ∧
  (∀ (s : State) (dt : Nat) (n : Fin 48),
    s.live = true →
    n.val < s.io.dis.length →
    (nth s.io.dis n).brk = false →
    s.getAt (s.now + dt) (It.diBreakDetect n) = 1 →
    s.get (It.diGuard n) ≠ 4 →
    ∃ t, exec (.diWireBreak dt n true) s = .next t ∧ t.get (It.diGuard n) = 4 ∧ t.get (It.diBreaks n) = sat32 (s.get (It.diBreaks n) + 1) ∧
      t.io = { s.io with dis := upd s.io.dis n fun d => { d with brk := true, win := (nth t.io.dis n).win } } ∧
      ItemsBut [It.diRate n, It.diGuard n, It.diBreaks n] s t ∧ SameOwner s t ∧
      t = { s with clk := s.clk.advance dt, items := t.items, mail := t.mail, io := t.io }) ∧
  (∀ (s : State) (dt l : Nat) (n : Fin 16),
    s.live = true →
    (nth s.io.ais n).last = some l →
    s.get (It.aiStaleMs n) ≠ 0 →
    l + s.get (It.aiStaleMs n) * 1000000 ≤ s.now + dt →
    (nth s.io.ais n).bad = false →
    (nth s.io.ais n).shunt = none →
    ∃ t, exec (.aiStale dt n) s = .next t ∧ t.get (It.aiGuard n) = 3 ∧ ItemsBut [It.aiGuard n] s t ∧ SameOwner s t ∧
      t = { s with clk := s.clk.advance dt, items := t.items, mail := t.mail, io := { s.io with ais := upd s.io.ais n fun a => { a with win := (nth t.io.ais n).win } } }) ∧
  (∀ (s : State) (dt : Nat) (n : Fin 16),
    s.live = true →
    n.val < s.io.ais.length →
    s.io.sec.aiMode n = 2 →
    (nth s.io.ais n).shunt = none →
    ∃ t, exec (.aiShuntTrip dt n) s = .next t ∧ (nth s.io.modes n ≠ 2 ∨ t.get (It.aiGuard n) = 4) ∧ t.get (It.aiOverloads n) = sat32 (s.get (It.aiOverloads n) + 1) ∧
      t.io = { s.io with ais := upd s.io.ais n fun a => { a with shunt := some (s.up + dt), win := (nth t.io.ais n).win } } ∧
      ItemsBut [It.aiGuard n, It.aiOverloads n, It.aiBreaks n] s t ∧ SameOwner s t ∧
      t = { s with clk := s.clk.advance dt, items := t.items, mail := t.mail, io := t.io }) ∧
  (∀ (s : State) (dt t0 : Nat) (n : Fin 16),
    s.live = true →
    (nth s.io.ais n).shunt = some t0 →
    t0 + 100000000 ≤ s.up + dt →
    ∃ t, exec (.aiShuntReclose dt n) s = .next t ∧ t.io = { s.io with ais := upd s.io.ais n fun a => { a with shunt := none, win := (nth t.io.ais n).win } } ∧
      ItemsBut [It.aiGuard n, It.aiBreaks n] s t ∧ SameOwner s t ∧
      t = { s with clk := s.clk.advance dt, items := t.items, mail := t.mail, io := t.io })

/-- (a) LS_IMPACT on an enabled input outside dead time and blanking, at or above its trigger level, counts and stamps at the section. (b) LS_STALE: guard STALE, and the window in progress notes it. (c) LS_TEST with one enabled input that fails: counted, guard BROKEN, detection blanked for 50 µs. (d) LS_HIST_WINDOW at the end of a window that is not recorded keeps its record and opens the next at that end. (e) LS_HIST_READ, taken at once, answers the last complete record. -/
def Obligations.LossInputsCountAndTest : Prop :=
  (∀ (s : State) (dt amplitude : Nat) (n : Fin 8),
    s.powered = true →
    bit (nth s.io.sec.words 2) n = true →
    ((nth s.io.lss n).hit = none ∨ ((nth s.io.lss n).hit.getD 0) + nth s.io.sec.words (13 + n.val) * 1000 ≤ s.up + dt) →
    s.io.sec.blank ≤ s.up + dt →
    nth s.io.sec.words (5 + n.val) ≤ min 65535 (amplitude * s.io.sec.lsGain n) →
    exec (.lsImpact dt n amplitude) s = .next { s.advance dt with io := { s.io with lss := upd s.io.lss n (fun a => { a with count := (a.count + 1) % 65536, hit := some (s.up + dt) }), sec := { s.io.sec with impacts := s.io.sec.impacts ++ [{ ch := n, amplitude := min 65535 (amplitude * s.io.sec.lsGain n), at_ := s.up + dt }] } } }) ∧
  (∀ (s : State) (dt l : Nat) (n : Fin 8),
    s.live = true →
    (nth s.io.lss n).last = some l →
    s.getAt (s.now + dt) (It.lsStaleMs n) ≠ 0 →
    l + s.getAt (s.now + dt) (It.lsStaleMs n) * 1000000 ≤ s.now + dt →
    (nth s.io.lss n).bad = false →
    ∃ t, exec (.lsStale dt n) s = .next t ∧ t.get (It.lsGuard n) = 3 ∧
      t.io = { s.io with lss := upd s.io.lss n fun a => { a with range := (nth t.io.lss n).range, win := a.win.map fun w => { w with notOk := true } } } ∧
      ItemsBut [It.lsRate n, It.lsGuard n] s t ∧ SameOwner s t ∧
      t = { s with clk := s.clk.advance dt, items := t.items, mail := t.mail, io := t.io }) ∧
  (∀ (s : State) (dt : Nat) (passed : List Bool) (n : Fin 8),
    s.live = true →
    n.val < s.io.lss.length →
    nth s.io.sec.words 2 = 2 ^ n.val →
    passed.getD n true = false →
    ∃ t, exec (.lsTest dt passed) s = .next t ∧ t.get (It.lsGuard n) = 4 ∧ t.get (It.lsTestsFailed n) = sat32 (s.get (It.lsTestsFailed n) + 1) ∧
      (nth t.io.lss n).bad = true ∧ t.io = { s.io with sec := { s.io.sec with blank := s.up + dt + 50000 }, lss := t.io.lss } ∧
      ItemsBut [It.lsRate n, It.lsGuard n, It.lsTestsFailed n] s t ∧ SameOwner s t ∧
      t = { s with clk := s.clk.advance dt, items := t.items, mail := t.mail, io := t.io }) ∧
  (∀ (s : State) (dt : Nat) (n : Fin 8) (x : LsWin),
    s.live = true →
    (nth s.io.lss n).win = some x →
    x.start + s.get (It.lsHistMs n) * 1000000 ≤ s.now + dt →
    bit (s.get It.recLsMask) n = false →
    exec (.lsHistWindow dt n) s = .next { s.advance dt with io := { s.io with lss := upd s.io.lss n fun a => { a with win := some { start := x.start + s.get (It.lsHistMs n) * 1000000, carry := s.get It.carryNumber, notOk := s.get (It.lsGuard n) != 0 }, done := some (toLE 1 n ++ toLE 1 (b2n x.unlisted + 2 * b2n x.notOk) ++ toLE 2 0 ++ toLE 4 x.carry ++ toLE 8 x.start ++ toLE 8 (x.start + s.get (It.lsHistMs n) * 1000000) ++ toLE 4 (sat32 x.hw) ++ toLE 4 (sat32 x.n) ++ x.bins.flatMap fun b => toLE 4 (sat32 b)) } } }) ∧
  (∀ (s : State) (dt : Nat) (m : Fin 16) (h : Hdr) (p r : List Byte),
    Accepts m (rowFrame 0x0a00 h p) (s.advance dt) →
    u8At p 0 ≤ 7 →
    zeroAt p 1 3 = true →
    (nth s.io.lss (u8At p 0)).done = some r →
    exec (.lsHistRead dt m h p) s = .next (replied dt m (rowFrame 0x0a00 h p) (okWith r) id s))

/-- (a) OUTPUT_FRAME_TICK of the ACTIVE lane sends its command frame with up to two pulses; (b) of the STANDBY lane a frame without commands. (c) OUTPUT_FRAME_RX of a valid command frame of the accepted lane with no clear bit, pulse or setting: its levels and force-safe bits are in use. (d) DO_TRIP of a driven output at its first trip: opened, RETRY_WAIT, fault 1. (e) DO_RETRY_EXPIRY: its clear bit is sent. (f) DO_PULSE_START: pulse, counted. (g) DO_OUTPUT_TIMEOUT after 2 ms: safe, pending pulses discarded. (h) FIELD_SUPPLY_CHANGE below 17.0 V: every output off with fault 4. (i) DO_CLEAR, taken at once, of one LATCHED output waits for the next K. -/
def Obligations.OutputsAreDriven : Prop :=
  (∀ (s : State) (dt : Nat) (lane : Fin 2) (o : OutContent),
    s.live = true →
    (nth s.ring.tests (4 + lane.val)).isSome = false →
    nth s.ring.injects (4 + lane.val) = none →
    nth s.ring.holding (4 + lane.val) = [] →
    (s.now + dt) % 25000 = 0 →
    (nth s.io.links lane).outAt ≠ some (s.up + dt) →
    (s.cam.pulses.all fun p => decide (s.now + dt + 100000 ≤ p.start)) = true →
    s.get (It.laneState lane) = 4 →
    o = (s.advance dt).outFrame →
    exec (.outputFrameTick dt lane) s = .next { s.advance dt with
      cam := { s.cam with pulses := o.pulses.foldl List.erase s.cam.pulses }
      io := { s.io with
        clear := s.io.clear &&& (65535 - o.clear)
        sent := s.io.sent ++ o.pulses.map fun p => { cmd := p, seq := (nth s.io.links lane).outSeq }
        slice := (if s.io.slice < 4 ∧ o.gen = s.io.gen ∧ o.slice = s.io.slice then s.io.slice + 1 else s.io.slice)
        awaited := (if s.io.slice < 4 ∧ o.gen = s.io.gen ∧ o.slice = s.io.slice then 0 else s.io.awaited)
        links := upd s.io.links lane fun x => { x with outSeq := (x.outSeq + 1) % 65536, outAt := some (s.up + dt), frames := [(s.advance dt).commandFrame lane o] } } }) ∧
  (∀ (s : State) (dt : Nat) (lane : Fin 2),
    s.live = true →
    (nth s.ring.tests (4 + lane.val)).isSome = false →
    nth s.ring.injects (4 + lane.val) = none →
    nth s.ring.holding (4 + lane.val) = [] →
    (s.now + dt) % 25000 = 0 →
    (nth s.io.links lane).outAt ≠ some (s.up + dt) →
    s.get (It.laneState lane) = 3 →
    exec (.outputFrameTick dt lane) s = .next { s.advance dt with io := { s.io with links := upd s.io.links lane fun x => { x with outSeq := (x.outSeq + 1) % 65536, outAt := some (s.up + dt), frames := [withCrc16 ([3] ++ toLE 1 lane ++ toLE 2 (nth s.io.links lane).outSeq ++ List.replicate 58 0)] } } }) ∧
  (∀ (s : State) (dt : Nat) (lane : Fin 2) (bytes : List Byte),
    s.powered = true →
    s.accepts lane = true →
    bytes.length = 64 →
    crc16 (bytes.take 62) = u16At bytes 62 →
    u8At bytes 0 = 2 →
    bit (u8At bytes 1) 1 = false →
    u16At bytes 12 = 0 →
    bit (u8At bytes 16) 7 = false →
    bit (u8At bytes 24) 7 = false →
    ∃ t, exec (.outputFrameRx dt lane bytes) s = .next t ∧
      t.io.sec = { s.io.sec with have_ := true, levels := u16At bytes 8, force := u16At bytes 10, opened := s.io.sec.opened &&& 65535, timedout := false, lastFrame := s.up + dt, fsOff := s.io.sec.fsLow, part := none } ∧
      ItemsBut ((List.range 16).flatMap fun n => [It.doState n, It.doFault n]) s t ∧ SameOwner s t ∧
      t = { s with clk := s.clk.advance dt, items := t.items, mail := t.mail, io := { s.io with sec := t.io.sec, dos := t.io.dos } }) ∧
  (∀ (s : State) (dt : Nat) (n : Fin 16),
    s.powered = true →
    n.val < s.io.dos.length →
    s.doDriven n = true →
    (nth s.io.dos n).retry = false →
    (nth s.io.dos n).latched = false →
    (nth s.io.dos n).trips = 0 →
    0 < s.get (It.doRetryN n) →
    ∃ t, exec (.doTrip dt n) s = .next t ∧ t.get (It.doState n) = 3 ∧ t.get (It.doFault n) = 1 ∧ t.get (It.doTrips n) = sat32 (s.get (It.doTrips n) + 1) ∧
      t.io = { s.io with sec := { s.io.sec with opened := s.io.sec.opened ||| 2 ^ n.val }, dos := upd s.io.dos n fun d => { d with busy := none, trips := 1, tripAt := s.up + dt, retry := true } } ∧
      ItemsBut [It.doState n, It.doFault n, It.doTrips n] s t ∧ SameOwner s t ∧
      t = { s with clk := s.clk.advance dt, items := t.items, mail := t.mail, io := t.io }) ∧
  (∀ (s : State) (dt : Nat) (n : Fin 16),
    s.live = true →
    (nth s.io.dos n).retry = true →
    (nth s.io.dos n).tripAt + s.get (It.doRetryMs n) * 1000000 ≤ s.up + dt →
    exec (.doRetryExpiry dt n) s = .next { s.advance dt with io := { s.io with clear := s.io.clear ||| 2 ^ n.val } }) ∧
  (∀ (s : State) (dt start width : Nat) (n : Fin 16) (r : List (Nat × Nat)),
    s.powered = true →
    n.val < s.io.dos.length →
    (nth s.io.dos n).pend = (start, width) :: r →
    0 ≤ signedOf 32 (((s.advance dt).secCounter + 2 ^ 32 - start) % 2 ^ 32) →
    0 < width →
    s.io.sec.fsOff = false →
    (nth s.io.dos n).retry = false →
    (nth s.io.dos n).latched = false →
    ∃ t, exec (.doPulseStart dt n) s = .next t ∧ t.get (It.doState n) = 5 ∧ t.get (It.doPulses n) = sat32 (s.get (It.doPulses n) + 1) ∧
      t.io = { s.io with dos := upd s.io.dos n fun d => { d with pend := r, busy := some (s.up + dt + width * 1000) } } ∧
      ItemsBut [It.doState n, It.doFault n, It.doPulses n] s t ∧ SameOwner s t ∧
      t = { s with clk := s.clk.advance dt, items := t.items, mail := t.mail, io := t.io }) ∧
  (∀ (s : State) (dt : Nat),
    s.powered = true →
    s.io.sec.have_ = true →
    s.io.sec.timedout = false →
    s.io.sec.lastFrame + 2000000 ≤ s.up + dt →
    s.io.dos.length = 16 →
    ∃ t, exec (.doOutputTimeout dt) s = .next t ∧ t.get It.isoOutTimeouts = sat32 (s.get It.isoOutTimeouts + 1) ∧
      t.io.sec = { s.io.sec with timedout := true } ∧ (∀ n < 16, (nth t.io.dos n).pend = []) ∧
      ItemsBut (It.isoOutTimeouts :: (List.range 16).flatMap fun n => [It.doState n, It.doFault n]) s t ∧ SameOwner s t ∧
      t = { s with clk := s.clk.advance dt, items := t.items, mail := t.mail, io := { s.io with sec := t.io.sec, dos := t.io.dos } }) ∧
  (∀ (s : State) (dt volts : Nat),
    s.powered = true →
    s.io.sec.fsLow = false →
    volts < 1114112 →
    ∃ t, exec (.fieldSupplyChange dt volts) s = .next t ∧ t.get It.fieldSupplyV = volts ∧ t.get It.fieldLowCount = sat32 (s.get It.fieldLowCount + 1) ∧
      (∀ n < 16, t.get (It.doFault n) = 4) ∧ t.io.sec = { s.io.sec with fsLow := true, fsOff := true } ∧
      ItemsBut ([It.fieldSupplyV, It.fieldLowCount] ++ (List.range 16).flatMap fun n => [It.doState n, It.doFault n]) s t ∧ SameOwner s t ∧
      t = { s with clk := s.clk.advance dt, items := t.items, mail := t.mail, io := { s.io with sec := t.io.sec, dos := t.io.dos } }) ∧
  (∀ (s : State) (dt : Nat) (m : Fin 16) (h : Hdr) (p : List Byte),
    Accepts m (rowFrame 0x0a01 h p) (s.advance dt) →
    u8At p 0 ≤ 15 →
    zeroAt p 1 3 = true →
    (nth s.io.dos (u8At p 0)).latched = true →
    exec (.doClear dt m h p) s = .next (replied dt m (rowFrame 0x0a01 h p) (okWith []) (fun a => { a with io := { a.io with clears := a.io.clears ++ [(u8At p 0, s.clk.kLast)] } }) s))

/-- (a) CAN_FRAME_VALID that no gateway, monitor, stream, exposure confirmation or high-priority buffer takes, with receive error count 0, on a match of filter 0 with delivery: sequence, count and hits, and CAN_RX to the masters of the filter. (b) CAN_HP_IRQ_WORD_READ clears the word. (c) CAN_BUS_ERROR in normal operation below the warning: counted, TEC by 8. (d) CAN_TX_ATTEMPT_END as an error of a one-shot buffer: freed with outcome 3, then the gateways send what they hold. (e) CAN_BUSOFF_RECOVERED: ERROR_ACTIVE, counts 0. (f) CAN_BUS_IDLE_INTEGRATION with counts 0: ERROR_ACTIVE. (g) CAN_PROTOCOL_EXCEPTION with can_pex 1: INTEGRATING. Where no buffer waits, nothing else changes. -/
def Obligations.CanFramesAndErrors : Prop :=
  (∀ (s : State) (dt : Nat) (ch : Fin 6) (got : CanArrival),
    s.live = true →
    s.get (It.canMode ch) ≠ 0 →
    s.canCarries ch got.frame = true →
    s.get (It.canRec ch) = 0 →
    s.get (It.gwCanChannel 12) ≠ ch.val →
    s.get (It.gwCanChannel 13) ≠ ch.val →
    (∀ n < 32, s.get (It.lmSource n) ≠ 5 + ch.val) →
    (∀ n < 32, s.useK (It.stSource n) ≠ 33 + ch.val) →
    (∀ c < 8, (s.ctx c).deliv = []) →
    (∀ i < 8, s.getAt (s.now + dt - got.sof) (It.hpEnable ch i) ≠ 1) →
    s.filterMatches (s.now + dt - got.sof) ch 0 got.frame = true →
    s.getAt (s.now + dt - got.sof) (It.fltAction ch 0) = 1 →
    exec (.canFrameValid dt ch got) s = .next (let seq := (s.get (It.canRxSeq ch) + 1) % 4294967296
      let r := canRecord ch 0 got.frame seq (s.now + dt - got.sof) ((s.advance dt).posAt (s.now + dt - got.sof))
      let ms := (List.range 16).filter (bit (s.getAt (s.now + dt - got.sof) (It.fltMasters ch 0)))
      let a := (((s.advance dt).set (It.canRxSeq ch) seq).bump (It.canRxFrames ch)).bump (It.fltHits ch 0)
      State.emitMasters ms 0x0b80 r { a with can := { s.can with chs := upd s.can.chs ch fun c => { c with recent := c.recent ++ [{ cycle := (s.now + dt) / 100000, frame := got.frame, record := r, masters := ms }] } } })) ∧
  (∀ (s : State) (dt : Nat) (part : Fin 4),
    s.live = true →
    exec (.canHpIrqWordRead dt part) s = .next { s.advance dt with mail := { s.mail with masters := upd s.mail.masters part fun x => { x with hpIrq := 0 } } }) ∧
  (∀ (s : State) (dt : Nat) (ch : Fin 6),
    s.live = true →
    s.get (It.canMode ch) = 1 →
    s.get (It.canState ch) = 2 →
    s.get (It.canTec ch) + 8 < 96 →
    s.get (It.canRec ch) < 96 →
    ∃ t, exec (.canBusError dt ch .transmit) s = .next t ∧ t.get (It.canErrors ch) = sat32 (s.get (It.canErrors ch) + 1) ∧
      t.get (It.canTec ch) = s.get (It.canTec ch) + 8 ∧ ItemsBut [It.canErrors ch, It.canTec ch] s t ∧
      t = { s with clk := s.clk.advance dt, items := t.items }) ∧
  (∀ (s : State) (dt : Nat) (ch : Fin 6) (b : TxBuf),
    s.live = true →
    (s.canCh ch).attempt = some b.idx →
    (s.canCh ch).bufs = [b] →
    b.cancel = false →
    b.oneShot = true →
    b.src ≤ 15 →
    exec (.canTxAttemptEnd dt ch .error) s = .next ((({ s.advance dt with can := { s.can with chs := upd s.can.chs ch fun c => { c with attempt := none, bufs := [] } } } : State).emit 0x0b81
      (toLE 1 ch ++ toLE 1 3 ++ toLE 1 0 ++ toLE 1 0 ++ toLE 4 b.tag ++ toLE 4 b.handle ++ toLE 4 b.attempts ++ toLE 8 b.sofAt)).gateways)) ∧
  (∀ (s : State) (dt : Nat) (ch : Fin 6),
    s.live = true →
    s.get (It.canState ch) = 5 →
    (s.canCh ch).bufs = [] →
    ∃ t, exec (.canBusoffRecovered dt ch) s = .next t ∧ t.get (It.canState ch) = 2 ∧ t.get (It.canTec ch) = 0 ∧ t.get (It.canRec ch) = 0 ∧
      ItemsBut [It.canState ch, It.canTec ch, It.canRec ch] s t ∧ SameOwner s t ∧ t = { s with clk := s.clk.advance dt, items := t.items, mail := t.mail }) ∧
  (∀ (s : State) (dt : Nat) (ch : Fin 6),
    s.live = true →
    s.get (It.canMode ch) = 1 →
    s.get (It.canState ch) = 1 →
    (s.canCh ch).retime = false →
    (s.canCh ch).bufs = [] →
    s.get (It.canTec ch) = 0 →
    s.get (It.canRec ch) = 0 →
    exec (.canBusIdleIntegration dt ch) s = .next (((s.advance dt).set (It.canState ch) 2).emit 0x0b82 (toLE 1 ch ++ toLE 1 2 ++ toLE 2 4 ++ toLE 1 0 ++ toLE 1 0 ++ toLE 2 0 ++ toLE 8 (s.now + dt)))) ∧
  (∀ (s : State) (dt : Nat) (ch : Fin 6),
    s.live = true →
    s.get (It.canMode ch) = 1 →
    s.get (It.canPex ch) = 1 →
    exec (.canProtocolException dt ch) s = .next (((s.advance dt).set (It.canState ch) 1).emit 0x0b82 (toLE 1 ch ++ toLE 1 1 ++ toLE 2 5 ++ toLE 1 (min (s.get (It.canTec ch)) 255) ++ toLE 1 (s.get (It.canRec ch)) ++ toLE 2 0 ++ toLE 8 (s.now + dt))))

/-- For frames taken at once. (a) CAN_TX of an admitted classic frame on a channel in normal operation with room fills the lowest free buffer, not eligible before the copy of its cycle, and answers buffer and handle. (b) CAN_TX_CANCEL of a waiting buffer of its master frees it as cancelled; (c) of the one in an attempt it latches the cancel and holds the response. (d) CAN_TX_LIST answers the 32 buffers. (e) CAN_RECOVER in BUS_OFF starts the recovery. (f) CAN_HP_READ answers sequence and record and marks them read. -/
def Obligations.CanCommandsAnswer : Prop :=
  (∀ (s : State) (dt : Nat) (m : Fin 16) (h : Hdr) (p : List Byte) (i : Nat),
    Accepts m (rowFrame 0x0b00 h p) (s.advance dt) →
    u8At p 0 ≤ 5 →
    u8At p 1 = 0 →
    u8At p 2 ≤ 8 →
    zeroAt p 3 1 = true →
    u32At p 4 ≤ 2047 →
    bit (s.get (It.canTxMasters (u8At p 0))) m = true →
    s.get (It.canMode (u8At p 0)) = 1 →
    (s.canCh (u8At p 0)).held = false →
    (s.canCh (u8At p 0)).freeIdx = some i →
    ((s.canCh (u8At p 0)).bufs.filter fun b => decide (b.src ≤ 15)).length < 32 - reservedBufs s.get (u8At p 0) →
    exec (.canTx dt m h p) s = .next (replied dt m (rowFrame 0x0b00 h p) { payload := toLE 1 i ++ toLE 3 0 ++ toLE 4 (s.canCh (u8At p 0)).nextHandle, wait := .copy ((s.now + dt) / 100000) } (fun a => { a with can := { a.can with chs := upd a.can.chs (u8At p 0) fun c => { c with nextHandle := c.nextHandle % 4294967295 + 1, bufs := c.bufs ++ [{ idx := i, src := m, handle := (s.canCh (u8At p 0)).nextHandle, tag := u32At p 8, oneShot := false, el := none, cyc := (s.now + dt) / 100000, frame := { id := BitVec.ofNat 29 (u32At p 4), ext := false, fd := false, brs := false, remote := false, dlc := Fin.ofNat 16 (u8At p 2), data := p.drop 12 } }] } } }) s)) ∧
  (∀ (s : State) (dt : Nat) (m : Fin 16) (h : Hdr) (p : List Byte) (b : TxBuf),
    Accepts m (rowFrame 0x0b01 h p) (s.advance dt) →
    u8At p 0 ≤ 5 →
    zeroAt p 1 3 = true →
    (s.canCh (u8At p 0)).bufs.find? (fun x => x.handle == u32At p 4) = some b →
    b.src = m.val →
    (s.canCh (u8At p 0)).attempt = none →
    exec (.canTxCancel dt m h p) s = .next (replied dt m (rowFrame 0x0b01 h p) (okWith []) (fun a => ({ a with can := { a.can with chs := upd a.can.chs (u8At p 0) fun c => { c with bufs := c.bufs.filter fun x => x.idx != b.idx } } } : State).emit 0x0b81
      (toLE 1 (u8At p 0) ++ toLE 1 1 ++ toLE 1 0 ++ toLE 1 0 ++ toLE 4 b.tag ++ toLE 4 b.handle ++ toLE 4 b.attempts ++ toLE 8 b.sofAt)) s)) ∧
  (∀ (s : State) (dt : Nat) (m : Fin 16) (h : Hdr) (p : List Byte) (b : TxBuf),
    Accepts m (rowFrame 0x0b01 h p) (s.advance dt) →
    u8At p 0 ≤ 5 →
    zeroAt p 1 3 = true →
    (s.canCh (u8At p 0)).bufs.find? (fun x => x.handle == u32At p 4) = some b →
    b.src = m.val →
    (s.canCh (u8At p 0)).attempt = some b.idx →
    exec (.canTxCancel dt m h p) s = .next (replied dt m (rowFrame 0x0b01 h p) { wait := .canCancel (u8At p 0) b.idx } (fun a => { a with can := { a.can with chs := upd a.can.chs (u8At p 0) fun c => { c with bufs := c.bufs.map fun x => if x.idx = b.idx then { x with cancel := true } else x } } }) s)) ∧
  (∀ (s : State) (dt : Nat) (m : Fin 16) (h : Hdr) (p : List Byte),
    Accepts m (rowFrame 0x0b02 h p) (s.advance dt) →
    u8At p 0 ≤ 5 →
    zeroAt p 1 3 = true →
    exec (.canTxList dt m h p) s = .next (replied dt m (rowFrame 0x0b02 h p) (okWith (toLE 2 (s.canCh (u8At p 0)).bufs.length ++ toLE 2 0 ++ (List.range 32).flatMap (txEntry (s.canCh (u8At p 0))))) id s)) ∧
  (∀ (s : State) (dt : Nat) (m : Fin 16) (h : Hdr) (p : List Byte),
    Accepts m (rowFrame 0x0b03 h p) (s.advance dt) →
    u8At p 0 ≤ 5 →
    zeroAt p 1 3 = true →
    s.get (It.canState (u8At p 0)) = 4 →
    exec (.canRecover dt m h p) s = .next (replied dt m (rowFrame 0x0b03 h p) (okWith []) (fun a => a.set (It.canState (u8At p 0)) 5) s)) ∧
  (∀ (s : State) (dt : Nat) (m : Fin 16) (h : Hdr) (p : List Byte),
    Accepts m (rowFrame 0x0b04 h p) (s.advance dt) →
    u8At p 0 ≤ 5 →
    u8At p 1 ≤ 7 →
    zeroAt p 2 2 = true →
    s.get (It.hpEnable (u8At p 0) (u8At p 1)) = 1 →
    (nth (s.canCh (u8At p 0)).hp (u8At p 1)).seq ≠ 0 →
    exec (.canHpRead dt m h p) s = .next (replied dt m (rowFrame 0x0b04 h p) (okWith (toLE 4 (nth (s.canCh (u8At p 0)).hp (u8At p 1)).seq ++ toLE 4 0 ++ (nth (s.canCh (u8At p 0)).hp (u8At p 1)).record ++
      List.replicate (96 - (nth (s.canCh (u8At p 0)).hp (u8At p 1)).record.length) 0)) (fun a => { a with can := { a.can with chs := upd a.can.chs (u8At p 0) fun c => { c with hp := upd c.hp (u8At p 1) fun b => { b with unread := false } } } }) s))

/-- Where the ring is judged, ring_members and ring_state are those of the nodes heard and the ports UP. (a) RING_PORT_UP in the ring brings the port UP. (b) RING_PORT_DOWN takes an UP port down, counted, with its code errors. (c) STATUS of a known node notes its arrival on the port. (d) STATUS_PERIOD in the ring with only WE UP sends one STATUS eastward with the next sequence. (e) RING_MEMBER_TIMEOUT of a node not heard judges the ring. (f) RING_JOIN_WAIT_END opens the bypass; (g) RING_BYPASS_SETTLED without ports leaves it OPEN; (h) BYPASS_CLOSE_DONE leaves it CLOSED. A change of bypass_state sends its event. -/
def Obligations.RingPortsAndMembers : Prop :=
  (∀ (s : State) (dt : Nat) (port : Fin 2),
    s.speaks = true →
    s.get (It.portState port) = 0 →
    s.get It.bypassState = 2 →
    ∃ t, exec (.ringPortUp dt port) s = .next t ∧ t.get (It.portState port) = 1 ∧ t.get It.ringState = ((s.advance dt).set (It.portState port) 1).ringStateNow ∧
      t.get It.ringMembers = (s.advance dt).ringPeers.length + 1 ∧ ItemsBut [It.portState port, It.ringState, It.ringMembers, It.ringBreaks] s t ∧ SameOwner s t ∧
      t = { s with clk := s.clk.advance dt, items := t.items, mail := t.mail }) ∧
  (∀ (s : State) (dt codeErrors : Nat) (port : Fin 2),
    s.speaks = true →
    s.get (It.portState port) = 1 →
    ∃ t, exec (.ringPortDown dt port codeErrors) s = .next t ∧ t.get (It.portState port) = 0 ∧ t.get (It.portDowns port) = sat32 (s.get (It.portDowns port) + 1) ∧
      t.get (It.portCodeErrors port) = sat32 (s.get (It.portCodeErrors port) + codeErrors) ∧ t.get It.ringState = ((s.advance dt).set (It.portState port) 0).ringStateNow ∧
      t.get It.ringMembers = (s.advance dt).ringPeers.length + 1 ∧
      ItemsBut [It.portState port, It.portDowns port, It.portCodeErrors port, It.ringState, It.ringMembers, It.ringBreaks] s t ∧ SameOwner s t ∧
      t = { s with clk := s.clk.advance dt, items := t.items, mail := t.mail }) ∧
  (∀ (s : State) (dt : Nat) (src : BitVec 16) (port : Fin 2) (body : List Byte),
    s.speaks = true →
    src.toNat ≠ s.useRestart It.ringNode →
    s.ring.nodes.any (fun n => n.node == src.toNat) = true →
    ∃ t, exec (.status dt src port body) s = .next t ∧
      t.ring = { s.ring with nodes := s.ring.nodes.map fun n => if n.node = src.toNat then (if port.val = 0 then { n with east := some (s.now + dt) } else { n with west := some (s.now + dt) }) else n } ∧
      t.get It.ringMembers = t.ringPeers.length + 1 ∧ t.get It.ringState = t.ringStateNow ∧
      ItemsBut [It.ringState, It.ringMembers, It.ringBreaks] s t ∧ SameOwner s t ∧
      t = { s with clk := s.clk.advance dt, items := t.items, mail := t.mail, ring := t.ring }) ∧
  (∀ (s : State) (dt : Nat),
    s.speaks = true →
    s.get It.bypassState = 2 →
    s.inserts = true →
    s.get (It.portState 0) = 1 →
    s.get (It.portState 1) = 0 →
    nth s.ring.injects 0 = none →
    nth s.ring.holding 0 = [] →
    ∃ t, exec (.statusPeriod dt) s = .next t ∧ t.get It.ringTxSeq = (s.get It.ringTxSeq + 1) % 65536 ∧
      t.ring = { s.ring with sent := s.ring.sent ++ [(0, ringBytes 3 (2 + 4 * s.lanes.latch + 0) 68 0xff (s.useRestart It.ringNode) (s.get It.ringTxSeq) (toLE 2 (s.useRestart It.ringNode) ++ toLE 1 2 ++ toLE 1 1 ++ toLE 2 ((s.advance dt).ringPeers.length + 1) ++ toLE 2 0))] } ∧
      ItemsBut [It.ringState, It.ringMembers, It.ringBreaks, It.ringTxSeq, It.portFramesTx 0] s t ∧ SameOwner s t ∧
      t = { s with clk := s.clk.advance dt, items := t.items, mail := t.mail, ring := t.ring }) ∧
  (∀ (s : State) (dt : Nat) (node : BitVec 16),
    s.speaks = true →
    (s.advance dt).ringPeers.any (fun n => n.node == node.toNat) = false →
    ∃ t, exec (.ringMemberTimeout dt node) s = .next t ∧ t.get It.ringMembers = (s.advance dt).ringPeers.length + 1 ∧ t.get It.ringState = (s.advance dt).ringStateNow ∧
      ItemsBut [It.ringState, It.ringMembers, It.ringBreaks] s t ∧ SameOwner s t ∧ t = { s with clk := s.clk.advance dt, items := t.items, mail := t.mail }) ∧
  (∀ (s : State) (dt t0 : Nat),
    s.speaks = true →
    s.ring.join = some t0 →
    t0 ≤ s.now + dt →
    s.get It.bypassState = 0 →
    exec (.ringJoinWaitEnd dt) s = .next (({ (s.advance dt).set It.bypassState 1 with ring := { s.ring with join := none } } : State).emit 0x0c81 (toLE 1 1 ++ toLE 3 0 ++ toLE 4 (s.get It.bypassCycles) ++ toLE 8 (s.now + dt)))) ∧
  (∀ (s : State) (dt : Nat),
    s.speaks = true →
    s.get It.bypassState = 1 →
    s.get (It.portState 0) = 0 →
    s.get (It.portState 1) = 0 →
    ∃ t, exec (.ringBypassSettled dt false) s = .next t ∧ t.get It.bypassState = 2 ∧ t.get It.ringState = 0 ∧ t.get It.ringMembers = (s.advance dt).ringPeers.length + 1 ∧
      ItemsBut [It.bypassState, It.ringState, It.ringMembers, It.ringBreaks] s t ∧ SameOwner s t ∧ t = { s with clk := s.clk.advance dt, items := t.items, mail := t.mail }) ∧
  (∀ (s : State) (dt : Nat),
    s.get It.bypassState = 3 →
    exec (.bypassCloseDone dt) s = .next (((s.advance dt).shutStore.set It.bypassState 0).emit 0x0c81 (toLE 1 0 ++ toLE 3 0 ++ toLE 4 (s.get It.bypassCycles) ++ toLE 8 (s.now + dt))))

/-- (a) RING_FRAME_RX of a valid frame of another node for another node goes out of the other UP port with its hop count reduced and a new check. (b) MBX_SLOTS of one slot within the free space of the CMD ring of the bound master stores it at its index. (c) MBX_INDEX with a consumer index of the RSP ring frees it, responses follow, and waiting frames are served. (d) RING_RESEND_EXPIRY after 2 ms sends the producer index again. Taken at once: (e) RING_READ answers state and nodes heard; RING_BYPASS (f) begins the join wait, (g) closes the OPEN bypass of ports that are down, counted. -/
def Obligations.RingTrafficIsTaken : Prop :=
  (∀ (s : State) (dt : Nat) (port : Fin 2) (bytes : List Byte),
    s.speaks = true →
    s.get (It.portState port) = 1 →
    s.get (It.portState (1 - port.val)) = 1 →
    nth s.ring.injects (1 - port.val) = none →
    nth s.ring.holding (1 - port.val) = [] →
    ringValid bytes = true →
    u16At bytes 6 ≠ s.useRestart It.ringNode →
    u16At bytes 4 ≠ s.useRestart It.ringNode →
    u16At bytes 4 ≠ 0xff →
    1 < u8At bytes 2 →
    exec (.ringFrameRx dt port bytes) s = .next (({ (s.advance dt).bump (It.portFramesRx port) with ring := { s.ring with sent := s.ring.sent ++ [(1 - port.val, ringBytes (u8At bytes 0) (u8At bytes 1) (u8At bytes 2 - 1) (u16At bytes 4) (u16At bytes 6) (u16At bytes 8) ((bytes.drop 16).take (bytes.length - 20)))] } } : State).bumpBy (It.portFramesTx (1 - port.val)) 1)) ∧
  (∀ (s : State) (dt : Nat) (src : BitVec 16) (body : List Byte),
    s.speaks = true →
    s.boundTo (u8At body 0) src.toNat = true →
    u8At body 1 = 0 →
    u16At body 4 = 1 →
    body.length = 72 →
    (u16At body 2 + 65536 - (s.master (u8At body 0)).cmd.prod) % 65536 < 256 - (s.master (u8At body 0)).cmd.used →
    exec (.mbxSlots dt src body) s = .next { s.advance dt with mail := { s.mail with masters := upd s.mail.masters (u8At body 0) fun x => { x with slots := x.slots.filter (fun y => y.1 != u16At body 2) ++ [(u16At body 2, (body.drop 8).take 64)] } } }) ∧
  (∀ (s : State) (dt : Nat) (src : BitVec 16) (body : List Byte),
    s.speaks = true →
    s.boundTo (u8At body 0) src.toNat = true →
    u8At body 1 = 1 →
    u8At body 2 = 1 →
    body.length = 12 →
    (u16At body 4 + 65536 - (s.master (u8At body 0)).rsp.cons) % 65536 ≤ (s.master (u8At body 0)).rsp.used →
    exec (.mbxIndex dt src body) s = .next ((({ s.advance dt with mail := { s.mail with masters := upd s.mail.masters (u8At body 0) fun x => x.consumeRsp (u16At body 4) }, ring := { s.ring with idxAt := upd s.ring.idxAt (4 * u8At body 0 + 1) fun _ => s.now + dt } } : State).flush (u8At body 0)).serve)) ∧
  (∀ (s : State) (dt : Nat) (m : Fin 16),
    s.speaks = true →
    s.boundTo m (s.get (It.bindNode m)) = true →
    (s.master m).rsp.prod ≠ (s.master m).rsp.cons →
    nth s.ring.idxAt (4 * m.val + 1) + 2000000 ≤ s.now + dt →
    s.get It.bypassState = 2 →
    s.inserts = true →
    s.get (It.portState 0) = 1 →
    s.get (It.portState 1) = 0 →
    nth s.ring.injects 0 = none →
    nth s.ring.holding 0 = [] →
    s.get (It.bindNode m) ≠ 0xff →
    ∃ t, exec (.ringResendExpiry dt m 1) s = .next t ∧ t.get It.ringTxSeq = (s.get It.ringTxSeq + 1) % 65536 ∧
      t.ring = { s.ring with pub := upd s.ring.pub (4 * m.val + 1) (fun _ => (s.master m).rsp.prod), idxAt := upd s.ring.idxAt (4 * m.val + 1) (fun _ => s.now + dt), sent := s.ring.sent ++ [(0, ringBytes 2 (4 * s.lanes.latch) 68 (s.get (It.bindNode m)) (s.useRestart It.ringNode) (s.get It.ringTxSeq) (toLE 1 m ++ toLE 1 1 ++ toLE 1 0 ++ toLE 1 0 ++ toLE 2 (s.master m).rsp.prod ++ toLE 2 0 ++ toLE 4 (crc32c (s.slotsFrom m 1 (s.master m).rsp.cons).flatten)))] } ∧
      ItemsBut [It.ringTxSeq, It.portFramesTx 0] s t ∧ t = { s with clk := s.clk.advance dt, items := t.items, ring := t.ring }) ∧
  (∀ (s : State) (dt : Nat) (m : Fin 16) (h : Hdr) (p : List Byte),
    Accepts m (rowFrame 0x0c00 h p) (s.advance dt) →
    exec (.ringRead dt m h p) s = .next (replied dt m (rowFrame 0x0c00 h p) (okWith (toLE 1 (s.shown It.ringState) ++ toLE 1 (s.shown It.ringMembers) ++ toLE 1 (s.shown It.bypassState) ++ toLE 1 (s.shown (It.portState 0) % 2 + 2 * (s.shown (It.portState 1) % 2)) ++
      (((s.advance dt).ringPeers.take 68).flatMap fun n => toLE 2 n.node ++ toLE 1 (b2n (heard (s.now + dt) n.east) + 2 * b2n (heard (s.now + dt) n.west)) ++ toLE 1 0) ++
      List.replicate (4 * (68 - ((s.advance dt).ringPeers.take 68).length)) 0)) id s)) ∧
  (∀ (s : State) (dt : Nat) (m : Fin 16) (h : Hdr) (p : List Byte),
    Accepts m (rowFrame 0x0c01 h p) (s.advance dt) →
    u8At p 0 = 0 →
    zeroAt p 1 3 = true →
    s.get It.ringEnable = 1 →
    exec (.ringBypass dt m h p) s = .next (replied dt m (rowFrame 0x0c01 h p) (okWith []) (fun a => { a with ring := { a.ring with join := some (s.now + dt + (s.get It.ringJoinDelayMs + 10 * s.useRestart It.ringNode) * 1000000) } }) s)) ∧
  (∀ (s : State) (dt : Nat) (m : Fin 16) (h : Hdr) (p : List Byte),
    Accepts m (rowFrame 0x0c01 h p) (s.advance dt) →
    u8At p 0 = 1 →
    zeroAt p 1 3 = true →
    s.get It.ringEnable = 1 →
    s.get It.bypassState = 2 →
    s.get (It.portState 0) = 0 →
    s.get (It.portState 1) = 0 →
    exec (.ringBypass dt m h p) s = .next (replied dt m (rowFrame 0x0c01 h p) (okWith []) (fun a => ((((({ a with ring := { a.ring with join := none } } : State).bump It.bypassCycles).set It.bypassState 3).emit 0x0c81
      (toLE 1 3 ++ toLE 3 0 ++ toLE 4 (sat32 (s.get It.bypassCycles + 1)) ++ toLE 8 (s.now + dt))).ringJudge)) s))

/-- For links that are no ring ports. (a) LINK_TEST_EXPIRY ends the test with LINK_TEST_DONE. (b) FAULT_INJECT_EXPIRY ends the injection with its event. (c) CHECKER_LOCK of a link under test: LOCKED, bits and errors added. (d) CHECKER_SYNC_LOSS: no longer LOCKED, counted. Taken at once: (e) LINK_TEST_START where Table 11.4 admits it begins a test with counts 0; (f) LINK_TEST_STOP ends it; (g) LINK_TEST_READ answers the items of the latest snapshot; FAULT_INJECT (h) begins an injection, (i) with action 0 ends it. -/
def Obligations.LinkTestsAndInjectionsRun : Prop :=
  (∀ (s : State) (dt t0 : Nat) (link : Fin 6),
    s.live = true →
    2 ≤ link.val →
    nth s.ring.tests link = some t0 →
    t0 ≤ s.now + dt →
    exec (.linkTestExpiry dt link) s = .next ((({ (s.advance dt) with ring := { s.ring with tests := upd s.ring.tests link fun _ => none } } : State).set (It.ltState link) 0 |>.set (It.ltPattern link) 0).emit 0x1380
      (toLE 1 link ++ toLE 1 (s.get (It.ltPattern link)) ++ toLE 2 0 ++ toLE 4 (s.get (It.ltSyncLosses link)) ++ toLE 8 (s.get (It.ltBits link)) ++ toLE 8 (s.get (It.ltErrors link))))) ∧
  (∀ (s : State) (dt : Nat) (link : Fin 6) (x : Inject),
    s.live = true →
    nth s.ring.injects link = some x →
    x.until_ ≤ s.now + dt →
    exec (.faultInjectExpiry dt link) s = .next ((({ (s.advance dt) with ring := { s.ring with injects := upd s.ring.injects link fun _ => none } } : State).set (It.fiAction link) 0).emit 0x1381
      (toLE 1 link ++ toLE 1 x.action ++ toLE 2 0 ++ toLE 4 (s.get (It.fiAltered link)) ++ toLE 8 (s.now + dt)))) ∧
  (∀ (s : State) (dt bits errors t0 : Nat) (link : Fin 6),
    s.live = true →
    nth s.ring.tests link = some t0 →
    exec (.checkerLock dt link bits errors) s = .next ((((s.advance dt).set (It.ltState link) 2).set (It.ltBits link) (min (s.get (It.ltBits link) + bits) (2 ^ 64 - 1))).set (It.ltErrors link) (min (s.get (It.ltErrors link) + errors) (2 ^ 64 - 1)))) ∧
  (∀ (s : State) (dt bits errors : Nat) (link : Fin 6),
    s.live = true →
    s.get (It.ltState link) = 2 →
    exec (.checkerSyncLoss dt link bits errors) s = .next (((((s.advance dt).set (It.ltBits link) (min (s.get (It.ltBits link) + bits) (2 ^ 64 - 1))).set (It.ltErrors link) (min (s.get (It.ltErrors link) + errors) (2 ^ 64 - 1))).set (It.ltState link) 1).bump (It.ltSyncLosses link))) ∧
  (∀ (s : State) (dt : Nat) (m : Fin 16) (h : Hdr) (p : List Byte),
    Accepts m (rowFrame 0x1300 h p) (s.advance dt) →
    2 ≤ u8At p 0 →
    u8At p 0 ≤ 5 →
    u8At p 1 = 1 ∨ u8At p 1 = 2 →
    zeroAt p 2 2 = true →
    0 < u32At p 4 →
    u32At p 4 ≤ 60000 →
    s.get It.testAccess ≠ 0 →
    nth s.ring.tests (u8At p 0) = none →
    nth s.ring.injects (u8At p 0) = none →
    if u8At p 0 < 4 then s.get (It.laneState (1 - s.lanes.latch)) ≠ 3 else u8At p 0 - 4 = 1 - s.lanes.latch ∧ s.get (It.laneState (1 - s.lanes.latch)) = 3 →
    exec (.linkTestStart dt m h p) s = .next (replied dt m (rowFrame 0x1300 h p) (okWith []) (fun a => (((((({ a with ring := { a.ring with tests := upd a.ring.tests (u8At p 0) fun _ => some (s.now + dt + u32At p 4 * 1000000) } } : State).set (It.ltState (u8At p 0)) 1).set (It.ltPattern (u8At p 0)) (u8At p 1)).set (It.ltBits (u8At p 0)) 0).set (It.ltErrors (u8At p 0)) 0).set (It.ltSyncLosses (u8At p 0)) 0)) s)) ∧
  (∀ (s : State) (dt : Nat) (m : Fin 16) (h : Hdr) (p : List Byte) (t0 : Nat),
    Accepts m (rowFrame 0x1301 h p) (s.advance dt) →
    2 ≤ u8At p 0 →
    u8At p 0 ≤ 5 →
    zeroAt p 1 3 = true →
    s.get It.testAccess ≠ 0 →
    nth s.ring.tests (u8At p 0) = some t0 →
    exec (.linkTestStop dt m h p) s = .next (replied dt m (rowFrame 0x1301 h p) (okWith []) (fun a => ((({ a with ring := { a.ring with tests := upd a.ring.tests (u8At p 0) fun _ => none } } : State).set (It.ltState (u8At p 0)) 0 |>.set (It.ltPattern (u8At p 0)) 0).emit 0x1380
      (toLE 1 (u8At p 0) ++ toLE 1 (s.get (It.ltPattern (u8At p 0))) ++ toLE 2 0 ++ toLE 4 (s.get (It.ltSyncLosses (u8At p 0))) ++ toLE 8 (s.get (It.ltBits (u8At p 0))) ++ toLE 8 (s.get (It.ltErrors (u8At p 0)))))) s)) ∧
  (∀ (s : State) (dt : Nat) (m : Fin 16) (h : Hdr) (p : List Byte),
    Accepts m (rowFrame 0x1302 h p) (s.advance dt) →
    u8At p 0 ≤ 5 →
    zeroAt p 1 3 = true →
    exec (.linkTestRead dt m h p) s = .next (replied dt m (rowFrame 0x1302 h p) (okWith (toLE 1 (s.shown (It.ltState (u8At p 0))) ++ toLE 1 (s.shown (It.ltPattern (u8At p 0))) ++ toLE 2 0 ++ toLE 4 (s.shown (It.ltSyncLosses (u8At p 0))) ++
      toLE 8 (s.shown (It.ltBits (u8At p 0))) ++ toLE 8 (s.shown (It.ltErrors (u8At p 0))))) id s)) ∧
  (∀ (s : State) (dt : Nat) (m : Fin 16) (h : Hdr) (p : List Byte),
    Accepts m (rowFrame 0x1303 h p) (s.advance dt) →
    u8At p 0 ≤ 5 →
    u8At p 1 = 1 ∨ u8At p 1 = 2 ∨ u8At p 1 = 3 →
    zeroAt p 10 2 = true →
    0 < u8At p 3 →
    u8At p 3 ≤ 8 →
    u16At p 4 ≠ 0 →
    s.get It.testAccess ≠ 0 →
    nth s.ring.injects (u8At p 0) = none →
    nth s.ring.tests (u8At p 0) = none →
    exec (.faultInject dt m h p) s = .next (replied dt m (rowFrame 0x1303 h p) (okWith []) (fun a => ((({ a with ring := { a.ring with injects := upd a.ring.injects (u8At p 0) fun _ => some { action := u8At p 1, kind := u8At p 2, depth := u8At p 3, every := u16At p 4, count := u16At p 6, bit_ := u16At p 8, until_ := s.now + dt + u32At p 12 * 1000000 } } } : State).set (It.fiAction (u8At p 0)) (u8At p 1)).set (It.fiAltered (u8At p 0)) 0)) s)) ∧
  (∀ (s : State) (dt : Nat) (m : Fin 16) (h : Hdr) (p : List Byte) (x : Inject),
    Accepts m (rowFrame 0x1303 h p) (s.advance dt) →
    u8At p 0 ≤ 5 →
    u8At p 1 = 0 →
    zeroAt p 10 2 = true →
    s.get It.testAccess ≠ 0 →
    nth s.ring.injects (u8At p 0) = some x →
    exec (.faultInject dt m h p) s = .next (replied dt m (rowFrame 0x1303 h p) (okWith []) (fun a => ((({ a with ring := { a.ring with injects := upd a.ring.injects (u8At p 0) fun _ => none } } : State).set (It.fiAction (u8At p 0)) 0).emit 0x1381
      (toLE 1 (u8At p 0) ++ toLE 1 x.action ++ toLE 2 0 ++ toLE 4 (s.get (It.fiAltered (u8At p 0))) ++ toLE 8 (s.now + dt)))) s))

/-- With no update session. (a) LANE_GIVE_UP of the STANDBY lane for a cause 1 to 7: GAVE_UP, counted, LANE_STATE, its restart due after red_restart_delay_ms. (b) VITAL_TIMEOUT of the ACTIVE lane without a standby lane: GAVE_UP with cause 11, the latch HOLDING. (c) TENANT_CORE_RESTART of a partition that is not critical on a lane that is not active is counted and its cause forgotten. (d) MEMORY_SCRUB of a corrected word is counted; (e) of an uncorrectable word of no partition is a cause found. (f) QUIET_TIME_END after 20 µs admits claims. -/
def Obligations.LanesLeaveService : Prop :=
  (∀ (s : State) (dt detectNs : Nat) (lane : Fin 2) (cause : Fin 18),
    s.live = true →
    s.fw.ses = none →
    s.get (It.laneState lane) = 3 →
    s.lanes.latch ≠ lane.val →
    s.lanes.sw = none →
    0 < cause.val →
    cause.val < 8 →
    exec (.laneGiveUp dt lane cause detectNs) s = .next { ((((s.advance dt).bump (It.laneFaults lane)).set (It.laneState lane) 5).set (It.laneCause lane) cause).emit 0x0d80 (toLE 1 lane ++ toLE 1 5 ++ toLE 2 cause ++ toLE 4 (s.get (It.laneRestarts lane)) ++ toLE 8 ((s.now + dt) / 100000)) with lanes := { s.lanes with found := s.lanes.found.filter (fun f => f.1 != lane.val), flight := none, due := upd s.lanes.due lane fun _ => some (s.up + dt + s.useK It.redRestartDelayMs * 1000000) } }) ∧
  (∀ (s : State) (dt : Nat),
    s.live = true →
    s.fw.ses = none →
    s.lanes.accepting = true →
    s.lanes.latch < 2 →
    s.get (It.laneState s.lanes.latch) = 4 →
    s.get (It.laneState (1 - s.lanes.latch)) ≠ 3 →
    s.lanes.sw = none →
    s.panel.upd = none →
    ∃ t, exec (.vitalTimeout dt) s = .next t ∧ t.get (It.laneState s.lanes.latch) = 5 ∧ t.get (It.laneCause s.lanes.latch) = 11 ∧ t.get It.lastCause = 11 ∧ t.get It.lastDetectNs = 20000 ∧
      t.get It.roleAccept = 0 ∧ t.lanes = { s.lanes with accepting := false, consuming := false, flight := none, found := s.lanes.found.filter (fun f => f.1 != s.lanes.latch), due := upd s.lanes.due s.lanes.latch (fun _ => some (s.up + dt + s.useK It.redRestartDelayMs * 1000000)), gap := some { lane := s.lanes.latch, cause := 11, detect := 20000, at_ := s.up + dt }, marks := upd s.lanes.marks s.lanes.latch fun _ => 1 } ∧
      ItemsBut [It.laneState s.lanes.latch, It.laneCause s.lanes.latch, It.laneFaults s.lanes.latch, It.lastCause, It.lastDetectNs, It.role, It.roleAccept] s t ∧ SameOwner s t ∧
      t = { s with clk := s.clk.advance dt, items := t.items, mail := t.mail, lanes := t.lanes, can := { s.can with chs := s.can.chs.map fun c => { c with attempt := none } } }) ∧
  (∀ (s : State) (dt : Nat) (lane : Fin 2) (part : Fin 4),
    s.live = true →
    s.fw.ses = none →
    bit (s.useK It.redTenantCritical) part = false →
    s.lanes.latch ≠ lane.val →
    exec (.tenantCoreRestart dt lane part) s = .next { (s.advance dt).bump (It.tenantRestarts lane) with lanes := { s.lanes with found := s.lanes.found.filter fun f => f != (lane.val, 9) } }) ∧
  (∀ (s : State) (dt : Nat) (lane : Fin 2),
    s.live = true →
    exec (.memoryScrub dt lane .corrected) s = .next ((s.advance dt).bump (if lane.val = 1 then It.sramCorrectedB else It.sramCorrectedA))) ∧
  (∀ (s : State) (dt : Nat) (lane : Fin 2) (lpddr : Bool),
    s.live = true →
    exec (.memoryScrub dt lane (.uncorrectable none lpddr)) s = .next { s.advance dt with lanes := { s.lanes with found := s.lanes.found ++ [(lane.val, if lpddr then 4 else 3)] } }) ∧
  (∀ (s : State) (dt : Nat) (g : Gap),
    s.live = true →
    s.fw.ses = none →
    s.lanes.gap = some g →
    g.at_ + 20000 ≤ s.up + dt →
    exec (.quietTimeEnd dt) s = .next { s.advance dt with lanes := { s.lanes with gap := some { g with quiet := true } } })

/-- With no update session. (a) PLANNED_SWITCH_AT_K: with the copy of its cycle acknowledged and no response in parts, the switch passes K_s and mailboxes are no longer consumed. (b) LANE_YIELD after the copy of K_s: the latch is HOLDING, the lane SYNCING. (c) LANE_CLAIM of the STANDBY lane after a departure and the quiet time, nothing left to make good: ACTIVE, latch ACCEPTING, the gap kept, counted. (d) HANDOVER_BOUND_EXPIRY after a yield without claim: the yielded lane is ACTIVE again and SWITCH_END has outcome 2. (e) START_WAIT_EXPIRY: the other lane, its self-test passed, claims: the module is up in a new epoch. -/
def Obligations.LanesTakeTheRole : Prop :=
  (∀ (s : State) (dt : Nat) (x : Switch),
    s.live = true →
    s.fw.ses = none →
    s.lanes.sw = some x →
    s.lanes.gap = none →
    x.cycle + 1 < s.clk.kLast →
    s.standby = true →
    s.get (It.laneState x.target) = 3 →
    (nth s.ring.tests (4 + x.target)).isSome = false →
    x.ks = none →
    (s.lanes.copied.any fun c => decide (x.cycle ≤ c.cycle) && decide (c.cycle + 1 < s.clk.kLast)) = true →
    s.midResponse = false →
    exec (.plannedSwitchAtK dt) s = .next { s.advance dt with lanes := { s.lanes with sw := some { x with ks := some s.clk.kLast }, consuming := false } }) ∧
  (∀ (s : State) (dt k : Nat) (x : Switch),
    s.live = true →
    s.fw.ses = none →
    s.lanes.sw = some x →
    x.ks = some k →
    s.lanes.accepting = true →
    (s.lanes.copied.any fun c => decide (k ≤ c.cycle + 1)) = true →
    s.panel.upd = none →
    x.initiator < 2 →
    ∃ t, exec (.laneYield dt) s = .next t ∧ t.get (It.laneState s.lanes.latch) = 2 ∧ t.get (It.laneCause s.lanes.latch) = 15 + x.initiator ∧ t.get It.roleAccept = 0 ∧
      t.lanes = { s.lanes with accepting := false, consuming := false, flight := none, synced := upd s.lanes.synced s.lanes.latch (fun _ => true), gap := some { lane := s.lanes.latch, cause := 15 + x.initiator, detect := 0, at_ := s.up + dt, quiet := true, yielded := true }, yielded := upd s.lanes.yielded s.lanes.latch (fun _ => true), marks := upd s.lanes.marks s.lanes.latch fun _ => 2 } ∧
      ItemsBut [It.laneState s.lanes.latch, It.laneCause s.lanes.latch, It.role, It.roleAccept] s t ∧ SameOwner s t ∧
      t = { s with clk := s.clk.advance dt, items := t.items, mail := t.mail, lanes := t.lanes, can := { s.can with chs := s.can.chs.map fun c => { c with attempt := none } } }) ∧
  (∀ (s : State) (dt : Nat) (lane : Fin 2) (g : Gap),
    s.phase = .up →
    s.fw.ses = none →
    s.lanes.gap = some g →
    g.lane ≠ lane.val →
    g.quiet = true →
    g.yielded = false →
    s.get (It.laneState lane) = 3 →
    (nth s.ring.tests (4 + lane.val)).isSome = false →
    nth s.lanes.marks lane ≠ 1 →
    s.lanes.copied = none →
    (∀ l < 6, nth s.ring.injects l = none) →
    s.cam.pulses = [] →
    s.io.sent = [] →
    s.panel.rec_ = none →
    (∀ c < 128, (s.vc c).rodSafe = s.rods.rods.any fun r => r.fsChan == some c) →
    (∀ ch < 6, (s.canCh ch).bufs = []) →
    ∃ t, exec (.laneClaim dt lane) s = .next t ∧ t.get (It.laneState lane) = 4 ∧ t.get It.role = lane.val ∧ t.get It.roleAccept = 1 ∧
      t.get It.lastGapNs = sat32 (s.up + dt - g.at_) ∧ t.get It.failovers = sat32 (s.get It.failovers + 1) ∧ t.get It.ringTxSeq = (s.get It.ringTxSeq + 0x1000) % 65536 ∧
      t.clk = (s.clk.advance dt).shift s.time.standbyOff ∧ t.time.lane = s.time.standby.shift s.time.standbyOff ∧ t.time.standby = s.time.lane.shift s.time.standbyOff ∧ t.time.standbyOff = -s.time.standbyOff ∧
      t.time = (s.advance dt).takeTime.time ∧ t.hist = ((s.advance dt).recorderTaken lane 0 false).hist ∧
      t.lanes = { s.lanes with latch := lane.val, accepting := true, gap := none, flight := none, consuming := false, parts := (s.advance dt).takeParts.lanes.parts, takeover := some { src := g.lane, dst := lane.val, cause := g.cause, detect := g.detect, gap := s.up + dt - g.at_, planned := false, copied := 0 } } ∧
      t.cfgRestart = nth s.lanes.restartCfg lane ∧ ItemsBut [It.laneState lane, It.laneCause lane, It.role, It.roleAccept, It.lastGapNs, It.maxGapNs, It.failovers, It.ringTxSeq] s t ∧ SameOwner s t ∧
      t = { s with clk := t.clk, time := t.time, hist := t.hist, items := t.items, mail := t.mail, lanes := t.lanes, cfgRestart := t.cfgRestart, ring := { s.ring with announce := true }, io := { s.io with slice := (if s.io.words.isEmpty then 4 else 0), awaited := 0 } }) ∧
  (∀ (s : State) (dt : Nat) (g : Gap) (x : Switch),
    s.live = true →
    s.fw.ses = none →
    s.lanes.gap = some g →
    g.yielded = true →
    g.late = false →
    g.at_ + 200000 ≤ s.up + dt →
    g.lane < 2 →
    s.get (It.laneState g.lane) = 2 →
    s.get (It.laneState (1 - g.lane)) ≠ 3 →
    s.lanes.sw = some x →
    s.panel.rec_ = none →
    (∀ c < 128, (s.vc c).rodSafe = s.rods.rods.any fun r => r.fsChan == some c) →
    (∀ ch < 6, (s.canCh ch).bufs = []) →
    ∃ t, exec (.handoverBoundExpiry dt) s = .next t ∧ t.get (It.laneState g.lane) = 4 ∧ t.get It.role = g.lane ∧ t.get It.roleAccept = 1 ∧
      t.lanes = { s.lanes with latch := g.lane, accepting := true, gap := none, consuming := true, sw := none, marks := upd s.lanes.marks g.lane fun _ => 0 } ∧
      ItemsBut [It.laneState g.lane, It.role, It.roleAccept] s t ∧ SameOwner s t ∧
      t = { s with clk := s.clk.advance dt, items := t.items, mail := t.mail, lanes := t.lanes, cfgRestart := nth s.lanes.restartCfg g.lane }) ∧
  (∀ (s : State) (dt t0 : Nat),
    s.phase = .starting →
    nth s.lanes.passed (1 - s.useRestart It.redPreferredLane) = some t0 →
    t0 + s.useRestart It.redStartWaitMs * 1000000 ≤ s.up + dt →
    ∃ t, exec (.startWaitExpiry dt) s = .next t ∧ t.phase = .up ∧ t.clk = { mtime := 0, wall := s.clk.wall + dt, kLast := 0, tickNext := 0 } ∧ t.pending = s.pending)

/-- With no update session. (a) COPY_RECEIVED with equal records ends a run of diverged cycles. (b) COPY_ACK: the copy is the last one, and what waited for its cycle is released. (c) COPY_FAILED below the third in succession is counted. (d) LANE_LINK_DOWN, (e) LANE_LINK_UP where the other lane neither syncs nor stands by. (f) LANE_RESTART_DELAY_END of a lane that may restart: RESTARTING, counted. (g) SELF_TEST_DONE passed by a booted restarting lane: SYNCING over an UP lane link. (h) FULL_SYNC_DONE: the lane follows the active lane's count. -/
def Obligations.CopiesKeepTheStandby : Prop :=
  (∀ (s : State) (dt : Nat) (x : Copy),
    s.live = true →
    s.fw.ses = none →
    s.lanes.flight = some x →
    s.lanes.spoiled = false →
    s.get (It.laneState (1 - s.lanes.latch)) = 3 →
    s.lanes.div = 0 →
    exec (.copyReceived dt true) s = .next ((s.advance dt).set (It.divergeCycles (1 - s.lanes.latch)) 0)) ∧
  (∀ (s : State) (dt : Nat) (x : Copy),
    s.live = true →
    s.fw.ses = none →
    s.lanes.flight = some x →
    s.lanes.spoiled = false →
    s.get (It.laneState (1 - s.lanes.latch)) = 3 →
    exec (.copyAck dt x.cycle) s = .next (({ (s.advance dt).set It.copyCycle x.cycle with lanes := { s.lanes with flight := none, copied := some x, fails := 0 } } : State).releaseCycle x.cycle)) ∧
  (∀ (s : State) (dt : Nat) (x : Copy),
    s.live = true →
    s.fw.ses = none →
    s.lanes.flight = some x →
    s.lanes.fails + 1 < 3 →
    exec (.copyFailed dt) s = .next { (s.advance dt).bump It.copyFailures with lanes := { s.lanes with flight := none, fails := s.lanes.fails + 1 } }) ∧
  (∀ (s : State) (dt : Nat),
    s.live = true →
    s.fw.ses = none →
    s.get (It.laneState (1 - s.lanes.latch)) ≠ 3 →
    exec (.laneLinkDown dt) s = .next { (s.advance dt).set It.laneLink 0 with lanes := { s.lanes with flight := none, synced := [false, false] } }) ∧
  (∀ (s : State) (dt : Nat),
    s.live = true →
    s.fw.ses = none →
    s.get (It.laneState (1 - s.lanes.latch)) ≠ 2 →
    exec (.laneLinkUp dt) s = .next ((s.advance dt).set It.laneLink 1)) ∧
  (∀ (s : State) (dt t0 : Nat) (lane : Fin 2),
    s.live = true →
    s.fw.ses = none →
    nth s.lanes.due lane = some t0 →
    t0 ≤ s.up + dt →
    s.get (It.laneState lane) = 5 →
    s.lanes.gap = none →
    (s.advance dt).mayRestart lane = true →
    lane.val < s.lanes.starts.length →
    (∀ l < 6, nth s.ring.injects l = none ∧ (nth s.ring.tests l).isSome = false) →
    ∃ t, exec (.laneRestartDelayEnd dt lane) s = .next t ∧ t.get (It.laneState lane) = 1 ∧ t.get (It.laneRestarts lane) = sat32 (s.get (It.laneRestarts lane) + 1) ∧
      nth t.lanes.due lane = none ∧ nth t.lanes.starts lane = (s.advance dt).recentStarts lane ++ [s.up + dt] ∧ t.get (It.laneRestartsWindow lane) = min ((s.advance dt).recentStarts lane ++ [s.up + dt]).length 10 ∧
      ItemsBut [It.laneState lane, It.laneCause lane, It.laneRestarts lane, It.laneRestartsWindow lane] s t ∧ SameOwner s t ∧
      t = { s with clk := s.clk.advance dt, items := t.items, mail := t.mail, lanes := t.lanes }) ∧
  (∀ (s : State) (dt : Nat) (lane : Fin 2),
    s.phase = .up →
    s.fw.ses = none →
    s.get (It.laneState lane) = 1 →
    s.lanes.latch ≠ lane.val →
    nth s.lanes.booted lane = true →
    ∃ t, exec (.selfTestDone dt lane true) s = .next t ∧ t.get (It.laneState lane) = 2 ∧ t.get It.laneLink = 1 ∧ t.get (if lane.val = 1 then It.engineOkB else It.engineOkA) = 0x3ffffff ∧
      t.lanes = { s.lanes with passed := upd s.lanes.passed lane (fun _ => some (s.up + dt)), synced := upd s.lanes.synced lane (fun _ => false), booted := upd s.lanes.booted lane (fun _ => true) } ∧
      ItemsBut [It.laneState lane, It.laneLink, if lane.val = 1 then It.engineOkB else It.engineOkA] s t ∧ SameOwner s t ∧ t = { s with clk := s.clk.advance dt, items := t.items, mail := t.mail, lanes := t.lanes }) ∧
  (∀ (s : State) (dt : Nat) (lane : Fin 2),
    s.live = true →
    s.fw.ses = none →
    s.get (It.laneState lane) = 2 →
    s.lanes.accepting = true →
    s.lanes.latch ≠ lane.val →
    s.get It.laneLink = 1 →
    (nth s.ring.tests 2).isSome = false →
    (nth s.ring.tests 3).isSome = false →
    exec (.fullSyncDone dt lane) s = .next { s.advance dt with
      lanes := { s.lanes with synced := upd s.lanes.synced lane (fun _ => true), parts := s.lanes.parts.mapIdx fun m p => if p.cmds.isEmpty && p.blks.isEmpty then { p with cmdProd := (s.master m).cmd.cons, cmdWord := (s.master m).cmd.cons, blkProd := (s.master m).blk.cons, blkWord := (s.master m).blk.cons } else p }
      time := { s.time with standby := s.time.lane, standbyOff := 0 } })

/-- For frames taken at once. (a) RED_READ answers role, acceptance, lane states, fail-overs, copy cycle and gaps of the latest snapshot. (b) LANE_SWITCH to the STANDBY lane with no switch and no activation sets a planned switch of this cycle. (c) LANE_RESTART of a lane neither ACTIVE, RESTARTING nor SYNCING forgets its earlier restarts and restarts it with cause 15. -/
def Obligations.RedundancyCommandsAnswer : Prop :=
  (∀ (s : State) (dt : Nat) (m : Fin 16) (h : Hdr) (p : List Byte),
    Accepts m (rowFrame 0x0d00 h p) (s.advance dt) →
    exec (.redRead dt m h p) s = .next (replied dt m (rowFrame 0x0d00 h p) (okWith (toLE 1 (s.shown It.role) ++ toLE 1 (s.shown It.roleAccept) ++ toLE 1 (s.shown (It.laneState 0)) ++ toLE 1 (s.shown (It.laneState 1)) ++
      toLE 4 (s.shown It.failovers) ++ toLE 8 (s.shown It.copyCycle) ++ toLE 4 (s.shown It.lastGapNs) ++ toLE 4 (s.shown It.maxGapNs))) id s)) ∧
  (∀ (s : State) (dt : Nat) (m : Fin 16) (h : Hdr) (p : List Byte),
    Accepts m (rowFrame 0x0d01 h p) (s.advance dt) →
    u8At p 0 ≤ 1 →
    zeroAt p 1 3 = true →
    s.get (It.laneState (u8At p 0)) = 3 →
    s.lanes.sw = none →
    s.get It.updState < 4 →
    exec (.laneSwitch dt m h p) s = .next (replied dt m (rowFrame 0x0d01 h p) (okWith []) (fun a => { a with lanes := { a.lanes with sw := some { target := u8At p 0, initiator := 0, cycle := (s.now + dt) / 100000 } } }) s)) ∧
  (∀ (s : State) (dt : Nat) (m : Fin 16) (h : Hdr) (p : List Byte),
    Accepts m (rowFrame 0x0d02 h p) (s.advance dt) →
    u8At p 0 ≤ 1 →
    zeroAt p 1 3 = true →
    s.get (It.laneState (u8At p 0)) = 3 ∨ s.get (It.laneState (u8At p 0)) = 5 ∨ s.get (It.laneState (u8At p 0)) = 6 →
    s.get It.updState < 4 →
    exec (.laneRestart dt m h p) s = .next (replied dt m (rowFrame 0x0d02 h p) (okWith []) (fun a => (({ a with lanes := { a.lanes with starts := upd a.lanes.starts (u8At p 0) fun _ => [] } } : State).restartLane (u8At p 0) 15)) s))

/-- In a module that is up. (a) POWER_TIER_CHANGE from tier 0 to a measurement between 26 V and 30 V: tier 2, counted. (b) SUPPLY_ABOVE_OPERATING_MAX: counted once, shown up to 110 V. (c) HOLDUP_DECISION in tier 3 at its time: the power-fail shut-down begins, operating state 3. (d) HOLDUP_RECHARGE_END 50 ms after tier 3: the timer is zero. (e) SHUTDOWN_COMPLETE, nothing to record: the store is closed, PARK, outputs without power. (f) KA_SUPPLY_CHANGE below 8 V: lost, with its event. (g) MAIN_START_DWELL in OFF: a cold start is due. -/
def Obligations.SuppliesDecidePower : Prop :=
  (∀ (s : State) (dt volts : Nat),
    s.phase = .up →
    s.get It.sagTier = 0 →
    s.power.test = none →
    26 * 65536 ≤ volts →
    volts < 30 * 65536 →
    s.power.overs = false →
    ∃ t, exec (.powerTierChange dt volts) s = .next t ∧ t.get It.mainV = volts ∧ t.get It.sagTier = 2 ∧ t.get It.sagEvents = sat32 (s.get It.sagEvents + 1) ∧
      t.power = { s.power with main := volts } ∧ ItemsBut [It.mainV, It.sagTier, It.sagEvents] s t ∧ SameOwner s t ∧
      t = { s with clk := s.clk.advance dt, items := t.items, mail := t.mail, power := t.power }) ∧
  (∀ (s : State) (dt volts : Nat),
    s.phase = .up →
    s.get It.sagTier = 0 →
    s.power.test = none →
    80 * 65536 < volts →
    s.power.overs = false →
    ∃ t, exec (.supplyAboveOperatingMax dt volts) s = .next t ∧ t.get It.mainV = min volts (110 * 65536) ∧ t.get It.supplyOver = sat32 (s.get It.supplyOver + 1) ∧
      t.power = { s.power with main := volts, overs := true } ∧ ItemsBut [It.mainV, It.supplyOver, It.sagEvents] s t ∧ SameOwner s t ∧
      t = { s with clk := s.clk.advance dt, items := t.items, mail := t.mail, power := t.power }) ∧
  (∀ (s : State) (dt t0 : Nat),
    s.phase = .up →
    s.power.running = some t0 →
    s.get It.holdupDecisionMs * 1000000 / 65536 ≤ s.power.counted + (s.up + dt - t0) →
    s.panel.upd = none →
    s.get It.bypassState = 0 →
    ∃ t, exec (.holdupDecision dt) s = .next t ∧ t.phase = .shuttingDown ∧ t.get It.opState = 3 ∧ t.get (It.laneState (1 - s.lanes.latch)) = 0 ∧
      t.power = { s.power with below := true, pend := none, replan := none, test := none } ∧ t.lanes = { s.lanes with flight := none, sw := none } ∧
      ItemsBut [It.opState, It.laneState (1 - s.lanes.latch)] s t ∧ SameOwner s t ∧
      t = { s with clk := s.clk.advance dt, items := t.items, mail := t.mail, power := t.power, lanes := t.lanes, ring := { s.ring with join := none }, phase := .shuttingDown }) ∧
  (∀ (s : State) (dt t0 : Nat),
    s.power.outside = some t0 →
    s.power.running = none →
    t0 + 50000000 ≤ s.up + dt →
    exec (.holdupRechargeEnd dt) s = .next { s.advance dt with power := { s.power with counted := 0, outside := none } }) ∧
  (∀ (s : State) (dt : Nat),
    s.phase = .shuttingDown →
    (∀ i < 32, nth s.hist.wins i = none) →
    s.hist.queue = [] →
    8 * 65536 ≤ s.power.ka →
    ∃ t, exec (.shutdownComplete dt) s = .next t ∧ t.phase = .park ∧ (s.power.stepTwo = true ∨ (t.get It.lastShutdown = 1 ∧ t.get It.powerFails = sat32 (s.get It.powerFails + 1))) ∧ t.power.stepTwo = false ∧
      t.sb.closed = true ∧ t.valve = {} ∧ t.io = {} ∧ t.power.parkAt = s.up + dt ∧ t.power.running = none ∧ t.power.counted = 0) ∧
  (∀ (s : State) (dt volts : Nat),
    s.phase = .up →
    volts < 8 * 65536 →
    s.power.kaLost = false →
    exec (.kaSupplyChange dt volts) s = .next (({ (s.advance dt).set It.kaV volts with power := { s.power with ka := volts, kaLost := true } } : State).emit 0x0e80
      (toLE 1 2 ++ toLE 1 (s.get It.sagTier) ++ toLE 2 0 ++ toLE 4 s.power.main ++ toLE 4 volts ++ toLE 8 (s.now + dt)))) ∧
  (∀ (s : State) (dt : Nat),
    s.phase = .off →
    exec (.mainStartDwell dt) s = .next { s.advance dt with phase := .starting, power := { s.power with main := max s.power.main (35 * 65536), startKind := 0, wakeSrc := 1, wake := none, latched := none } })

/-- In PARK: (a) WAKE_INPUT enabled by park_wake with MAIN+ at the start threshold starts the module; (b) CAN_WAKE_PATTERN enabled without MAIN+ waits for it; (c) PARK_TIMER_EXPIRY starts it; (d) WAKE_WAIT_EXPIRY after 2 s gives the wake up, counted. (e) MODULE_START with the delivered images and self-tests to come: both lanes RESTARTING, counted. (f) STATE_CHANGE_EFFECT of a released STATE_SET to IDLE, all banks off: operating state 2. (g) MODULE_RESET_EFFECT of a released MODULE_RESET: the store closed, a warm reset due, no lane runs. (h) ORDERLY_PARK_COMPLETE with nothing left to record or re-plan: sessions closed, the items kept for PARK, outputs without power. -/
def Obligations.WakesStartsAndStates : Prop :=
  (∀ (s : State) (dt : Nat),
    s.phase = .park →
    bit (s.usePark It.parkWake) 0 = true →
    35 * 65536 ≤ s.power.main →
    exec (.wakeInput dt) s = .next { s.advance dt with phase := .starting, power := { s.power with startKind := 3, wakeSrc := 2, wake := none, latched := none } }) ∧
  (∀ (s : State) (dt : Nat) (ch : Fin 6),
    s.phase = .park →
    bit (s.usePark It.parkWake) 1 = true →
    bit (s.usePark (It.canWake ch)) 0 = true →
    s.power.main < 35 * 65536 →
    s.power.wake = none →
    exec (.canWakePattern dt ch) s = .next { s.advance dt with power := { s.power with wake := some (3, s.up + dt) } }) ∧
  (∀ (s : State) (dt : Nat),
    s.phase = .park →
    s.usePark It.parkTimerS ≠ 0 →
    s.power.parkAt + s.usePark It.parkTimerS * 1000000000 ≤ s.up + dt →
    bit (s.usePark It.parkWake) 2 = true →
    35 * 65536 ≤ s.power.main →
    exec (.parkTimerExpiry dt) s = .next { s.advance dt with phase := .starting, power := { s.power with startKind := 3, wakeSrc := 4, wake := none, latched := none } }) ∧
  (∀ (s : State) (dt src t0 : Nat),
    s.phase = .park →
    s.power.wake = some (src, t0) →
    t0 + 2000000000 ≤ s.up + dt →
    exec (.wakeWaitExpiry dt) s = .next ({ (s.advance dt) with power := { s.power with wake := none } } |>.bump It.wakesNoMain)) ∧
  (∀ (s : State) (dt : Nat) (inp : StartInputs),
    s.phase = .starting →
    s.fw = State.reset.fw →
    inp.rcvy = false →
    inp.passA = none →
    inp.passB = none →
    ∃ t, exec (.moduleStart dt inp) s = .next t ∧ t.phase = .starting ∧ t.get (It.laneState 0) = 1 ∧ t.get (It.laneState 1) = 1 ∧ t.get It.lastStartKind = s.power.startKind ∧
      t.lanes.accepting = false ∧ t.hist.hist = s.hist.hist ∧ t.panel.pages = s.panel.pages ∧ t.sb.stored = s.sb.stored ∧ t.clk = s.clk.advance dt ∧ t.pending = s.pending) ∧
  (∀ (s : State) (dt k c : Nat) (rp : Replan),
    s.live = true →
    s.power.pend = some { what := 1, cycle := c, released := some k } →
    k < s.clk.kLast →
    (∀ b < 16, (s.vb b).idle = false) →
    (∀ b < 16, s.get (It.bankState b) = 0) →
    (∀ b < 16, s.vget b (It.bankEnable b) = 0) →
    (∀ x < 128, (s.vc x).safe ≠ .wait) →
    s.valve.banks.length = 16 →
    ∃ t, exec (.stateChangeEffect dt rp) s = .next t ∧ t.get It.opState = 2 ∧ (∀ b < 16, (t.vb b).idle = true) ∧ ItemsBut [It.opState] s t ∧ SameOwner s t ∧
      t = { s with clk := s.clk.advance dt, items := t.items, mail := t.mail, power := { s.power with pend := none }, valve := { s.valve with banks := t.valve.banks } }) ∧
  (∀ (s : State) (dt k c : Nat),
    s.live = true →
    s.power.pend = some { what := 3, cycle := c, released := some k } →
    k < s.clk.kLast →
    s.get It.bypassState = 0 →
    s.panel.upd = none →
    (∀ l < 6, nth s.ring.injects l = none ∧ (nth s.ring.tests l).isSome = false) →
    ∃ t, exec (.moduleResetEffect dt) s = .next t ∧ t.phase = .starting ∧ t.power = { s.power with startKind := 1, pend := none } ∧ t.sb.closed = true ∧
      t.get (It.laneState 0) = 0 ∧ t.get (It.laneState 1) = 0 ∧ t.get It.opState = 0 ∧ t.get It.lastShutdown = 3 ∧ t.lanes.accepting = false ∧ t.lanes.consuming = false ∧
      ItemsBut [It.laneState 0, It.laneState 1, It.opState, It.lastShutdown, It.role, It.roleAccept] s t ∧
      t = { s with clk := s.clk.advance dt, items := t.items, sb := t.sb, power := t.power, lanes := t.lanes, phase := t.phase, ring := { s.ring with join := none } }) ∧
  (∀ (s : State) (dt : Nat),
    s.phase = .parking →
    s.power.replan = none →
    s.power.latched = none →
    (∀ i < 32, nth s.hist.wins i = none) →
    s.hist.queue = [] →
    s.panel.final = false →
    s.get It.bypassState = 0 →
    8 * 65536 ≤ s.power.ka →
    ∃ t, exec (.orderlyParkComplete dt) s = .next t ∧ t.phase = .park ∧ t.get It.lastShutdown = 2 ∧ (∀ m < 16, t.get (It.sessionState m) = 0) ∧ ItemsBut (It.lastShutdown :: (List.range 16).map fun m => It.sessionState m) s { s with items := t.cfgPark } ∧
      t.sb.closed = true ∧ t.valve = {} ∧ t.io = {} ∧ t.power.parkAt = s.up + dt ∧ t.clk = s.clk.advance dt ∧ t.pending = s.pending)

/-- For frames taken at once. (a) POWER_READ answers the items of Table 13.11 of the latest snapshot. (b) STATE_SET to RUN or IDLE from the other, with no change pending and no activation, sets the change pending in this cycle. (c) MODULE_RESET with mode 0 and no activation sets the reset pending. -/
def Obligations.PowerCommandsAnswer : Prop :=
  (∀ (s : State) (dt : Nat) (m : Fin 16) (h : Hdr) (p : List Byte),
    Accepts m (rowFrame 0x0e00 h p) (s.advance dt) →
    exec (.powerRead dt m h p) s = .next (replied dt m (rowFrame 0x0e00 h p) (okWith (toLE 1 (s.shown It.opState) ++ toLE 1 (s.shown It.sagTier) ++ toLE 1 (s.shown It.lastStartKind) ++ toLE 1 (s.shown It.lastShutdown) ++
      toLE 4 (s.shown It.mainV) ++ toLE 4 (s.shown It.kaV) ++ toLE 4 (s.shown It.holdupMs) ++ toLE 4 (s.shown It.holdupReserveMs) ++ toLE 4 (s.shown It.holdupDecisionMs) ++ toLE 4 0)) id s)) ∧
  (∀ (s : State) (dt : Nat) (m : Fin 16) (h : Hdr) (p : List Byte),
    Accepts m (rowFrame 0x0e01 h p) (s.advance dt) →
    u8At p 0 ≤ 1 →
    zeroAt p 1 3 = true →
    s.get It.opState = 2 - u8At p 0 →
    s.power.pend = none →
    s.get It.updState < 4 →
    exec (.stateSet dt m h p) s = .next (replied dt m (rowFrame 0x0e01 h p) (okWith []) (fun a => { a with power := { a.power with pend := some { what := u8At p 0, cycle := (s.now + dt) / 100000 } } }) s)) ∧
  (∀ (s : State) (dt : Nat) (m : Fin 16) (h : Hdr) (p : List Byte),
    Accepts m (rowFrame 0x0e02 h p) (s.advance dt) →
    u8At p 0 = 0 →
    zeroAt p 1 3 = true →
    s.get It.updState < 4 →
    exec (.moduleReset dt m h p) s = .next (replied dt m (rowFrame 0x0e02 h p) (okWith []) (fun a => { a with power := { a.power with pend := some { what := 3, cycle := (s.now + dt) / 100000 } } }) s))

/-- For an open update session. (a) COMPONENT_HASH_DONE for the last component that is complete but not verified: with its SHA-384 the banks are written; without it its blocks are dropped, cause 1. (b) BANK_WRITE_DONE by the first of two lanes: its spare bank holds the new image, WRITTEN, with the next sequence. (c) CONFIRMATION_WINDOW_END of a mode 0 activation whose new lane did not hold its trial: it is to hand back. (d) UPDATE_SESSION_IDLE for 60 s while receiving: the session ends with outcome 3. -/
def Obligations.UpdateSessionsProgress : Prop :=
  (∀ (s : State) (dt i : Nat) (u : UpdSession) (data : List Byte) (x : Comp),
    s.phase = .up →
    s.fw.ses = some u →
    s.get It.updState = 1 →
    (List.range u.comps.length).find? (fun j => !(u.verified.contains j) && (u.dataOf j).isSome) = some i →
    u.dataOf i = some data →
    u.comps[i]? = some x →
    ({ u with verified := u.verified ++ [i] } : UpdSession).complete = true →
    exec (.componentHashDone dt) s = .next (if Config.sha384 data = x.hash then ({ (s.advance dt).set It.updState 2 with fw := { s.fw with ses := some { u with verified := u.verified ++ [i] } } } : State).emit 0x0f80
      (toLE 1 2 ++ toLE 1 0 ++ toLE 2 0 ++ toLE 4 u.id ++ toLE 8 ((s.now + dt) / 100000)) else
      (({ (s.advance dt) with fw := { s.fw with ses := some { u with blocks := u.blocks.filter fun b => b.1 != i } } } : State).set It.updBlocksMissing ({ u with blocks := u.blocks.filter fun b => b.1 != i } : UpdSession).missing |>.set It.updState 1).emit 0x0f80
      (toLE 1 1 ++ toLE 1 1 ++ toLE 2 0 ++ toLE 4 u.id ++ toLE 8 ((s.now + dt) / 100000)))) ∧
  (∀ (s : State) (dt : Nat) (lane : Fin 2) (u : UpdSession),
    s.phase = .up →
    s.fw.ses = some u →
    s.get It.updState = 2 →
    u.lag = none →
    nth u.written lane = false →
    nth (upd u.written lane fun _ => true) (1 - lane.val) = false →
    exec (.bankWriteDone dt lane true) s = .next { s.advance dt with fw := { s.fw with ses := some { u with written := upd u.written lane fun _ => true }, lanes := upd s.fw.lanes lane fun l => { l with banks := upd l.banks (1 - (s.laneFw lane).boot) fun _ => { st := 2, seq := (s.laneFw lane).running.seq + 1, comps := resulting (u.comps.mapIdx fun i c => { c with data := (u.dataOf i).getD [] }) (s.laneFw lane).running } } } }) ∧
  (∀ (s : State) (dt : Nat) (u : UpdSession),
    s.live = true →
    s.fw.ses = some u →
    s.get It.updState = 6 →
    u.mode = 0 →
    u.back = false →
    u.until_ ≤ s.up + dt →
    s.holdsTrial u = false →
    exec (.confirmationWindowEnd dt) s = .next { s.advance dt with fw := { s.fw with ses := some { u with back := true } } }) ∧
  (∀ (s : State) (dt : Nat) (u : UpdSession),
    s.speaks = true →
    s.fw.ses = some u →
    s.get It.updState = 1 →
    u.lastBlk + 60000000000 ≤ s.up + dt →
    exec (.updateSessionIdle dt) s = .next (((({ ((s.advance dt).set It.updState 0).emit 0x0f80 (toLE 1 0 ++ toLE 1 0 ++ toLE 2 0 ++ toLE 4 u.id ++ toLE 8 ((s.now + dt) / 100000)) with fw := { s.fw with ses := none } } : State).set It.updSession 0).set It.updBlocksMissing 0).emit 0x0f81
      (toLE 4 u.id ++ toLE 1 3 ++ toLE 1 u.lane ++ toLE 2 0 ++ toLE 8 ((s.now + dt) / 100000))))

/-- For frames taken at once. (a) UPD_OPEN of a manifest that every check but the signature admits: with a valid signature a session opens under a free identifier, else SIGNATURE. (b) UPD_BLOCKS of frames that are all accepted stores them. (c) UPD_ACTIVATE of a mode 1 session: both spare banks TRIAL, a reset pending. (d) UPD_CONFIRM in CONFIRMING is noted. (e) UPD_ABORT while receiving ends the session; its outcome is open. (f) UPD_INVENTORY answers a bank. (g) UPD_RECOVERY without a session and (h) UPD_RECOVERY_EXIT in ROM recovery mode set their resets pending. -/
def Obligations.UpdateCommandsAnswer : Prop :=
  (∀ (s : State) (dt : Nat) (m : Fin 16) (h : Hdr) (p img : List Byte),
    Accepts m (rowFrame 0x0f00 h p) (s.advance dt) →
    u8At p 2 ≤ 1 →
    zeroAt p 3 1 = true →
    s.phase = .up →
    s.get It.updState = 0 →
    (s.laneFw s.lanes.latch).running.st = 4 →
    ((taking m (rowFrame 0x0f00 h p) (s.advance dt)).blkImage m (u16At p 0) 1 (u32At p 4) (u32At p 8)).toOption = some img →
    manOk img = true →
    s.svOk 0 (manOf img) = true →
    s.svOk 1 (manOf img) = true →
    s.hwOk (manOf img) = true →
    s.incompatible (manComps img) (manOf img).flags (u8At p 2) (s.laneFw s.lanes.latch).running = none →
    exec (.updOpen dt m h p) s = .next (replied dt m (rowFrame 0x0f00 h p) (if signatureOk (s.laneFw s.lanes.latch).running img = true then okWith (toLE 4 (1 + Config.freeValue s.free % 4294967295) ++ toLE 4 ((manComps img).map Comp.blocks).sum ++ toLE 1 0 ++ toLE 1 0 ++ toLE 2 0) else { status := stSignature, payload := toLE 4 0 ++ toLE 4 0 ++ toLE 1 0 ++ toLE 1 0 ++ toLE 2 0 }) (fun a =>
      if signatureOk (s.laneFw s.lanes.latch).running img = true then ((a.blkConsume m (u16At p 0) 1).openSession img (u8At p 2)).1 else a) s)) ∧
  (∀ (s : State) (dt : Nat) (m : Fin 16) (h : Hdr) (p : List Byte) (u r : UpdSession) (fs : List BlkSeen),
    Accepts m (rowFrame 0x0f01 h p) (s.advance dt) →
    0 < u16At p 2 →
    u16At p 2 ≤ 3 →
    zeroAt p 4 4 = true →
    s.fw.ses = some u →
    s.get It.updState = 1 →
    (taking m (rowFrame 0x0f01 h p) (s.advance dt)).blkFrames m (u16At p 0) (u16At p 2) = some fs →
    takeBlocks 0 fs { u with lastBlk := s.up + dt } = (r, none) →
    exec (.updBlocks dt m h p) s = .next (replied dt m (rowFrame 0x0f01 h p) (okWith (toLE 2 0xffff ++ toLE 2 0 ++ toLE 4 r.missing)) (fun a => (({ a with fw := { a.fw with ses := some r } } : State).set It.updBlocksMissing r.missing).blkConsume m (u16At p 0) (u16At p 2)) s)) ∧
  (∀ (s : State) (dt : Nat) (m : Fin 16) (h : Hdr) (p : List Byte) (u : UpdSession),
    Accepts m (rowFrame 0x0f02 h p) (s.advance dt) →
    s.fw.ses = some u →
    s.get It.updState = 3 →
    s.phase = .up →
    u.mode = 1 →
    u.lag = none →
    exec (.updActivate dt m h p) s = .next (replied dt m (rowFrame 0x0f02 h p) (okWith []) (fun a => { ((((a.modSpare 0 fun b => { b with st := 3, once := true }).modSpare 1 fun b => { b with st := 3, once := true }).set It.updState 4).emit 0x0f80 (toLE 1 4 ++ toLE 1 0 ++ toLE 2 0 ++ toLE 4 u.id ++ toLE 8 ((s.now + dt) / 100000)) : State) with power := { s.power with pend := some { what := 5, cycle := (s.now + dt) / 100000 } } }) s)) ∧
  (∀ (s : State) (dt : Nat) (m : Fin 16) (h : Hdr) (p : List Byte),
    Accepts m (rowFrame 0x0f03 h p) (s.advance dt) →
    s.get It.updState = 6 →
    exec (.updConfirm dt m h p) s = .next (replied dt m (rowFrame 0x0f03 h p) (okWith []) (fun a => { a with fw := { a.fw with ses := a.fw.ses.map fun u => { u with confirm := true } } }) s)) ∧
  (∀ (s : State) (dt : Nat) (m : Fin 16) (h : Hdr) (p : List Byte),
    Accepts m (rowFrame 0x0f04 h p) (s.advance dt) →
    s.get It.updState = 1 →
    exec (.updAbort dt m h p) s = .next (replied dt m (rowFrame 0x0f04 h p) (okWith []) (fun a => ({ a with free := a.free + 1 } : State).updDiscard (Config.freeValue s.free % 5)) s)) ∧
  (∀ (s : State) (dt : Nat) (m : Fin 16) (h : Hdr) (p : List Byte),
    Accepts m (rowFrame 0x0f05 h p) (s.advance dt) →
    u8At p 0 ≤ 1 →
    u8At p 1 ≤ 1 →
    zeroAt p 2 2 = true →
    exec (.updInventory dt m h p) s = .next (replied dt m (rowFrame 0x0f05 h p) (okWith (let b := nth (s.laneFw (u8At p 0)).banks (u8At p 1)
      toLE 1 b.st ++ toLE 1 b.manifests.length ++ toLE 2 b.comps.length ++ toLE 4 b.seq ++ b.comps.flatMap Comp.listed)) id s)) ∧
  (∀ (s : State) (dt : Nat) (m : Fin 16) (h : Hdr) (p : List Byte),
    Accepts m (rowFrame 0x0f06 h p) (s.advance dt) →
    s.get It.updState = 0 →
    exec (.updRecovery dt m h p) s = .next (replied dt m (rowFrame 0x0f06 h p) (okWith []) (fun a => { a with power := { a.power with pend := some { what := 4, cycle := (s.now + dt) / 100000 } } }) s)) ∧
  (∀ (s : State) (dt : Nat) (m : Fin 16) (h : Hdr) (p : List Byte),
    Accepts m (rowFrame 0x0f07 h p) (s.advance dt) →
    s.phase = .recovery →
    s.fw.rcvy = false →
    exec (.updRecoveryExit dt m h p) s = .next (replied dt m (rowFrame 0x0f07 h p) (okWith []) (fun a => { a with power := { a.power with pend := some { what := 6, cycle := (s.now + dt) / 100000 } } }) s))

/-- (a) RECORDER_WINDOW_CLOSE of a histogram channel queues its record and opens the next window at its end. (b) RECORD_WRITTEN on a lane that holds the role, with no open transaction, stores the oldest queued record. (c) AGE_TREND_TICK when due starts the sums again. (d) CANARY_MEASURE of at least 30 ps keeps it and its minimum. For frames taken at once: (e) HIST_READ answers range and records from a first sequence, (f) HIST_CLEAR empties the history region, (g) AGE_READ answers the plan, (h) AGE_MONITOR_READ the trend of one instance. -/
def Obligations.RecordsAreKeptAndRead : Prop :=
  (∀ (s : State) (dt : Nat) (ch : Fin 32) (x : RecWin),
    s.live = true →
    ch.val < s.hist.wins.length →
    nth s.hist.wins ch = some x →
    (x.start / (s.get (It.recWindowS ch) * 1000000000) + 1) * (s.get (It.recWindowS ch) * 1000000000) ≤ s.now + dt →
    s.get (It.recKind ch) = 1 →
    queueBytes s.hist.queue + 200 ≤ 1048576 →
    ∃ t, exec (.recorderWindowClose dt ch) s = .next t ∧ t.get (It.recSamples ch) = 0 ∧
      (let e := (x.start / (s.get (It.recWindowS ch) * 1000000000) + 1) * (s.get (It.recWindowS ch) * 1000000000)
       t.hist = { s.hist with queue := s.hist.queue ++ [(s.advance dt).newRecord 1 x.carry x.start e (0 + (if x.part then 8 else 0)) ch (x.histBody (s.get (It.recBinLow ch)) (s.get (It.recBinWidth ch)))], late := upd s.hist.late ch (fun _ => none), wins := upd s.hist.wins ch fun _ => some { start := e, carry := s.get It.carryNumber, part := false } }) ∧
      ItemsBut [It.recSamples ch, It.recQueuePeakKb] s t ∧ t = { s with clk := s.clk.advance dt, items := t.items, hist := t.hist }) ∧
  (∀ (s : State) (dt : Nat) (r : Record) (q : List Record),
    s.live = true →
    s.lanes.accepting = true →
    s.hist.queue = r :: q →
    s.sb.txnOpen = [] →
    exec (.recordWritten dt) s = .next (({ s.advance dt with hist := { s.hist with queue := q } } : State).storeRecord r)) ∧
  (∀ (s : State) (dt : Nat),
    s.live = true →
    (s.get It.opState = 1 ∨ s.get It.opState = 2) →
    (s.hist.lastTrend / (s.get It.ageTrendH * 3600000000000) + 1) * (s.get It.ageTrendH * 3600000000000) ≤ s.now + dt →
    ∃ t, exec (.ageTrendTick dt) s = .next t ∧ t.hist.sums = [] ∧ t.hist.lastTrend = s.now + dt ∧ t.hist.hist = s.hist.hist ∧ t.hist.age = s.hist.age ∧
      ItemsBut [It.recQueuePeakKb, It.recDropped] s t ∧ SameOwner s t ∧ t = { s with clk := s.clk.advance dt, items := t.items, mail := t.mail, hist := t.hist }) ∧
  (∀ (s : State) (dt slack : Nat) (lane : Fin 2),
    s.live = true →
    30 * 65536 ≤ slack →
    ∃ t, exec (.canaryMeasure dt lane slack) s = .next t ∧ t.get (It.ageCanaryPs lane) = slack ∧
      t.get (It.ageCanaryMinPs lane) = (match nth s.hist.canary lane with | some y => min y slack | none => slack) ∧
      ItemsBut [It.ageCanaryPs lane, It.ageCanaryMinPs lane] s t ∧ t = { s with clk := s.clk.advance dt, items := t.items, hist := { s.hist with sums := t.hist.sums, canary := t.hist.canary } }) ∧
  (∀ (s : State) (dt : Nat) (m : Fin 16) (h : Hdr) (p : List Byte),
    Accepts m (rowFrame 0x1000 h p) (s.advance dt) →
    u8At p 0 = 0 →
    zeroAt p 1 3 = true →
    exec (.histRead dt m h p) s = .next (replied dt m (rowFrame 0x1000 h p) (okWith (toLE 4 (s.get It.recOldestH) ++ toLE 4 (s.get It.recNewestH) ++ toLE 2 (takeBytes 8192 (s.hist.hist.filter fun r => decide (u32At p 4 ≤ r.seq))).length ++ toLE 2 0 ++ toLE 4 0 ++
      (takeBytes 8192 (s.hist.hist.filter fun r => decide (u32At p 4 ≤ r.seq))).flatMap (·.bytes))) id s)) ∧
  (∀ (s : State) (dt : Nat) (m : Fin 16) (h : Hdr) (p : List Byte),
    Accepts m (rowFrame 0x1001 h p) (s.advance dt) →
    u8At p 0 = 0 →
    zeroAt p 1 3 = true →
    exec (.histClear dt m h p) s = .next (replied dt m (rowFrame 0x1001 h p) (okWith []) (fun a => ({ a with hist := { a.hist with hist := [] } } : State).set It.recOldestH ((s.get It.recNewestH + 1) % 4294967296)) s)) ∧
  (∀ (s : State) (dt : Nat) (m : Fin 16) (h : Hdr) (p b : List Byte),
    Accepts m (rowFrame 0x1100 h p) (s.advance dt) →
    s.hist.plan = some b →
    exec (.ageRead dt m h p) s = .next (replied dt m (rowFrame 0x1100 h p) (okWith b) id s)) ∧
  (∀ (s : State) (dt : Nat) (m : Fin 16) (h : Hdr) (p : List Byte),
    Accepts m (rowFrame 0x1101 h p) (s.advance dt) →
    0 < u8At p 0 →
    u8At p 0 ≤ 10 →
    zeroAt p 1 1 = true →
    u16At p 2 < monInstances (u8At p 0) →
    s.hist.sums.find? (fun a => a.mon == u8At p 0 && a.inst == u16At p 2) = none →
    monItem (u8At p 0) (u16At p 2) ≠ It.framesRx m →
    exec (.ageMonitorRead dt m h p) s = .next (replied dt m (rowFrame 0x1101 h p) (okWith (toLE 1 (u8At p 0) ++ toLE 1 0 ++ toLE 2 (u16At p 2) ++ toLE 4 (s.get (monItem (u8At p 0) (u16At p 2))) ++ toLE 4 (s.get (monItem (u8At p 0) (u16At p 2))) ++ toLE 4 (s.get (monItem (u8At p 0) (u16At p 2))) ++ toLE 4 0)) id s))

/-- (a) PANEL_UPDATE_START of a due update under the conditions of R406 latches image, band and frame count. (b) PANEL_FRAME counts a frame and the reading. (c) PANEL_UPDATE_END after the last frame of an update that is not suspect: the glass shows the target, counted. (d) PANEL_TEMP_READ between updates: the band follows. (e) EDGE_LOOP_CHECK above the crack threshold: FAULT. For frames taken at once: (f) PANEL_PAGE_LOAD of a whole image into a page not shown, (g) PANEL_READ, (h) PANEL_REFRESH outside FAULT. -/
def Obligations.PanelUpdatesAndRests : Prop :=
  (∀ (s : State) (dt ohms target : Nat) (clr : Bool),
    s.live = true →
    s.panel.upd = none →
    s.panelNext = some (target, clr) →
    s.panelFree = true →
    2 * 65536 ≤ s.get It.holdupReserveMs →
    ohms ≤ 2000 * 65536 →
    ∃ t, exec (.panelUpdateStart dt ohms) s = .next t ∧ t.get It.panelState = 1 ∧ t.get It.panelCrackOhm = min ohms 2147418112 ∧
      (let clearing := clr || s.panel.glass.isNone || decide (s.get It.panelClearEvery ≤ s.panel.since + 1)
       t.panel.upd = some { target := target, image := s.page target, clearing := clearing, prev := s.panel.glass, band := s.get It.panelBand, total := updFrames clearing (s.get It.panelBand) s.panel.glass (s.page target), start := s.now + dt } ∧
         t.panel.rec_ = some (target, clearing, s.get It.panelShown)) ∧ t.panel.pages = s.panel.pages ∧ t.panel.glass = s.panel.glass ∧
      ItemsBut [It.panelState, It.panelCrackOhm] s t ∧ SameOwner s t ∧ t = { s with clk := s.clk.advance dt, items := t.items, mail := t.mail, panel := t.panel }) ∧
  (∀ (s : State) (dt : Nat) (temp : Int) (u : PanelUpd),
    s.live = true →
    s.panel.upd = some u →
    u.frame < u.total →
    exec (.panelFrame dt temp) s = .next { (s.advance dt).set It.panelTempC (twos 32 (clampInt (-3276800) 6553600 temp)) with panel := { s.panel with upd := some { u with frame := u.frame + 1, suspect := (u.suspect || decide (2 < (bandOf temp - u.band) + (u.band - bandOf temp))) } } }) ∧
  (∀ (s : State) (dt : Nat) (u : PanelUpd),
    s.live = true →
    s.panel.upd = some u →
    u.total ≤ u.frame →
    u.suspect = false →
    s.get It.panelState ≠ 3 →
    ∃ t, exec (.panelUpdateEnd dt) s = .next t ∧ t.get It.panelShown = u.target ∧ t.get It.panelUpdates = sat32 (s.get It.panelUpdates + 1) ∧
      t.get It.panelBand = bandFollow (s.get It.panelBand) (s.geti It.panelTempC) ∧ t.get It.panelState = (if bandFollow (s.get It.panelBand) (s.geti It.panelTempC) = 0 then 2 else 0) ∧
      t.panel = { s.panel with upd := none, glass := some u.image, rec_ := none, lastEnd := s.now + dt, since := (if u.clearing then 0 else s.panel.since + 1) } ∧
      ItemsBut [It.panelShown, It.panelUpdates, It.panelBand, It.panelState] s t ∧ SameOwner s t ∧ t = { s with clk := s.clk.advance dt, items := t.items, mail := t.mail, panel := t.panel }) ∧
  (∀ (s : State) (dt : Nat) (temp : Int),
    s.live = true →
    s.panel.upd = none →
    s.panel.read = true →
    s.get It.panelState ≠ 3 →
    ∃ t, exec (.panelTempRead dt temp) s = .next t ∧ t.get It.panelTempC = twos 32 (clampInt (-3276800) 6553600 temp) ∧ t.get It.panelBand = bandFollow (s.get It.panelBand) temp ∧
      t.get It.panelState = (if bandFollow (s.get It.panelBand) temp = 0 then 2 else 0) ∧
      ItemsBut [It.panelTempC, It.panelBand, It.panelState] s t ∧ SameOwner s t ∧ t = { s with clk := s.clk.advance dt, items := t.items, mail := t.mail }) ∧
  (∀ (s : State) (dt ohms : Nat),
    s.live = true →
    s.panel.upd = none →
    2000 * 65536 < ohms →
    ∃ t, exec (.edgeLoopCheck dt ohms) s = .next t ∧ t.get It.panelState = 3 ∧ t.get It.panelCrackOhm = min ohms 2147418112 ∧
      ItemsBut [It.panelState, It.panelCrackOhm] s t ∧ SameOwner s t ∧ t = { s with clk := s.clk.advance dt, items := t.items, mail := t.mail }) ∧
  (∀ (s : State) (dt : Nat) (m : Fin 16) (h : Hdr) (p img : List Byte),
    Accepts m (rowFrame 0x1200 h p) (s.advance dt) →
    u8At p 0 ≤ 15 →
    zeroAt p 1 1 = true →
    0 < u16At p 4 →
    zeroAt p 6 2 = true →
    ((taking m (rowFrame 0x1200 h p) (s.advance dt)).blkImage m (u16At p 2) (u16At p 4) (u32At p 8) (u32At p 12)).toOption = some img →
    pageOk img = true →
    s.panel.upd = none →
    s.get It.panelShown ≠ u8At p 0 →
    exec (.panelPageLoad dt m h p) s = .next (replied dt m (rowFrame 0x1200 h p) (okWith []) (fun a => ({ a with panel := { a.panel with pages := upd a.panel.pages (u8At p 0) fun _ => img.drop 16 } } : State).blkConsume m (u16At p 2) (u16At p 4)) s)) ∧
  (∀ (s : State) (dt : Nat) (m : Fin 16) (h : Hdr) (p : List Byte),
    Accepts m (rowFrame 0x1201 h p) (s.advance dt) →
    exec (.panelRead dt m h p) s = .next (replied dt m (rowFrame 0x1201 h p) (okWith (toLE 1 (s.shown It.panelState) ++ toLE 1 (s.shown It.panelBand) ++ toLE 1 (s.shown It.panelShown) ++ toLE 1 ((s.panel.upd.map (·.target)).getD 0xff) ++
      toLE 4 (s.shown It.panelTempC) ++ toLE 4 (s.shown It.panelUpdates) ++ toLE 8 s.panel.lastEnd)) id s)) ∧
  (∀ (s : State) (dt : Nat) (m : Fin 16) (h : Hdr) (p : List Byte),
    Accepts m (rowFrame 0x1202 h p) (s.advance dt) →
    s.get It.panelState ≠ 3 →
    exec (.panelRefresh dt m h p) s = .next (replied dt m (rowFrame 0x1202 h p) (okWith []) (fun a => { a with panel := { a.panel with want := true, clear := true } }) s))

/-- For every command and state, a step of the state with that command at the front of its queue is the execution of the command on the state with the queue's rest. With no command waiting the block idles; that is the model's choice (log entry 12). -/
def Obligations.StepTakesTheFront : Prop :=
  (∀ (s : State) (c : Instr) (rest : List Instr),
    step { s with pending := c :: rest } = exec c { s with pending := rest }) ∧
  (∀ (s : State),
    s.pending = [] →
    step s = .next s)

/-- From every state, reachable or not, every step answers a next state: it takes exactly the command at the front of the queue and adds none, and the time since power-on never turns back. Where no base-cycle boundary and no tick of the internal tally source lies in the future and module time does not exceed the time since power-on, the same holds after the step, whichever command it is. Module time turns back only where a lane claims: at a module start a new epoch begins at 0; after a departure or a yield it goes on as the claiming lane's own. -/
def Obligations.StepsGoOnAndKeepTheClock : Prop :=
  (∀ (s : State),
    ∃ t, step s = .next t ∧ t.pending = s.pending.tail ∧ s.clk.wall ≤ t.clk.wall ∧       (t.clk.mtime < s.clk.mtime → (s.phase = .starting ∧ (t.phase = .up ∨ t.phase = .recovery) ∧ t.clk.mtime = 0) ∨
        (s.lanes.gap.isSome = true ∧ t.lanes.gap.isNone = true ∧ t.lanes.latch ≠ s.lanes.latch ∧ ∃ dt, t.clk = (s.clk.advance dt).shift s.time.standbyOff))) ∧
  (∀ (s : State),
    ClockOk s.clk →
    ∃ t, step s = .next t ∧ ClockOk t.clk)

/-- After reset no command waits, the clocks are consistent, every item reads its default and the item store has its canonical form, no session is open, nobody owns the module, every slate is FREE and empty, every mailbox ring is empty, and the module is at the start trigger of a cold start with MAIN+ at the start threshold. That the state stands at a start trigger, and the supply it has there, are the model's choice (log entry 11). -/
def Obligations.ResetStartsTheModule : Prop :=
  (∀ (k : Nat) (i : Fin 16),
    State.reset.pending = [] ∧ ClockOk State.reset.clk ∧ State.reset.get k = itemDefault State.reset.variant k ∧ Store.wf State.reset.variant State.reset.items = true ∧
      State.reset.phase = .starting ∧ State.reset.mail.owner = none ∧ State.reset.sessionOpen i = false ∧ State.reset.slate i = { st := .free } ∧
      (State.reset.master i).rspFrames = [] ∧ (State.reset.master i).evtFrames = [] ∧ (State.reset.master i).outq = [] ∧ (State.reset.master i).waiting = [] ∧
      State.reset.power.main = 35 * 65536 ∧ State.reset.power.startKind = 0)

/-- While the module is OFF or in PARK, every command but the supplies, the wake sources, their timers and the contacts of the ring bypass passes time and changes nothing else. OFF is left only when MAIN+ has held the start threshold for the start dwell. While the module serves no mailbox, a command frame passes time only. -/
def Obligations.NothingRunsWithoutPower : Prop :=
  (∀ (s : State) (i : Instr),
    s.phase = .off ∨ s.phase = .park →
    supplyRow i = false →
    ∃ t, exec i s = .next t ∧ t = { s with clk := t.clk }) ∧
  (∀ (s : State) (i : Instr),
    s.phase = .off →
    ∃ t, exec i s = .next t ∧ (t.phase = .off ∨ (match i with | .mainStartDwell _ => true | _ => false) = true)) ∧
  (∀ (s : State) (i : Instr) (c : OpCmd),
    opRow i = some c →
    s.speaks = false →
    exec i s = .next (s.advance c.dt))

/-- For every opcode row: a frame that fails one of checks 1 to 6 of Table 3.6 is counted, and answered with that check's status or discarded without response (check 3), frame_errors counting checks 1 and 3; one that fails one of checks 7 to 10 is answered with its status; back-pressure answers BUSY with a hint of 500 to 20 000 us; nothing else changes. A frame that finds no room in the RSP ring, no service, or an earlier frame waiting, waits in its ring; so does one that the copy of this cycle has no room for, which is counted. -/
def Obligations.RefusedFramesHaveNoEffect : Prop :=
  (∀ (s : State) (i : Instr) (c : OpCmd) (st : Nat),
    opRow i = some c →
    Reaches c.m c.frame (s.advance c.dt) →
    frontCheck c.m c.frame (s.advance c.dt) = .refuse st →
    exec i s = .next (answered s.mail.owner c.m c.frame (denies st) (if st = stIntegrity then (counted c.m c.frame (s.advance c.dt)).bump (It.frameErrors c.m) else counted c.m c.frame (s.advance c.dt)))) ∧
  (∀ (s : State) (i : Instr) (c : OpCmd),
    opRow i = some c →
    Reaches c.m c.frame (s.advance c.dt) →
    frontCheck c.m c.frame (s.advance c.dt) = .discard →
    exec i s = .next (turned s.mail.owner c.m ((counted c.m c.frame (s.advance c.dt)).bump (It.frameErrors c.m)))) ∧
  (∀ (s : State) (i : Instr) (c : OpCmd) (st : Nat),
    opRow i = some c →
    Reaches c.m c.frame (s.advance c.dt) →
    frontCheck c.m c.frame (s.advance c.dt) = .accept →
    kept c.m c.frame (s.advance c.dt) = none →
    backCheck c.m c.frame (s.advance c.dt) = some st →
    exec i s = .next (answered s.mail.owner c.m c.frame (denies st) (taking c.m c.frame (s.advance c.dt)))) ∧
  (∀ (s : State) (i : Instr) (c : OpCmd),
    opRow i = some c →
    Reaches c.m c.frame (s.advance c.dt) →
    frontCheck c.m c.frame (s.advance c.dt) = .accept →
    kept c.m c.frame (s.advance c.dt) = none →
    backCheck c.m c.frame (s.advance c.dt) = none →
    (s.advance c.dt).busy c.m c.code = true →
    ∃ hint, 500 ≤ hint ∧ hint ≤ 20000 ∧ exec i s = .next (answered s.mail.owner c.m c.frame { status := stBusy, payload := toLE 4 hint } (({ taking c.m c.frame (s.advance c.dt) with free := s.free + 1 } : State).bump (It.busySent c.m)))) ∧
  (∀ (s : State) (i : Instr) (c : OpCmd),
    opRow i = some c →
    s.speaks = true →
    s.serves c.m = false ∨ s.rspRoom c.m = false ∨ (s.master c.m).waiting ≠ [] →
    exec i s = .next ((s.advance c.dt).modMaster c.m fun ma => { ma with cmd := ma.cmd.produce (frameSlots c.p.length), waiting := ma.waiting ++ [c.frame] })) ∧
  (∀ (s : State) (i : Instr) (c : OpCmd),
    opRow i = some c →
    s.speaks = true →
    s.serves c.m = true →
    s.rspRoom c.m = true →
    (s.master c.m).waiting = [] →
    s.mayStart c.code = false →
    exec i s = .next (((s.advance c.dt).modMaster c.m fun ma => { ma with cmd := ma.cmd.produce (frameSlots c.p.length), waiting := [c.frame] }).bump It.copyDeferrals)) ∧
  (∀ (s : State) (m : Nat) (f : Frame),
    (f.h.check.toNat ≠ expectedCheck f → frontCheck m f s = .refuse stIntegrity) ∧
      (f.h.check.toNat = expectedCheck f → f.h.version.toNat ≠ 1 → frontCheck m f s = .refuse stVersion) ∧
      (f.h.check.toNat = expectedCheck f → f.h.version.toNat = 1 → (f.h.mfield.toNat ≠ m ∨ f.h.ring.toNat ≠ 0) → frontCheck m f s = .discard) ∧
      (f.h.check.toNat = expectedCheck f → f.h.version.toNat = 1 → f.h.mfield.toNat = m → f.h.ring.toNat = 0 → 1008 < f.p.length → frontCheck m f s = .refuse stLength) ∧
      (frontCheck m f s = .accept → f.op.toNat ≠ 0x0100 → (f.op.toNat ≠ 0x0200 ∨ identityRead f.p = false) → s.sessionOpen m = true) ∧
      (ownerOnly.contains f.op.toNat = true → s.mail.owner ≠ some m → backCheck m f s ≠ none))

/-- For every opcode row whose frame passes checks 1 to 6: with RETRY set and a kept response of its sequence, that response is sent again and nothing is executed; any other frame that passes the further checks is executed as its opcode says, whether or not RETRY is set. A response sent whole joins the kept ones, of which the last 16 are kept. -/
def Obligations.CommandsAreExecutedOrRetried : Prop :=
  (∀ (s : State) (i : Instr) (c : OpCmd) (r : Resp),
    opRow i = some c →
    Reaches c.m c.frame (s.advance c.dt) →
    frontCheck c.m c.frame (s.advance c.dt) = .accept →
    kept c.m c.frame (s.advance c.dt) = some r →
    exec i s = .next (turned s.mail.owner c.m ((taking c.m c.frame (s.advance c.dt)).respond c.m { r with wait := .ready, placed := 0 }))) ∧
  (∀ (s : State) (i : Instr) (c : OpCmd),
    opRow i = some c →
    Reaches c.m c.frame (s.advance c.dt) →
    frontCheck c.m c.frame (s.advance c.dt) = .accept →
    kept c.m c.frame (s.advance c.dt) = none →
    backCheck c.m c.frame (s.advance c.dt) = none →
    (s.advance c.dt).busy c.m c.code = false →
    exec i s = .next (executed c.m c.frame s (s.advance c.dt))) ∧
  (∀ (s : State) (m : Nat) (f : Frame) (r : Resp),
    f.h.flags.toNat = 2 →
    r ∈ (s.master m).cache →
    r.seq = f.h.seq.toNat →
    (kept m f s).any (fun q => q.seq == f.h.seq.toNat && (s.master m).cache.contains q) = true) ∧
  (∀ (s : State) (m : Nat) (r : Resp),
    s.mail.reck.up = true →
    m < s.mail.masters.length →
    (s.master m).outq = [] →
    r.wait = .ready →
    r.placed = 0 →
    RoomFor r (s.master m) →
    ((s.respond m r).master m).cache = ((s.master m).cache ++ [r]).drop ((s.master m).cache.length + 1 - 16))

/-- A response that waits for nothing and finds room is placed whole, in consecutive frames of the RSP ring: each carries at most 1008 payload bytes, all carry the response's sequence, every one but the last has CONT set, and their payloads together are the response's payload. -/
def Obligations.LongResponsesAreSplit : Prop :=
  (∀ (s : State) (m : Nat) (r : Resp),
    s.mail.reck.up = true →
    m < s.mail.masters.length →
    (s.master m).outq = [] →
    r.wait = .ready →
    r.placed = 0 →
    RoomFor r (s.master m) →
    ((s.respond m r).master m).rspFrames = (s.master m).rspFrames ++ (List.range (respParts r)).map (respFrame (servedFlag s) r) ∧ ((s.respond m r).master m).outq = []) ∧
  (∀ (served : Nat) (ma t : Master) (r : Resp) (rest : List Resp),
    ma.outq = r :: rest →
    r.wait = .ready →
    r.placed = 0 →
    RoomFor r ma →
    flushN served (respParts r) ma = t →
    t.rspFrames = ma.rspFrames ++ (List.range (respParts r)).map (respFrame served r) ∧ t.outq = rest ∧ t.evtFrames = ma.evtFrames ∧ t.evt = ma.evt) ∧
  (∀ (served k : Nat) (r : Resp),
    k < respParts r →
    served % 2 = 0 →
    ((List.range (respParts r)).map (respFrame served r)).flatMap (fun f => f.payload) = r.payload ∧ (respFrame served r k).payload.length ≤ 1008 ∧
      (respFrame served r k).seq = r.seq ∧ (bit (respFrame served r k).flags 0 = true ↔ k + 1 < respParts r))

/-- An entry of an ITEM_WRITE or of a slate image that names an item whose Apply is immediate or whose Survives is F is refused with CONFLICT, one with a value outside the item's range or a set reserved bit with RANGE, and one whose key does not exist with NO_ITEM; a request whose first refused entry is entry j is answered with j and that status, and no item, slate or other state changes. -/
def Obligations.WritesAreRefusedInOrder : Prop :=
  (∀ (s : State) (direct : Bool) (e : List Byte),
    2 ^ 24 ≤ u32At e 0 ∨ findRow (u32At e 0) = none →
    s.entryOf direct e = .error stNoItem) ∧
  (∀ (s : State) (direct : Bool) (e : List Byte) (r : ItemRow),
    u32At e 0 < 2 ^ 24 →
    findRow (u32At e 0) = some r →
    u8At e 4 = r.ty.code →
    u8At e 5 = r.ty.bytes →
    zeroAt e 6 2 = true →
    zeroAt e (8 + r.ty.bytes) (8 - r.ty.bytes) = true →
    (r.apply = .immediate ∨ r.surv = .f → s.entryOf direct e = .error stConflict) ∧
      (¬ (r.apply = .immediate ∨ r.surv = .f) → r.inRange (leAt e 8 r.ty.bytes) = false → s.entryOf direct e = .error stRange)) ∧
  (∀ (s : State) (dt : Nat) (m : Fin 16) (h : Hdr) (p : List Byte) (j st : Nat),
    Accepts m (rowFrame 0x0201 h p) (s.advance dt) →
    u16At p 0 ≤ 62 →
    zeroAt p 2 2 = true →
    j < u16At p 0 →
    h.slate.toNat = 0xff ∨ (h.slate.toNat < 8 ∧ s.fillable h.slate.toNat = true) →
    ((taking m (rowFrame 0x0201 h p) (s.advance dt)).takeEntries (h.slate.toNat == 0xff) 0 ((List.range j).map fun i => (p.drop (4 + 16 * i)).take 16) (if h.slate.toNat = 0xff then [] else (s.slate h.slate.toNat).entries)).toOption.isSome = true →
    (match (taking m (rowFrame 0x0201 h p) (s.advance dt)).entryOf (h.slate.toNat == 0xff) ((p.drop (4 + 16 * j)).take 16) with | .error e => some e | .ok _ => none) = some st →
    exec (.itemWrite dt m h p) s = .next (replied dt m (rowFrame 0x0201 h p) { status := st, payload := toLE 2 j ++ toLE 2 st ++ toLE 4 0 } id s)) ∧
  (∀ (s : State) (dt : Nat) (m : Fin 16) (h : Hdr) (p : List Byte) (j st : Nat) (img : List Byte),
    Accepts m (rowFrame 0x0301 h p) (s.advance dt) →
    h.slate.toNat < 8 →
    zeroAt p 12 4 = true →
    s.fillable h.slate.toNat = true →
    ((taking m (rowFrame 0x0301 h p) (s.advance dt)).blkImage m (u16At p 0) (u16At p 2) (u32At p 4) (u32At p 8)).toOption = some img →
    u32At img 0 = 1 →
    u32At img 4 = 0x9648 →
    j < u16At img 8 →
    u16At img 8 ≤ 4096 →
    zeroAt img 10 2 = true →
    img.length = 16 + 16 * u16At img 8 →
    ((taking m (rowFrame 0x0301 h p) (s.advance dt)).takeEntries false 0 ((List.range j).map fun i => (img.drop (16 + 16 * i)).take 16) (s.slate h.slate.toNat).entries).toOption.isSome = true →
    (match (taking m (rowFrame 0x0301 h p) (s.advance dt)).entryOf false ((img.drop (16 + 16 * j)).take 16) with | .error e => some e | .ok _ => none) = some st →
    exec (.slateLoad dt m h p) s = .next (replied dt m (rowFrame 0x0301 h p) { status := st, payload := toLE 2 j ++ toLE 2 st ++ toLE 4 0 } id s))

/-- Entries taken into a slate never make it longer than 4096, or than it was. An ITEM_WRITE or SLATE_LOAD whose entries each pass their tests, and which would take the slate beyond 4096 entries, is answered ADMISSION with the index of the entry that is one too many, and nothing is added. -/
def Obligations.SlatesHoldTheirLimit : Prop :=
  (∀ (s : State) (direct : Bool) (i : Nat) (rows : List (List Byte)) (acc es : List (Nat × Nat)),
    (s.takeEntries direct i rows acc).toOption = some es →
    es.length ≤ max 4096 acc.length) ∧
  (∀ (s : State) (dt : Nat) (m : Fin 16) (p : List Byte) (es : List (Nat × Nat)) (h : Hdr),
    Accepts m (rowFrame 0x0201 h p) (s.advance dt) →
    0 < u16At p 0 →
    u16At p 0 ≤ 62 →
    zeroAt p 2 2 = true →
    h.slate.toNat < 8 →
    s.fillable h.slate.toNat = true →
    (List.range (u16At p 0)).mapM (fun j => ((taking m (rowFrame 0x0201 h p) (s.advance dt)).entryOf false ((p.drop (4 + 16 * j)).take 16)).toOption) = some es →
    4096 < (es.foldl (fun a e => putEntry e a) (s.slate h.slate.toNat).entries).length →
    ∃ j, j < u16At p 0 ∧ exec (.itemWrite dt m h p) s = .next (replied dt m (rowFrame 0x0201 h p) { status := stAdmission, payload := toLE 2 j ++ toLE 2 stAdmission ++ toLE 4 0 } id s)) ∧
  (∀ (s : State) (dt : Nat) (m : Fin 16) (p img : List Byte) (es : List (Nat × Nat)) (h : Hdr),
    Accepts m (rowFrame 0x0301 h p) (s.advance dt) →
    h.slate.toNat < 8 →
    zeroAt p 12 4 = true →
    s.fillable h.slate.toNat = true →
    ((taking m (rowFrame 0x0301 h p) (s.advance dt)).blkImage m (u16At p 0) (u16At p 2) (u32At p 4) (u32At p 8)).toOption = some img →
    u32At img 0 = 1 →
    u32At img 4 = 0x9648 →
    0 < u16At img 8 →
    u16At img 8 ≤ 4096 →
    zeroAt img 10 2 = true →
    img.length = 16 + 16 * u16At img 8 →
    (List.range (u16At img 8)).mapM (fun j => ((taking m (rowFrame 0x0301 h p) (s.advance dt)).entryOf false ((img.drop (16 + 16 * j)).take 16)).toOption) = some es →
    4096 < (es.foldl (fun a e => putEntry e a) (s.slate h.slate.toNat).entries).length →
    ∃ j, j < u16At img 8 ∧ exec (.slateLoad dt m h p) s = .next (replied dt m (rowFrame 0x0301 h p) { status := stAdmission, payload := toLE 2 j ++ toLE 2 stAdmission ++ toLE 4 0 } id s))

/-- A counted edge moves the accumulator by one in its direction. At plus the prescale the accumulator returns to zero and a debt is repaid by one, or with no debt the integer advances by one modulo 2^48, the fraction restarts at zero and the unit's mtime is noted; at minus the prescale it returns to zero and the debt grows by one up to 2^32 - 1. With reverse_policy discard a reverse edge changes nothing and a debt of zero stays zero. A tick of the internal source counts so on the lane in service when that source is selected. -/
def Obligations.CountingFollowsTheProcedure : Prop :=
  (∀ (prescale t : Nat) (c : Counter) (forward : Bool) (a : Int) (d : Counter),
    0 < prescale →
    a = c.acc + (if forward then 1 else -1) →
    d = c.edge prescale false forward t →
    (a = prescale → d.acc = 0 ∧ (0 < c.debt → d.debt = c.debt - 1 ∧ d.int = c.int ∧ d.tLast = c.tLast) ∧
        (c.debt = 0 → d.debt = 0 ∧ d.int = (c.int + 1) % 2 ^ 48 ∧ d.fraction t = 0 ∧ d.tLast = t)) ∧
      (a = -(prescale : Int) → d.acc = 0 ∧ d.debt = min (c.debt + 1) (2 ^ 32 - 1) ∧ d.int = c.int ∧ d.tLast = c.tLast) ∧
      (a ≠ prescale → a ≠ -(prescale : Int) → d = { c with acc := a })) ∧
  (∀ (prescale t : Nat) (c : Counter) (forward : Bool),
    c.debt = 0 →
    -(prescale : Int) ≤ c.acc →
    c.edge prescale true false t = c ∧ (c.edge prescale true forward t).debt = 0)

/-- A counter whose fraction lies below one unit, and which has no debt while it is RUNNING, stays so over an edge, a stall and a change of source; over each of them, and as time passes, its position never decreases, the wrap at 2^48 units apart. So over a tick of the internal source and over the end of the stall time. -/
def Obligations.TallyNeverTurnsBack : Prop :=
  (∀ (c : Counter) (t u : Nat),
    t ≤ u →
    c.pos t ≤ c.pos u) ∧
  (∀ (prescale t limit : Nat) (c : Counter) (discard forward : Bool),
    TallyOk c →
    c.int + 1 < 2 ^ 48 →
    c.pos t ≤ (c.edge prescale discard forward t).pos t ∧ TallyOk (c.edge prescale discard forward t) ∧
      (c.stall limit t).pos t = c.pos t ∧ TallyOk (c.stall limit t) ∧ (c.changeSource t).pos t = c.pos t ∧ TallyOk (c.changeSource t)) ∧
  (∀ (s : State),
    TallyOk s.time.lane →
    s.time.lane.int + 1 < 2 ^ 48 →
    ∃ t, exec .internalTallyTick s = .next t ∧ s.pos ≤ t.pos ∧ TallyOk t.time.lane) ∧
  (∀ (s : State) (dt : Nat),
    TallyOk s.time.lane →
    ∃ t, exec (.tallyStall dt) s = .next t ∧ s.pos ≤ t.pos ∧ TallyOk t.time.lane)
end

