-- ==== Sys2Proof/Laws/State.lean ====
section
/-! SUPPORT. What each update of the state leaves and writes, field by field. -/

namespace Sys2Proof.Machine

variable (s : State)

/-! ## modTime -/

@[simp] theorem State.modTime_pending (f : TimeState → TimeState) : (s.modTime f).pending = s.pending := rfl
@[simp] theorem State.modTime_clk (f : TimeState → TimeState) : (s.modTime f).clk = s.clk := rfl
@[simp] theorem State.modTime_free (f : TimeState → TimeState) : (s.modTime f).free = s.free := rfl
@[simp] theorem State.modTime_variant (f : TimeState → TimeState) : (s.modTime f).variant = s.variant := rfl
@[simp] theorem State.modTime_phase (f : TimeState → TimeState) : (s.modTime f).phase = s.phase := rfl
@[simp] theorem State.modTime_items (f : TimeState → TimeState) : (s.modTime f).items = s.items := rfl
@[simp] theorem State.modTime_cfgK (f : TimeState → TimeState) : (s.modTime f).cfgK = s.cfgK := rfl
@[simp] theorem State.modTime_cfgPark (f : TimeState → TimeState) : (s.modTime f).cfgPark = s.cfgPark := rfl
@[simp] theorem State.modTime_cfgRestart (f : TimeState → TimeState) : (s.modTime f).cfgRestart = s.cfgRestart := rfl
@[simp] theorem State.modTime_time (f : TimeState → TimeState) : (s.modTime f).time = f s.time := rfl
@[simp] theorem State.modTime_mail (f : TimeState → TimeState) : (s.modTime f).mail = s.mail := rfl
@[simp] theorem State.modTime_sb (f : TimeState → TimeState) : (s.modTime f).sb = s.sb := rfl
@[simp] theorem State.modTime_lanes (f : TimeState → TimeState) : (s.modTime f).lanes = s.lanes := rfl
@[simp] theorem State.modTime_cam (f : TimeState → TimeState) : (s.modTime f).cam = s.cam := rfl
@[simp] theorem State.modTime_can (f : TimeState → TimeState) : (s.modTime f).can = s.can := rfl
@[simp] theorem State.modTime_hist (f : TimeState → TimeState) : (s.modTime f).hist = s.hist := rfl
@[simp] theorem State.modTime_fus (f : TimeState → TimeState) : (s.modTime f).fus = s.fus := rfl
@[simp] theorem State.modTime_valve (f : TimeState → TimeState) : (s.modTime f).valve = s.valve := rfl
@[simp] theorem State.modTime_rods (f : TimeState → TimeState) : (s.modTime f).rods = s.rods := rfl
@[simp] theorem State.modTime_io (f : TimeState → TimeState) : (s.modTime f).io = s.io := rfl
@[simp] theorem State.modTime_ring (f : TimeState → TimeState) : (s.modTime f).ring = s.ring := rfl
@[simp] theorem State.modTime_power (f : TimeState → TimeState) : (s.modTime f).power = s.power := rfl
@[simp] theorem State.modTime_fw (f : TimeState → TimeState) : (s.modTime f).fw = s.fw := rfl
@[simp] theorem State.modTime_panel (f : TimeState → TimeState) : (s.modTime f).panel = s.panel := rfl
@[simp] theorem State.modTime_get (f : TimeState → TimeState) (key : Nat) : (s.modTime f).get key = s.get key := rfl
@[simp] theorem State.modTime_useK (f : TimeState → TimeState) (key : Nat) : (s.modTime f).useK key = s.useK key := rfl
@[simp] theorem State.modTime_live (f : TimeState → TimeState) : (s.modTime f).live = s.live := rfl

/-! ## modMail -/

@[simp] theorem State.modMail_pending (f : Mail → Mail) : (s.modMail f).pending = s.pending := rfl
@[simp] theorem State.modMail_clk (f : Mail → Mail) : (s.modMail f).clk = s.clk := rfl
@[simp] theorem State.modMail_free (f : Mail → Mail) : (s.modMail f).free = s.free := rfl
@[simp] theorem State.modMail_variant (f : Mail → Mail) : (s.modMail f).variant = s.variant := rfl
@[simp] theorem State.modMail_phase (f : Mail → Mail) : (s.modMail f).phase = s.phase := rfl
@[simp] theorem State.modMail_items (f : Mail → Mail) : (s.modMail f).items = s.items := rfl
@[simp] theorem State.modMail_cfgK (f : Mail → Mail) : (s.modMail f).cfgK = s.cfgK := rfl
@[simp] theorem State.modMail_cfgPark (f : Mail → Mail) : (s.modMail f).cfgPark = s.cfgPark := rfl
@[simp] theorem State.modMail_cfgRestart (f : Mail → Mail) : (s.modMail f).cfgRestart = s.cfgRestart := rfl
@[simp] theorem State.modMail_time (f : Mail → Mail) : (s.modMail f).time = s.time := rfl
@[simp] theorem State.modMail_mail (f : Mail → Mail) : (s.modMail f).mail = f s.mail := rfl
@[simp] theorem State.modMail_sb (f : Mail → Mail) : (s.modMail f).sb = s.sb := rfl
@[simp] theorem State.modMail_lanes (f : Mail → Mail) : (s.modMail f).lanes = s.lanes := rfl
@[simp] theorem State.modMail_cam (f : Mail → Mail) : (s.modMail f).cam = s.cam := rfl
@[simp] theorem State.modMail_can (f : Mail → Mail) : (s.modMail f).can = s.can := rfl
@[simp] theorem State.modMail_hist (f : Mail → Mail) : (s.modMail f).hist = s.hist := rfl
@[simp] theorem State.modMail_fus (f : Mail → Mail) : (s.modMail f).fus = s.fus := rfl
@[simp] theorem State.modMail_valve (f : Mail → Mail) : (s.modMail f).valve = s.valve := rfl
@[simp] theorem State.modMail_rods (f : Mail → Mail) : (s.modMail f).rods = s.rods := rfl
@[simp] theorem State.modMail_io (f : Mail → Mail) : (s.modMail f).io = s.io := rfl
@[simp] theorem State.modMail_ring (f : Mail → Mail) : (s.modMail f).ring = s.ring := rfl
@[simp] theorem State.modMail_power (f : Mail → Mail) : (s.modMail f).power = s.power := rfl
@[simp] theorem State.modMail_fw (f : Mail → Mail) : (s.modMail f).fw = s.fw := rfl
@[simp] theorem State.modMail_panel (f : Mail → Mail) : (s.modMail f).panel = s.panel := rfl
@[simp] theorem State.modMail_get (f : Mail → Mail) (key : Nat) : (s.modMail f).get key = s.get key := rfl
@[simp] theorem State.modMail_useK (f : Mail → Mail) (key : Nat) : (s.modMail f).useK key = s.useK key := rfl
@[simp] theorem State.modMail_live (f : Mail → Mail) : (s.modMail f).live = s.live := rfl

/-! ## modSb -/

@[simp] theorem State.modSb_pending (f : SlateBank → SlateBank) : (s.modSb f).pending = s.pending := rfl
@[simp] theorem State.modSb_clk (f : SlateBank → SlateBank) : (s.modSb f).clk = s.clk := rfl
@[simp] theorem State.modSb_free (f : SlateBank → SlateBank) : (s.modSb f).free = s.free := rfl
@[simp] theorem State.modSb_variant (f : SlateBank → SlateBank) : (s.modSb f).variant = s.variant := rfl
@[simp] theorem State.modSb_phase (f : SlateBank → SlateBank) : (s.modSb f).phase = s.phase := rfl
@[simp] theorem State.modSb_items (f : SlateBank → SlateBank) : (s.modSb f).items = s.items := rfl
@[simp] theorem State.modSb_cfgK (f : SlateBank → SlateBank) : (s.modSb f).cfgK = s.cfgK := rfl
@[simp] theorem State.modSb_cfgPark (f : SlateBank → SlateBank) : (s.modSb f).cfgPark = s.cfgPark := rfl
@[simp] theorem State.modSb_cfgRestart (f : SlateBank → SlateBank) : (s.modSb f).cfgRestart = s.cfgRestart := rfl
@[simp] theorem State.modSb_time (f : SlateBank → SlateBank) : (s.modSb f).time = s.time := rfl
@[simp] theorem State.modSb_mail (f : SlateBank → SlateBank) : (s.modSb f).mail = s.mail := rfl
@[simp] theorem State.modSb_sb (f : SlateBank → SlateBank) : (s.modSb f).sb = f s.sb := rfl
@[simp] theorem State.modSb_lanes (f : SlateBank → SlateBank) : (s.modSb f).lanes = s.lanes := rfl
@[simp] theorem State.modSb_cam (f : SlateBank → SlateBank) : (s.modSb f).cam = s.cam := rfl
@[simp] theorem State.modSb_can (f : SlateBank → SlateBank) : (s.modSb f).can = s.can := rfl
@[simp] theorem State.modSb_hist (f : SlateBank → SlateBank) : (s.modSb f).hist = s.hist := rfl
@[simp] theorem State.modSb_fus (f : SlateBank → SlateBank) : (s.modSb f).fus = s.fus := rfl
@[simp] theorem State.modSb_valve (f : SlateBank → SlateBank) : (s.modSb f).valve = s.valve := rfl
@[simp] theorem State.modSb_rods (f : SlateBank → SlateBank) : (s.modSb f).rods = s.rods := rfl
@[simp] theorem State.modSb_io (f : SlateBank → SlateBank) : (s.modSb f).io = s.io := rfl
@[simp] theorem State.modSb_ring (f : SlateBank → SlateBank) : (s.modSb f).ring = s.ring := rfl
@[simp] theorem State.modSb_power (f : SlateBank → SlateBank) : (s.modSb f).power = s.power := rfl
@[simp] theorem State.modSb_fw (f : SlateBank → SlateBank) : (s.modSb f).fw = s.fw := rfl
@[simp] theorem State.modSb_panel (f : SlateBank → SlateBank) : (s.modSb f).panel = s.panel := rfl
@[simp] theorem State.modSb_get (f : SlateBank → SlateBank) (key : Nat) : (s.modSb f).get key = s.get key := rfl
@[simp] theorem State.modSb_useK (f : SlateBank → SlateBank) (key : Nat) : (s.modSb f).useK key = s.useK key := rfl
@[simp] theorem State.modSb_live (f : SlateBank → SlateBank) : (s.modSb f).live = s.live := rfl

/-! ## modMaster -/

@[simp] theorem State.modMaster_pending (m : Nat) (f : Master → Master) : (s.modMaster m f).pending = s.pending := rfl
@[simp] theorem State.modMaster_clk (m : Nat) (f : Master → Master) : (s.modMaster m f).clk = s.clk := rfl
@[simp] theorem State.modMaster_free (m : Nat) (f : Master → Master) : (s.modMaster m f).free = s.free := rfl
@[simp] theorem State.modMaster_variant (m : Nat) (f : Master → Master) : (s.modMaster m f).variant = s.variant := rfl
@[simp] theorem State.modMaster_phase (m : Nat) (f : Master → Master) : (s.modMaster m f).phase = s.phase := rfl
@[simp] theorem State.modMaster_items (m : Nat) (f : Master → Master) : (s.modMaster m f).items = s.items := rfl
@[simp] theorem State.modMaster_cfgK (m : Nat) (f : Master → Master) : (s.modMaster m f).cfgK = s.cfgK := rfl
@[simp] theorem State.modMaster_cfgPark (m : Nat) (f : Master → Master) : (s.modMaster m f).cfgPark = s.cfgPark := rfl
@[simp] theorem State.modMaster_cfgRestart (m : Nat) (f : Master → Master) : (s.modMaster m f).cfgRestart = s.cfgRestart := rfl
@[simp] theorem State.modMaster_time (m : Nat) (f : Master → Master) : (s.modMaster m f).time = s.time := rfl
@[simp] theorem State.modMaster_mail (m : Nat) (f : Master → Master) : (s.modMaster m f).mail = { s.mail with masters := upd s.mail.masters m f } := rfl
@[simp] theorem State.modMaster_sb (m : Nat) (f : Master → Master) : (s.modMaster m f).sb = s.sb := rfl
@[simp] theorem State.modMaster_lanes (m : Nat) (f : Master → Master) : (s.modMaster m f).lanes = s.lanes := rfl
@[simp] theorem State.modMaster_cam (m : Nat) (f : Master → Master) : (s.modMaster m f).cam = s.cam := rfl
@[simp] theorem State.modMaster_can (m : Nat) (f : Master → Master) : (s.modMaster m f).can = s.can := rfl
@[simp] theorem State.modMaster_hist (m : Nat) (f : Master → Master) : (s.modMaster m f).hist = s.hist := rfl
@[simp] theorem State.modMaster_fus (m : Nat) (f : Master → Master) : (s.modMaster m f).fus = s.fus := rfl
@[simp] theorem State.modMaster_valve (m : Nat) (f : Master → Master) : (s.modMaster m f).valve = s.valve := rfl
@[simp] theorem State.modMaster_rods (m : Nat) (f : Master → Master) : (s.modMaster m f).rods = s.rods := rfl
@[simp] theorem State.modMaster_io (m : Nat) (f : Master → Master) : (s.modMaster m f).io = s.io := rfl
@[simp] theorem State.modMaster_ring (m : Nat) (f : Master → Master) : (s.modMaster m f).ring = s.ring := rfl
@[simp] theorem State.modMaster_power (m : Nat) (f : Master → Master) : (s.modMaster m f).power = s.power := rfl
@[simp] theorem State.modMaster_fw (m : Nat) (f : Master → Master) : (s.modMaster m f).fw = s.fw := rfl
@[simp] theorem State.modMaster_panel (m : Nat) (f : Master → Master) : (s.modMaster m f).panel = s.panel := rfl
@[simp] theorem State.modMaster_get (m : Nat) (f : Master → Master) (key : Nat) : (s.modMaster m f).get key = s.get key := rfl
@[simp] theorem State.modMaster_useK (m : Nat) (f : Master → Master) (key : Nat) : (s.modMaster m f).useK key = s.useK key := rfl
@[simp] theorem State.modMaster_live (m : Nat) (f : Master → Master) : (s.modMaster m f).live = s.live := rfl

/-! ## modPort -/

@[simp] theorem State.modPort_pending (p : Nat) (f : CamPort → CamPort) : (s.modPort p f).pending = s.pending := rfl
@[simp] theorem State.modPort_clk (p : Nat) (f : CamPort → CamPort) : (s.modPort p f).clk = s.clk := rfl
@[simp] theorem State.modPort_free (p : Nat) (f : CamPort → CamPort) : (s.modPort p f).free = s.free := rfl
@[simp] theorem State.modPort_variant (p : Nat) (f : CamPort → CamPort) : (s.modPort p f).variant = s.variant := rfl
@[simp] theorem State.modPort_phase (p : Nat) (f : CamPort → CamPort) : (s.modPort p f).phase = s.phase := rfl
@[simp] theorem State.modPort_items (p : Nat) (f : CamPort → CamPort) : (s.modPort p f).items = s.items := rfl
@[simp] theorem State.modPort_cfgK (p : Nat) (f : CamPort → CamPort) : (s.modPort p f).cfgK = s.cfgK := rfl
@[simp] theorem State.modPort_cfgPark (p : Nat) (f : CamPort → CamPort) : (s.modPort p f).cfgPark = s.cfgPark := rfl
@[simp] theorem State.modPort_cfgRestart (p : Nat) (f : CamPort → CamPort) : (s.modPort p f).cfgRestart = s.cfgRestart := rfl
@[simp] theorem State.modPort_time (p : Nat) (f : CamPort → CamPort) : (s.modPort p f).time = s.time := rfl
@[simp] theorem State.modPort_mail (p : Nat) (f : CamPort → CamPort) : (s.modPort p f).mail = s.mail := rfl
@[simp] theorem State.modPort_sb (p : Nat) (f : CamPort → CamPort) : (s.modPort p f).sb = s.sb := rfl
@[simp] theorem State.modPort_lanes (p : Nat) (f : CamPort → CamPort) : (s.modPort p f).lanes = s.lanes := rfl
@[simp] theorem State.modPort_cam (p : Nat) (f : CamPort → CamPort) : (s.modPort p f).cam = { s.cam with ports := upd s.cam.ports p f } := rfl
@[simp] theorem State.modPort_can (p : Nat) (f : CamPort → CamPort) : (s.modPort p f).can = s.can := rfl
@[simp] theorem State.modPort_hist (p : Nat) (f : CamPort → CamPort) : (s.modPort p f).hist = s.hist := rfl
@[simp] theorem State.modPort_fus (p : Nat) (f : CamPort → CamPort) : (s.modPort p f).fus = s.fus := rfl
@[simp] theorem State.modPort_valve (p : Nat) (f : CamPort → CamPort) : (s.modPort p f).valve = s.valve := rfl
@[simp] theorem State.modPort_rods (p : Nat) (f : CamPort → CamPort) : (s.modPort p f).rods = s.rods := rfl
@[simp] theorem State.modPort_io (p : Nat) (f : CamPort → CamPort) : (s.modPort p f).io = s.io := rfl
@[simp] theorem State.modPort_ring (p : Nat) (f : CamPort → CamPort) : (s.modPort p f).ring = s.ring := rfl
@[simp] theorem State.modPort_power (p : Nat) (f : CamPort → CamPort) : (s.modPort p f).power = s.power := rfl
@[simp] theorem State.modPort_fw (p : Nat) (f : CamPort → CamPort) : (s.modPort p f).fw = s.fw := rfl
@[simp] theorem State.modPort_panel (p : Nat) (f : CamPort → CamPort) : (s.modPort p f).panel = s.panel := rfl
@[simp] theorem State.modPort_get (p : Nat) (f : CamPort → CamPort) (key : Nat) : (s.modPort p f).get key = s.get key := rfl
@[simp] theorem State.modPort_useK (p : Nat) (f : CamPort → CamPort) (key : Nat) : (s.modPort p f).useK key = s.useK key := rfl
@[simp] theorem State.modPort_live (p : Nat) (f : CamPort → CamPort) : (s.modPort p f).live = s.live := rfl

/-! ## modCtx -/

@[simp] theorem State.modCtx_pending (c : Nat) (f : CamCtx → CamCtx) : (s.modCtx c f).pending = s.pending := rfl
@[simp] theorem State.modCtx_clk (c : Nat) (f : CamCtx → CamCtx) : (s.modCtx c f).clk = s.clk := rfl
@[simp] theorem State.modCtx_free (c : Nat) (f : CamCtx → CamCtx) : (s.modCtx c f).free = s.free := rfl
@[simp] theorem State.modCtx_variant (c : Nat) (f : CamCtx → CamCtx) : (s.modCtx c f).variant = s.variant := rfl
@[simp] theorem State.modCtx_phase (c : Nat) (f : CamCtx → CamCtx) : (s.modCtx c f).phase = s.phase := rfl
@[simp] theorem State.modCtx_items (c : Nat) (f : CamCtx → CamCtx) : (s.modCtx c f).items = s.items := rfl
@[simp] theorem State.modCtx_cfgK (c : Nat) (f : CamCtx → CamCtx) : (s.modCtx c f).cfgK = s.cfgK := rfl
@[simp] theorem State.modCtx_cfgPark (c : Nat) (f : CamCtx → CamCtx) : (s.modCtx c f).cfgPark = s.cfgPark := rfl
@[simp] theorem State.modCtx_cfgRestart (c : Nat) (f : CamCtx → CamCtx) : (s.modCtx c f).cfgRestart = s.cfgRestart := rfl
@[simp] theorem State.modCtx_time (c : Nat) (f : CamCtx → CamCtx) : (s.modCtx c f).time = s.time := rfl
@[simp] theorem State.modCtx_mail (c : Nat) (f : CamCtx → CamCtx) : (s.modCtx c f).mail = s.mail := rfl
@[simp] theorem State.modCtx_sb (c : Nat) (f : CamCtx → CamCtx) : (s.modCtx c f).sb = s.sb := rfl
@[simp] theorem State.modCtx_lanes (c : Nat) (f : CamCtx → CamCtx) : (s.modCtx c f).lanes = s.lanes := rfl
@[simp] theorem State.modCtx_cam (c : Nat) (f : CamCtx → CamCtx) : (s.modCtx c f).cam = { s.cam with ctxs := upd s.cam.ctxs c f } := rfl
@[simp] theorem State.modCtx_can (c : Nat) (f : CamCtx → CamCtx) : (s.modCtx c f).can = s.can := rfl
@[simp] theorem State.modCtx_hist (c : Nat) (f : CamCtx → CamCtx) : (s.modCtx c f).hist = s.hist := rfl
@[simp] theorem State.modCtx_fus (c : Nat) (f : CamCtx → CamCtx) : (s.modCtx c f).fus = s.fus := rfl
@[simp] theorem State.modCtx_valve (c : Nat) (f : CamCtx → CamCtx) : (s.modCtx c f).valve = s.valve := rfl
@[simp] theorem State.modCtx_rods (c : Nat) (f : CamCtx → CamCtx) : (s.modCtx c f).rods = s.rods := rfl
@[simp] theorem State.modCtx_io (c : Nat) (f : CamCtx → CamCtx) : (s.modCtx c f).io = s.io := rfl
@[simp] theorem State.modCtx_ring (c : Nat) (f : CamCtx → CamCtx) : (s.modCtx c f).ring = s.ring := rfl
@[simp] theorem State.modCtx_power (c : Nat) (f : CamCtx → CamCtx) : (s.modCtx c f).power = s.power := rfl
@[simp] theorem State.modCtx_fw (c : Nat) (f : CamCtx → CamCtx) : (s.modCtx c f).fw = s.fw := rfl
@[simp] theorem State.modCtx_panel (c : Nat) (f : CamCtx → CamCtx) : (s.modCtx c f).panel = s.panel := rfl
@[simp] theorem State.modCtx_get (c : Nat) (f : CamCtx → CamCtx) (key : Nat) : (s.modCtx c f).get key = s.get key := rfl
@[simp] theorem State.modCtx_useK (c : Nat) (f : CamCtx → CamCtx) (key : Nat) : (s.modCtx c f).useK key = s.useK key := rfl
@[simp] theorem State.modCtx_live (c : Nat) (f : CamCtx → CamCtx) : (s.modCtx c f).live = s.live := rfl

/-! ## modCan -/

@[simp] theorem State.modCan_pending (c : Nat) (f : CanCh → CanCh) : (s.modCan c f).pending = s.pending := rfl
@[simp] theorem State.modCan_clk (c : Nat) (f : CanCh → CanCh) : (s.modCan c f).clk = s.clk := rfl
@[simp] theorem State.modCan_free (c : Nat) (f : CanCh → CanCh) : (s.modCan c f).free = s.free := rfl
@[simp] theorem State.modCan_variant (c : Nat) (f : CanCh → CanCh) : (s.modCan c f).variant = s.variant := rfl
@[simp] theorem State.modCan_phase (c : Nat) (f : CanCh → CanCh) : (s.modCan c f).phase = s.phase := rfl
@[simp] theorem State.modCan_items (c : Nat) (f : CanCh → CanCh) : (s.modCan c f).items = s.items := rfl
@[simp] theorem State.modCan_cfgK (c : Nat) (f : CanCh → CanCh) : (s.modCan c f).cfgK = s.cfgK := rfl
@[simp] theorem State.modCan_cfgPark (c : Nat) (f : CanCh → CanCh) : (s.modCan c f).cfgPark = s.cfgPark := rfl
@[simp] theorem State.modCan_cfgRestart (c : Nat) (f : CanCh → CanCh) : (s.modCan c f).cfgRestart = s.cfgRestart := rfl
@[simp] theorem State.modCan_time (c : Nat) (f : CanCh → CanCh) : (s.modCan c f).time = s.time := rfl
@[simp] theorem State.modCan_mail (c : Nat) (f : CanCh → CanCh) : (s.modCan c f).mail = s.mail := rfl
@[simp] theorem State.modCan_sb (c : Nat) (f : CanCh → CanCh) : (s.modCan c f).sb = s.sb := rfl
@[simp] theorem State.modCan_lanes (c : Nat) (f : CanCh → CanCh) : (s.modCan c f).lanes = s.lanes := rfl
@[simp] theorem State.modCan_cam (c : Nat) (f : CanCh → CanCh) : (s.modCan c f).cam = s.cam := rfl
@[simp] theorem State.modCan_can (c : Nat) (f : CanCh → CanCh) : (s.modCan c f).can = { s.can with chs := upd s.can.chs c f } := rfl
@[simp] theorem State.modCan_hist (c : Nat) (f : CanCh → CanCh) : (s.modCan c f).hist = s.hist := rfl
@[simp] theorem State.modCan_fus (c : Nat) (f : CanCh → CanCh) : (s.modCan c f).fus = s.fus := rfl
@[simp] theorem State.modCan_valve (c : Nat) (f : CanCh → CanCh) : (s.modCan c f).valve = s.valve := rfl
@[simp] theorem State.modCan_rods (c : Nat) (f : CanCh → CanCh) : (s.modCan c f).rods = s.rods := rfl
@[simp] theorem State.modCan_io (c : Nat) (f : CanCh → CanCh) : (s.modCan c f).io = s.io := rfl
@[simp] theorem State.modCan_ring (c : Nat) (f : CanCh → CanCh) : (s.modCan c f).ring = s.ring := rfl
@[simp] theorem State.modCan_power (c : Nat) (f : CanCh → CanCh) : (s.modCan c f).power = s.power := rfl
@[simp] theorem State.modCan_fw (c : Nat) (f : CanCh → CanCh) : (s.modCan c f).fw = s.fw := rfl
@[simp] theorem State.modCan_panel (c : Nat) (f : CanCh → CanCh) : (s.modCan c f).panel = s.panel := rfl
@[simp] theorem State.modCan_get (c : Nat) (f : CanCh → CanCh) (key : Nat) : (s.modCan c f).get key = s.get key := rfl
@[simp] theorem State.modCan_useK (c : Nat) (f : CanCh → CanCh) (key : Nat) : (s.modCan c f).useK key = s.useK key := rfl
@[simp] theorem State.modCan_live (c : Nat) (f : CanCh → CanCh) : (s.modCan c f).live = s.live := rfl

/-! ## modIo -/

@[simp] theorem State.modIo_pending (f : IoBank → IoBank) : (s.modIo f).pending = s.pending := rfl
@[simp] theorem State.modIo_clk (f : IoBank → IoBank) : (s.modIo f).clk = s.clk := rfl
@[simp] theorem State.modIo_free (f : IoBank → IoBank) : (s.modIo f).free = s.free := rfl
@[simp] theorem State.modIo_variant (f : IoBank → IoBank) : (s.modIo f).variant = s.variant := rfl
@[simp] theorem State.modIo_phase (f : IoBank → IoBank) : (s.modIo f).phase = s.phase := rfl
@[simp] theorem State.modIo_items (f : IoBank → IoBank) : (s.modIo f).items = s.items := rfl
@[simp] theorem State.modIo_cfgK (f : IoBank → IoBank) : (s.modIo f).cfgK = s.cfgK := rfl
@[simp] theorem State.modIo_cfgPark (f : IoBank → IoBank) : (s.modIo f).cfgPark = s.cfgPark := rfl
@[simp] theorem State.modIo_cfgRestart (f : IoBank → IoBank) : (s.modIo f).cfgRestart = s.cfgRestart := rfl
@[simp] theorem State.modIo_time (f : IoBank → IoBank) : (s.modIo f).time = s.time := rfl
@[simp] theorem State.modIo_mail (f : IoBank → IoBank) : (s.modIo f).mail = s.mail := rfl
@[simp] theorem State.modIo_sb (f : IoBank → IoBank) : (s.modIo f).sb = s.sb := rfl
@[simp] theorem State.modIo_lanes (f : IoBank → IoBank) : (s.modIo f).lanes = s.lanes := rfl
@[simp] theorem State.modIo_cam (f : IoBank → IoBank) : (s.modIo f).cam = s.cam := rfl
@[simp] theorem State.modIo_can (f : IoBank → IoBank) : (s.modIo f).can = s.can := rfl
@[simp] theorem State.modIo_hist (f : IoBank → IoBank) : (s.modIo f).hist = s.hist := rfl
@[simp] theorem State.modIo_fus (f : IoBank → IoBank) : (s.modIo f).fus = s.fus := rfl
@[simp] theorem State.modIo_valve (f : IoBank → IoBank) : (s.modIo f).valve = s.valve := rfl
@[simp] theorem State.modIo_rods (f : IoBank → IoBank) : (s.modIo f).rods = s.rods := rfl
@[simp] theorem State.modIo_io (f : IoBank → IoBank) : (s.modIo f).io = f s.io := rfl
@[simp] theorem State.modIo_ring (f : IoBank → IoBank) : (s.modIo f).ring = s.ring := rfl
@[simp] theorem State.modIo_power (f : IoBank → IoBank) : (s.modIo f).power = s.power := rfl
@[simp] theorem State.modIo_fw (f : IoBank → IoBank) : (s.modIo f).fw = s.fw := rfl
@[simp] theorem State.modIo_panel (f : IoBank → IoBank) : (s.modIo f).panel = s.panel := rfl
@[simp] theorem State.modIo_get (f : IoBank → IoBank) (key : Nat) : (s.modIo f).get key = s.get key := rfl
@[simp] theorem State.modIo_useK (f : IoBank → IoBank) (key : Nat) : (s.modIo f).useK key = s.useK key := rfl
@[simp] theorem State.modIo_live (f : IoBank → IoBank) : (s.modIo f).live = s.live := rfl

/-! ## modFus -/

@[simp] theorem State.modFus_pending (f : FuBank → FuBank) : (s.modFus f).pending = s.pending := rfl
@[simp] theorem State.modFus_clk (f : FuBank → FuBank) : (s.modFus f).clk = s.clk := rfl
@[simp] theorem State.modFus_free (f : FuBank → FuBank) : (s.modFus f).free = s.free := rfl
@[simp] theorem State.modFus_variant (f : FuBank → FuBank) : (s.modFus f).variant = s.variant := rfl
@[simp] theorem State.modFus_phase (f : FuBank → FuBank) : (s.modFus f).phase = s.phase := rfl
@[simp] theorem State.modFus_items (f : FuBank → FuBank) : (s.modFus f).items = s.items := rfl
@[simp] theorem State.modFus_cfgK (f : FuBank → FuBank) : (s.modFus f).cfgK = s.cfgK := rfl
@[simp] theorem State.modFus_cfgPark (f : FuBank → FuBank) : (s.modFus f).cfgPark = s.cfgPark := rfl
@[simp] theorem State.modFus_cfgRestart (f : FuBank → FuBank) : (s.modFus f).cfgRestart = s.cfgRestart := rfl
@[simp] theorem State.modFus_time (f : FuBank → FuBank) : (s.modFus f).time = s.time := rfl
@[simp] theorem State.modFus_mail (f : FuBank → FuBank) : (s.modFus f).mail = s.mail := rfl
@[simp] theorem State.modFus_sb (f : FuBank → FuBank) : (s.modFus f).sb = s.sb := rfl
@[simp] theorem State.modFus_lanes (f : FuBank → FuBank) : (s.modFus f).lanes = s.lanes := rfl
@[simp] theorem State.modFus_cam (f : FuBank → FuBank) : (s.modFus f).cam = s.cam := rfl
@[simp] theorem State.modFus_can (f : FuBank → FuBank) : (s.modFus f).can = s.can := rfl
@[simp] theorem State.modFus_hist (f : FuBank → FuBank) : (s.modFus f).hist = s.hist := rfl
@[simp] theorem State.modFus_fus (f : FuBank → FuBank) : (s.modFus f).fus = f s.fus := rfl
@[simp] theorem State.modFus_valve (f : FuBank → FuBank) : (s.modFus f).valve = s.valve := rfl
@[simp] theorem State.modFus_rods (f : FuBank → FuBank) : (s.modFus f).rods = s.rods := rfl
@[simp] theorem State.modFus_io (f : FuBank → FuBank) : (s.modFus f).io = s.io := rfl
@[simp] theorem State.modFus_ring (f : FuBank → FuBank) : (s.modFus f).ring = s.ring := rfl
@[simp] theorem State.modFus_power (f : FuBank → FuBank) : (s.modFus f).power = s.power := rfl
@[simp] theorem State.modFus_fw (f : FuBank → FuBank) : (s.modFus f).fw = s.fw := rfl
@[simp] theorem State.modFus_panel (f : FuBank → FuBank) : (s.modFus f).panel = s.panel := rfl
@[simp] theorem State.modFus_get (f : FuBank → FuBank) (key : Nat) : (s.modFus f).get key = s.get key := rfl
@[simp] theorem State.modFus_useK (f : FuBank → FuBank) (key : Nat) : (s.modFus f).useK key = s.useK key := rfl
@[simp] theorem State.modFus_live (f : FuBank → FuBank) : (s.modFus f).live = s.live := rfl

/-! ## modHist -/

@[simp] theorem State.modHist_pending (f : HistBank → HistBank) : (s.modHist f).pending = s.pending := rfl
@[simp] theorem State.modHist_clk (f : HistBank → HistBank) : (s.modHist f).clk = s.clk := rfl
@[simp] theorem State.modHist_free (f : HistBank → HistBank) : (s.modHist f).free = s.free := rfl
@[simp] theorem State.modHist_variant (f : HistBank → HistBank) : (s.modHist f).variant = s.variant := rfl
@[simp] theorem State.modHist_phase (f : HistBank → HistBank) : (s.modHist f).phase = s.phase := rfl
@[simp] theorem State.modHist_items (f : HistBank → HistBank) : (s.modHist f).items = s.items := rfl
@[simp] theorem State.modHist_cfgK (f : HistBank → HistBank) : (s.modHist f).cfgK = s.cfgK := rfl
@[simp] theorem State.modHist_cfgPark (f : HistBank → HistBank) : (s.modHist f).cfgPark = s.cfgPark := rfl
@[simp] theorem State.modHist_cfgRestart (f : HistBank → HistBank) : (s.modHist f).cfgRestart = s.cfgRestart := rfl
@[simp] theorem State.modHist_time (f : HistBank → HistBank) : (s.modHist f).time = s.time := rfl
@[simp] theorem State.modHist_mail (f : HistBank → HistBank) : (s.modHist f).mail = s.mail := rfl
@[simp] theorem State.modHist_sb (f : HistBank → HistBank) : (s.modHist f).sb = s.sb := rfl
@[simp] theorem State.modHist_lanes (f : HistBank → HistBank) : (s.modHist f).lanes = s.lanes := rfl
@[simp] theorem State.modHist_cam (f : HistBank → HistBank) : (s.modHist f).cam = s.cam := rfl
@[simp] theorem State.modHist_can (f : HistBank → HistBank) : (s.modHist f).can = s.can := rfl
@[simp] theorem State.modHist_hist (f : HistBank → HistBank) : (s.modHist f).hist = f s.hist := rfl
@[simp] theorem State.modHist_fus (f : HistBank → HistBank) : (s.modHist f).fus = s.fus := rfl
@[simp] theorem State.modHist_valve (f : HistBank → HistBank) : (s.modHist f).valve = s.valve := rfl
@[simp] theorem State.modHist_rods (f : HistBank → HistBank) : (s.modHist f).rods = s.rods := rfl
@[simp] theorem State.modHist_io (f : HistBank → HistBank) : (s.modHist f).io = s.io := rfl
@[simp] theorem State.modHist_ring (f : HistBank → HistBank) : (s.modHist f).ring = s.ring := rfl
@[simp] theorem State.modHist_power (f : HistBank → HistBank) : (s.modHist f).power = s.power := rfl
@[simp] theorem State.modHist_fw (f : HistBank → HistBank) : (s.modHist f).fw = s.fw := rfl
@[simp] theorem State.modHist_panel (f : HistBank → HistBank) : (s.modHist f).panel = s.panel := rfl
@[simp] theorem State.modHist_get (f : HistBank → HistBank) (key : Nat) : (s.modHist f).get key = s.get key := rfl
@[simp] theorem State.modHist_useK (f : HistBank → HistBank) (key : Nat) : (s.modHist f).useK key = s.useK key := rfl
@[simp] theorem State.modHist_live (f : HistBank → HistBank) : (s.modHist f).live = s.live := rfl

/-! ## modLanes -/

@[simp] theorem State.modLanes_pending (f : LaneBank → LaneBank) : (s.modLanes f).pending = s.pending := rfl
@[simp] theorem State.modLanes_clk (f : LaneBank → LaneBank) : (s.modLanes f).clk = s.clk := rfl
@[simp] theorem State.modLanes_free (f : LaneBank → LaneBank) : (s.modLanes f).free = s.free := rfl
@[simp] theorem State.modLanes_variant (f : LaneBank → LaneBank) : (s.modLanes f).variant = s.variant := rfl
@[simp] theorem State.modLanes_phase (f : LaneBank → LaneBank) : (s.modLanes f).phase = s.phase := rfl
@[simp] theorem State.modLanes_items (f : LaneBank → LaneBank) : (s.modLanes f).items = s.items := rfl
@[simp] theorem State.modLanes_cfgK (f : LaneBank → LaneBank) : (s.modLanes f).cfgK = s.cfgK := rfl
@[simp] theorem State.modLanes_cfgPark (f : LaneBank → LaneBank) : (s.modLanes f).cfgPark = s.cfgPark := rfl
@[simp] theorem State.modLanes_cfgRestart (f : LaneBank → LaneBank) : (s.modLanes f).cfgRestart = s.cfgRestart := rfl
@[simp] theorem State.modLanes_time (f : LaneBank → LaneBank) : (s.modLanes f).time = s.time := rfl
@[simp] theorem State.modLanes_mail (f : LaneBank → LaneBank) : (s.modLanes f).mail = s.mail := rfl
@[simp] theorem State.modLanes_sb (f : LaneBank → LaneBank) : (s.modLanes f).sb = s.sb := rfl
@[simp] theorem State.modLanes_lanes (f : LaneBank → LaneBank) : (s.modLanes f).lanes = f s.lanes := rfl
@[simp] theorem State.modLanes_cam (f : LaneBank → LaneBank) : (s.modLanes f).cam = s.cam := rfl
@[simp] theorem State.modLanes_can (f : LaneBank → LaneBank) : (s.modLanes f).can = s.can := rfl
@[simp] theorem State.modLanes_hist (f : LaneBank → LaneBank) : (s.modLanes f).hist = s.hist := rfl
@[simp] theorem State.modLanes_fus (f : LaneBank → LaneBank) : (s.modLanes f).fus = s.fus := rfl
@[simp] theorem State.modLanes_valve (f : LaneBank → LaneBank) : (s.modLanes f).valve = s.valve := rfl
@[simp] theorem State.modLanes_rods (f : LaneBank → LaneBank) : (s.modLanes f).rods = s.rods := rfl
@[simp] theorem State.modLanes_io (f : LaneBank → LaneBank) : (s.modLanes f).io = s.io := rfl
@[simp] theorem State.modLanes_ring (f : LaneBank → LaneBank) : (s.modLanes f).ring = s.ring := rfl
@[simp] theorem State.modLanes_power (f : LaneBank → LaneBank) : (s.modLanes f).power = s.power := rfl
@[simp] theorem State.modLanes_fw (f : LaneBank → LaneBank) : (s.modLanes f).fw = s.fw := rfl
@[simp] theorem State.modLanes_panel (f : LaneBank → LaneBank) : (s.modLanes f).panel = s.panel := rfl
@[simp] theorem State.modLanes_get (f : LaneBank → LaneBank) (key : Nat) : (s.modLanes f).get key = s.get key := rfl
@[simp] theorem State.modLanes_useK (f : LaneBank → LaneBank) (key : Nat) : (s.modLanes f).useK key = s.useK key := rfl
@[simp] theorem State.modLanes_live (f : LaneBank → LaneBank) : (s.modLanes f).live = s.live := rfl

/-! ## modPower -/

@[simp] theorem State.modPower_pending (f : PowerBank → PowerBank) : (s.modPower f).pending = s.pending := rfl
@[simp] theorem State.modPower_clk (f : PowerBank → PowerBank) : (s.modPower f).clk = s.clk := rfl
@[simp] theorem State.modPower_free (f : PowerBank → PowerBank) : (s.modPower f).free = s.free := rfl
@[simp] theorem State.modPower_variant (f : PowerBank → PowerBank) : (s.modPower f).variant = s.variant := rfl
@[simp] theorem State.modPower_phase (f : PowerBank → PowerBank) : (s.modPower f).phase = s.phase := rfl
@[simp] theorem State.modPower_items (f : PowerBank → PowerBank) : (s.modPower f).items = s.items := rfl
@[simp] theorem State.modPower_cfgK (f : PowerBank → PowerBank) : (s.modPower f).cfgK = s.cfgK := rfl
@[simp] theorem State.modPower_cfgPark (f : PowerBank → PowerBank) : (s.modPower f).cfgPark = s.cfgPark := rfl
@[simp] theorem State.modPower_cfgRestart (f : PowerBank → PowerBank) : (s.modPower f).cfgRestart = s.cfgRestart := rfl
@[simp] theorem State.modPower_time (f : PowerBank → PowerBank) : (s.modPower f).time = s.time := rfl
@[simp] theorem State.modPower_mail (f : PowerBank → PowerBank) : (s.modPower f).mail = s.mail := rfl
@[simp] theorem State.modPower_sb (f : PowerBank → PowerBank) : (s.modPower f).sb = s.sb := rfl
@[simp] theorem State.modPower_lanes (f : PowerBank → PowerBank) : (s.modPower f).lanes = s.lanes := rfl
@[simp] theorem State.modPower_cam (f : PowerBank → PowerBank) : (s.modPower f).cam = s.cam := rfl
@[simp] theorem State.modPower_can (f : PowerBank → PowerBank) : (s.modPower f).can = s.can := rfl
@[simp] theorem State.modPower_hist (f : PowerBank → PowerBank) : (s.modPower f).hist = s.hist := rfl
@[simp] theorem State.modPower_fus (f : PowerBank → PowerBank) : (s.modPower f).fus = s.fus := rfl
@[simp] theorem State.modPower_valve (f : PowerBank → PowerBank) : (s.modPower f).valve = s.valve := rfl
@[simp] theorem State.modPower_rods (f : PowerBank → PowerBank) : (s.modPower f).rods = s.rods := rfl
@[simp] theorem State.modPower_io (f : PowerBank → PowerBank) : (s.modPower f).io = s.io := rfl
@[simp] theorem State.modPower_ring (f : PowerBank → PowerBank) : (s.modPower f).ring = s.ring := rfl
@[simp] theorem State.modPower_power (f : PowerBank → PowerBank) : (s.modPower f).power = f s.power := rfl
@[simp] theorem State.modPower_fw (f : PowerBank → PowerBank) : (s.modPower f).fw = s.fw := rfl
@[simp] theorem State.modPower_panel (f : PowerBank → PowerBank) : (s.modPower f).panel = s.panel := rfl
@[simp] theorem State.modPower_get (f : PowerBank → PowerBank) (key : Nat) : (s.modPower f).get key = s.get key := rfl
@[simp] theorem State.modPower_useK (f : PowerBank → PowerBank) (key : Nat) : (s.modPower f).useK key = s.useK key := rfl
@[simp] theorem State.modPower_live (f : PowerBank → PowerBank) : (s.modPower f).live = s.live := rfl

/-! ## modPanel -/

@[simp] theorem State.modPanel_pending (f : PanelBank → PanelBank) : (s.modPanel f).pending = s.pending := rfl
@[simp] theorem State.modPanel_clk (f : PanelBank → PanelBank) : (s.modPanel f).clk = s.clk := rfl
@[simp] theorem State.modPanel_free (f : PanelBank → PanelBank) : (s.modPanel f).free = s.free := rfl
@[simp] theorem State.modPanel_variant (f : PanelBank → PanelBank) : (s.modPanel f).variant = s.variant := rfl
@[simp] theorem State.modPanel_phase (f : PanelBank → PanelBank) : (s.modPanel f).phase = s.phase := rfl
@[simp] theorem State.modPanel_items (f : PanelBank → PanelBank) : (s.modPanel f).items = s.items := rfl
@[simp] theorem State.modPanel_cfgK (f : PanelBank → PanelBank) : (s.modPanel f).cfgK = s.cfgK := rfl
@[simp] theorem State.modPanel_cfgPark (f : PanelBank → PanelBank) : (s.modPanel f).cfgPark = s.cfgPark := rfl
@[simp] theorem State.modPanel_cfgRestart (f : PanelBank → PanelBank) : (s.modPanel f).cfgRestart = s.cfgRestart := rfl
@[simp] theorem State.modPanel_time (f : PanelBank → PanelBank) : (s.modPanel f).time = s.time := rfl
@[simp] theorem State.modPanel_mail (f : PanelBank → PanelBank) : (s.modPanel f).mail = s.mail := rfl
@[simp] theorem State.modPanel_sb (f : PanelBank → PanelBank) : (s.modPanel f).sb = s.sb := rfl
@[simp] theorem State.modPanel_lanes (f : PanelBank → PanelBank) : (s.modPanel f).lanes = s.lanes := rfl
@[simp] theorem State.modPanel_cam (f : PanelBank → PanelBank) : (s.modPanel f).cam = s.cam := rfl
@[simp] theorem State.modPanel_can (f : PanelBank → PanelBank) : (s.modPanel f).can = s.can := rfl
@[simp] theorem State.modPanel_hist (f : PanelBank → PanelBank) : (s.modPanel f).hist = s.hist := rfl
@[simp] theorem State.modPanel_fus (f : PanelBank → PanelBank) : (s.modPanel f).fus = s.fus := rfl
@[simp] theorem State.modPanel_valve (f : PanelBank → PanelBank) : (s.modPanel f).valve = s.valve := rfl
@[simp] theorem State.modPanel_rods (f : PanelBank → PanelBank) : (s.modPanel f).rods = s.rods := rfl
@[simp] theorem State.modPanel_io (f : PanelBank → PanelBank) : (s.modPanel f).io = s.io := rfl
@[simp] theorem State.modPanel_ring (f : PanelBank → PanelBank) : (s.modPanel f).ring = s.ring := rfl
@[simp] theorem State.modPanel_power (f : PanelBank → PanelBank) : (s.modPanel f).power = s.power := rfl
@[simp] theorem State.modPanel_fw (f : PanelBank → PanelBank) : (s.modPanel f).fw = s.fw := rfl
@[simp] theorem State.modPanel_panel (f : PanelBank → PanelBank) : (s.modPanel f).panel = f s.panel := rfl
@[simp] theorem State.modPanel_get (f : PanelBank → PanelBank) (key : Nat) : (s.modPanel f).get key = s.get key := rfl
@[simp] theorem State.modPanel_useK (f : PanelBank → PanelBank) (key : Nat) : (s.modPanel f).useK key = s.useK key := rfl
@[simp] theorem State.modPanel_live (f : PanelBank → PanelBank) : (s.modPanel f).live = s.live := rfl

/-! ## modRing -/

@[simp] theorem State.modRing_pending (f : RingBank → RingBank) : (s.modRing f).pending = s.pending := rfl
@[simp] theorem State.modRing_clk (f : RingBank → RingBank) : (s.modRing f).clk = s.clk := rfl
@[simp] theorem State.modRing_free (f : RingBank → RingBank) : (s.modRing f).free = s.free := rfl
@[simp] theorem State.modRing_variant (f : RingBank → RingBank) : (s.modRing f).variant = s.variant := rfl
@[simp] theorem State.modRing_phase (f : RingBank → RingBank) : (s.modRing f).phase = s.phase := rfl
@[simp] theorem State.modRing_items (f : RingBank → RingBank) : (s.modRing f).items = s.items := rfl
@[simp] theorem State.modRing_cfgK (f : RingBank → RingBank) : (s.modRing f).cfgK = s.cfgK := rfl
@[simp] theorem State.modRing_cfgPark (f : RingBank → RingBank) : (s.modRing f).cfgPark = s.cfgPark := rfl
@[simp] theorem State.modRing_cfgRestart (f : RingBank → RingBank) : (s.modRing f).cfgRestart = s.cfgRestart := rfl
@[simp] theorem State.modRing_time (f : RingBank → RingBank) : (s.modRing f).time = s.time := rfl
@[simp] theorem State.modRing_mail (f : RingBank → RingBank) : (s.modRing f).mail = s.mail := rfl
@[simp] theorem State.modRing_sb (f : RingBank → RingBank) : (s.modRing f).sb = s.sb := rfl
@[simp] theorem State.modRing_lanes (f : RingBank → RingBank) : (s.modRing f).lanes = s.lanes := rfl
@[simp] theorem State.modRing_cam (f : RingBank → RingBank) : (s.modRing f).cam = s.cam := rfl
@[simp] theorem State.modRing_can (f : RingBank → RingBank) : (s.modRing f).can = s.can := rfl
@[simp] theorem State.modRing_hist (f : RingBank → RingBank) : (s.modRing f).hist = s.hist := rfl
@[simp] theorem State.modRing_fus (f : RingBank → RingBank) : (s.modRing f).fus = s.fus := rfl
@[simp] theorem State.modRing_valve (f : RingBank → RingBank) : (s.modRing f).valve = s.valve := rfl
@[simp] theorem State.modRing_rods (f : RingBank → RingBank) : (s.modRing f).rods = s.rods := rfl
@[simp] theorem State.modRing_io (f : RingBank → RingBank) : (s.modRing f).io = s.io := rfl
@[simp] theorem State.modRing_ring (f : RingBank → RingBank) : (s.modRing f).ring = f s.ring := rfl
@[simp] theorem State.modRing_power (f : RingBank → RingBank) : (s.modRing f).power = s.power := rfl
@[simp] theorem State.modRing_fw (f : RingBank → RingBank) : (s.modRing f).fw = s.fw := rfl
@[simp] theorem State.modRing_panel (f : RingBank → RingBank) : (s.modRing f).panel = s.panel := rfl
@[simp] theorem State.modRing_get (f : RingBank → RingBank) (key : Nat) : (s.modRing f).get key = s.get key := rfl
@[simp] theorem State.modRing_useK (f : RingBank → RingBank) (key : Nat) : (s.modRing f).useK key = s.useK key := rfl
@[simp] theorem State.modRing_live (f : RingBank → RingBank) : (s.modRing f).live = s.live := rfl

/-! ## modRods -/

@[simp] theorem State.modRods_pending (f : RodBank → RodBank) : (s.modRods f).pending = s.pending := rfl
@[simp] theorem State.modRods_clk (f : RodBank → RodBank) : (s.modRods f).clk = s.clk := rfl
@[simp] theorem State.modRods_free (f : RodBank → RodBank) : (s.modRods f).free = s.free := rfl
@[simp] theorem State.modRods_variant (f : RodBank → RodBank) : (s.modRods f).variant = s.variant := rfl
@[simp] theorem State.modRods_phase (f : RodBank → RodBank) : (s.modRods f).phase = s.phase := rfl
@[simp] theorem State.modRods_items (f : RodBank → RodBank) : (s.modRods f).items = s.items := rfl
@[simp] theorem State.modRods_cfgK (f : RodBank → RodBank) : (s.modRods f).cfgK = s.cfgK := rfl
@[simp] theorem State.modRods_cfgPark (f : RodBank → RodBank) : (s.modRods f).cfgPark = s.cfgPark := rfl
@[simp] theorem State.modRods_cfgRestart (f : RodBank → RodBank) : (s.modRods f).cfgRestart = s.cfgRestart := rfl
@[simp] theorem State.modRods_time (f : RodBank → RodBank) : (s.modRods f).time = s.time := rfl
@[simp] theorem State.modRods_mail (f : RodBank → RodBank) : (s.modRods f).mail = s.mail := rfl
@[simp] theorem State.modRods_sb (f : RodBank → RodBank) : (s.modRods f).sb = s.sb := rfl
@[simp] theorem State.modRods_lanes (f : RodBank → RodBank) : (s.modRods f).lanes = s.lanes := rfl
@[simp] theorem State.modRods_cam (f : RodBank → RodBank) : (s.modRods f).cam = s.cam := rfl
@[simp] theorem State.modRods_can (f : RodBank → RodBank) : (s.modRods f).can = s.can := rfl
@[simp] theorem State.modRods_hist (f : RodBank → RodBank) : (s.modRods f).hist = s.hist := rfl
@[simp] theorem State.modRods_fus (f : RodBank → RodBank) : (s.modRods f).fus = s.fus := rfl
@[simp] theorem State.modRods_valve (f : RodBank → RodBank) : (s.modRods f).valve = s.valve := rfl
@[simp] theorem State.modRods_rods (f : RodBank → RodBank) : (s.modRods f).rods = f s.rods := rfl
@[simp] theorem State.modRods_io (f : RodBank → RodBank) : (s.modRods f).io = s.io := rfl
@[simp] theorem State.modRods_ring (f : RodBank → RodBank) : (s.modRods f).ring = s.ring := rfl
@[simp] theorem State.modRods_power (f : RodBank → RodBank) : (s.modRods f).power = s.power := rfl
@[simp] theorem State.modRods_fw (f : RodBank → RodBank) : (s.modRods f).fw = s.fw := rfl
@[simp] theorem State.modRods_panel (f : RodBank → RodBank) : (s.modRods f).panel = s.panel := rfl
@[simp] theorem State.modRods_get (f : RodBank → RodBank) (key : Nat) : (s.modRods f).get key = s.get key := rfl
@[simp] theorem State.modRods_useK (f : RodBank → RodBank) (key : Nat) : (s.modRods f).useK key = s.useK key := rfl
@[simp] theorem State.modRods_live (f : RodBank → RodBank) : (s.modRods f).live = s.live := rfl

/-! ## modFw -/

@[simp] theorem State.modFw_pending (f : UpdBank → UpdBank) : (s.modFw f).pending = s.pending := rfl
@[simp] theorem State.modFw_clk (f : UpdBank → UpdBank) : (s.modFw f).clk = s.clk := rfl
@[simp] theorem State.modFw_free (f : UpdBank → UpdBank) : (s.modFw f).free = s.free := rfl
@[simp] theorem State.modFw_variant (f : UpdBank → UpdBank) : (s.modFw f).variant = s.variant := rfl
@[simp] theorem State.modFw_phase (f : UpdBank → UpdBank) : (s.modFw f).phase = s.phase := rfl
@[simp] theorem State.modFw_items (f : UpdBank → UpdBank) : (s.modFw f).items = s.items := rfl
@[simp] theorem State.modFw_cfgK (f : UpdBank → UpdBank) : (s.modFw f).cfgK = s.cfgK := rfl
@[simp] theorem State.modFw_cfgPark (f : UpdBank → UpdBank) : (s.modFw f).cfgPark = s.cfgPark := rfl
@[simp] theorem State.modFw_cfgRestart (f : UpdBank → UpdBank) : (s.modFw f).cfgRestart = s.cfgRestart := rfl
@[simp] theorem State.modFw_time (f : UpdBank → UpdBank) : (s.modFw f).time = s.time := rfl
@[simp] theorem State.modFw_mail (f : UpdBank → UpdBank) : (s.modFw f).mail = s.mail := rfl
@[simp] theorem State.modFw_sb (f : UpdBank → UpdBank) : (s.modFw f).sb = s.sb := rfl
@[simp] theorem State.modFw_lanes (f : UpdBank → UpdBank) : (s.modFw f).lanes = s.lanes := rfl
@[simp] theorem State.modFw_cam (f : UpdBank → UpdBank) : (s.modFw f).cam = s.cam := rfl
@[simp] theorem State.modFw_can (f : UpdBank → UpdBank) : (s.modFw f).can = s.can := rfl
@[simp] theorem State.modFw_hist (f : UpdBank → UpdBank) : (s.modFw f).hist = s.hist := rfl
@[simp] theorem State.modFw_fus (f : UpdBank → UpdBank) : (s.modFw f).fus = s.fus := rfl
@[simp] theorem State.modFw_valve (f : UpdBank → UpdBank) : (s.modFw f).valve = s.valve := rfl
@[simp] theorem State.modFw_rods (f : UpdBank → UpdBank) : (s.modFw f).rods = s.rods := rfl
@[simp] theorem State.modFw_io (f : UpdBank → UpdBank) : (s.modFw f).io = s.io := rfl
@[simp] theorem State.modFw_ring (f : UpdBank → UpdBank) : (s.modFw f).ring = s.ring := rfl
@[simp] theorem State.modFw_power (f : UpdBank → UpdBank) : (s.modFw f).power = s.power := rfl
@[simp] theorem State.modFw_fw (f : UpdBank → UpdBank) : (s.modFw f).fw = f s.fw := rfl
@[simp] theorem State.modFw_panel (f : UpdBank → UpdBank) : (s.modFw f).panel = s.panel := rfl
@[simp] theorem State.modFw_get (f : UpdBank → UpdBank) (key : Nat) : (s.modFw f).get key = s.get key := rfl
@[simp] theorem State.modFw_useK (f : UpdBank → UpdBank) (key : Nat) : (s.modFw f).useK key = s.useK key := rfl
@[simp] theorem State.modFw_live (f : UpdBank → UpdBank) : (s.modFw f).live = s.live := rfl

/-! ## modValve -/

@[simp] theorem State.modValve_pending (f : ValveBank → ValveBank) : (s.modValve f).pending = s.pending := rfl
@[simp] theorem State.modValve_clk (f : ValveBank → ValveBank) : (s.modValve f).clk = s.clk := rfl
@[simp] theorem State.modValve_free (f : ValveBank → ValveBank) : (s.modValve f).free = s.free := rfl
@[simp] theorem State.modValve_variant (f : ValveBank → ValveBank) : (s.modValve f).variant = s.variant := rfl
@[simp] theorem State.modValve_phase (f : ValveBank → ValveBank) : (s.modValve f).phase = s.phase := rfl
@[simp] theorem State.modValve_items (f : ValveBank → ValveBank) : (s.modValve f).items = s.items := rfl
@[simp] theorem State.modValve_cfgK (f : ValveBank → ValveBank) : (s.modValve f).cfgK = s.cfgK := rfl
@[simp] theorem State.modValve_cfgPark (f : ValveBank → ValveBank) : (s.modValve f).cfgPark = s.cfgPark := rfl
@[simp] theorem State.modValve_cfgRestart (f : ValveBank → ValveBank) : (s.modValve f).cfgRestart = s.cfgRestart := rfl
@[simp] theorem State.modValve_time (f : ValveBank → ValveBank) : (s.modValve f).time = s.time := rfl
@[simp] theorem State.modValve_mail (f : ValveBank → ValveBank) : (s.modValve f).mail = s.mail := rfl
@[simp] theorem State.modValve_sb (f : ValveBank → ValveBank) : (s.modValve f).sb = s.sb := rfl
@[simp] theorem State.modValve_lanes (f : ValveBank → ValveBank) : (s.modValve f).lanes = s.lanes := rfl
@[simp] theorem State.modValve_cam (f : ValveBank → ValveBank) : (s.modValve f).cam = s.cam := rfl
@[simp] theorem State.modValve_can (f : ValveBank → ValveBank) : (s.modValve f).can = s.can := rfl
@[simp] theorem State.modValve_hist (f : ValveBank → ValveBank) : (s.modValve f).hist = s.hist := rfl
@[simp] theorem State.modValve_fus (f : ValveBank → ValveBank) : (s.modValve f).fus = s.fus := rfl
@[simp] theorem State.modValve_valve (f : ValveBank → ValveBank) : (s.modValve f).valve = f s.valve := rfl
@[simp] theorem State.modValve_rods (f : ValveBank → ValveBank) : (s.modValve f).rods = s.rods := rfl
@[simp] theorem State.modValve_io (f : ValveBank → ValveBank) : (s.modValve f).io = s.io := rfl
@[simp] theorem State.modValve_ring (f : ValveBank → ValveBank) : (s.modValve f).ring = s.ring := rfl
@[simp] theorem State.modValve_power (f : ValveBank → ValveBank) : (s.modValve f).power = s.power := rfl
@[simp] theorem State.modValve_fw (f : ValveBank → ValveBank) : (s.modValve f).fw = s.fw := rfl
@[simp] theorem State.modValve_panel (f : ValveBank → ValveBank) : (s.modValve f).panel = s.panel := rfl
@[simp] theorem State.modValve_get (f : ValveBank → ValveBank) (key : Nat) : (s.modValve f).get key = s.get key := rfl
@[simp] theorem State.modValve_useK (f : ValveBank → ValveBank) (key : Nat) : (s.modValve f).useK key = s.useK key := rfl
@[simp] theorem State.modValve_live (f : ValveBank → ValveBank) : (s.modValve f).live = s.live := rfl

/-! ## set -/

@[simp] theorem State.set_pending (k v : Nat) : (s.set k v).pending = s.pending := rfl
@[simp] theorem State.set_clk (k v : Nat) : (s.set k v).clk = s.clk := rfl
@[simp] theorem State.set_free (k v : Nat) : (s.set k v).free = s.free := rfl
@[simp] theorem State.set_variant (k v : Nat) : (s.set k v).variant = s.variant := rfl
@[simp] theorem State.set_phase (k v : Nat) : (s.set k v).phase = s.phase := rfl
@[simp] theorem State.set_items (k v : Nat) : (s.set k v).items = s.items.put k (itemDefault s.variant k) v := rfl
@[simp] theorem State.set_cfgK (k v : Nat) : (s.set k v).cfgK = s.cfgK := rfl
@[simp] theorem State.set_cfgPark (k v : Nat) : (s.set k v).cfgPark = s.cfgPark := rfl
@[simp] theorem State.set_cfgRestart (k v : Nat) : (s.set k v).cfgRestart = s.cfgRestart := rfl
@[simp] theorem State.set_time (k v : Nat) : (s.set k v).time = s.time := rfl
@[simp] theorem State.set_mail (k v : Nat) : (s.set k v).mail = s.mail := rfl
@[simp] theorem State.set_sb (k v : Nat) : (s.set k v).sb = s.sb := rfl
@[simp] theorem State.set_lanes (k v : Nat) : (s.set k v).lanes = s.lanes := rfl
@[simp] theorem State.set_cam (k v : Nat) : (s.set k v).cam = s.cam := rfl
@[simp] theorem State.set_can (k v : Nat) : (s.set k v).can = s.can := rfl
@[simp] theorem State.set_hist (k v : Nat) : (s.set k v).hist = s.hist := rfl
@[simp] theorem State.set_fus (k v : Nat) : (s.set k v).fus = s.fus := rfl
@[simp] theorem State.set_valve (k v : Nat) : (s.set k v).valve = s.valve := rfl
@[simp] theorem State.set_rods (k v : Nat) : (s.set k v).rods = s.rods := rfl
@[simp] theorem State.set_io (k v : Nat) : (s.set k v).io = s.io := rfl
@[simp] theorem State.set_ring (k v : Nat) : (s.set k v).ring = s.ring := rfl
@[simp] theorem State.set_power (k v : Nat) : (s.set k v).power = s.power := rfl
@[simp] theorem State.set_fw (k v : Nat) : (s.set k v).fw = s.fw := rfl
@[simp] theorem State.set_panel (k v : Nat) : (s.set k v).panel = s.panel := rfl
@[simp] theorem State.set_live (k v : Nat) : (s.set k v).live = s.live := rfl

/-! ## seti -/

@[simp] theorem State.seti_pending (k : Nat) (v : Int) : (s.seti k v).pending = s.pending := rfl
@[simp] theorem State.seti_clk (k : Nat) (v : Int) : (s.seti k v).clk = s.clk := rfl
@[simp] theorem State.seti_free (k : Nat) (v : Int) : (s.seti k v).free = s.free := rfl
@[simp] theorem State.seti_variant (k : Nat) (v : Int) : (s.seti k v).variant = s.variant := rfl
@[simp] theorem State.seti_phase (k : Nat) (v : Int) : (s.seti k v).phase = s.phase := rfl
@[simp] theorem State.seti_cfgK (k : Nat) (v : Int) : (s.seti k v).cfgK = s.cfgK := rfl
@[simp] theorem State.seti_cfgPark (k : Nat) (v : Int) : (s.seti k v).cfgPark = s.cfgPark := rfl
@[simp] theorem State.seti_cfgRestart (k : Nat) (v : Int) : (s.seti k v).cfgRestart = s.cfgRestart := rfl
@[simp] theorem State.seti_time (k : Nat) (v : Int) : (s.seti k v).time = s.time := rfl
@[simp] theorem State.seti_mail (k : Nat) (v : Int) : (s.seti k v).mail = s.mail := rfl
@[simp] theorem State.seti_sb (k : Nat) (v : Int) : (s.seti k v).sb = s.sb := rfl
@[simp] theorem State.seti_lanes (k : Nat) (v : Int) : (s.seti k v).lanes = s.lanes := rfl
@[simp] theorem State.seti_cam (k : Nat) (v : Int) : (s.seti k v).cam = s.cam := rfl
@[simp] theorem State.seti_can (k : Nat) (v : Int) : (s.seti k v).can = s.can := rfl
@[simp] theorem State.seti_hist (k : Nat) (v : Int) : (s.seti k v).hist = s.hist := rfl
@[simp] theorem State.seti_fus (k : Nat) (v : Int) : (s.seti k v).fus = s.fus := rfl
@[simp] theorem State.seti_valve (k : Nat) (v : Int) : (s.seti k v).valve = s.valve := rfl
@[simp] theorem State.seti_rods (k : Nat) (v : Int) : (s.seti k v).rods = s.rods := rfl
@[simp] theorem State.seti_io (k : Nat) (v : Int) : (s.seti k v).io = s.io := rfl
@[simp] theorem State.seti_ring (k : Nat) (v : Int) : (s.seti k v).ring = s.ring := rfl
@[simp] theorem State.seti_power (k : Nat) (v : Int) : (s.seti k v).power = s.power := rfl
@[simp] theorem State.seti_fw (k : Nat) (v : Int) : (s.seti k v).fw = s.fw := rfl
@[simp] theorem State.seti_panel (k : Nat) (v : Int) : (s.seti k v).panel = s.panel := rfl
@[simp] theorem State.seti_live (k : Nat) (v : Int) : (s.seti k v).live = s.live := rfl

/-! ## bumpBy -/

@[simp] theorem State.bumpBy_pending (k n : Nat) : (s.bumpBy k n).pending = s.pending := rfl
@[simp] theorem State.bumpBy_clk (k n : Nat) : (s.bumpBy k n).clk = s.clk := rfl
@[simp] theorem State.bumpBy_free (k n : Nat) : (s.bumpBy k n).free = s.free := rfl
@[simp] theorem State.bumpBy_variant (k n : Nat) : (s.bumpBy k n).variant = s.variant := rfl
@[simp] theorem State.bumpBy_phase (k n : Nat) : (s.bumpBy k n).phase = s.phase := rfl
@[simp] theorem State.bumpBy_cfgK (k n : Nat) : (s.bumpBy k n).cfgK = s.cfgK := rfl
@[simp] theorem State.bumpBy_cfgPark (k n : Nat) : (s.bumpBy k n).cfgPark = s.cfgPark := rfl
@[simp] theorem State.bumpBy_cfgRestart (k n : Nat) : (s.bumpBy k n).cfgRestart = s.cfgRestart := rfl
@[simp] theorem State.bumpBy_time (k n : Nat) : (s.bumpBy k n).time = s.time := rfl
@[simp] theorem State.bumpBy_mail (k n : Nat) : (s.bumpBy k n).mail = s.mail := rfl
@[simp] theorem State.bumpBy_sb (k n : Nat) : (s.bumpBy k n).sb = s.sb := rfl
@[simp] theorem State.bumpBy_lanes (k n : Nat) : (s.bumpBy k n).lanes = s.lanes := rfl
@[simp] theorem State.bumpBy_cam (k n : Nat) : (s.bumpBy k n).cam = s.cam := rfl
@[simp] theorem State.bumpBy_can (k n : Nat) : (s.bumpBy k n).can = s.can := rfl
@[simp] theorem State.bumpBy_hist (k n : Nat) : (s.bumpBy k n).hist = s.hist := rfl
@[simp] theorem State.bumpBy_fus (k n : Nat) : (s.bumpBy k n).fus = s.fus := rfl
@[simp] theorem State.bumpBy_valve (k n : Nat) : (s.bumpBy k n).valve = s.valve := rfl
@[simp] theorem State.bumpBy_rods (k n : Nat) : (s.bumpBy k n).rods = s.rods := rfl
@[simp] theorem State.bumpBy_io (k n : Nat) : (s.bumpBy k n).io = s.io := rfl
@[simp] theorem State.bumpBy_ring (k n : Nat) : (s.bumpBy k n).ring = s.ring := rfl
@[simp] theorem State.bumpBy_power (k n : Nat) : (s.bumpBy k n).power = s.power := rfl
@[simp] theorem State.bumpBy_fw (k n : Nat) : (s.bumpBy k n).fw = s.fw := rfl
@[simp] theorem State.bumpBy_panel (k n : Nat) : (s.bumpBy k n).panel = s.panel := rfl
@[simp] theorem State.bumpBy_live (k n : Nat) : (s.bumpBy k n).live = s.live := rfl

/-! ## bump -/

@[simp] theorem State.bump_pending (k : Nat) : (s.bump k).pending = s.pending := rfl
@[simp] theorem State.bump_clk (k : Nat) : (s.bump k).clk = s.clk := rfl
@[simp] theorem State.bump_free (k : Nat) : (s.bump k).free = s.free := rfl
@[simp] theorem State.bump_variant (k : Nat) : (s.bump k).variant = s.variant := rfl
@[simp] theorem State.bump_phase (k : Nat) : (s.bump k).phase = s.phase := rfl
@[simp] theorem State.bump_cfgK (k : Nat) : (s.bump k).cfgK = s.cfgK := rfl
@[simp] theorem State.bump_cfgPark (k : Nat) : (s.bump k).cfgPark = s.cfgPark := rfl
@[simp] theorem State.bump_cfgRestart (k : Nat) : (s.bump k).cfgRestart = s.cfgRestart := rfl
@[simp] theorem State.bump_time (k : Nat) : (s.bump k).time = s.time := rfl
@[simp] theorem State.bump_mail (k : Nat) : (s.bump k).mail = s.mail := rfl
@[simp] theorem State.bump_sb (k : Nat) : (s.bump k).sb = s.sb := rfl
@[simp] theorem State.bump_lanes (k : Nat) : (s.bump k).lanes = s.lanes := rfl
@[simp] theorem State.bump_cam (k : Nat) : (s.bump k).cam = s.cam := rfl
@[simp] theorem State.bump_can (k : Nat) : (s.bump k).can = s.can := rfl
@[simp] theorem State.bump_hist (k : Nat) : (s.bump k).hist = s.hist := rfl
@[simp] theorem State.bump_fus (k : Nat) : (s.bump k).fus = s.fus := rfl
@[simp] theorem State.bump_valve (k : Nat) : (s.bump k).valve = s.valve := rfl
@[simp] theorem State.bump_rods (k : Nat) : (s.bump k).rods = s.rods := rfl
@[simp] theorem State.bump_io (k : Nat) : (s.bump k).io = s.io := rfl
@[simp] theorem State.bump_ring (k : Nat) : (s.bump k).ring = s.ring := rfl
@[simp] theorem State.bump_power (k : Nat) : (s.bump k).power = s.power := rfl
@[simp] theorem State.bump_fw (k : Nat) : (s.bump k).fw = s.fw := rfl
@[simp] theorem State.bump_panel (k : Nat) : (s.bump k).panel = s.panel := rfl
@[simp] theorem State.bump_live (k : Nat) : (s.bump k).live = s.live := rfl

/-! ## useFree -/

@[simp] theorem State.useFree_pending (n : Nat) : (s.useFree n).pending = s.pending := rfl
@[simp] theorem State.useFree_clk (n : Nat) : (s.useFree n).clk = s.clk := rfl
@[simp] theorem State.useFree_free (n : Nat) : (s.useFree n).free = s.free + n := rfl
@[simp] theorem State.useFree_variant (n : Nat) : (s.useFree n).variant = s.variant := rfl
@[simp] theorem State.useFree_phase (n : Nat) : (s.useFree n).phase = s.phase := rfl
@[simp] theorem State.useFree_items (n : Nat) : (s.useFree n).items = s.items := rfl
@[simp] theorem State.useFree_cfgK (n : Nat) : (s.useFree n).cfgK = s.cfgK := rfl
@[simp] theorem State.useFree_cfgPark (n : Nat) : (s.useFree n).cfgPark = s.cfgPark := rfl
@[simp] theorem State.useFree_cfgRestart (n : Nat) : (s.useFree n).cfgRestart = s.cfgRestart := rfl
@[simp] theorem State.useFree_time (n : Nat) : (s.useFree n).time = s.time := rfl
@[simp] theorem State.useFree_mail (n : Nat) : (s.useFree n).mail = s.mail := rfl
@[simp] theorem State.useFree_sb (n : Nat) : (s.useFree n).sb = s.sb := rfl
@[simp] theorem State.useFree_lanes (n : Nat) : (s.useFree n).lanes = s.lanes := rfl
@[simp] theorem State.useFree_cam (n : Nat) : (s.useFree n).cam = s.cam := rfl
@[simp] theorem State.useFree_can (n : Nat) : (s.useFree n).can = s.can := rfl
@[simp] theorem State.useFree_hist (n : Nat) : (s.useFree n).hist = s.hist := rfl
@[simp] theorem State.useFree_fus (n : Nat) : (s.useFree n).fus = s.fus := rfl
@[simp] theorem State.useFree_valve (n : Nat) : (s.useFree n).valve = s.valve := rfl
@[simp] theorem State.useFree_rods (n : Nat) : (s.useFree n).rods = s.rods := rfl
@[simp] theorem State.useFree_io (n : Nat) : (s.useFree n).io = s.io := rfl
@[simp] theorem State.useFree_ring (n : Nat) : (s.useFree n).ring = s.ring := rfl
@[simp] theorem State.useFree_power (n : Nat) : (s.useFree n).power = s.power := rfl
@[simp] theorem State.useFree_fw (n : Nat) : (s.useFree n).fw = s.fw := rfl
@[simp] theorem State.useFree_panel (n : Nat) : (s.useFree n).panel = s.panel := rfl
@[simp] theorem State.useFree_get (n : Nat) (key : Nat) : (s.useFree n).get key = s.get key := rfl
@[simp] theorem State.useFree_useK (n : Nat) (key : Nat) : (s.useFree n).useK key = s.useK key := rfl
@[simp] theorem State.useFree_live (n : Nat) : (s.useFree n).live = s.live := rfl

/-! ## advance -/

@[simp] theorem State.advance_pending (dt : Nat) : (s.advance dt).pending = s.pending := rfl
@[simp] theorem State.advance_clk (dt : Nat) : (s.advance dt).clk = s.clk.advance dt := rfl
@[simp] theorem State.advance_free (dt : Nat) : (s.advance dt).free = s.free := rfl
@[simp] theorem State.advance_variant (dt : Nat) : (s.advance dt).variant = s.variant := rfl
@[simp] theorem State.advance_phase (dt : Nat) : (s.advance dt).phase = s.phase := rfl
@[simp] theorem State.advance_items (dt : Nat) : (s.advance dt).items = s.items := rfl
@[simp] theorem State.advance_cfgK (dt : Nat) : (s.advance dt).cfgK = s.cfgK := rfl
@[simp] theorem State.advance_cfgPark (dt : Nat) : (s.advance dt).cfgPark = s.cfgPark := rfl
@[simp] theorem State.advance_cfgRestart (dt : Nat) : (s.advance dt).cfgRestart = s.cfgRestart := rfl
@[simp] theorem State.advance_time (dt : Nat) : (s.advance dt).time = s.time := rfl
@[simp] theorem State.advance_mail (dt : Nat) : (s.advance dt).mail = s.mail := rfl
@[simp] theorem State.advance_sb (dt : Nat) : (s.advance dt).sb = s.sb := rfl
@[simp] theorem State.advance_lanes (dt : Nat) : (s.advance dt).lanes = s.lanes := rfl
@[simp] theorem State.advance_cam (dt : Nat) : (s.advance dt).cam = s.cam := rfl
@[simp] theorem State.advance_can (dt : Nat) : (s.advance dt).can = s.can := rfl
@[simp] theorem State.advance_hist (dt : Nat) : (s.advance dt).hist = s.hist := rfl
@[simp] theorem State.advance_fus (dt : Nat) : (s.advance dt).fus = s.fus := rfl
@[simp] theorem State.advance_valve (dt : Nat) : (s.advance dt).valve = s.valve := rfl
@[simp] theorem State.advance_rods (dt : Nat) : (s.advance dt).rods = s.rods := rfl
@[simp] theorem State.advance_io (dt : Nat) : (s.advance dt).io = s.io := rfl
@[simp] theorem State.advance_ring (dt : Nat) : (s.advance dt).ring = s.ring := rfl
@[simp] theorem State.advance_power (dt : Nat) : (s.advance dt).power = s.power := rfl
@[simp] theorem State.advance_fw (dt : Nat) : (s.advance dt).fw = s.fw := rfl
@[simp] theorem State.advance_panel (dt : Nat) : (s.advance dt).panel = s.panel := rfl
@[simp] theorem State.advance_get (dt : Nat) (key : Nat) : (s.advance dt).get key = s.get key := rfl
@[simp] theorem State.advance_useK (dt : Nat) (key : Nat) : (s.advance dt).useK key = s.useK key := rfl
@[simp] theorem State.advance_live (dt : Nat) : (s.advance dt).live = s.live := rfl

end Sys2Proof.Machine
end

