-- ==== Sys2Proof/Laws/Ops.lean ====
section
/-! SUPPORT. What the shared operations do: item stores, events, responses, and the wrappers of the commands. -/

namespace Sys2Proof.Machine

/-! ## Item stores -/

theorem Store.find_filter (st : Store) (k j : Nat) :
    Store.find (st.filter fun p => p.1 != k) j = if j = k then none else st.find j := by
  induction st with
  | nil => simp [Store.find]
  | cons p r ih =>
    obtain ⟨a, v⟩ := p
    by_cases ha : a = k
    · by_cases hj : j = k
      · subst hj; simpa [ha] using ih
      · have : ¬ k = j := fun h => hj h.symm
        simp [ha, hj, Store.find, ih, this]
    · by_cases hj : j = k
      · have : ¬ a = j := fun h => ha (h.trans hj)
        simp_all [Store.find]
      · simp [ha, hj, Store.find, ih]

theorem Store.find_ins (k v j : Nat) (st : Store) (h : st.find k = none) :
    (Store.ins k v st).find j = if j = k then some v else st.find j := by
  induction st with
  | nil => simp [Store.ins, Store.find, eq_comm]
  | cons p r ih =>
    obtain ⟨a, w⟩ := p
    have ha : a ≠ k := by intro e; simp [Store.find, e] at h
    have hr : Store.find r k = none := by simpa [Store.find, ha] using h
    by_cases hk : k < a
    · simp [Store.ins, hk, Store.find, eq_comm]
    · simp only [Store.ins, hk, if_false, Store.find, ih hr]
      by_cases haj : a = j
      · have : ¬ j = k := fun e => ha (haj.trans e)
        simp [haj, this]
      · simp [haj]

/-- Writing an item: the key reads the value written, where the default is what an unlisted key reads as; every other key
reads as before. -/
theorem Store.find_put (st : Store) (k d v j : Nat) :
    (st.put k d v).find j = if j = k then (if v = d then none else some v) else st.find j := by
  unfold Store.put Store.erase
  by_cases hv : v = d
  · simp only [hv, if_true]
    rw [Store.find_filter]
  · simp only [hv, if_false]
    rw [Store.find_ins _ _ _ _ (by rw [Store.find_filter]; simp), Store.find_filter]
    by_cases hj : j = k <;> simp [hj]

theorem Store.read_put (variant : Nat) (st : Store) (k v j : Nat) :
    (st.put k (itemDefault variant k) v).read variant j = if j = k then v else st.read variant j := by
  unfold Store.read
  rw [Store.find_put]
  by_cases hj : j = k
  · by_cases hv : v = itemDefault variant k <;> simp [hj, hv]
  · simp [hj]

/-- An item written reads its value, every other item reads as before. -/
@[simp] theorem State.get_set (s : State) (k v j : Nat) : (s.set k v).get j = if j = k then v else s.get j := by
  simp only [State.get, State.set]
  exact Store.read_put s.variant s.items k v j

@[simp] theorem State.get_bumpBy (s : State) (k n j : Nat) :
    (s.bumpBy k n).get j = if j = k then sat32 (s.get k + n) else s.get j := by
  simp [State.bumpBy]

@[simp] theorem State.get_bump (s : State) (k j : Nat) : (s.bump k).get j = if j = k then sat32 (s.get k + 1) else s.get j := by
  simp [State.bump]

/-! ### The canonical form -/

theorem Store.wf_cons (variant a v : Nat) (r : Store) :
    Store.wf variant ((a, v) :: r) = true ↔
      v ≠ itemDefault variant a ∧ (∀ p ∈ r, a < p.1) ∧ Store.wf variant r = true := by
  induction r generalizing a v with
  | nil => simp [Store.wf]
  | cons p r ih =>
    obtain ⟨b, w⟩ := p
    simp only [Store.wf, Bool.and_eq_true, decide_eq_true_eq, bne_iff_ne, ih b w, List.mem_cons, forall_eq_or_imp]
    constructor
    · rintro ⟨⟨h1, h2⟩, h3, h4, h5⟩
      exact ⟨h2, ⟨h1, fun p hp => Nat.lt_trans h1 (h4 p hp)⟩, h3, h4, h5⟩
    · rintro ⟨h1, ⟨h2, _⟩, h3, h4, h5⟩
      exact ⟨⟨h2, h1⟩, h3, h4, h5⟩

theorem Store.wf_filter (variant : Nat) (f : Nat × Nat → Bool) (st : Store) (h : Store.wf variant st = true) :
    Store.wf variant (st.filter f) = true := by
  induction st with
  | nil => exact h
  | cons p r ih =>
    obtain ⟨a, v⟩ := p
    obtain ⟨h1, h2, h3⟩ := (Store.wf_cons variant a v r).1 h
    by_cases hf : f (a, v) = true
    · rw [List.filter_cons_of_pos hf]
      exact (Store.wf_cons variant a v _).2 ⟨h1, fun p hp => h2 p (List.mem_filter.1 hp).1, ih h3⟩
    · rw [List.filter_cons_of_neg hf]
      exact ih h3

theorem Store.mem_ins (k v : Nat) (st : Store) (p : Nat × Nat) (h : p ∈ Store.ins k v st) : p = (k, v) ∨ p ∈ st := by
  induction st with
  | nil => simpa [Store.ins] using h
  | cons q r ih =>
    obtain ⟨a, w⟩ := q
    by_cases hk : k < a
    · simpa [Store.ins, hk] using h
    · simp only [Store.ins, hk, if_false, List.mem_cons] at h ⊢
      rcases h with h | h
      · exact .inr (.inl h)
      · exact (ih h).imp_right .inr

theorem Store.wf_ins (variant k v : Nat) (st : Store) (h : Store.wf variant st = true) (hk : ∀ p ∈ st, p.1 ≠ k)
    (hv : v ≠ itemDefault variant k) : Store.wf variant (Store.ins k v st) = true := by
  induction st with
  | nil => simpa [Store.ins, Store.wf] using hv
  | cons p r ih =>
    obtain ⟨a, w⟩ := p
    obtain ⟨h1, h2, h3⟩ := (Store.wf_cons variant a w r).1 h
    have hak : a ≠ k := hk (a, w) (List.mem_cons_self ..)
    by_cases hlt : k < a
    · rw [Store.ins, if_pos hlt]
      refine (Store.wf_cons variant k v _).2 ⟨hv, fun p hp => ?_, h⟩
      rcases List.mem_cons.1 hp with rfl | hp
      · exact hlt
      · exact Nat.lt_trans hlt (h2 p hp)
    · rw [Store.ins, if_neg hlt]
      refine (Store.wf_cons variant a w _).2 ⟨h1, fun p hp => ?_, ih h3 fun p hp => hk p (List.mem_cons_of_mem _ hp)⟩
      rcases Store.mem_ins k v r p hp with rfl | hp
      · exact Nat.lt_of_le_of_ne (Nat.not_lt.1 hlt) hak
      · exact h2 p hp

/-- A write keeps the canonical form. -/
theorem Store.wf_put (variant k v : Nat) (st : Store) (h : Store.wf variant st = true) :
    Store.wf variant (st.put k (itemDefault variant k) v) = true := by
  unfold Store.put Store.erase
  by_cases hv : v = itemDefault variant k
  · rw [if_pos hv]
    exact Store.wf_filter variant _ st h
  · rw [if_neg hv]
    refine Store.wf_ins variant k v _ (Store.wf_filter variant _ st h) (fun p hp => ?_) hv
    simpa using (List.mem_filter.1 hp).2

theorem State.set_wf (s : State) (k v : Nat) (h : Store.wf s.variant s.items = true) :
    Store.wf (s.set k v).variant (s.set k v).items = true := Store.wf_put s.variant k v s.items h

/-! ## Lists by index -/

theorem upd_upd {α : Type} (l : List α) (i : Nat) (f g : α → α) : upd (upd l i f) i g = upd l i fun x => g (f x) := by
  apply List.ext_getElem?
  intro j
  simp only [upd, List.getElem?_modify]
  by_cases h : i = j <;> cases l[j]? <;> simp [h]

theorem upd_congr {α : Type} (l : List α) (i : Nat) (f g : α → α) (h : ∀ x, l[i]? = some x → f x = g x) :
    upd l i f = upd l i g := by
  apply List.ext_getElem?
  intro j
  simp only [upd, List.getElem?_modify]
  by_cases hj : i = j
  · subst hj
    cases hl : l[i]? with
    | none => rfl
    | some x => simp [h x hl]
  · simp [hj]

theorem nth_upd {α : Type} [Inhabited α] (l : List α) (i j : Nat) (f : α → α) :
    nth (upd l i f) j = if i = j ∧ i < l.length then f (nth l j) else nth l j := by
  simp only [nth, upd, List.getD_eq_getElem?_getD, List.getElem?_modify]
  by_cases h : i = j
  · subst h
    by_cases hl : i < l.length <;> simp [hl]
  · simp [h]

@[simp] theorem length_upd {α : Type} (l : List α) (i : Nat) (f : α → α) : (upd l i f).length = l.length := by
  simp [upd]

end Sys2Proof.Machine
end

