-- ==== Sys2Proof/Laws/Mail.lean ====
section
/-! SUPPORT. Everything that sending an event and placing a response can do. -/

namespace Sys2Proof.Machine

/-! ## Events -/

theorem State.modMaster_shape (s : State) (m : Nat) (f : Master → Master) :
    s.modMaster m f = { s with mail := { s.mail with masters := upd s.mail.masters m f } } := rfl

theorem State.placeEvt_shape (m code : Nat) (p : List Byte) (s : State) : ∃ ms it,
    s.placeEvt m code p = { s with mail := { s.mail with masters := ms }, items := it } ∧
      ∀ k, k ≠ It.eventsLost m → it.read s.variant k = s.get k := by
  unfold State.placeEvt
  by_cases h : (s.master m).evt.fits (frameSlots p.length) = true
  · exact ⟨_, s.items, by simp only [h, if_true]; rfl, fun _ _ => rfl⟩
  · refine ⟨_, _, by simp only [h]; rfl, fun k hk => ?_⟩
    show Store.read s.variant (Store.put s.items (It.eventsLost m) (itemDefault s.variant (It.eventsLost m)) _) k = s.get k
    rw [Store.read_put, if_neg hk]
    rfl

theorem State.evtTo_shape (m code : Nat) (p : List Byte) (s : State) : ∃ ms it,
    s.evtTo m code p = { s with mail := { s.mail with masters := ms }, items := it } ∧
      ∀ k, k ≠ It.eventsLost m → it.read s.variant k = s.get k := by
  unfold State.evtTo
  by_cases h1 : s.speaks = true
  · by_cases h2 : s.mail.reck.up = true
    · simp only [h1, h2, if_true]
      exact State.placeEvt_shape m code p s
    · by_cases h3 : (s.master m).held.length < 256
      · exact ⟨_, s.items, by simp only [h1, h2, h3, if_true]; rfl, fun _ _ => rfl⟩
      · refine ⟨_, _, by simp only [h1, h2, h3, if_true]; rfl, fun k hk => ?_⟩
        show Store.read s.variant (Store.put s.items (It.eventsLost m) (itemDefault s.variant (It.eventsLost m)) _) k = s.get k
        rw [Store.read_put, if_neg hk]
        rfl
  · exact ⟨s.mail.masters, s.items, by simp only [h1]; rfl, fun _ _ => rfl⟩

theorem State.emitFold_shape (code : Nat) (p : List Byte) (l : List Nat) (s : State) : ∃ ms it,
    l.foldl (fun s m => s.evtTo m code p) s = { s with mail := { s.mail with masters := ms }, items := it } ∧
      ∀ k, (∀ m ∈ l, k ≠ It.eventsLost m) → it.read s.variant k = s.get k := by
  induction l generalizing s with
  | nil => exact ⟨s.mail.masters, s.items, rfl, fun _ _ => rfl⟩
  | cons m r ih =>
    obtain ⟨ms, it, he, hr⟩ := State.evtTo_shape m code p s
    obtain ⟨ms', it', he', hr'⟩ := ih (s.evtTo m code p)
    refine ⟨ms', it', by rw [List.foldl_cons, he', he], fun k hk => ?_⟩
    have h2 := hr' k fun x hx => hk x (List.mem_cons_of_mem _ hx)
    rw [he] at h2
    exact h2.trans (hr k (hk m (List.mem_cons_self ..)))

/-- Everything an event does: frames in the mailboxes and counters of lost events. -/
theorem State.emit_shape (code : Nat) (p : List Byte) (s : State) : ∃ ms it,
    s.emit code p = { s with mail := { s.mail with masters := ms }, items := it } ∧
      ∀ k, (∀ m < 16, k ≠ It.eventsLost m) → it.read s.variant k = s.get k := by
  obtain ⟨ms, it, h, hr⟩ := State.emitFold_shape code p ((List.range 16).filter (s.wants code)) s
  refine ⟨ms, it, h, fun k hk => hr k fun m hm => hk m ?_⟩
  simpa using (List.mem_filter.1 hm).1

/-- An event changes no item but the counters of lost events. -/
theorem State.emit_get (code : Nat) (p : List Byte) (s : State) (k : Nat) (hk : ∀ m < 16, k ≠ It.eventsLost m) :
    (s.emit code p).get k = s.get k := by
  obtain ⟨ms, it, h, hr⟩ := State.emit_shape code p s
  rw [h]
  exact hr k hk

@[simp] theorem State.emit_pending (code : Nat) (p : List Byte) (s : State) : (s.emit code p).pending = s.pending := by
  obtain ⟨ms, it, h, -⟩ := State.emit_shape code p s; rw [h]
@[simp] theorem State.emit_clk (code : Nat) (p : List Byte) (s : State) : (s.emit code p).clk = s.clk := by
  obtain ⟨ms, it, h, -⟩ := State.emit_shape code p s; rw [h]
@[simp] theorem State.emit_free (code : Nat) (p : List Byte) (s : State) : (s.emit code p).free = s.free := by
  obtain ⟨ms, it, h, -⟩ := State.emit_shape code p s; rw [h]
@[simp] theorem State.emit_variant (code : Nat) (p : List Byte) (s : State) : (s.emit code p).variant = s.variant := by
  obtain ⟨ms, it, h, -⟩ := State.emit_shape code p s; rw [h]
@[simp] theorem State.emit_phase (code : Nat) (p : List Byte) (s : State) : (s.emit code p).phase = s.phase := by
  obtain ⟨ms, it, h, -⟩ := State.emit_shape code p s; rw [h]
@[simp] theorem State.emit_cfgK (code : Nat) (p : List Byte) (s : State) : (s.emit code p).cfgK = s.cfgK := by
  obtain ⟨ms, it, h, -⟩ := State.emit_shape code p s; rw [h]
@[simp] theorem State.emit_cfgPark (code : Nat) (p : List Byte) (s : State) : (s.emit code p).cfgPark = s.cfgPark := by
  obtain ⟨ms, it, h, -⟩ := State.emit_shape code p s; rw [h]
@[simp] theorem State.emit_cfgRestart (code : Nat) (p : List Byte) (s : State) : (s.emit code p).cfgRestart = s.cfgRestart := by
  obtain ⟨ms, it, h, -⟩ := State.emit_shape code p s; rw [h]
@[simp] theorem State.emit_time (code : Nat) (p : List Byte) (s : State) : (s.emit code p).time = s.time := by
  obtain ⟨ms, it, h, -⟩ := State.emit_shape code p s; rw [h]
@[simp] theorem State.emit_sb (code : Nat) (p : List Byte) (s : State) : (s.emit code p).sb = s.sb := by
  obtain ⟨ms, it, h, -⟩ := State.emit_shape code p s; rw [h]
@[simp] theorem State.emit_lanes (code : Nat) (p : List Byte) (s : State) : (s.emit code p).lanes = s.lanes := by
  obtain ⟨ms, it, h, -⟩ := State.emit_shape code p s; rw [h]
@[simp] theorem State.emit_cam (code : Nat) (p : List Byte) (s : State) : (s.emit code p).cam = s.cam := by
  obtain ⟨ms, it, h, -⟩ := State.emit_shape code p s; rw [h]
@[simp] theorem State.emit_can (code : Nat) (p : List Byte) (s : State) : (s.emit code p).can = s.can := by
  obtain ⟨ms, it, h, -⟩ := State.emit_shape code p s; rw [h]
@[simp] theorem State.emit_hist (code : Nat) (p : List Byte) (s : State) : (s.emit code p).hist = s.hist := by
  obtain ⟨ms, it, h, -⟩ := State.emit_shape code p s; rw [h]
@[simp] theorem State.emit_fus (code : Nat) (p : List Byte) (s : State) : (s.emit code p).fus = s.fus := by
  obtain ⟨ms, it, h, -⟩ := State.emit_shape code p s; rw [h]
@[simp] theorem State.emit_valve (code : Nat) (p : List Byte) (s : State) : (s.emit code p).valve = s.valve := by
  obtain ⟨ms, it, h, -⟩ := State.emit_shape code p s; rw [h]
@[simp] theorem State.emit_rods (code : Nat) (p : List Byte) (s : State) : (s.emit code p).rods = s.rods := by
  obtain ⟨ms, it, h, -⟩ := State.emit_shape code p s; rw [h]
@[simp] theorem State.emit_io (code : Nat) (p : List Byte) (s : State) : (s.emit code p).io = s.io := by
  obtain ⟨ms, it, h, -⟩ := State.emit_shape code p s; rw [h]
@[simp] theorem State.emit_ring (code : Nat) (p : List Byte) (s : State) : (s.emit code p).ring = s.ring := by
  obtain ⟨ms, it, h, -⟩ := State.emit_shape code p s; rw [h]
@[simp] theorem State.emit_power (code : Nat) (p : List Byte) (s : State) : (s.emit code p).power = s.power := by
  obtain ⟨ms, it, h, -⟩ := State.emit_shape code p s; rw [h]
@[simp] theorem State.emit_fw (code : Nat) (p : List Byte) (s : State) : (s.emit code p).fw = s.fw := by
  obtain ⟨ms, it, h, -⟩ := State.emit_shape code p s; rw [h]
@[simp] theorem State.emit_panel (code : Nat) (p : List Byte) (s : State) : (s.emit code p).panel = s.panel := by
  obtain ⟨ms, it, h, -⟩ := State.emit_shape code p s; rw [h]
@[simp] theorem State.emit_mail_owner (code : Nat) (p : List Byte) (s : State) : (s.emit code p).mail.owner = s.mail.owner := by
  obtain ⟨ms, it, h, -⟩ := State.emit_shape code p s; rw [h]
@[simp] theorem State.emit_mail_offer (code : Nat) (p : List Byte) (s : State) : (s.emit code p).mail.offer = s.mail.offer := by
  obtain ⟨ms, it, h, -⟩ := State.emit_shape code p s; rw [h]
@[simp] theorem State.emit_mail_window (code : Nat) (p : List Byte) (s : State) : (s.emit code p).mail.window = s.mail.window := by
  obtain ⟨ms, it, h, -⟩ := State.emit_shape code p s; rw [h]
@[simp] theorem State.emit_mail_grace (code : Nat) (p : List Byte) (s : State) : (s.emit code p).mail.grace = s.mail.grace := by
  obtain ⟨ms, it, h, -⟩ := State.emit_shape code p s; rw [h]
@[simp] theorem State.emit_mail_graceOver (code : Nat) (p : List Byte) (s : State) : (s.emit code p).mail.graceOver = s.mail.graceOver := by
  obtain ⟨ms, it, h, -⟩ := State.emit_shape code p s; rw [h]
@[simp] theorem State.emit_mail_claims (code : Nat) (p : List Byte) (s : State) : (s.emit code p).mail.claims = s.mail.claims := by
  obtain ⟨ms, it, h, -⟩ := State.emit_shape code p s; rw [h]
@[simp] theorem State.emit_mail_lapseFrom (code : Nat) (p : List Byte) (s : State) : (s.emit code p).mail.lapseFrom = s.mail.lapseFrom := by
  obtain ⟨ms, it, h, -⟩ := State.emit_shape code p s; rw [h]
@[simp] theorem State.emit_mail_resume (code : Nat) (p : List Byte) (s : State) : (s.emit code p).mail.resume = s.mail.resume := by
  obtain ⟨ms, it, h, -⟩ := State.emit_shape code p s; rw [h]
@[simp] theorem State.emit_mail_lastServed (code : Nat) (p : List Byte) (s : State) : (s.emit code p).mail.lastServed = s.mail.lastServed := by
  obtain ⟨ms, it, h, -⟩ := State.emit_shape code p s; rw [h]
@[simp] theorem State.emit_mail_reck (code : Nat) (p : List Byte) (s : State) : (s.emit code p).mail.reck = s.mail.reck := by
  obtain ⟨ms, it, h, -⟩ := State.emit_shape code p s; rw [h]

@[simp] theorem State.emit_live (code : Nat) (p : List Byte) (s : State) : (s.emit code p).live = s.live := by
  simp [State.live]

/-! ## Responses -/

/-- Everything that placing responses does: it changes one mailbox. -/
theorem State.flush_shape (m : Nat) (s : State) : ∃ ms,
    s.flush m = { s with mail := { s.mail with masters := ms } } := by
  unfold State.flush
  split
  · exact ⟨_, rfl⟩
  · exact ⟨s.mail.masters, rfl⟩

theorem State.rewait_shape (m : Nat) (f : Resp → Resp) (s : State) : ∃ ms,
    s.rewait m f = { s with mail := { s.mail with masters := ms } } := by
  obtain ⟨ms, h⟩ := State.flush_shape m (s.modMaster m fun ma => { ma with outq := ma.outq.map f })
  exact ⟨ms, h⟩

theorem State.respond_shape (m : Nat) (r : Resp) (s : State) : ∃ ms,
    s.respond m r = { s with mail := { s.mail with masters := ms } } := by
  obtain ⟨ms, h⟩ := State.flush_shape m (s.modMaster m fun ma => { ma with outq := ma.outq ++ [r] })
  exact ⟨ms, h⟩

theorem State.answer_shape (m : Nat) (w : Wait) (st : Nat) (p : List Byte) (s : State) : ∃ ms,
    s.answer m w st p = { s with mail := { s.mail with masters := ms } } := State.rewait_shape m _ s

theorem State.answerNow_shape (m : Nat) (w : Wait) (st : Nat) (s : State) : ∃ ms,
    s.answerNow m w st = { s with mail := { s.mail with masters := ms } } := State.rewait_shape m _ s

theorem State.fold_shape {α : Type} (g : State → α → State) (h : ∀ s a, ∃ ms, g s a = { s with mail := { s.mail with masters := ms } })
    (l : List α) (s : State) : ∃ ms, l.foldl g s = { s with mail := { s.mail with masters := ms } } := by
  induction l generalizing s with
  | nil => exact ⟨s.mail.masters, rfl⟩
  | cons a r ih =>
    obtain ⟨ms, e⟩ := h s a
    obtain ⟨ms', e'⟩ := ih (g s a)
    exact ⟨ms', by rw [List.foldl_cons, e', e]⟩

theorem State.answerAll_shape (w : Wait) (st : Nat) (p : List Byte) (s : State) : ∃ ms,
    s.answerAll w st p = { s with mail := { s.mail with masters := ms } } :=
  State.fold_shape _ (fun s m => State.answer_shape m w st p s) _ s

theorem State.releaseCopies_shape (c : Nat) (s : State) : ∃ ms,
    s.releaseCopies c = { s with mail := { s.mail with masters := ms } } :=
  State.fold_shape _ (fun s m => State.rewait_shape m _ s) _ s

@[simp] theorem State.rewait_pending (m : Nat) (f : Resp → Resp) (s : State) : (s.rewait m f).pending = s.pending := by
  obtain ⟨ms, h⟩ := State.rewait_shape m f s; rw [h]
@[simp] theorem State.rewait_clk (m : Nat) (f : Resp → Resp) (s : State) : (s.rewait m f).clk = s.clk := by
  obtain ⟨ms, h⟩ := State.rewait_shape m f s; rw [h]
@[simp] theorem State.rewait_free (m : Nat) (f : Resp → Resp) (s : State) : (s.rewait m f).free = s.free := by
  obtain ⟨ms, h⟩ := State.rewait_shape m f s; rw [h]
@[simp] theorem State.rewait_variant (m : Nat) (f : Resp → Resp) (s : State) : (s.rewait m f).variant = s.variant := by
  obtain ⟨ms, h⟩ := State.rewait_shape m f s; rw [h]
@[simp] theorem State.rewait_phase (m : Nat) (f : Resp → Resp) (s : State) : (s.rewait m f).phase = s.phase := by
  obtain ⟨ms, h⟩ := State.rewait_shape m f s; rw [h]
@[simp] theorem State.rewait_items (m : Nat) (f : Resp → Resp) (s : State) : (s.rewait m f).items = s.items := by
  obtain ⟨ms, h⟩ := State.rewait_shape m f s; rw [h]
@[simp] theorem State.rewait_cfgK (m : Nat) (f : Resp → Resp) (s : State) : (s.rewait m f).cfgK = s.cfgK := by
  obtain ⟨ms, h⟩ := State.rewait_shape m f s; rw [h]
@[simp] theorem State.rewait_cfgPark (m : Nat) (f : Resp → Resp) (s : State) : (s.rewait m f).cfgPark = s.cfgPark := by
  obtain ⟨ms, h⟩ := State.rewait_shape m f s; rw [h]
@[simp] theorem State.rewait_cfgRestart (m : Nat) (f : Resp → Resp) (s : State) : (s.rewait m f).cfgRestart = s.cfgRestart := by
  obtain ⟨ms, h⟩ := State.rewait_shape m f s; rw [h]
@[simp] theorem State.rewait_time (m : Nat) (f : Resp → Resp) (s : State) : (s.rewait m f).time = s.time := by
  obtain ⟨ms, h⟩ := State.rewait_shape m f s; rw [h]
@[simp] theorem State.rewait_sb (m : Nat) (f : Resp → Resp) (s : State) : (s.rewait m f).sb = s.sb := by
  obtain ⟨ms, h⟩ := State.rewait_shape m f s; rw [h]
@[simp] theorem State.rewait_lanes (m : Nat) (f : Resp → Resp) (s : State) : (s.rewait m f).lanes = s.lanes := by
  obtain ⟨ms, h⟩ := State.rewait_shape m f s; rw [h]
@[simp] theorem State.rewait_cam (m : Nat) (f : Resp → Resp) (s : State) : (s.rewait m f).cam = s.cam := by
  obtain ⟨ms, h⟩ := State.rewait_shape m f s; rw [h]
@[simp] theorem State.rewait_can (m : Nat) (f : Resp → Resp) (s : State) : (s.rewait m f).can = s.can := by
  obtain ⟨ms, h⟩ := State.rewait_shape m f s; rw [h]
@[simp] theorem State.rewait_hist (m : Nat) (f : Resp → Resp) (s : State) : (s.rewait m f).hist = s.hist := by
  obtain ⟨ms, h⟩ := State.rewait_shape m f s; rw [h]
@[simp] theorem State.rewait_fus (m : Nat) (f : Resp → Resp) (s : State) : (s.rewait m f).fus = s.fus := by
  obtain ⟨ms, h⟩ := State.rewait_shape m f s; rw [h]
@[simp] theorem State.rewait_valve (m : Nat) (f : Resp → Resp) (s : State) : (s.rewait m f).valve = s.valve := by
  obtain ⟨ms, h⟩ := State.rewait_shape m f s; rw [h]
@[simp] theorem State.rewait_rods (m : Nat) (f : Resp → Resp) (s : State) : (s.rewait m f).rods = s.rods := by
  obtain ⟨ms, h⟩ := State.rewait_shape m f s; rw [h]
@[simp] theorem State.rewait_io (m : Nat) (f : Resp → Resp) (s : State) : (s.rewait m f).io = s.io := by
  obtain ⟨ms, h⟩ := State.rewait_shape m f s; rw [h]
@[simp] theorem State.rewait_ring (m : Nat) (f : Resp → Resp) (s : State) : (s.rewait m f).ring = s.ring := by
  obtain ⟨ms, h⟩ := State.rewait_shape m f s; rw [h]
@[simp] theorem State.rewait_power (m : Nat) (f : Resp → Resp) (s : State) : (s.rewait m f).power = s.power := by
  obtain ⟨ms, h⟩ := State.rewait_shape m f s; rw [h]
@[simp] theorem State.rewait_fw (m : Nat) (f : Resp → Resp) (s : State) : (s.rewait m f).fw = s.fw := by
  obtain ⟨ms, h⟩ := State.rewait_shape m f s; rw [h]
@[simp] theorem State.rewait_panel (m : Nat) (f : Resp → Resp) (s : State) : (s.rewait m f).panel = s.panel := by
  obtain ⟨ms, h⟩ := State.rewait_shape m f s; rw [h]
@[simp] theorem State.rewait_mail_owner (m : Nat) (f : Resp → Resp) (s : State) : (s.rewait m f).mail.owner = s.mail.owner := by
  obtain ⟨ms, h⟩ := State.rewait_shape m f s; rw [h]
@[simp] theorem State.rewait_mail_offer (m : Nat) (f : Resp → Resp) (s : State) : (s.rewait m f).mail.offer = s.mail.offer := by
  obtain ⟨ms, h⟩ := State.rewait_shape m f s; rw [h]
@[simp] theorem State.rewait_mail_window (m : Nat) (f : Resp → Resp) (s : State) : (s.rewait m f).mail.window = s.mail.window := by
  obtain ⟨ms, h⟩ := State.rewait_shape m f s; rw [h]
@[simp] theorem State.rewait_mail_grace (m : Nat) (f : Resp → Resp) (s : State) : (s.rewait m f).mail.grace = s.mail.grace := by
  obtain ⟨ms, h⟩ := State.rewait_shape m f s; rw [h]
@[simp] theorem State.rewait_mail_graceOver (m : Nat) (f : Resp → Resp) (s : State) : (s.rewait m f).mail.graceOver = s.mail.graceOver := by
  obtain ⟨ms, h⟩ := State.rewait_shape m f s; rw [h]
@[simp] theorem State.rewait_mail_claims (m : Nat) (f : Resp → Resp) (s : State) : (s.rewait m f).mail.claims = s.mail.claims := by
  obtain ⟨ms, h⟩ := State.rewait_shape m f s; rw [h]
@[simp] theorem State.rewait_mail_lapseFrom (m : Nat) (f : Resp → Resp) (s : State) : (s.rewait m f).mail.lapseFrom = s.mail.lapseFrom := by
  obtain ⟨ms, h⟩ := State.rewait_shape m f s; rw [h]
@[simp] theorem State.rewait_mail_resume (m : Nat) (f : Resp → Resp) (s : State) : (s.rewait m f).mail.resume = s.mail.resume := by
  obtain ⟨ms, h⟩ := State.rewait_shape m f s; rw [h]
@[simp] theorem State.rewait_mail_lastServed (m : Nat) (f : Resp → Resp) (s : State) : (s.rewait m f).mail.lastServed = s.mail.lastServed := by
  obtain ⟨ms, h⟩ := State.rewait_shape m f s; rw [h]
@[simp] theorem State.rewait_mail_reck (m : Nat) (f : Resp → Resp) (s : State) : (s.rewait m f).mail.reck = s.mail.reck := by
  obtain ⟨ms, h⟩ := State.rewait_shape m f s; rw [h]
@[simp] theorem State.rewait_get (m : Nat) (f : Resp → Resp) (s : State) (k : Nat) : (s.rewait m f).get k = s.get k := by
  obtain ⟨ms, h⟩ := State.rewait_shape m f s; rw [h]; rfl
@[simp] theorem State.rewait_live (m : Nat) (f : Resp → Resp) (s : State) : (s.rewait m f).live = s.live := by
  obtain ⟨ms, h⟩ := State.rewait_shape m f s; rw [h]; rfl
@[simp] theorem State.respond_pending (m : Nat) (r : Resp) (s : State) : (s.respond m r).pending = s.pending := by
  obtain ⟨ms, h⟩ := State.respond_shape m r s; rw [h]
@[simp] theorem State.respond_clk (m : Nat) (r : Resp) (s : State) : (s.respond m r).clk = s.clk := by
  obtain ⟨ms, h⟩ := State.respond_shape m r s; rw [h]
@[simp] theorem State.respond_free (m : Nat) (r : Resp) (s : State) : (s.respond m r).free = s.free := by
  obtain ⟨ms, h⟩ := State.respond_shape m r s; rw [h]
@[simp] theorem State.respond_variant (m : Nat) (r : Resp) (s : State) : (s.respond m r).variant = s.variant := by
  obtain ⟨ms, h⟩ := State.respond_shape m r s; rw [h]
@[simp] theorem State.respond_phase (m : Nat) (r : Resp) (s : State) : (s.respond m r).phase = s.phase := by
  obtain ⟨ms, h⟩ := State.respond_shape m r s; rw [h]
@[simp] theorem State.respond_items (m : Nat) (r : Resp) (s : State) : (s.respond m r).items = s.items := by
  obtain ⟨ms, h⟩ := State.respond_shape m r s; rw [h]
@[simp] theorem State.respond_cfgK (m : Nat) (r : Resp) (s : State) : (s.respond m r).cfgK = s.cfgK := by
  obtain ⟨ms, h⟩ := State.respond_shape m r s; rw [h]
@[simp] theorem State.respond_cfgPark (m : Nat) (r : Resp) (s : State) : (s.respond m r).cfgPark = s.cfgPark := by
  obtain ⟨ms, h⟩ := State.respond_shape m r s; rw [h]
@[simp] theorem State.respond_cfgRestart (m : Nat) (r : Resp) (s : State) : (s.respond m r).cfgRestart = s.cfgRestart := by
  obtain ⟨ms, h⟩ := State.respond_shape m r s; rw [h]
@[simp] theorem State.respond_time (m : Nat) (r : Resp) (s : State) : (s.respond m r).time = s.time := by
  obtain ⟨ms, h⟩ := State.respond_shape m r s; rw [h]
@[simp] theorem State.respond_sb (m : Nat) (r : Resp) (s : State) : (s.respond m r).sb = s.sb := by
  obtain ⟨ms, h⟩ := State.respond_shape m r s; rw [h]
@[simp] theorem State.respond_lanes (m : Nat) (r : Resp) (s : State) : (s.respond m r).lanes = s.lanes := by
  obtain ⟨ms, h⟩ := State.respond_shape m r s; rw [h]
@[simp] theorem State.respond_cam (m : Nat) (r : Resp) (s : State) : (s.respond m r).cam = s.cam := by
  obtain ⟨ms, h⟩ := State.respond_shape m r s; rw [h]
@[simp] theorem State.respond_can (m : Nat) (r : Resp) (s : State) : (s.respond m r).can = s.can := by
  obtain ⟨ms, h⟩ := State.respond_shape m r s; rw [h]
@[simp] theorem State.respond_hist (m : Nat) (r : Resp) (s : State) : (s.respond m r).hist = s.hist := by
  obtain ⟨ms, h⟩ := State.respond_shape m r s; rw [h]
@[simp] theorem State.respond_fus (m : Nat) (r : Resp) (s : State) : (s.respond m r).fus = s.fus := by
  obtain ⟨ms, h⟩ := State.respond_shape m r s; rw [h]
@[simp] theorem State.respond_valve (m : Nat) (r : Resp) (s : State) : (s.respond m r).valve = s.valve := by
  obtain ⟨ms, h⟩ := State.respond_shape m r s; rw [h]
@[simp] theorem State.respond_rods (m : Nat) (r : Resp) (s : State) : (s.respond m r).rods = s.rods := by
  obtain ⟨ms, h⟩ := State.respond_shape m r s; rw [h]
@[simp] theorem State.respond_io (m : Nat) (r : Resp) (s : State) : (s.respond m r).io = s.io := by
  obtain ⟨ms, h⟩ := State.respond_shape m r s; rw [h]
@[simp] theorem State.respond_ring (m : Nat) (r : Resp) (s : State) : (s.respond m r).ring = s.ring := by
  obtain ⟨ms, h⟩ := State.respond_shape m r s; rw [h]
@[simp] theorem State.respond_power (m : Nat) (r : Resp) (s : State) : (s.respond m r).power = s.power := by
  obtain ⟨ms, h⟩ := State.respond_shape m r s; rw [h]
@[simp] theorem State.respond_fw (m : Nat) (r : Resp) (s : State) : (s.respond m r).fw = s.fw := by
  obtain ⟨ms, h⟩ := State.respond_shape m r s; rw [h]
@[simp] theorem State.respond_panel (m : Nat) (r : Resp) (s : State) : (s.respond m r).panel = s.panel := by
  obtain ⟨ms, h⟩ := State.respond_shape m r s; rw [h]
@[simp] theorem State.respond_mail_owner (m : Nat) (r : Resp) (s : State) : (s.respond m r).mail.owner = s.mail.owner := by
  obtain ⟨ms, h⟩ := State.respond_shape m r s; rw [h]
@[simp] theorem State.respond_mail_offer (m : Nat) (r : Resp) (s : State) : (s.respond m r).mail.offer = s.mail.offer := by
  obtain ⟨ms, h⟩ := State.respond_shape m r s; rw [h]
@[simp] theorem State.respond_mail_window (m : Nat) (r : Resp) (s : State) : (s.respond m r).mail.window = s.mail.window := by
  obtain ⟨ms, h⟩ := State.respond_shape m r s; rw [h]
@[simp] theorem State.respond_mail_grace (m : Nat) (r : Resp) (s : State) : (s.respond m r).mail.grace = s.mail.grace := by
  obtain ⟨ms, h⟩ := State.respond_shape m r s; rw [h]
@[simp] theorem State.respond_mail_graceOver (m : Nat) (r : Resp) (s : State) : (s.respond m r).mail.graceOver = s.mail.graceOver := by
  obtain ⟨ms, h⟩ := State.respond_shape m r s; rw [h]
@[simp] theorem State.respond_mail_claims (m : Nat) (r : Resp) (s : State) : (s.respond m r).mail.claims = s.mail.claims := by
  obtain ⟨ms, h⟩ := State.respond_shape m r s; rw [h]
@[simp] theorem State.respond_mail_lapseFrom (m : Nat) (r : Resp) (s : State) : (s.respond m r).mail.lapseFrom = s.mail.lapseFrom := by
  obtain ⟨ms, h⟩ := State.respond_shape m r s; rw [h]
@[simp] theorem State.respond_mail_resume (m : Nat) (r : Resp) (s : State) : (s.respond m r).mail.resume = s.mail.resume := by
  obtain ⟨ms, h⟩ := State.respond_shape m r s; rw [h]
@[simp] theorem State.respond_mail_lastServed (m : Nat) (r : Resp) (s : State) : (s.respond m r).mail.lastServed = s.mail.lastServed := by
  obtain ⟨ms, h⟩ := State.respond_shape m r s; rw [h]
@[simp] theorem State.respond_mail_reck (m : Nat) (r : Resp) (s : State) : (s.respond m r).mail.reck = s.mail.reck := by
  obtain ⟨ms, h⟩ := State.respond_shape m r s; rw [h]
@[simp] theorem State.respond_get (m : Nat) (r : Resp) (s : State) (k : Nat) : (s.respond m r).get k = s.get k := by
  obtain ⟨ms, h⟩ := State.respond_shape m r s; rw [h]; rfl
@[simp] theorem State.respond_live (m : Nat) (r : Resp) (s : State) : (s.respond m r).live = s.live := by
  obtain ⟨ms, h⟩ := State.respond_shape m r s; rw [h]; rfl
@[simp] theorem State.answer_pending (m : Nat) (w : Wait) (st : Nat) (p : List Byte) (s : State) : (s.answer m w st p).pending = s.pending := by
  obtain ⟨ms, h⟩ := State.answer_shape m w st p s; rw [h]
@[simp] theorem State.answer_clk (m : Nat) (w : Wait) (st : Nat) (p : List Byte) (s : State) : (s.answer m w st p).clk = s.clk := by
  obtain ⟨ms, h⟩ := State.answer_shape m w st p s; rw [h]
@[simp] theorem State.answer_free (m : Nat) (w : Wait) (st : Nat) (p : List Byte) (s : State) : (s.answer m w st p).free = s.free := by
  obtain ⟨ms, h⟩ := State.answer_shape m w st p s; rw [h]
@[simp] theorem State.answer_variant (m : Nat) (w : Wait) (st : Nat) (p : List Byte) (s : State) : (s.answer m w st p).variant = s.variant := by
  obtain ⟨ms, h⟩ := State.answer_shape m w st p s; rw [h]
@[simp] theorem State.answer_phase (m : Nat) (w : Wait) (st : Nat) (p : List Byte) (s : State) : (s.answer m w st p).phase = s.phase := by
  obtain ⟨ms, h⟩ := State.answer_shape m w st p s; rw [h]
@[simp] theorem State.answer_items (m : Nat) (w : Wait) (st : Nat) (p : List Byte) (s : State) : (s.answer m w st p).items = s.items := by
  obtain ⟨ms, h⟩ := State.answer_shape m w st p s; rw [h]
@[simp] theorem State.answer_cfgK (m : Nat) (w : Wait) (st : Nat) (p : List Byte) (s : State) : (s.answer m w st p).cfgK = s.cfgK := by
  obtain ⟨ms, h⟩ := State.answer_shape m w st p s; rw [h]
@[simp] theorem State.answer_cfgPark (m : Nat) (w : Wait) (st : Nat) (p : List Byte) (s : State) : (s.answer m w st p).cfgPark = s.cfgPark := by
  obtain ⟨ms, h⟩ := State.answer_shape m w st p s; rw [h]
@[simp] theorem State.answer_cfgRestart (m : Nat) (w : Wait) (st : Nat) (p : List Byte) (s : State) : (s.answer m w st p).cfgRestart = s.cfgRestart := by
  obtain ⟨ms, h⟩ := State.answer_shape m w st p s; rw [h]
@[simp] theorem State.answer_time (m : Nat) (w : Wait) (st : Nat) (p : List Byte) (s : State) : (s.answer m w st p).time = s.time := by
  obtain ⟨ms, h⟩ := State.answer_shape m w st p s; rw [h]
@[simp] theorem State.answer_sb (m : Nat) (w : Wait) (st : Nat) (p : List Byte) (s : State) : (s.answer m w st p).sb = s.sb := by
  obtain ⟨ms, h⟩ := State.answer_shape m w st p s; rw [h]
@[simp] theorem State.answer_lanes (m : Nat) (w : Wait) (st : Nat) (p : List Byte) (s : State) : (s.answer m w st p).lanes = s.lanes := by
  obtain ⟨ms, h⟩ := State.answer_shape m w st p s; rw [h]
@[simp] theorem State.answer_cam (m : Nat) (w : Wait) (st : Nat) (p : List Byte) (s : State) : (s.answer m w st p).cam = s.cam := by
  obtain ⟨ms, h⟩ := State.answer_shape m w st p s; rw [h]
@[simp] theorem State.answer_can (m : Nat) (w : Wait) (st : Nat) (p : List Byte) (s : State) : (s.answer m w st p).can = s.can := by
  obtain ⟨ms, h⟩ := State.answer_shape m w st p s; rw [h]
@[simp] theorem State.answer_hist (m : Nat) (w : Wait) (st : Nat) (p : List Byte) (s : State) : (s.answer m w st p).hist = s.hist := by
  obtain ⟨ms, h⟩ := State.answer_shape m w st p s; rw [h]
@[simp] theorem State.answer_fus (m : Nat) (w : Wait) (st : Nat) (p : List Byte) (s : State) : (s.answer m w st p).fus = s.fus := by
  obtain ⟨ms, h⟩ := State.answer_shape m w st p s; rw [h]
@[simp] theorem State.answer_valve (m : Nat) (w : Wait) (st : Nat) (p : List Byte) (s : State) : (s.answer m w st p).valve = s.valve := by
  obtain ⟨ms, h⟩ := State.answer_shape m w st p s; rw [h]
@[simp] theorem State.answer_rods (m : Nat) (w : Wait) (st : Nat) (p : List Byte) (s : State) : (s.answer m w st p).rods = s.rods := by
  obtain ⟨ms, h⟩ := State.answer_shape m w st p s; rw [h]
@[simp] theorem State.answer_io (m : Nat) (w : Wait) (st : Nat) (p : List Byte) (s : State) : (s.answer m w st p).io = s.io := by
  obtain ⟨ms, h⟩ := State.answer_shape m w st p s; rw [h]
@[simp] theorem State.answer_ring (m : Nat) (w : Wait) (st : Nat) (p : List Byte) (s : State) : (s.answer m w st p).ring = s.ring := by
  obtain ⟨ms, h⟩ := State.answer_shape m w st p s; rw [h]
@[simp] theorem State.answer_power (m : Nat) (w : Wait) (st : Nat) (p : List Byte) (s : State) : (s.answer m w st p).power = s.power := by
  obtain ⟨ms, h⟩ := State.answer_shape m w st p s; rw [h]
@[simp] theorem State.answer_fw (m : Nat) (w : Wait) (st : Nat) (p : List Byte) (s : State) : (s.answer m w st p).fw = s.fw := by
  obtain ⟨ms, h⟩ := State.answer_shape m w st p s; rw [h]
@[simp] theorem State.answer_panel (m : Nat) (w : Wait) (st : Nat) (p : List Byte) (s : State) : (s.answer m w st p).panel = s.panel := by
  obtain ⟨ms, h⟩ := State.answer_shape m w st p s; rw [h]
@[simp] theorem State.answer_mail_owner (m : Nat) (w : Wait) (st : Nat) (p : List Byte) (s : State) : (s.answer m w st p).mail.owner = s.mail.owner := by
  obtain ⟨ms, h⟩ := State.answer_shape m w st p s; rw [h]
@[simp] theorem State.answer_mail_offer (m : Nat) (w : Wait) (st : Nat) (p : List Byte) (s : State) : (s.answer m w st p).mail.offer = s.mail.offer := by
  obtain ⟨ms, h⟩ := State.answer_shape m w st p s; rw [h]
@[simp] theorem State.answer_mail_window (m : Nat) (w : Wait) (st : Nat) (p : List Byte) (s : State) : (s.answer m w st p).mail.window = s.mail.window := by
  obtain ⟨ms, h⟩ := State.answer_shape m w st p s; rw [h]
@[simp] theorem State.answer_mail_grace (m : Nat) (w : Wait) (st : Nat) (p : List Byte) (s : State) : (s.answer m w st p).mail.grace = s.mail.grace := by
  obtain ⟨ms, h⟩ := State.answer_shape m w st p s; rw [h]
@[simp] theorem State.answer_mail_graceOver (m : Nat) (w : Wait) (st : Nat) (p : List Byte) (s : State) : (s.answer m w st p).mail.graceOver = s.mail.graceOver := by
  obtain ⟨ms, h⟩ := State.answer_shape m w st p s; rw [h]
@[simp] theorem State.answer_mail_claims (m : Nat) (w : Wait) (st : Nat) (p : List Byte) (s : State) : (s.answer m w st p).mail.claims = s.mail.claims := by
  obtain ⟨ms, h⟩ := State.answer_shape m w st p s; rw [h]
@[simp] theorem State.answer_mail_lapseFrom (m : Nat) (w : Wait) (st : Nat) (p : List Byte) (s : State) : (s.answer m w st p).mail.lapseFrom = s.mail.lapseFrom := by
  obtain ⟨ms, h⟩ := State.answer_shape m w st p s; rw [h]
@[simp] theorem State.answer_mail_resume (m : Nat) (w : Wait) (st : Nat) (p : List Byte) (s : State) : (s.answer m w st p).mail.resume = s.mail.resume := by
  obtain ⟨ms, h⟩ := State.answer_shape m w st p s; rw [h]
@[simp] theorem State.answer_mail_lastServed (m : Nat) (w : Wait) (st : Nat) (p : List Byte) (s : State) : (s.answer m w st p).mail.lastServed = s.mail.lastServed := by
  obtain ⟨ms, h⟩ := State.answer_shape m w st p s; rw [h]
@[simp] theorem State.answer_mail_reck (m : Nat) (w : Wait) (st : Nat) (p : List Byte) (s : State) : (s.answer m w st p).mail.reck = s.mail.reck := by
  obtain ⟨ms, h⟩ := State.answer_shape m w st p s; rw [h]
@[simp] theorem State.answer_get (m : Nat) (w : Wait) (st : Nat) (p : List Byte) (s : State) (k : Nat) : (s.answer m w st p).get k = s.get k := by
  obtain ⟨ms, h⟩ := State.answer_shape m w st p s; rw [h]; rfl
@[simp] theorem State.answer_live (m : Nat) (w : Wait) (st : Nat) (p : List Byte) (s : State) : (s.answer m w st p).live = s.live := by
  obtain ⟨ms, h⟩ := State.answer_shape m w st p s; rw [h]; rfl
@[simp] theorem State.answerNow_pending (m : Nat) (w : Wait) (st : Nat) (s : State) : (s.answerNow m w st).pending = s.pending := by
  obtain ⟨ms, h⟩ := State.answerNow_shape m w st s; rw [h]
@[simp] theorem State.answerNow_clk (m : Nat) (w : Wait) (st : Nat) (s : State) : (s.answerNow m w st).clk = s.clk := by
  obtain ⟨ms, h⟩ := State.answerNow_shape m w st s; rw [h]
@[simp] theorem State.answerNow_free (m : Nat) (w : Wait) (st : Nat) (s : State) : (s.answerNow m w st).free = s.free := by
  obtain ⟨ms, h⟩ := State.answerNow_shape m w st s; rw [h]
@[simp] theorem State.answerNow_variant (m : Nat) (w : Wait) (st : Nat) (s : State) : (s.answerNow m w st).variant = s.variant := by
  obtain ⟨ms, h⟩ := State.answerNow_shape m w st s; rw [h]
@[simp] theorem State.answerNow_phase (m : Nat) (w : Wait) (st : Nat) (s : State) : (s.answerNow m w st).phase = s.phase := by
  obtain ⟨ms, h⟩ := State.answerNow_shape m w st s; rw [h]
@[simp] theorem State.answerNow_items (m : Nat) (w : Wait) (st : Nat) (s : State) : (s.answerNow m w st).items = s.items := by
  obtain ⟨ms, h⟩ := State.answerNow_shape m w st s; rw [h]
@[simp] theorem State.answerNow_cfgK (m : Nat) (w : Wait) (st : Nat) (s : State) : (s.answerNow m w st).cfgK = s.cfgK := by
  obtain ⟨ms, h⟩ := State.answerNow_shape m w st s; rw [h]
@[simp] theorem State.answerNow_cfgPark (m : Nat) (w : Wait) (st : Nat) (s : State) : (s.answerNow m w st).cfgPark = s.cfgPark := by
  obtain ⟨ms, h⟩ := State.answerNow_shape m w st s; rw [h]
@[simp] theorem State.answerNow_cfgRestart (m : Nat) (w : Wait) (st : Nat) (s : State) : (s.answerNow m w st).cfgRestart = s.cfgRestart := by
  obtain ⟨ms, h⟩ := State.answerNow_shape m w st s; rw [h]
@[simp] theorem State.answerNow_time (m : Nat) (w : Wait) (st : Nat) (s : State) : (s.answerNow m w st).time = s.time := by
  obtain ⟨ms, h⟩ := State.answerNow_shape m w st s; rw [h]
@[simp] theorem State.answerNow_sb (m : Nat) (w : Wait) (st : Nat) (s : State) : (s.answerNow m w st).sb = s.sb := by
  obtain ⟨ms, h⟩ := State.answerNow_shape m w st s; rw [h]
@[simp] theorem State.answerNow_lanes (m : Nat) (w : Wait) (st : Nat) (s : State) : (s.answerNow m w st).lanes = s.lanes := by
  obtain ⟨ms, h⟩ := State.answerNow_shape m w st s; rw [h]
@[simp] theorem State.answerNow_cam (m : Nat) (w : Wait) (st : Nat) (s : State) : (s.answerNow m w st).cam = s.cam := by
  obtain ⟨ms, h⟩ := State.answerNow_shape m w st s; rw [h]
@[simp] theorem State.answerNow_can (m : Nat) (w : Wait) (st : Nat) (s : State) : (s.answerNow m w st).can = s.can := by
  obtain ⟨ms, h⟩ := State.answerNow_shape m w st s; rw [h]
@[simp] theorem State.answerNow_hist (m : Nat) (w : Wait) (st : Nat) (s : State) : (s.answerNow m w st).hist = s.hist := by
  obtain ⟨ms, h⟩ := State.answerNow_shape m w st s; rw [h]
@[simp] theorem State.answerNow_fus (m : Nat) (w : Wait) (st : Nat) (s : State) : (s.answerNow m w st).fus = s.fus := by
  obtain ⟨ms, h⟩ := State.answerNow_shape m w st s; rw [h]
@[simp] theorem State.answerNow_valve (m : Nat) (w : Wait) (st : Nat) (s : State) : (s.answerNow m w st).valve = s.valve := by
  obtain ⟨ms, h⟩ := State.answerNow_shape m w st s; rw [h]
@[simp] theorem State.answerNow_rods (m : Nat) (w : Wait) (st : Nat) (s : State) : (s.answerNow m w st).rods = s.rods := by
  obtain ⟨ms, h⟩ := State.answerNow_shape m w st s; rw [h]
@[simp] theorem State.answerNow_io (m : Nat) (w : Wait) (st : Nat) (s : State) : (s.answerNow m w st).io = s.io := by
  obtain ⟨ms, h⟩ := State.answerNow_shape m w st s; rw [h]
@[simp] theorem State.answerNow_ring (m : Nat) (w : Wait) (st : Nat) (s : State) : (s.answerNow m w st).ring = s.ring := by
  obtain ⟨ms, h⟩ := State.answerNow_shape m w st s; rw [h]
@[simp] theorem State.answerNow_power (m : Nat) (w : Wait) (st : Nat) (s : State) : (s.answerNow m w st).power = s.power := by
  obtain ⟨ms, h⟩ := State.answerNow_shape m w st s; rw [h]
@[simp] theorem State.answerNow_fw (m : Nat) (w : Wait) (st : Nat) (s : State) : (s.answerNow m w st).fw = s.fw := by
  obtain ⟨ms, h⟩ := State.answerNow_shape m w st s; rw [h]
@[simp] theorem State.answerNow_panel (m : Nat) (w : Wait) (st : Nat) (s : State) : (s.answerNow m w st).panel = s.panel := by
  obtain ⟨ms, h⟩ := State.answerNow_shape m w st s; rw [h]
@[simp] theorem State.answerNow_mail_owner (m : Nat) (w : Wait) (st : Nat) (s : State) : (s.answerNow m w st).mail.owner = s.mail.owner := by
  obtain ⟨ms, h⟩ := State.answerNow_shape m w st s; rw [h]
@[simp] theorem State.answerNow_mail_offer (m : Nat) (w : Wait) (st : Nat) (s : State) : (s.answerNow m w st).mail.offer = s.mail.offer := by
  obtain ⟨ms, h⟩ := State.answerNow_shape m w st s; rw [h]
@[simp] theorem State.answerNow_mail_window (m : Nat) (w : Wait) (st : Nat) (s : State) : (s.answerNow m w st).mail.window = s.mail.window := by
  obtain ⟨ms, h⟩ := State.answerNow_shape m w st s; rw [h]
@[simp] theorem State.answerNow_mail_grace (m : Nat) (w : Wait) (st : Nat) (s : State) : (s.answerNow m w st).mail.grace = s.mail.grace := by
  obtain ⟨ms, h⟩ := State.answerNow_shape m w st s; rw [h]
@[simp] theorem State.answerNow_mail_graceOver (m : Nat) (w : Wait) (st : Nat) (s : State) : (s.answerNow m w st).mail.graceOver = s.mail.graceOver := by
  obtain ⟨ms, h⟩ := State.answerNow_shape m w st s; rw [h]
@[simp] theorem State.answerNow_mail_claims (m : Nat) (w : Wait) (st : Nat) (s : State) : (s.answerNow m w st).mail.claims = s.mail.claims := by
  obtain ⟨ms, h⟩ := State.answerNow_shape m w st s; rw [h]
@[simp] theorem State.answerNow_mail_lapseFrom (m : Nat) (w : Wait) (st : Nat) (s : State) : (s.answerNow m w st).mail.lapseFrom = s.mail.lapseFrom := by
  obtain ⟨ms, h⟩ := State.answerNow_shape m w st s; rw [h]
@[simp] theorem State.answerNow_mail_resume (m : Nat) (w : Wait) (st : Nat) (s : State) : (s.answerNow m w st).mail.resume = s.mail.resume := by
  obtain ⟨ms, h⟩ := State.answerNow_shape m w st s; rw [h]
@[simp] theorem State.answerNow_mail_lastServed (m : Nat) (w : Wait) (st : Nat) (s : State) : (s.answerNow m w st).mail.lastServed = s.mail.lastServed := by
  obtain ⟨ms, h⟩ := State.answerNow_shape m w st s; rw [h]
@[simp] theorem State.answerNow_mail_reck (m : Nat) (w : Wait) (st : Nat) (s : State) : (s.answerNow m w st).mail.reck = s.mail.reck := by
  obtain ⟨ms, h⟩ := State.answerNow_shape m w st s; rw [h]
@[simp] theorem State.answerNow_get (m : Nat) (w : Wait) (st : Nat) (s : State) (k : Nat) : (s.answerNow m w st).get k = s.get k := by
  obtain ⟨ms, h⟩ := State.answerNow_shape m w st s; rw [h]; rfl
@[simp] theorem State.answerNow_live (m : Nat) (w : Wait) (st : Nat) (s : State) : (s.answerNow m w st).live = s.live := by
  obtain ⟨ms, h⟩ := State.answerNow_shape m w st s; rw [h]; rfl
@[simp] theorem State.answerAll_pending (w : Wait) (st : Nat) (p : List Byte) (s : State) : (s.answerAll w st p).pending = s.pending := by
  obtain ⟨ms, h⟩ := State.answerAll_shape w st p s; rw [h]
@[simp] theorem State.answerAll_clk (w : Wait) (st : Nat) (p : List Byte) (s : State) : (s.answerAll w st p).clk = s.clk := by
  obtain ⟨ms, h⟩ := State.answerAll_shape w st p s; rw [h]
@[simp] theorem State.answerAll_free (w : Wait) (st : Nat) (p : List Byte) (s : State) : (s.answerAll w st p).free = s.free := by
  obtain ⟨ms, h⟩ := State.answerAll_shape w st p s; rw [h]
@[simp] theorem State.answerAll_variant (w : Wait) (st : Nat) (p : List Byte) (s : State) : (s.answerAll w st p).variant = s.variant := by
  obtain ⟨ms, h⟩ := State.answerAll_shape w st p s; rw [h]
@[simp] theorem State.answerAll_phase (w : Wait) (st : Nat) (p : List Byte) (s : State) : (s.answerAll w st p).phase = s.phase := by
  obtain ⟨ms, h⟩ := State.answerAll_shape w st p s; rw [h]
@[simp] theorem State.answerAll_items (w : Wait) (st : Nat) (p : List Byte) (s : State) : (s.answerAll w st p).items = s.items := by
  obtain ⟨ms, h⟩ := State.answerAll_shape w st p s; rw [h]
@[simp] theorem State.answerAll_cfgK (w : Wait) (st : Nat) (p : List Byte) (s : State) : (s.answerAll w st p).cfgK = s.cfgK := by
  obtain ⟨ms, h⟩ := State.answerAll_shape w st p s; rw [h]
@[simp] theorem State.answerAll_cfgPark (w : Wait) (st : Nat) (p : List Byte) (s : State) : (s.answerAll w st p).cfgPark = s.cfgPark := by
  obtain ⟨ms, h⟩ := State.answerAll_shape w st p s; rw [h]
@[simp] theorem State.answerAll_cfgRestart (w : Wait) (st : Nat) (p : List Byte) (s : State) : (s.answerAll w st p).cfgRestart = s.cfgRestart := by
  obtain ⟨ms, h⟩ := State.answerAll_shape w st p s; rw [h]
@[simp] theorem State.answerAll_time (w : Wait) (st : Nat) (p : List Byte) (s : State) : (s.answerAll w st p).time = s.time := by
  obtain ⟨ms, h⟩ := State.answerAll_shape w st p s; rw [h]
@[simp] theorem State.answerAll_sb (w : Wait) (st : Nat) (p : List Byte) (s : State) : (s.answerAll w st p).sb = s.sb := by
  obtain ⟨ms, h⟩ := State.answerAll_shape w st p s; rw [h]
@[simp] theorem State.answerAll_lanes (w : Wait) (st : Nat) (p : List Byte) (s : State) : (s.answerAll w st p).lanes = s.lanes := by
  obtain ⟨ms, h⟩ := State.answerAll_shape w st p s; rw [h]
@[simp] theorem State.answerAll_cam (w : Wait) (st : Nat) (p : List Byte) (s : State) : (s.answerAll w st p).cam = s.cam := by
  obtain ⟨ms, h⟩ := State.answerAll_shape w st p s; rw [h]
@[simp] theorem State.answerAll_can (w : Wait) (st : Nat) (p : List Byte) (s : State) : (s.answerAll w st p).can = s.can := by
  obtain ⟨ms, h⟩ := State.answerAll_shape w st p s; rw [h]
@[simp] theorem State.answerAll_hist (w : Wait) (st : Nat) (p : List Byte) (s : State) : (s.answerAll w st p).hist = s.hist := by
  obtain ⟨ms, h⟩ := State.answerAll_shape w st p s; rw [h]
@[simp] theorem State.answerAll_fus (w : Wait) (st : Nat) (p : List Byte) (s : State) : (s.answerAll w st p).fus = s.fus := by
  obtain ⟨ms, h⟩ := State.answerAll_shape w st p s; rw [h]
@[simp] theorem State.answerAll_valve (w : Wait) (st : Nat) (p : List Byte) (s : State) : (s.answerAll w st p).valve = s.valve := by
  obtain ⟨ms, h⟩ := State.answerAll_shape w st p s; rw [h]
@[simp] theorem State.answerAll_rods (w : Wait) (st : Nat) (p : List Byte) (s : State) : (s.answerAll w st p).rods = s.rods := by
  obtain ⟨ms, h⟩ := State.answerAll_shape w st p s; rw [h]
@[simp] theorem State.answerAll_io (w : Wait) (st : Nat) (p : List Byte) (s : State) : (s.answerAll w st p).io = s.io := by
  obtain ⟨ms, h⟩ := State.answerAll_shape w st p s; rw [h]
@[simp] theorem State.answerAll_ring (w : Wait) (st : Nat) (p : List Byte) (s : State) : (s.answerAll w st p).ring = s.ring := by
  obtain ⟨ms, h⟩ := State.answerAll_shape w st p s; rw [h]
@[simp] theorem State.answerAll_power (w : Wait) (st : Nat) (p : List Byte) (s : State) : (s.answerAll w st p).power = s.power := by
  obtain ⟨ms, h⟩ := State.answerAll_shape w st p s; rw [h]
@[simp] theorem State.answerAll_fw (w : Wait) (st : Nat) (p : List Byte) (s : State) : (s.answerAll w st p).fw = s.fw := by
  obtain ⟨ms, h⟩ := State.answerAll_shape w st p s; rw [h]
@[simp] theorem State.answerAll_panel (w : Wait) (st : Nat) (p : List Byte) (s : State) : (s.answerAll w st p).panel = s.panel := by
  obtain ⟨ms, h⟩ := State.answerAll_shape w st p s; rw [h]
@[simp] theorem State.answerAll_mail_owner (w : Wait) (st : Nat) (p : List Byte) (s : State) : (s.answerAll w st p).mail.owner = s.mail.owner := by
  obtain ⟨ms, h⟩ := State.answerAll_shape w st p s; rw [h]
@[simp] theorem State.answerAll_mail_offer (w : Wait) (st : Nat) (p : List Byte) (s : State) : (s.answerAll w st p).mail.offer = s.mail.offer := by
  obtain ⟨ms, h⟩ := State.answerAll_shape w st p s; rw [h]
@[simp] theorem State.answerAll_mail_window (w : Wait) (st : Nat) (p : List Byte) (s : State) : (s.answerAll w st p).mail.window = s.mail.window := by
  obtain ⟨ms, h⟩ := State.answerAll_shape w st p s; rw [h]
@[simp] theorem State.answerAll_mail_grace (w : Wait) (st : Nat) (p : List Byte) (s : State) : (s.answerAll w st p).mail.grace = s.mail.grace := by
  obtain ⟨ms, h⟩ := State.answerAll_shape w st p s; rw [h]
@[simp] theorem State.answerAll_mail_graceOver (w : Wait) (st : Nat) (p : List Byte) (s : State) : (s.answerAll w st p).mail.graceOver = s.mail.graceOver := by
  obtain ⟨ms, h⟩ := State.answerAll_shape w st p s; rw [h]
@[simp] theorem State.answerAll_mail_claims (w : Wait) (st : Nat) (p : List Byte) (s : State) : (s.answerAll w st p).mail.claims = s.mail.claims := by
  obtain ⟨ms, h⟩ := State.answerAll_shape w st p s; rw [h]
@[simp] theorem State.answerAll_mail_lapseFrom (w : Wait) (st : Nat) (p : List Byte) (s : State) : (s.answerAll w st p).mail.lapseFrom = s.mail.lapseFrom := by
  obtain ⟨ms, h⟩ := State.answerAll_shape w st p s; rw [h]
@[simp] theorem State.answerAll_mail_resume (w : Wait) (st : Nat) (p : List Byte) (s : State) : (s.answerAll w st p).mail.resume = s.mail.resume := by
  obtain ⟨ms, h⟩ := State.answerAll_shape w st p s; rw [h]
@[simp] theorem State.answerAll_mail_lastServed (w : Wait) (st : Nat) (p : List Byte) (s : State) : (s.answerAll w st p).mail.lastServed = s.mail.lastServed := by
  obtain ⟨ms, h⟩ := State.answerAll_shape w st p s; rw [h]
@[simp] theorem State.answerAll_mail_reck (w : Wait) (st : Nat) (p : List Byte) (s : State) : (s.answerAll w st p).mail.reck = s.mail.reck := by
  obtain ⟨ms, h⟩ := State.answerAll_shape w st p s; rw [h]
@[simp] theorem State.answerAll_get (w : Wait) (st : Nat) (p : List Byte) (s : State) (k : Nat) : (s.answerAll w st p).get k = s.get k := by
  obtain ⟨ms, h⟩ := State.answerAll_shape w st p s; rw [h]; rfl
@[simp] theorem State.answerAll_live (w : Wait) (st : Nat) (p : List Byte) (s : State) : (s.answerAll w st p).live = s.live := by
  obtain ⟨ms, h⟩ := State.answerAll_shape w st p s; rw [h]; rfl
@[simp] theorem State.releaseCopies_pending (c : Nat) (s : State) : (s.releaseCopies c).pending = s.pending := by
  obtain ⟨ms, h⟩ := State.releaseCopies_shape c s; rw [h]
@[simp] theorem State.releaseCopies_clk (c : Nat) (s : State) : (s.releaseCopies c).clk = s.clk := by
  obtain ⟨ms, h⟩ := State.releaseCopies_shape c s; rw [h]
@[simp] theorem State.releaseCopies_free (c : Nat) (s : State) : (s.releaseCopies c).free = s.free := by
  obtain ⟨ms, h⟩ := State.releaseCopies_shape c s; rw [h]
@[simp] theorem State.releaseCopies_variant (c : Nat) (s : State) : (s.releaseCopies c).variant = s.variant := by
  obtain ⟨ms, h⟩ := State.releaseCopies_shape c s; rw [h]
@[simp] theorem State.releaseCopies_phase (c : Nat) (s : State) : (s.releaseCopies c).phase = s.phase := by
  obtain ⟨ms, h⟩ := State.releaseCopies_shape c s; rw [h]
@[simp] theorem State.releaseCopies_items (c : Nat) (s : State) : (s.releaseCopies c).items = s.items := by
  obtain ⟨ms, h⟩ := State.releaseCopies_shape c s; rw [h]
@[simp] theorem State.releaseCopies_cfgK (c : Nat) (s : State) : (s.releaseCopies c).cfgK = s.cfgK := by
  obtain ⟨ms, h⟩ := State.releaseCopies_shape c s; rw [h]
@[simp] theorem State.releaseCopies_cfgPark (c : Nat) (s : State) : (s.releaseCopies c).cfgPark = s.cfgPark := by
  obtain ⟨ms, h⟩ := State.releaseCopies_shape c s; rw [h]
@[simp] theorem State.releaseCopies_cfgRestart (c : Nat) (s : State) : (s.releaseCopies c).cfgRestart = s.cfgRestart := by
  obtain ⟨ms, h⟩ := State.releaseCopies_shape c s; rw [h]
@[simp] theorem State.releaseCopies_time (c : Nat) (s : State) : (s.releaseCopies c).time = s.time := by
  obtain ⟨ms, h⟩ := State.releaseCopies_shape c s; rw [h]
@[simp] theorem State.releaseCopies_sb (c : Nat) (s : State) : (s.releaseCopies c).sb = s.sb := by
  obtain ⟨ms, h⟩ := State.releaseCopies_shape c s; rw [h]
@[simp] theorem State.releaseCopies_lanes (c : Nat) (s : State) : (s.releaseCopies c).lanes = s.lanes := by
  obtain ⟨ms, h⟩ := State.releaseCopies_shape c s; rw [h]
@[simp] theorem State.releaseCopies_cam (c : Nat) (s : State) : (s.releaseCopies c).cam = s.cam := by
  obtain ⟨ms, h⟩ := State.releaseCopies_shape c s; rw [h]
@[simp] theorem State.releaseCopies_can (c : Nat) (s : State) : (s.releaseCopies c).can = s.can := by
  obtain ⟨ms, h⟩ := State.releaseCopies_shape c s; rw [h]
@[simp] theorem State.releaseCopies_hist (c : Nat) (s : State) : (s.releaseCopies c).hist = s.hist := by
  obtain ⟨ms, h⟩ := State.releaseCopies_shape c s; rw [h]
@[simp] theorem State.releaseCopies_fus (c : Nat) (s : State) : (s.releaseCopies c).fus = s.fus := by
  obtain ⟨ms, h⟩ := State.releaseCopies_shape c s; rw [h]
@[simp] theorem State.releaseCopies_valve (c : Nat) (s : State) : (s.releaseCopies c).valve = s.valve := by
  obtain ⟨ms, h⟩ := State.releaseCopies_shape c s; rw [h]
@[simp] theorem State.releaseCopies_rods (c : Nat) (s : State) : (s.releaseCopies c).rods = s.rods := by
  obtain ⟨ms, h⟩ := State.releaseCopies_shape c s; rw [h]
@[simp] theorem State.releaseCopies_io (c : Nat) (s : State) : (s.releaseCopies c).io = s.io := by
  obtain ⟨ms, h⟩ := State.releaseCopies_shape c s; rw [h]
@[simp] theorem State.releaseCopies_ring (c : Nat) (s : State) : (s.releaseCopies c).ring = s.ring := by
  obtain ⟨ms, h⟩ := State.releaseCopies_shape c s; rw [h]
@[simp] theorem State.releaseCopies_power (c : Nat) (s : State) : (s.releaseCopies c).power = s.power := by
  obtain ⟨ms, h⟩ := State.releaseCopies_shape c s; rw [h]
@[simp] theorem State.releaseCopies_fw (c : Nat) (s : State) : (s.releaseCopies c).fw = s.fw := by
  obtain ⟨ms, h⟩ := State.releaseCopies_shape c s; rw [h]
@[simp] theorem State.releaseCopies_panel (c : Nat) (s : State) : (s.releaseCopies c).panel = s.panel := by
  obtain ⟨ms, h⟩ := State.releaseCopies_shape c s; rw [h]
@[simp] theorem State.releaseCopies_mail_owner (c : Nat) (s : State) : (s.releaseCopies c).mail.owner = s.mail.owner := by
  obtain ⟨ms, h⟩ := State.releaseCopies_shape c s; rw [h]
@[simp] theorem State.releaseCopies_mail_offer (c : Nat) (s : State) : (s.releaseCopies c).mail.offer = s.mail.offer := by
  obtain ⟨ms, h⟩ := State.releaseCopies_shape c s; rw [h]
@[simp] theorem State.releaseCopies_mail_window (c : Nat) (s : State) : (s.releaseCopies c).mail.window = s.mail.window := by
  obtain ⟨ms, h⟩ := State.releaseCopies_shape c s; rw [h]
@[simp] theorem State.releaseCopies_mail_grace (c : Nat) (s : State) : (s.releaseCopies c).mail.grace = s.mail.grace := by
  obtain ⟨ms, h⟩ := State.releaseCopies_shape c s; rw [h]
@[simp] theorem State.releaseCopies_mail_graceOver (c : Nat) (s : State) : (s.releaseCopies c).mail.graceOver = s.mail.graceOver := by
  obtain ⟨ms, h⟩ := State.releaseCopies_shape c s; rw [h]
@[simp] theorem State.releaseCopies_mail_claims (c : Nat) (s : State) : (s.releaseCopies c).mail.claims = s.mail.claims := by
  obtain ⟨ms, h⟩ := State.releaseCopies_shape c s; rw [h]
@[simp] theorem State.releaseCopies_mail_lapseFrom (c : Nat) (s : State) : (s.releaseCopies c).mail.lapseFrom = s.mail.lapseFrom := by
  obtain ⟨ms, h⟩ := State.releaseCopies_shape c s; rw [h]
@[simp] theorem State.releaseCopies_mail_resume (c : Nat) (s : State) : (s.releaseCopies c).mail.resume = s.mail.resume := by
  obtain ⟨ms, h⟩ := State.releaseCopies_shape c s; rw [h]
@[simp] theorem State.releaseCopies_mail_lastServed (c : Nat) (s : State) : (s.releaseCopies c).mail.lastServed = s.mail.lastServed := by
  obtain ⟨ms, h⟩ := State.releaseCopies_shape c s; rw [h]
@[simp] theorem State.releaseCopies_mail_reck (c : Nat) (s : State) : (s.releaseCopies c).mail.reck = s.mail.reck := by
  obtain ⟨ms, h⟩ := State.releaseCopies_shape c s; rw [h]
@[simp] theorem State.releaseCopies_get (c : Nat) (s : State) (k : Nat) : (s.releaseCopies c).get k = s.get k := by
  obtain ⟨ms, h⟩ := State.releaseCopies_shape c s; rw [h]; rfl
@[simp] theorem State.releaseCopies_live (c : Nat) (s : State) : (s.releaseCopies c).live = s.live := by
  obtain ⟨ms, h⟩ := State.releaseCopies_shape c s; rw [h]; rfl
@[simp] theorem State.flush_pending (m : Nat) (s : State) : (s.flush m).pending = s.pending := by
  obtain ⟨ms, h⟩ := State.flush_shape m s; rw [h]
@[simp] theorem State.flush_clk (m : Nat) (s : State) : (s.flush m).clk = s.clk := by
  obtain ⟨ms, h⟩ := State.flush_shape m s; rw [h]
@[simp] theorem State.flush_free (m : Nat) (s : State) : (s.flush m).free = s.free := by
  obtain ⟨ms, h⟩ := State.flush_shape m s; rw [h]
@[simp] theorem State.flush_variant (m : Nat) (s : State) : (s.flush m).variant = s.variant := by
  obtain ⟨ms, h⟩ := State.flush_shape m s; rw [h]
@[simp] theorem State.flush_phase (m : Nat) (s : State) : (s.flush m).phase = s.phase := by
  obtain ⟨ms, h⟩ := State.flush_shape m s; rw [h]
@[simp] theorem State.flush_items (m : Nat) (s : State) : (s.flush m).items = s.items := by
  obtain ⟨ms, h⟩ := State.flush_shape m s; rw [h]
@[simp] theorem State.flush_cfgK (m : Nat) (s : State) : (s.flush m).cfgK = s.cfgK := by
  obtain ⟨ms, h⟩ := State.flush_shape m s; rw [h]
@[simp] theorem State.flush_cfgPark (m : Nat) (s : State) : (s.flush m).cfgPark = s.cfgPark := by
  obtain ⟨ms, h⟩ := State.flush_shape m s; rw [h]
@[simp] theorem State.flush_cfgRestart (m : Nat) (s : State) : (s.flush m).cfgRestart = s.cfgRestart := by
  obtain ⟨ms, h⟩ := State.flush_shape m s; rw [h]
@[simp] theorem State.flush_time (m : Nat) (s : State) : (s.flush m).time = s.time := by
  obtain ⟨ms, h⟩ := State.flush_shape m s; rw [h]
@[simp] theorem State.flush_sb (m : Nat) (s : State) : (s.flush m).sb = s.sb := by
  obtain ⟨ms, h⟩ := State.flush_shape m s; rw [h]
@[simp] theorem State.flush_lanes (m : Nat) (s : State) : (s.flush m).lanes = s.lanes := by
  obtain ⟨ms, h⟩ := State.flush_shape m s; rw [h]
@[simp] theorem State.flush_cam (m : Nat) (s : State) : (s.flush m).cam = s.cam := by
  obtain ⟨ms, h⟩ := State.flush_shape m s; rw [h]
@[simp] theorem State.flush_can (m : Nat) (s : State) : (s.flush m).can = s.can := by
  obtain ⟨ms, h⟩ := State.flush_shape m s; rw [h]
@[simp] theorem State.flush_hist (m : Nat) (s : State) : (s.flush m).hist = s.hist := by
  obtain ⟨ms, h⟩ := State.flush_shape m s; rw [h]
@[simp] theorem State.flush_fus (m : Nat) (s : State) : (s.flush m).fus = s.fus := by
  obtain ⟨ms, h⟩ := State.flush_shape m s; rw [h]
@[simp] theorem State.flush_valve (m : Nat) (s : State) : (s.flush m).valve = s.valve := by
  obtain ⟨ms, h⟩ := State.flush_shape m s; rw [h]
@[simp] theorem State.flush_rods (m : Nat) (s : State) : (s.flush m).rods = s.rods := by
  obtain ⟨ms, h⟩ := State.flush_shape m s; rw [h]
@[simp] theorem State.flush_io (m : Nat) (s : State) : (s.flush m).io = s.io := by
  obtain ⟨ms, h⟩ := State.flush_shape m s; rw [h]
@[simp] theorem State.flush_ring (m : Nat) (s : State) : (s.flush m).ring = s.ring := by
  obtain ⟨ms, h⟩ := State.flush_shape m s; rw [h]
@[simp] theorem State.flush_power (m : Nat) (s : State) : (s.flush m).power = s.power := by
  obtain ⟨ms, h⟩ := State.flush_shape m s; rw [h]
@[simp] theorem State.flush_fw (m : Nat) (s : State) : (s.flush m).fw = s.fw := by
  obtain ⟨ms, h⟩ := State.flush_shape m s; rw [h]
@[simp] theorem State.flush_panel (m : Nat) (s : State) : (s.flush m).panel = s.panel := by
  obtain ⟨ms, h⟩ := State.flush_shape m s; rw [h]
@[simp] theorem State.flush_mail_owner (m : Nat) (s : State) : (s.flush m).mail.owner = s.mail.owner := by
  obtain ⟨ms, h⟩ := State.flush_shape m s; rw [h]
@[simp] theorem State.flush_mail_offer (m : Nat) (s : State) : (s.flush m).mail.offer = s.mail.offer := by
  obtain ⟨ms, h⟩ := State.flush_shape m s; rw [h]
@[simp] theorem State.flush_mail_window (m : Nat) (s : State) : (s.flush m).mail.window = s.mail.window := by
  obtain ⟨ms, h⟩ := State.flush_shape m s; rw [h]
@[simp] theorem State.flush_mail_grace (m : Nat) (s : State) : (s.flush m).mail.grace = s.mail.grace := by
  obtain ⟨ms, h⟩ := State.flush_shape m s; rw [h]
@[simp] theorem State.flush_mail_graceOver (m : Nat) (s : State) : (s.flush m).mail.graceOver = s.mail.graceOver := by
  obtain ⟨ms, h⟩ := State.flush_shape m s; rw [h]
@[simp] theorem State.flush_mail_claims (m : Nat) (s : State) : (s.flush m).mail.claims = s.mail.claims := by
  obtain ⟨ms, h⟩ := State.flush_shape m s; rw [h]
@[simp] theorem State.flush_mail_lapseFrom (m : Nat) (s : State) : (s.flush m).mail.lapseFrom = s.mail.lapseFrom := by
  obtain ⟨ms, h⟩ := State.flush_shape m s; rw [h]
@[simp] theorem State.flush_mail_resume (m : Nat) (s : State) : (s.flush m).mail.resume = s.mail.resume := by
  obtain ⟨ms, h⟩ := State.flush_shape m s; rw [h]
@[simp] theorem State.flush_mail_lastServed (m : Nat) (s : State) : (s.flush m).mail.lastServed = s.mail.lastServed := by
  obtain ⟨ms, h⟩ := State.flush_shape m s; rw [h]
@[simp] theorem State.flush_mail_reck (m : Nat) (s : State) : (s.flush m).mail.reck = s.mail.reck := by
  obtain ⟨ms, h⟩ := State.flush_shape m s; rw [h]
@[simp] theorem State.flush_get (m : Nat) (s : State) (k : Nat) : (s.flush m).get k = s.get k := by
  obtain ⟨ms, h⟩ := State.flush_shape m s; rw [h]; rfl

end Sys2Proof.Machine
end

