-- ==== Sys2Proof/Laws/Rows.lean ====
section
/-! SUPPORT. What the wrappers of the commands answer: rows with a time, and opcode rows whose frame is taken at once. -/

namespace Sys2Proof.Machine

open Sys2Proof.Safety

/-- A command whose operation leaves the clock and the queue alone: time passes, then it acts. -/
theorem timedAny_eq (dt : Nat) (f : State → State) (s t : State) (ht : f (s.advance dt) = t)
    (hc : t.clk = s.clk.advance dt) (hp : t.pending = s.pending) : timedAny dt f s = .next t := by
  subst ht
  unfold timedAny
  have e1 : (s.advance dt).clk = (f (s.advance dt)).clk := hc.symm
  have e2 : (s.advance dt).pending = (f (s.advance dt)).pending := hp.symm
  show Host.Outcome.next { f (s.advance dt) with clk := (s.advance dt).clk, pending := (s.advance dt).pending } = _
  rw [e1, e2]

theorem timed_eq (dt : Nat) (f : State → State) (s t : State) (hl : s.live = true) (ht : f (s.advance dt) = t)
    (hc : t.clk = s.clk.advance dt) (hp : t.pending = s.pending) : timed dt f s = .next t := by
  refine timedAny_eq dt _ s t ?_ hc hp
  rw [← ht]
  exact if_pos hl

/-- While the module's engines do not run, only time passes. -/
theorem timed_idle (dt : Nat) (f : State → State) (s : State) (hl : s.live = false) : timed dt f s = .next (s.advance dt) := by
  refine timedAny_eq dt _ s _ ?_ rfl rfl
  exact if_neg (by simp [hl])

theorem timedRom_eq (dt : Nat) (f : State → State) (s t : State) (hl : s.speaks = true) (ht : f (s.advance dt) = t)
    (hc : t.clk = s.clk.advance dt) (hp : t.pending = s.pending) : timedRom dt f s = .next t := by
  refine timedAny_eq dt _ s t ?_ hc hp
  rw [← ht]
  exact if_pos hl

theorem timedDie_eq (dt : Nat) (f : State → State) (s t : State) (hl : s.powered = true) (ht : f (s.advance dt) = t)
    (hc : t.clk = s.clk.advance dt) (hp : t.pending = s.pending) : timedDie dt f s = .next t := by
  refine timedAny_eq dt _ s t ?_ hc hp
  rw [← ht]
  exact if_pos hl

/-- Every command through a wrapper answers a next state. -/
theorem timedAny_next (dt : Nat) (f : State → State) (s : State) : ∃ t, timedAny dt f s = .next t := ⟨_, rfl⟩

theorem timedAny_clk (dt : Nat) (f : State → State) (s t : State) (h : timedAny dt f s = .next t) :
    t.clk = s.clk.advance dt ∧ t.pending = s.pending := by
  unfold timedAny at h
  cases h
  exact ⟨rfl, rfl⟩

theorem sessionState_ne_framesRx (m n : Nat) : It.sessionState m ≠ It.framesRx n := by
  simp only [It.sessionState, It.framesRx, itemKey]; omega

theorem frontCheck_congr (m : Nat) (f : Frame) (a b : State) (h : a.sessionOpen m = b.sessionOpen m) :
    frontCheck m f a = frontCheck m f b := by
  unfold frontCheck
  rw [h]

/-- Through the CMD ring and the checks, a frame brings the state to `taking`. -/
theorem taking_eq (m : Nat) (f : Frame) (a : State) :
    (((((a.modMaster m fun ma => { ma with cmd := ma.cmd.produce (frameSlots f.p.length) }).modMaster m fun ma =>
      { ma with cmd := ma.cmd.consume (frameSlots f.p.length) }).bump (It.framesRx m)).accepted m)) = taking m f a := by
  have hm : ∀ (f1 f2 f3 : Master → Master), upd (upd (upd a.mail.masters m f1) m f2) m f3 =
      upd a.mail.masters m fun x => f3 (f2 (f1 x)) := by
    intro f1 f2 f3
    rw [upd_upd, upd_upd]
  simp only [State.accepted, State.modMaster, State.modMail, State.bump, State.bumpBy, State.set, taking, hm]
  rfl

theorem master_modMaster (m : Nat) (f : Master → Master) (a : State) :
    (a.modMaster m f).master m = if m < a.mail.masters.length then f (a.master m) else a.master m := by
  simp [State.master, State.modMaster, State.modMail, nth_upd]

/-- A property of a mailbox that an update keeps. -/
theorem master_keep {α : Type} (g : Master → α) (m : Nat) (f : Master → Master) (a : State) (h : ∀ ma, g (f ma) = g ma) :
    g ((a.modMaster m f).master m) = g (a.master m) := by
  rw [master_modMaster]
  split
  · exact h _
  · rfl

/-! ### Taking a frame changes the mailboxes and one counter -/

@[simp] theorem taking_clk (m : Nat) (f : Frame) (a : State) : (taking m f a).clk = a.clk := rfl
@[simp] theorem taking_pending (m : Nat) (f : Frame) (a : State) : (taking m f a).pending = a.pending := rfl
@[simp] theorem taking_free (m : Nat) (f : Frame) (a : State) : (taking m f a).free = a.free := rfl
@[simp] theorem taking_variant (m : Nat) (f : Frame) (a : State) : (taking m f a).variant = a.variant := rfl
@[simp] theorem taking_phase (m : Nat) (f : Frame) (a : State) : (taking m f a).phase = a.phase := rfl
@[simp] theorem taking_cfgK (m : Nat) (f : Frame) (a : State) : (taking m f a).cfgK = a.cfgK := rfl
@[simp] theorem taking_cfgPark (m : Nat) (f : Frame) (a : State) : (taking m f a).cfgPark = a.cfgPark := rfl
@[simp] theorem taking_cfgRestart (m : Nat) (f : Frame) (a : State) : (taking m f a).cfgRestart = a.cfgRestart := rfl
@[simp] theorem taking_time (m : Nat) (f : Frame) (a : State) : (taking m f a).time = a.time := rfl
@[simp] theorem taking_sb (m : Nat) (f : Frame) (a : State) : (taking m f a).sb = a.sb := rfl
@[simp] theorem taking_lanes (m : Nat) (f : Frame) (a : State) : (taking m f a).lanes = a.lanes := rfl
@[simp] theorem taking_cam (m : Nat) (f : Frame) (a : State) : (taking m f a).cam = a.cam := rfl
@[simp] theorem taking_can (m : Nat) (f : Frame) (a : State) : (taking m f a).can = a.can := rfl
@[simp] theorem taking_hist (m : Nat) (f : Frame) (a : State) : (taking m f a).hist = a.hist := rfl
@[simp] theorem taking_fus (m : Nat) (f : Frame) (a : State) : (taking m f a).fus = a.fus := rfl
@[simp] theorem taking_valve (m : Nat) (f : Frame) (a : State) : (taking m f a).valve = a.valve := rfl
@[simp] theorem taking_rods (m : Nat) (f : Frame) (a : State) : (taking m f a).rods = a.rods := rfl
@[simp] theorem taking_io (m : Nat) (f : Frame) (a : State) : (taking m f a).io = a.io := rfl
@[simp] theorem taking_ring (m : Nat) (f : Frame) (a : State) : (taking m f a).ring = a.ring := rfl
@[simp] theorem taking_power (m : Nat) (f : Frame) (a : State) : (taking m f a).power = a.power := rfl
@[simp] theorem taking_fw (m : Nat) (f : Frame) (a : State) : (taking m f a).fw = a.fw := rfl
@[simp] theorem taking_panel (m : Nat) (f : Frame) (a : State) : (taking m f a).panel = a.panel := rfl
@[simp] theorem taking_mail_owner (m : Nat) (f : Frame) (a : State) : (taking m f a).mail.owner = a.mail.owner := rfl
@[simp] theorem taking_mail_offer (m : Nat) (f : Frame) (a : State) : (taking m f a).mail.offer = a.mail.offer := rfl
@[simp] theorem taking_mail_window (m : Nat) (f : Frame) (a : State) : (taking m f a).mail.window = a.mail.window := rfl
@[simp] theorem taking_mail_grace (m : Nat) (f : Frame) (a : State) : (taking m f a).mail.grace = a.mail.grace := rfl
@[simp] theorem taking_mail_graceOver (m : Nat) (f : Frame) (a : State) : (taking m f a).mail.graceOver = a.mail.graceOver := rfl
@[simp] theorem taking_mail_claims (m : Nat) (f : Frame) (a : State) : (taking m f a).mail.claims = a.mail.claims := rfl
@[simp] theorem taking_mail_resume (m : Nat) (f : Frame) (a : State) : (taking m f a).mail.resume = a.mail.resume := rfl
@[simp] theorem taking_mail_lastServed (m : Nat) (f : Frame) (a : State) : (taking m f a).mail.lastServed = a.mail.lastServed := rfl
@[simp] theorem taking_mail_reck (m : Nat) (f : Frame) (a : State) : (taking m f a).mail.reck = a.mail.reck := rfl
@[simp] theorem taking_pos (m : Nat) (f : Frame) (a : State) : (taking m f a).pos = a.pos := rfl
@[simp] theorem taking_cycle (m : Nat) (f : Frame) (a : State) : (taking m f a).cycle = a.cycle := rfl
@[simp] theorem taking_live (m : Nat) (f : Frame) (a : State) : (taking m f a).live = a.live := rfl
@[simp] theorem taking_speaks (m : Nat) (f : Frame) (a : State) : (taking m f a).speaks = a.speaks := rfl
@[simp] theorem taking_calendar (m : Nat) (f : Frame) (a : State) : (taking m f a).calendar = a.calendar := rfl
@[simp] theorem taking_useK (m : Nat) (f : Frame) (a : State) (k : Nat) : (taking m f a).useK k = a.useK k := rfl
@[simp] theorem taking_shown (m : Nat) (f : Frame) (a : State) (k : Nat) : (taking m f a).shown k = a.shown k := rfl
@[simp] theorem rowFrame_p (c : Nat) (h : Hdr) (p : List Byte) : (rowFrame c h p).p = p := rfl
@[simp] theorem rowFrame_h (c : Nat) (h : Hdr) (p : List Byte) : (rowFrame c h p).h = h := rfl

/-- Only one counter item of class 0x0e differs while a frame is executed. -/
theorem get_taking (m : Nat) (f : Frame) (a : State) (k : Nat) (hk : k ≠ It.framesRx m) : (taking m f a).get k = a.get k := by
  show ((a.bump (It.framesRx m)).items).read a.variant k = _
  have := State.get_bump a (It.framesRx m) k
  rw [if_neg hk] at this
  exact this

theorem backCheck_taking (m : Nat) (f : Frame) (a : State) : backCheck m f (taking m f a) = backCheck m f a := by
  have h : (taking m f a).get It.testAccess = a.get It.testAccess :=
    get_taking m f a _ (by simp only [It.testAccess, It.framesRx, itemKey]; omega)
  unfold backCheck
  rw [h]
  rfl

theorem busy_taking (m : Nat) (f : Frame) (a : State) (op : Nat) : (taking m f a).busy m op = a.busy m op := by
  have h : (taking m f a).get It.reckonerLoadPct = a.get It.reckonerLoadPct :=
    get_taking m f a _ (by simp only [It.reckonerLoadPct, It.framesRx, itemKey]; omega)
  have h2 : (taking m f a).outstanding m = a.outstanding m := by
    unfold State.outstanding
    have := master_keep (fun ma => ma.outq.length) m (fun ma => { ma with
      cmd := (ma.cmd.produce (frameSlots f.p.length)).consume (frameSlots f.p.length), lastFrame := a.now }) a (fun _ => rfl)
    exact this
  unfold State.busy
  rw [h, h2]
  rfl

theorem answerCmd_eq (owner : Option Nat) (m : Nat) (f : Frame) (r : Reply) (b : State) :
    ((b.answerCmd m f r).modMail fun ml => { ml with lastServed := if owner = some m then ml.lastServed else m }) =
      answered owner m f r b := by
  unfold answered State.answerCmd State.modMail
  simp only [State.respond_mail_lastServed]
  rfl

@[simp] theorem State.useBudget_clk (op : Nat) (s : State) : (s.useBudget op).clk = s.clk := by
  unfold State.useBudget; split <;> rfl
@[simp] theorem State.useBudget_pending (op : Nat) (s : State) : (s.useBudget op).pending = s.pending := by
  unfold State.useBudget; split <;> rfl

/-- A command that changes nothing takes no room of the copy. -/
theorem State.useBudget_read (op : Nat) (s : State) (h : changingOp op = false) : s.useBudget op = s := by
  unfold State.useBudget; simp [h]

/-- A frame that the module takes at once executes its opcode on `taking`, and what it answers is queued. -/
theorem cmdRow_taken (op : OpFn) (code dt : Nat) (m : Fin 16) (h : Hdr) (p : List Byte) (s b : State) (r : Reply)
    (ha : Accepts m (rowFrame code h p) (s.advance dt))
    (hr : op m (rowFrame code h p) (taking m (rowFrame code h p) (s.advance dt)) = (b, r))
    (hc : b.clk = s.clk.advance dt) (hp : b.pending = s.pending) :
    cmdRow op code dt m h p s =
      .next (answered s.mail.owner m (rowFrame code h p) r (b.useBudget (BitVec.ofNat 16 code).toNat)) := by
  obtain ⟨h1, h2, h3, h4, h5, h6, h7, h8, h9⟩ := ha
  unfold cmdRow
  refine timedRom_eq dt _ s _ h1 ?_ ?_ ?_
  · unfold State.submit
    generalize hs1 : (s.advance dt).modMaster m.val (fun ma => { ma with cmd := ma.cmd.produce (frameSlots p.length) }) = s1
    have k1 : s1.serves m = true := by rw [← hs1]; exact h2
    have k2 : s1.rspRoom m = true := by
      rw [← hs1, ← h3]
      unfold State.rspRoom
      rw [master_keep (fun ma => ma.rsp) m.val (fun ma => { ma with cmd := ma.cmd.produce (frameSlots p.length) }) (s.advance dt)
        (fun _ => rfl)]
    have k3 : (s1.master m).waiting.isEmpty = true := by
      rw [← hs1]
      have := master_keep (fun ma => ma.waiting) m.val (fun ma => { ma with cmd := ma.cmd.produce (frameSlots p.length) })
        (s.advance dt) (fun _ => rfl)
      rw [this, h4]
      rfl
    have k4 : s1.mayStart (rowFrame code h p).op.toNat = true := by rw [← hs1]; exact h5
    have e : (s1.serves m.val && s1.rspRoom m.val && (s1.master m.val).waiting.isEmpty) = true := by simp [k1, k2, k3]
    show (if (s1.serves m.val && s1.rspRoom m.val && (s1.master m.val).waiting.isEmpty) = true then
      (if s1.mayStart (rowFrame code h p).op.toNat = true then s1.takeNext op m.val (rowFrame code h p) else _) else _) = _
    rw [if_pos e, if_pos k4]
    unfold State.takeNext State.takeFrame
    generalize hs2 : (s1.modMaster m.val (fun ma => { ma with cmd := ma.cmd.consume (frameSlots (rowFrame code h p).p.length) })).bump
      (It.framesRx m.val) = s2
    have q1 : frontCheck m.val (rowFrame code h p) s2 = .accept := by
      rw [← h6]
      refine frontCheck_congr _ _ _ _ ?_
      rw [← hs2, ← hs1]
      simp [State.sessionOpen, sessionState_ne_framesRx]
    have q2 : s2.accepted m.val = taking m.val (rowFrame code h p) (s.advance dt) := by
      rw [← hs2, ← hs1]
      exact taking_eq m.val (rowFrame code h p) (s.advance dt)
    have q3 : backCheck m.val (rowFrame code h p) (taking m.val (rowFrame code h p) (s.advance dt)) = none := by
      rw [← h8]
      exact backCheck_taking _ _ _
    have q4 : (taking m.val (rowFrame code h p) (s.advance dt)).busy m.val (rowFrame code h p).op.toNat = false := by
      rw [← h9]
      exact busy_taking _ _ _ _
    have q5 : s1.mail.owner = s.mail.owner := by rw [← hs1]; rfl
    simp only [q1, q2, q3, q4, h7, hr, if_false, Bool.false_eq_true, q5]
    exact answerCmd_eq _ _ _ _ _
  · simpa [answered] using hc
  · simpa [answered] using hp

/-- As `cmdRow_taken`, with the effect and the answer named. -/
theorem cmdRow_replied (op : OpFn) (code dt : Nat) (m : Fin 16) (h : Hdr) (p : List Byte) (s : State) (e : State → State) (r : Reply)
    (ha : Accepts m (rowFrame code h p) (s.advance dt))
    (hr : op m (rowFrame code h p) (taking m (rowFrame code h p) (s.advance dt)) =
      (e (taking m (rowFrame code h p) (s.advance dt)), r))
    (hc : (e (taking m (rowFrame code h p) (s.advance dt))).clk = s.clk.advance dt)
    (hp : (e (taking m (rowFrame code h p) (s.advance dt))).pending = s.pending) :
    cmdRow op code dt m h p s = .next (replied dt m (rowFrame code h p) r e s) :=
  cmdRow_taken op code dt m h p s _ r ha hr hc hp

/-! ### The opcode rows together -/

/-- A row that stands for an opcode executes what the service of the rings executes for that opcode. -/
theorem opRow_exec (i : Instr) (c : OpCmd) (s : State) (h : opRow i = some c) :
    exec i s = cmdRow (opOf c.code) c.code c.dt c.m c.h c.p s ∧ c.code < 65536 := by
  cases i <;> first
    | (cases h; exact ⟨rfl, by simp⟩)
    | (cases h)

/-- A frame that reaches the checks passes through the CMD ring and is checked and executed. -/
theorem submit_reaches (op : OpFn) (m : Nat) (f : Frame) (a : State) (ha : Reaches m f a) :
    State.submit op m f a =
      turned a.mail.owner m ((a.modMaster m fun ma => { ma with cmd := ma.cmd.produce (frameSlots f.p.length) }).takeFrame op m f) := by
  obtain ⟨h1, h2, h3, h4, h5⟩ := ha
  unfold State.submit
  generalize hs1 : a.modMaster m (fun ma => { ma with cmd := ma.cmd.produce (frameSlots f.p.length) }) = s1
  have k1 : s1.serves m = true := by rw [← hs1]; exact h2
  have k2 : s1.rspRoom m = true := by
    rw [← hs1, ← h3]
    unfold State.rspRoom
    rw [master_keep (fun ma => ma.rsp) m (fun ma => { ma with cmd := ma.cmd.produce (frameSlots f.p.length) }) a (fun _ => rfl)]
  have k3 : (s1.master m).waiting.isEmpty = true := by
    rw [← hs1]
    have := master_keep (fun ma => ma.waiting) m (fun ma => { ma with cmd := ma.cmd.produce (frameSlots f.p.length) }) a (fun _ => rfl)
    rw [this, h4]
    rfl
  have k4 : s1.mayStart f.op.toNat = true := by rw [← hs1]; exact h5
  have e : (s1.serves m && s1.rspRoom m && (s1.master m).waiting.isEmpty) = true := by simp [k1, k2, k3]
  show (if (s1.serves m && s1.rspRoom m && (s1.master m).waiting.isEmpty) = true then
    (if s1.mayStart f.op.toNat = true then s1.takeNext op m f else _) else _) = _
  rw [if_pos e, if_pos k4]
  subst hs1
  rfl

/-- Checks 1 to 6 do not depend on the rings' indices. -/
theorem frontCheck_counted (m : Nat) (f : Frame) (a : State) :
    frontCheck m f (((a.modMaster m fun ma => { ma with cmd := ma.cmd.produce (frameSlots f.p.length) }).modMaster m fun ma =>
      { ma with cmd := ma.cmd.consume (frameSlots f.p.length) }).bump (It.framesRx m)) = frontCheck m f a := by
  refine frontCheck_congr _ _ _ _ ?_
  simp [State.sessionOpen, sessionState_ne_framesRx]

theorem counted_eq (m : Nat) (f : Frame) (a : State) :
    ((a.modMaster m fun ma => { ma with cmd := ma.cmd.produce (frameSlots f.p.length) }).modMaster m fun ma =>
      { ma with cmd := ma.cmd.consume (frameSlots f.p.length) }).bump (It.framesRx m) = counted m f a := by
  unfold counted
  congr 1
  simp only [State.modMaster, State.modMail, upd_upd]

/-- The opcode of a row's frame. -/
theorem opOf_toNat (c : OpCmd) (h : c.code < 65536) : c.frame.op.toNat = c.code := by
  simp [OpCmd.frame, rowFrame]; omega

theorem answered_turned (o : Option Nat) (m : Nat) (f : Frame) (r : Reply) (b : State) :
    turned o m (b.answerCmd m f r) = answered o m f r b := answerCmd_eq o m f r b

theorem kept_cache (m : Nat) (f : Frame) (a : State) :
    (if f.h.flags.toNat = 2 then ((taking m f a).master m).cache.reverse.find? (fun r => r.seq == f.h.seq.toNat) else none) = kept m f a := by
  unfold kept
  have := master_keep (fun ma => ma.cache) m (fun ma => { ma with
      cmd := (ma.cmd.produce (frameSlots f.p.length)).consume (frameSlots f.p.length), lastFrame := a.now }) a (fun _ => rfl)
  have e : ((taking m f a).master m).cache = (a.master m).cache := this
  rw [e]

/-- An opcode row of a module that speaks answers what taking its frame leads to. -/
theorem cmdRow_of (op : OpFn) (code dt : Nat) (m : Fin 16) (h : Hdr) (p : List Byte) (s t : State)
    (hs : s.speaks = true) (ht : State.submit op m (rowFrame code h p) (s.advance dt) = t)
    (hc : t.clk = s.clk.advance dt) (hp : t.pending = s.pending) : cmdRow op code dt m h p s = .next t :=
  timedRom_eq dt _ s t hs ht hc hp

/-- What a frame that passes checks 1 to 6 leads to: the kept response, a refusal, BUSY, or the execution of its opcode. -/
theorem takeFrame_taken (op : OpFn) (m : Nat) (f : Frame) (a : State) (ha : frontCheck m f a = .accept) :
    (a.modMaster m fun ma => { ma with cmd := ma.cmd.produce (frameSlots f.p.length) }).takeFrame op m f =
      match kept m f a with
      | some r => (taking m f a).respond m { r with wait := .ready, placed := 0 }
      | none =>
        match backCheck m f a with
        | some st => (taking m f a).answerCmd m f { status := st }
        | none =>
          if a.busy m f.op.toNat then
            (({ taking m f a with free := a.free + 1 } : State).bump (It.busySent m)).answerCmd m f
              { status := stBusy, payload := toLE 4 (busyHint (Config.freeValue a.free)) }
          else ((op m f (taking m f a)).1.useBudget f.op.toNat).answerCmd m f (op m f (taking m f a)).2 := by
  unfold State.takeFrame
  simp only [frontCheck_counted, ha]
  rw [taking_eq, kept_cache, backCheck_taking, busy_taking]
  rfl

end Sys2Proof.Machine
end

