-- ==== Sys2Proof/WellFormed.lean ====
section
/-! DEFINITION. Which operands a command can carry: the widths and lengths that the spec gives the things they stand for. `step`
does not ask for it; statements and tests that need it name it. -/

namespace Sys2Proof

/-- A mailbox frame states its payload length in 16 bits (Table 3.4). Log entry: 164 DESIGN CHOICE. -/
def Frame.wf (f : Frame) : Bool := decide (f.p.length < 65536)

/-- A CAN frame: an identifier of 11 or 29 bits, at most 64 data bytes, at most 8 in a classical frame, no remote FD frame, bit-rate
switch only in an FD frame (R279, R284). Log entry: 164 DESIGN CHOICE. -/
def CanFrame.wf (f : CanFrame) : Bool :=
  (f.ext || decide (f.id.toNat < 2 ^ 11)) && decide (f.data.length ≤ 64) && (f.fd || decide (f.data.length ≤ 8)) &&
    !(f.remote && f.fd) && (f.fd || !f.brs) && (!f.remote || f.data.isEmpty)

/-- What a bank senses: each value a q16.16 of 32 bits. Log entry: 164 DESIGN CHOICE. -/
def BankSense.wf (x : BankSense) : Bool :=
  let ok := fun (l : List (Fin 8 × Nat)) => l.all fun p => decide (p.2 < 2 ^ 31)
  ok x.current && ok x.off && ok x.ohms && decide (x.common < 2 ^ 31)

/-- The measurements of a re-plan: a slack for each offset that is swept, on both lanes alike.
Log entry: 164 DESIGN CHOICE. -/
def Replan.wf (x : Replan) : Bool := x.slackA.length == x.slackB.length && !x.slackA.isEmpty

/-- A command whose operands can arise. Log entries: 164 DESIGN CHOICE, 168 DESIGN CHOICE. -/
def Instr.wf (i : Instr) : Bool :=
  match i with
  | .baseCycleBoundary meas _ => meas.all fun x => decide (x.1 < 2 ^ 24) && decide (x.2 < 2 ^ 64)
  | .encoderEdge _ _ _ _ _ => true
  | .internalTallyTick => true
  | .tallyStall _ => true
  | .encoderStale _ _ => true
  | .cycleStartMessage _ _ _ _ => true
  | .followerCorrection _ _ => true
  | .laneLinkKMessage _ _ => true
  | .latencyMonitorSilent _ _ => true
  | .timeRead _ _ _ p => decide (p.length < 65536)
  | .calendarSet _ _ _ p => decide (p.length < 65536)
  | .tallyForecast _ _ _ p => decide (p.length < 65536)
  | .latencyRelearn _ _ _ p => decide (p.length < 65536)
  | .doorbellWrite _ _ cmds blks => cmds.all Frame.wf && blks.all Frame.wf
  | .mailboxIrqClear _ _ _ => true
  | .mailboxWindowWrite _ _ _ _ => true
  | .gatewaySlotGap _ _ => true
  | .sessionOpen _ _ _ p => decide (p.length < 65536)
  | .sessionClose _ _ _ p => decide (p.length < 65536)
  | .heartbeat _ _ _ p => decide (p.length < 65536)
  | .ownClaim _ _ _ p => decide (p.length < 65536)
  | .ownRelease _ _ _ p => decide (p.length < 65536)
  | .ownOffer _ _ _ p => decide (p.length < 65536)
  | .ownAccept _ _ _ p => decide (p.length < 65536)
  | .outputsResume _ _ _ p => decide (p.length < 65536)
  | .sessionList _ _ _ p => decide (p.length < 65536)
  | .evtMaskSet _ _ _ p => decide (p.length < 65536)
  | .itemRead _ _ _ p => decide (p.length < 65536)
  | .itemWrite _ _ _ p => decide (p.length < 65536)
  | .electionWindowEnd _ => true
  | .ownershipGrantAtK _ => true
  | .ownershipSwitch _ => true
  | .offerExpiry _ => true
  | .ownershipLapse _ => true
  | .sessionIdleExpiry _ _ => true
  | .ownerlessGraceExpiry _ => true
  | .reckonerWatchdogExpiry _ inExec => inExec.all fun x => x.2.wf
  | .reckonerRestartTimeout _ => true
  | .reckonerResume _ => true
  | .slateOpen _ _ _ p => decide (p.length < 65536)
  | .slateLoad _ _ _ p => decide (p.length < 65536)
  | .slateCheck _ _ _ p => decide (p.length < 65536)
  | .slateCommit _ _ _ p => decide (p.length < 65536)
  | .slateCancel _ _ _ p => decide (p.length < 65536)
  | .slateCancelEffect _ _ => true
  | .slateList _ _ _ p => decide (p.length < 65536)
  | .slateEntries _ _ _ p => decide (p.length < 65536)
  | .ringPrepare _ _ _ p => decide (p.length < 65536)
  | .ringDecide _ _ _ p => decide (p.length < 65536)
  | .decisionDeadlineExpiry _ _ => true
  | .snapshotPin _ _ _ p => decide (p.length < 65536)
  | .snapshotRead _ _ _ p => decide (p.length < 65536)
  | .snapshotRelease _ _ _ p => decide (p.length < 65536)
  | .pinLifetimeExpiry _ handle => decide (handle < 256)
  | .carry _ _ => true
  | .driveDieCarry _ _ _ => true
  | .storeTransactionDone _ => true
  | .cameraLineStart _ _ _ _ => true
  | .cameraFrameStart _ _ => true
  | .cameraClockLoss _ _ => true
  | .cameraStale _ _ => true
  | .detectionEmit _ _ => true
  | .statisticsFinal _ _ => true
  | .cameraTrigger _ _ => true
  | .camStatsRead _ _ _ p => decide (p.length < 65536)
  | .camFrameGrab _ _ _ p => decide (p.length < 65536)
  | .camTableLoad _ _ _ p => decide (p.length < 65536)
  | .horizonRelease _ _ => true
  | .memberWatermarkTimeout _ _ _ => true
  | .batchClose _ _ => true
  | .solveDone _ _ _ => true
  | .solveLate _ _ => true
  | .trackExpired _ track => decide (track < 2 ^ 32)
  | .trackRead _ _ _ p => decide (p.length < 65536)
  | .solveRead _ _ _ p => decide (p.length < 65536)
  | .fuTableLoad _ _ _ p => decide (p.length < 65536)
  | .cellRead _ _ _ p => decide (p.length < 65536)
  | .loopRelease _ _ _ _ => true
  | .runDeadline _ _ => true
  | .rodRead _ _ _ p => decide (p.length < 65536)
  | .rodReset _ _ _ p => decide (p.length < 65536)
  | .rodResetEffect _ _ => true
  | .beamRead _ _ _ p => decide (p.length < 65536)
  | .rodTraceArm _ _ _ p => decide (p.length < 65536)
  | .rodTraceRead _ _ _ p => decide (p.length < 65536)
  | .beadArrival _ _ bank bead => bead.ch.val / 8 == bank.val
  | .beadDue _ _ => true
  | .boostEnd _ _ _ => true
  | .boostTimeout _ _ sense => decide (sense.current < 2 ^ 31)
  | .peakDwellEnd _ _ => true
  | .beadEnd _ _ => true
  | .quenchEnd _ _ => true
  | .currentLoopPeriod _ _ sense => sense.wf
  | .ditherSetpoint _ _ _ _ => true
  | .channelShortTrip _ _ => true
  | .highSideShortTrip _ _ => true
  | .channelRetryExpiry _ _ => true
  | .boostRailReady _ _ volts => decide (volts < 2 ^ 31)
  | .boostLowTimeout _ _ => true
  | .driveTierChange _ _ volts => decide (volts < 2 ^ 31)
  | .sagRecoveryReady _ => true
  | .driveOutputTimeout _ _ => true
  | .valveBead _ _ _ p => decide (p.length < 65536)
  | .beadCancel _ _ _ p => decide (p.length < 65536)
  | .queueRead _ _ _ p => decide (p.length < 65536)
  | .beadLogRead _ _ _ p => decide (p.length < 65536)
  | .valveClear _ _ _ p => decide (p.length < 65536)
  | .valveClearEffect _ _ => true
  | .coilMeasure _ _ _ p => decide (p.length < 65536)
  | .inputFrameRx _ _ sense _ => decide (sense.edges.length ≤ 4096) && decide (sense.codes.length = 4) && decide (sense.noise.length ≤ 132)
  | .outputFrameTick _ _ => true
  | .outputFrameRx _ _ bytes => decide (bytes.length ≤ 512)
  | .isoLinkStale _ _ => true
  | .diEdgeAccept _ _ => true
  | .diStale _ _ => true
  | .diWireBreak _ _ _ => true
  | .aiStale _ _ => true
  | .aiShuntTrip _ _ => true
  | .aiShuntReclose _ _ => true
  | .lsImpact _ _ amplitude => decide (amplitude < 65536)
  | .lsStale _ _ => true
  | .lsTest _ passed => passed.length == 8
  | .lsHistWindow _ _ => true
  | .doTrip _ _ => true
  | .doRetryExpiry _ _ => true
  | .doPulseStart _ _ => true
  | .doOutputTimeout _ => true
  | .fieldSupplyChange _ volts => decide (volts < 2 ^ 31)
  | .lsHistRead _ _ _ p => decide (p.length < 65536)
  | .doClear _ _ _ p => decide (p.length < 65536)
  | .canFrameValid _ _ got => got.frame.wf
  | .canHpIrqWordRead _ _ => true
  | .canBusError _ _ _ => true
  | .canTxAttemptEnd _ _ _ => true
  | .canBusoffRecovered _ _ => true
  | .canBusIdleIntegration _ _ => true
  | .canTx _ _ _ p => decide (p.length < 65536)
  | .canTxCancel _ _ _ p => decide (p.length < 65536)
  | .canTxList _ _ _ p => decide (p.length < 65536)
  | .canRecover _ _ _ p => decide (p.length < 65536)
  | .canHpRead _ _ _ p => decide (p.length < 65536)
  | .ringPortUp _ _ => true
  | .ringPortDown _ _ _ => true
  | .ringFrameRx _ _ bytes => decide (bytes.length ≤ 65555)
  | .mbxSlots _ _ body => decide (body.length < 65536)
  | .mbxIndex _ _ body => decide (body.length < 65536)
  | .status _ _ _ body => decide (body.length < 65536)
  | .statusPeriod _ => true
  | .ringMemberTimeout _ _ => true
  | .ringResendExpiry _ _ _ => true
  | .ringJoinWaitEnd _ => true
  | .ringBypassSettled _ _ => true
  | .linkTestExpiry _ _ => true
  | .faultInjectExpiry _ _ => true
  | .ringRead _ _ _ p => decide (p.length < 65536)
  | .ringBypass _ _ _ p => decide (p.length < 65536)
  | .linkTestStart _ _ _ p => decide (p.length < 65536)
  | .linkTestStop _ _ _ p => decide (p.length < 65536)
  | .linkTestRead _ _ _ p => decide (p.length < 65536)
  | .faultInject _ _ _ p => decide (p.length < 65536)
  | .laneGiveUp _ _ _ _ => true
  | .tenantCoreRestart _ _ _ => true
  | .vitalTimeout _ => true
  | .quietTimeEnd _ => true
  | .laneClaim _ _ => true
  | .laneYield _ => true
  | .plannedSwitchAtK _ => true
  | .handoverBoundExpiry _ => true
  | .copyReceived _ _ => true
  | .copyAck _ _ => true
  | .copyFailed _ => true
  | .laneLinkDown _ => true
  | .laneRestartDelayEnd _ _ => true
  | .selfTestDone _ _ _ => true
  | .fullSyncDone _ _ => true
  | .startWaitExpiry _ => true
  | .memoryScrub _ _ _ => true
  | .redRead _ _ _ p => decide (p.length < 65536)
  | .laneSwitch _ _ _ p => decide (p.length < 65536)
  | .laneRestart _ _ _ p => decide (p.length < 65536)
  | .powerTierChange _ volts => decide (volts < 2 ^ 31)
  | .holdupDecision _ => true
  | .holdupRechargeEnd _ => true
  | .shutdownComplete _ => true
  | .kaSupplyChange _ volts => decide (volts < 2 ^ 31)
  | .mainStartDwell _ => true
  | .wakeInput _ => true
  | .canWakePattern _ _ => true
  | .parkTimerExpiry _ => true
  | .wakeWaitExpiry _ => true
  | .moduleStart _ _ => true
  | .stateChangeEffect _ rp => rp.wf
  | .moduleResetEffect _ => true
  | .orderlyParkComplete _ => true
  | .powerRead _ _ _ p => decide (p.length < 65536)
  | .stateSet _ _ _ p => decide (p.length < 65536)
  | .moduleReset _ _ _ p => decide (p.length < 65536)
  | .componentHashDone _ => true
  | .bankWriteDone _ _ _ => true
  | .confirmationWindowEnd _ => true
  | .updateSessionIdle _ => true
  | .updOpen _ _ _ p => decide (p.length < 65536)
  | .updBlocks _ _ _ p => decide (p.length < 65536)
  | .updActivate _ _ _ p => decide (p.length < 65536)
  | .updConfirm _ _ _ p => decide (p.length < 65536)
  | .updAbort _ _ _ p => decide (p.length < 65536)
  | .updInventory _ _ _ p => decide (p.length < 65536)
  | .updRecovery _ _ _ p => decide (p.length < 65536)
  | .updRecoveryExit _ _ _ p => decide (p.length < 65536)
  | .recorderWindowClose _ _ => true
  | .recordWritten _ => true
  | .ageTrendTick _ => true
  | .canaryMeasure _ _ slack => decide (slack < 2 ^ 32)
  | .histRead _ _ _ p => decide (p.length < 65536)
  | .histClear _ _ _ p => decide (p.length < 65536)
  | .ageRead _ _ _ p => decide (p.length < 65536)
  | .ageMonitorRead _ _ _ p => decide (p.length < 65536)
  | .panelUpdateStart _ _ => true
  | .panelFrame _ _ => true
  | .panelUpdateEnd _ => true
  | .panelTempRead _ _ => true
  | .edgeLoopCheck _ _ => true
  | .panelPageLoad _ _ _ p => decide (p.length < 65536)
  | .panelRead _ _ _ p => decide (p.length < 65536)
  | .panelRefresh _ _ _ p => decide (p.length < 65536)
  | .cameraClockReturn _ _ => true
  | .streamStale _ _ => true
  | .canProtocolException _ _ => true
  | .bypassCloseDone _ => true
  | .checkerLock _ _ _ _ => true
  | .checkerSyncLoss _ _ _ _ => true
  | .laneLinkUp _ => true
  | .supplyAboveOperatingMax _ volts => decide (80 * 65536 < volts) && decide (volts < 2 ^ 31)
  | .coilMeasureDone _ _ _ => true

end Sys2Proof
end

