-- ==== Sys2Proof/Tests/Slice0.lean ====
section
/-! SUPPORT. Tests of the model: ill-formed commands, check values, one-step tests, and for every statement with
hypotheses a state and operands that meet them. -/

namespace Sys2Proof.Tests

set_option linter.unusedVariables false
set_option Elab.async false

open Sys2Proof.Machine Sys2Proof.Safety

/-! ## States to test on -/

/-- A state with items set. -/
def sets (l : List (Nat × Nat)) (s : State) : State := l.foldl (fun s e => s.set e.1 e.2) s

/-- A module that serves at mtime 1 ms: lane 0 is ACTIVE and accepted, master 0 has a session with every event and is the owner. -/
def served : State :=
  let r : State := { State.reset with
    phase := .up, clk := { mtime := 1000000, wall := 1500000, kLast := 10, tickNext := 1001 },
    mail := { State.reset.mail with owner := some 0 }, lanes := { State.reset.lanes with accepting := true, consuming := true } }
  sets [(It.sessionState 0, 2), (It.evtMask 0, 0xffffffff), (It.laneState 0, 4)] r

/-- The header of a frame of master `m` with sequence 7 and its check word. -/
def wHdr (m : Fin 16) (code : Nat) (p : List Byte) : Hdr :=
  let h : Hdr := { mfield := BitVec.ofNat 4 m, ring := 0, flags := 0, seq := 7, slate := 0xff, rsv := 0, status := 0, check := 0 }
  { h with check := BitVec.ofNat 32 (expectedCheck (rowFrame code h p)) }

/-- As `wHdr`, with slate `i` named. -/
def wHdrAt (i : Nat) (m : Fin 16) (code : Nat) (p : List Byte) : Hdr :=
  let h : Hdr := { mfield := BitVec.ofNat 4 m, ring := 0, flags := 0, seq := 7, slate := BitVec.ofNat 8 i, rsv := 0, status := 0, check := 0 }
  { h with check := BitVec.ofNat 32 (expectedCheck (rowFrame code h p)) }

/-- As `wHdr`, with RETRY set. -/
def wRetry (m : Fin 16) (code : Nat) (p : List Byte) : Hdr :=
  let h : Hdr := { mfield := BitVec.ofNat 4 m, ring := 0, flags := 2, seq := 7, slate := 0xff, rsv := 0, status := 0, check := 0 }
  { h with check := BitVec.ofNat 32 (expectedCheck (rowFrame code h p)) }

/-- A slate image of one entry that names a status item. -/
def badImgW : List Byte := toLE 4 1 ++ toLE 4 0x9648 ++ toLE 2 1 ++ toLE 2 0 ++ toLE 4 5 ++ toLE 4 It.mtime ++ [3, 8, 0, 0] ++ toLE 8 500

/-- A slate image of one entry. -/
def imgW : List Byte := toLE 4 1 ++ toLE 4 0x9648 ++ toLE 2 1 ++ toLE 2 0 ++ toLE 4 5 ++ toLE 4 It.tallyStallMs ++ [1, 2, 0, 0] ++ toLE 8 500

/-- A background table image of one entry. -/
def tabW : List Byte := toLE 4 1 ++ toLE 4 0x9648 ++ [4, 0, 0, 0] ++ toLE 4 1 ++ toLE 4 5 ++ toLE 2 100

/-- A detection, a track and an ejector map of one entry. -/
def detW : Detection := { ctx := 0, flags := 0, cls := 1, frame := 2, mtime := 5, tally := 6, col := 7, row := 8, width := 1, height := 1, count := 1, feats := List.replicate 8 0, expCarry := 0 }

def trackW : Track :=
  let p : Placed := { d := detW, e := 5, t := 6, u := 7, w := 8, area := 9 }
  { id := 7, birthView := 0, birth := p, t0 := 6, u0 := 7, w0 := 8, s := (1, 1), du := (0, 1), latest := p, seen := [some p, none, none, none] }

def mapW : List Byte := toLE 4 1 ++ toLE 4 0x9648 ++ [3, 0, 0, 0] ++ toLE 4 1 ++ toLE 4 5 ++ toLE 4 0 ++ toLE 4 1000 ++ [1, 2, 0, 0]


/-- A bead of channel 11, a profile that runs on it, and bank 1 in RUN on die 0 with channel 11 in a given condition. -/
def beadW : Bead := { position := 900000, key := 5, ch := 11, op := .on, onMtime := true, master := true, profile := 0xff, extent := 0 }

def runW : ProfRun := { bead := beadW, start := 3, begun := 1000, carry := 2, late := 0, tier := 0, peak := 131072, hold := 65536, boostMax := 400000, dwell := 7, holdMin := 8, holdMax := 0, slow := false, kp := 9, ki := 10 }

def valved (l : List (Nat × Nat)) (x : Chan) : State :=
  let s := sets ([(It.bankState 1, 1)] ++ l) served
  let c := sets [(It.bankEnable 1, 1), (It.chMode 11, 1)] served
  { s with valve := { s.valve with chans := upd s.valve.chans 11 fun _ => x, dies := upd s.valve.dies 0 fun d => { d with cfg := c.items } } }

/-- A manifest of one component of kind 3, and an update session of one component of four bytes. -/
def manW : List Byte :=
  toLE 4 1 ++ toLE 4 0x9648 ++ toLE 4 7 ++ toLE 2 0 ++ toLE 2 65535 ++ [0, 5, 1, 0] ++ toLE 12 0 ++ ([3, 0, 0, 0] ++ toLE 4 2 ++ toLE 4 4 ++ toLE 2 1 ++ toLE 90 0) ++ toLE 96 0

def sesW : UpdSession := { id := 77, mode := 1, man := {}, comps := [{ kind := 3, size := 4 }], lane := 1, lastBlk := 70 }

def updating (st : Nat) (u : UpdSession) : State := (sets [(It.updState, st), (It.updSession, u.id)] served).modFw fun w => { w with ses := some u }

/-- A page image, and a module whose BLK ring holds it. -/
def pageHead : List Byte := toLE 4 1 ++ toLE 4 0x9648 ++ toLE 2 320 ++ toLE 2 240 ++ toLE 4 0 ++ toLE 4 1198318324

def pageImg : List Byte := pageHead ++ List.replicate 19196 0

def pageState : State := served.modMaster 0 fun x => { x with blk := { prod := 60, cons := 0 }, blks := [{ seq := 40, payload := pageImg, at_ := 900000 }] }

/-! ## A page image of 19216 bytes: its first four pixel bytes bring the CRC register to zero, where zero bytes keep it -/

/-- The running CRC-32C register. -/
def crcOn (l : List Byte) (c : Nat) : Nat := l.foldl (fun c b => crc32Shift 8 (c ^^^ b.toNat)) c

theorem crcOn_append (a b : List Byte) (c : Nat) : crcOn (a ++ b) c = crcOn b (crcOn a c) := List.foldl_append

theorem crcOn_zeros (n : Nat) : crcOn (List.replicate n 0) 0 = 0 := by
  induction n with
  | zero => rfl
  | succ n ih => exact ih

theorem pageHead_crc : crcOn pageHead 0xffffffff = 0 := by decide +kernel

theorem page_crc : crc32c pageImg = 0xffffffff := by
  have h : crcOn pageImg 0xffffffff = 0 := by rw [pageImg, crcOn_append, pageHead_crc, crcOn_zeros]
  unfold crcOn at h
  rw [crc32c, h, Nat.zero_xor]

theorem page_length : pageImg.length = 19216 := by
  rw [pageImg, List.length_append, List.length_replicate, show pageHead.length = 20 from by decide +kernel]

theorem page_ok : pageOk pageImg = true := by
  unfold pageOk
  rw [page_length]
  decide +kernel

theorem blkImage_one (s : State) (b : BlkSeen) (first crc : Nat) (hf : s.blkFrames 0 first 1 = some [b])
    (hc : crc32c b.payload = crc) (hfl : b.flagged = false) : (s.blkImage 0 first 1 b.payload.length crc).toOption = some b.payload := by
  unfold State.blkImage
  rw [hf]
  simp [hc, hfl, Except.toOption]

/-- The request of PANEL_PAGE_LOAD in this witness. -/
def pageReq : List Byte := [15, 0] ++ toLE 2 40 ++ toLE 2 1 ++ [0, 0] ++ toLE 4 19216 ++ toLE 4 0xffffffff

theorem page_blk : ((taking 0 (rowFrame 0x1200 (wHdr 0 0x1200 pageReq) pageReq) (pageState.advance 5)).blkImage 0 (u16At pageReq 2) (u16At pageReq 4)
    (u32At pageReq 8) (u32At pageReq 12)).toOption = some pageImg := by
  have h := blkImage_one (taking 0 (rowFrame 0x1200 (wHdr 0 0x1200 pageReq) pageReq) (pageState.advance 5))
    { seq := 40, payload := pageImg, at_ := 900000 } 40 0xffffffff (by rfl) page_crc rfl
  rw [page_length] at h
  exact h

theorem witness_PanelUpdatesAndRests_f :
    Accepts 0 (rowFrame 0x1200 (wHdr 0 0x1200 pageReq) pageReq) (pageState.advance 5) ∧
    u8At pageReq 0 ≤ 15 ∧ zeroAt pageReq 1 1 = true ∧ 0 < u16At pageReq 4 ∧ zeroAt pageReq 6 2 = true ∧
    ((taking 0 (rowFrame 0x1200 (wHdr 0 0x1200 pageReq) pageReq) (pageState.advance 5)).blkImage 0 (u16At pageReq 2) (u16At pageReq 4)
      (u32At pageReq 8) (u32At pageReq 12)).toOption = some pageImg ∧
    pageOk pageImg = true ∧ pageState.panel.upd = none ∧ pageState.get It.panelShown ≠ u8At pageReq 0 :=
  ⟨by decide +kernel, by decide, by decide, by decide, by decide, page_blk, page_ok, by rfl, by decide +kernel⟩

theorem witness_StepsGoOnAndKeepTheClock_b :
  let s : State := { served with pending := [.internalTallyTick] }
  ClockOk s.clk := by
  unfold ClockOk
  decide +kernel

/-! ## Operands that cannot arise are refused, one term for each check of WellFormed -/

theorem test_wf_payload_of_every_opcode_row (i : Instr) (c : OpCmd) (h : opRow i = some c) (hp : 65536 ≤ c.p.length) : i.wf = false := by
  have no : ∀ n : Nat, 65536 ≤ n → ¬ n < 65536 := fun n a b => absurd b (Nat.not_lt.2 a)
  cases i <;> cases h <;> exact decide_eq_false (no _ hp)

theorem test_wf_measured_key : (Instr.baseCycleBoundary [(2 ^ 24, 0)] true).wf = false := by decide
theorem test_wf_measured_value : (Instr.baseCycleBoundary [(0, 2 ^ 64)] true).wf = false := by decide
theorem test_wf_frames_of_a_doorbell (f : Frame) (h : f.wf = false) : (Instr.doorbellWrite 0 { lane := 0, part := 0 } [f] []).wf = false ∧
    (Instr.doorbellWrite 0 { lane := 0, part := 0 } [] [f]).wf = false ∧ (Instr.reckonerWatchdogExpiry 0 (some (0, f))).wf = false := by
  simp [Instr.wf, h]
theorem test_wf_handle : (Instr.pinLifetimeExpiry 0 256).wf = false := by decide

theorem test_wf_track : (Instr.trackExpired 0 (2 ^ 32)).wf = false := by decide
theorem test_wf_bead_of_another_bank : (Instr.beadArrival 0 0 2 beadW).wf = false := by decide
theorem test_wf_boost_current : (Instr.boostTimeout 0 3 { current := 2 ^ 31, riseNs := 0 }).wf = false := by decide
theorem test_wf_sense_current : (Instr.currentLoopPeriod 0 0 { current := [(0, 2 ^ 31)], off := [], common := 0, ohms := [] }).wf = false := by decide
theorem test_wf_sense_off : (Instr.currentLoopPeriod 0 0 { current := [], off := [(0, 2 ^ 31)], common := 0, ohms := [] }).wf = false := by decide
theorem test_wf_sense_ohms : (Instr.currentLoopPeriod 0 0 { current := [], off := [], common := 0, ohms := [(0, 2 ^ 31)] }).wf = false := by decide
theorem test_wf_sense_common : (Instr.currentLoopPeriod 0 0 { current := [], off := [], common := 2 ^ 31, ohms := [] }).wf = false := by decide
theorem test_wf_volts : (Instr.boostRailReady 0 0 (2 ^ 31)).wf = false ∧ (Instr.driveTierChange 0 0 (2 ^ 31)).wf = false ∧
    (Instr.fieldSupplyChange 0 (2 ^ 31)).wf = false ∧ (Instr.powerTierChange 0 (2 ^ 31)).wf = false ∧ (Instr.kaSupplyChange 0 (2 ^ 31)).wf = false ∧
    (Instr.supplyAboveOperatingMax 0 (2 ^ 31)).wf = false ∧ (Instr.supplyAboveOperatingMax 0 (80 * 65536)).wf = false := by decide
theorem test_wf_output_frame (l : List Byte) (h : 512 < l.length) : (Instr.outputFrameRx 0 0 l).wf = false :=
  decide_eq_false (Nat.not_le.2 h)

/-- What a quiet section sends: no edge, four converter codes. -/
def senseW : FieldSense := { counter := 0, levels := 0, edges := [], readback := 0, codes := List.replicate 4 (0, 0), hot := false, supply := 0 }

theorem test_wf_sense_edges (l : List (Fin 48 × Bool × BitVec 8)) (h : 4096 < l.length) : (Instr.inputFrameRx 0 0 { senseW with edges := l } 0).wf = false := by
  have n : ¬ l.length ≤ 4096 := by omega
  simp [Instr.wf, n]
theorem test_wf_sense_codes : (Instr.inputFrameRx 0 0 { senseW with codes := [] } 0).wf = false := by decide
theorem test_wf_sense_noise (l : List Byte) (h : 132 < l.length) : (Instr.inputFrameRx 0 0 { senseW with noise := l } 0).wf = false := by
  simp [Instr.wf, h]
theorem test_wf_amplitude : (Instr.lsImpact 0 0 65536).wf = false := by decide
theorem test_wf_passed : (Instr.lsTest 0 [true]).wf = false := by decide

/-- A CAN frame of 2 data bytes. -/
def canW : CanFrame := { id := 0x123, ext := false, fd := false, brs := false, remote := false, dlc := 2, data := [1, 2] }

theorem test_wf_can_identifier : (Instr.canFrameValid 0 0 { sof := 0, frame := { canW with id := 0x800 } }).wf = false := by decide
theorem test_wf_can_length : (Instr.canFrameValid 0 0 { sof := 0, frame := { canW with fd := true, data := List.replicate 65 0 } }).wf = false := by decide
theorem test_wf_can_classical_length : (Instr.canFrameValid 0 0 { sof := 0, frame := { canW with data := List.replicate 9 0 } }).wf = false := by decide
theorem test_wf_can_remote_fd : (Instr.canFrameValid 0 0 { sof := 0, frame := { canW with remote := true, fd := true, data := [] } }).wf = false := by decide
theorem test_wf_can_classical_brs : (Instr.canFrameValid 0 0 { sof := 0, frame := { canW with brs := true } }).wf = false := by decide
theorem test_wf_can_remote_data : (Instr.canFrameValid 0 0 { sof := 0, frame := { canW with remote := true } }).wf = false := by decide
theorem test_wf_ring_frames (l : List Byte) (h : 65555 < l.length) : (Instr.ringFrameRx 0 0 l).wf = false ∧ (Instr.mbxSlots 0 0 l).wf = false ∧
    (Instr.mbxIndex 0 0 l).wf = false ∧ (Instr.status 0 0 0 l).wf = false := by
  have h2 : ¬ l.length < 65536 := by omega
  exact ⟨decide_eq_false (Nat.not_le.2 h), decide_eq_false h2, decide_eq_false h2, decide_eq_false h2⟩
theorem test_wf_replan : (Instr.stateChangeEffect 0 { slackA := [1], slackB := [], marginA := 0, marginB := 0, holdup := (0, 0) }).wf = false ∧
    (Instr.stateChangeEffect 0 { slackA := [], slackB := [], marginA := 0, marginB := 0, holdup := (0, 0) }).wf = false := by decide
theorem test_wf_slack : (Instr.canaryMeasure 0 0 (2 ^ 32)).wf = false := by decide

/-! ## Check values and encodings -/

/-- The bytes of "123456789", on which both check functions have a published check value (the parameters of R71 and R255). -/
def digits : List Byte := [0x31, 0x32, 0x33, 0x34, 0x35, 0x36, 0x37, 0x38, 0x39]

theorem test_crc32c : crc32c digits = 0xe3069283 := by decide +kernel
theorem test_crc16 : crc16 digits = 0x29b1 := by decide +kernel
/-- The worked example beside Table 3.13: words 0 to 2 of a frame of ring host master 4 with sequence 0x0012. -/
theorem test_header : headerBytes 1 4 0 0 0x12 0x0200 12 0xff 0 0 = toLE 4 0x14000012 ++ toLE 4 0x0200000c ++ toLE 4 0xff000000 := by decide
/-- The same example's response: 16 bytes of snapshot fields, an entry of 12 bytes and one of 16. -/
theorem test_item_read_length : (readPayload 0 false State.reset.sb.snap [0x00100000, 0x00200004]).length = 44 := by decide +kernel
theorem test_item_read_part_code : readEntry 0 false [] 0x00100000 = toLE 4 0x00100000 ++ [0, 0, 2, 4] ++ toLE 4 0x9648 := by decide +kernel
/-- R279: FD frames with DLC 9 to 15. -/
theorem test_dlc : [dlcLen 8, dlcLen 9, dlcLen 12, dlcLen 15] = [8, 12, 24, 64] := by decide
/-- The table gives no row any bits, so that no word spells a command. -/
theorem test_no_word : Sys2Proof.decodeTableWord 0 0 = none ∧ Sys2Proof.decodeTableWord 32 5 = none ∧ State.reset.withFetchWord 32 5 = State.reset := by decide

/-- Table 3.3: the interrupt status stands at offset 0x10024; a word above the index words is none of the window's. -/
theorem test_window_read : (served.modMaster 2 fun m => { m with irq := 3 }).windowRead 2 0xf0010024 = some 3 ∧
    served.windowRead 2 0xf0010028 = none ∧ windowWord 0xf0010014 = some .evtConsumer := by decide +kernel

/-! ## Single steps -/

/-- R37, and the worked example of spec 02: at prescale 20 the twentieth forward edge is a unit, of 10 mm. -/
theorem test_unit : (Counter.edge 20 false true 5000000 { acc := 19, int := 7, st := .running, tLast := 0 }) =
    { acc := 0, int := 8, st := .running, tLast := 5000000, pLast := some 5000000 } := by decide +kernel
/-- The same example: P_last of 5 ms is a tally_rate of 200 000. -/
theorem test_rate : Counter.rate { st := .running, pLast := some 5000000 } = 200000 := by decide
/-- Table 2.2, quadrature x4: A rises while B is low, one step forward; B rises while A is low, one step back. -/
theorem test_quadrature : decodeEdge 5 false false true false = some true ∧ decodeEdge 5 false false false true = some false := by decide
/-- R83: at the start trigger no mailbox is served; the frame passes time only. -/
theorem test_reset_waits_for_a_start : (match step { State.reset with pending := [.heartbeat 5 0 (wHdr 0 0x0102 []) []] } with
    | .next t => t.clk.mtime == 5 && t.phase == .starting && t.mail.masters == State.reset.mail.masters
    | _ => false) = true := by decide +kernel
theorem witness_EncoderInputsCount_a :
  let s : State := served.set (It.encMode 2) 5
  let dt : Nat := 700
  let n : Fin 8 := 2
  let a : Bool := true
  let b : Bool := false
  let seen : BitVec 6 := 63
  let forward : Bool := true
  (s.live = true) ∧
    (illegalEdge (s.get (It.encMode n)) (nth s.time.enc n).a ((nth s.time.enc n).b != (s.get (It.encInvert n) == 1)) a (b != (s.get (It.encInvert n) == 1)) = false) ∧
    (decodeEdge (s.get (It.encMode n)) (nth s.time.enc n).a ((nth s.time.enc n).b != (s.get (It.encInvert n) == 1)) a (b != (s.get (It.encInvert n) == 1)) = some forward) := by decide +kernel

theorem witness_EncoderInputsCount_b :
  let s : State := served.set (It.encMode 2) 5
  let dt : Nat := 700
  let n : Fin 8 := 2
  let a : Bool := true
  let b : Bool := true
  let seen : BitVec 6 := 63
  (s.live = true) ∧
    (illegalEdge (s.get (It.encMode n)) (nth s.time.enc n).a ((nth s.time.enc n).b != (s.get (It.encInvert n) == 1)) a (b != (s.get (It.encInvert n) == 1)) = true) := by decide +kernel

theorem witness_EncoderInputsCount_c :
  let s : State := (served.set (It.encGuard 2) 0).modTime (fun t => { t with enc := upd t.enc 2 fun e => { e with last := some 1000 } })
  let dt : Nat := 9000000000
  let l : Nat := 1000
  let n : Fin 8 := 2
  (s.live = true) ∧
    (s.get (It.encGuard n) ≠ 3) ∧
    ((nth s.time.enc n).broken = false) ∧
    ((nth s.time.enc n).last = some l) ∧
    (s.get (It.encStaleMs n) * 1000000 ≤ s.now + dt - l) := by decide +kernel

theorem witness_TallyUnitsAndStalls_a :
  let s : State := sets [(It.tallySource, 12), (It.tallyPrescale, 1)] served
  (s.live = true) ∧
    (s.clk.mtime ≤ s.clk.tickNext * 1000) ∧
    (s.get It.tallySource = 12) ∧
    (s.get It.tallyPrescale = 1) ∧
    (s.time.lane.acc = 0) ∧
    (s.time.lane.debt = 0) := by decide +kernel

theorem witness_TallyUnitsAndStalls_b :
  let s : State := (served.set It.tallySource 0).modTime (fun t => { t with lane := { t.lane with st := .running, int := 5, tLast := 900000, pLast := some 70000 } })
  let dt : Nat := 9000000000
  (s.live = true) ∧
    (s.get It.tallySource ≠ 12) ∧
    (s.time.lane.st = .running) ∧
    (s.get It.tallyStallMs * 1000000 ≤ s.now + dt - s.time.lane.tLast) := by decide +kernel

theorem witness_FollowersKeepStep_a :
  let s : State := served
  let dt : Nat := 5
  let die : Fin 4 := 1
  let lane : Fin 2 := 1
  let off : Int := 0
  (s.powered = true) ∧
    (s.accepts lane = false) := by decide +kernel

theorem witness_FollowersKeepStep_b :
  let s : State := served.modTime (fun t => { t with lane := { t.lane with latched := 9 } })
  let dt : Nat := 5
  let die : Fin 4 := 1
  let lane : Fin 2 := 0
  let off : Int := -3
  (s.powered = true) ∧
    (s.accepts lane = true) ∧
    ((nth s.time.dies die).corr = none) ∧
    ((nth s.time.dies die).epoch = s.get It.mtimeEpoch) ∧
    (s.time.lane.near = false) ∧
    ((nth s.time.dies die).cnt.near = false) ∧
    (unitDiff s.time.lane.latched (nth s.time.dies die).cnt.latched ≠ 0) ∧
    ((∀ b < 16, b / 4 ≠ die.val ∨ bit (s.get (It.bankSafeCause b)) 1 = false)) := by decide +kernel

theorem witness_FollowersKeepStep_c :
  let s : State := served.modTime (fun t => { t with dies := upd t.dies 1 fun f => { f with corr := some (-2, 9), cnt := { f.cnt with int := 70, latched := 69 } } })
  let dt : Nat := 5
  let die : Fin 4 := 1
  let d : Int := -2
  let k : Nat := 9
  (s.live = true) ∧
    ((nth s.time.dies die).corr = some (d, k)) ∧
    (k < s.clk.kLast) := by decide +kernel

theorem witness_FollowersKeepStep_d :
  let s : State := sets [(It.laneState 1, 3), (It.laneLink, 1)] served
  let dt : Nat := 5
  let off : Int := -1000
  (s.live = true) ∧
    (s.lanes.accepting = true) ∧
    (s.lane (1 - s.lanes.latch) = 3) ∧
    (s.linkCarries = true) ∧
    (s.fw.ses = none) ∧
    (s.time.standby.latched = s.time.lane.latched) ∧
    (-1000 ≤ s.time.standbyOff + off) ∧
    (s.time.standbyOff + off ≤ 1000) := by decide +kernel

theorem witness_FollowersKeepStep_e :
  let s : State := (sets [(It.lmState 31, 2), (It.lmSource 31, 3)] served).modTime (fun t => { t with lat := upd t.lat 31 fun x => { x with lastAt := some 70 } })
  let dt : Nat := 99000000000
  let l : Nat := 70
  let n : Fin 32 := 31
  (s.live = true) ∧
    (s.get (It.lmState n) ≠ 0) ∧
    (s.get (It.lmState n) ≠ 5) ∧
    (s.get (It.lmSource n) ≠ 0) ∧
    ((nth s.time.lat n).lastAt = some l) ∧
    (s.get (It.lmStaleMs n) * 1000000 ≤ s.now + dt - l) := by decide +kernel

theorem witness_TimeCommandsAnswer_a :
  let s : State := served
  let dt : Nat := 5
  let m : Fin 16 := 0
  let p : List Byte := []
  let h : Hdr := wHdr m 0x0500 p
  (Accepts m (rowFrame 0x0500 h p) (s.advance dt)) := by decide +kernel

theorem witness_TimeCommandsAnswer_b :
  let s : State := served
  let dt : Nat := 5
  let m : Fin 16 := 0
  let p : List Byte := toLE 8 1577836800000000000 ++ toLE 8 999000
  let h : Hdr := wHdr m 0x0501 p
  (Accepts m (rowFrame 0x0501 h p) (s.advance dt)) ∧
    (u64At p 8 ≤ s.now + dt) ∧
    (s.now + dt ≤ u64At p 8 + 10000000000) ∧
    (1577836800000000000 ≤ u64At p 0) := by decide +kernel

theorem witness_TimeCommandsAnswer_c :
  let s : State := served.modTime (fun t => { t with lane := { t.lane with st := .running, int := 5, tLast := 900000, pLast := some 70000 } })
  let dt : Nat := 5
  let m : Fin 16 := 0
  let p : List Byte := toLE 8 (9 * 65536)
  let h : Hdr := wHdr m 0x0502 p
  (Accepts m (rowFrame 0x0502 h p) (s.advance dt)) ∧
    ((posDiff (u64At p 0) (s.advance dt).pos).natAbs ≤ 2 ^ 56) ∧
    (s.time.lane.rate ≠ 0) := by decide +kernel

theorem witness_TimeCommandsAnswer_d :
  let s : State := sets [(It.lmState 31, 2), (It.lmSource 31, 3)] served
  let dt : Nat := 5
  let m : Fin 16 := 0
  let p : List Byte := [31, 0, 0, 0]
  let h : Hdr := wHdr m 0x0503 p
  (Accepts m (rowFrame 0x0503 h p) (s.advance dt)) ∧
    (u8At p 0 ≤ 31) ∧
    (zeroAt p 1 3 = true) ∧
    (s.get (It.lmSource (u8At p 0)) ≠ 0) ∧
    (s.get (It.lmState (u8At p 0)) ≠ 1) := by decide +kernel

theorem witness_CycleBoundaryAdvances_a :
  let s : State := served
  let meas : List (Nat × Nat) := [(It.reckonerLoadPct, 20)]
  let eq : Bool := true
  (s.clk.kLast = s.clk.mtime / 100000) ∧
    ((s.live = true → s.power.startK.isSome = true → s.clk.mtime ≠ 0)) := by decide +kernel

theorem witness_CycleBoundaryAdvances_b :
  let s : State := (({ served with clk := { mtime := 0, wall := 500000, kLast := 0, tickNext := 0 } } : State).modPower fun p => { p with startK := some 1 })
  let meas : List (Nat × Nat) := []
  let eq : Bool := true
  (s.live = true) ∧
    (s.power.startK.isSome = true) ∧
    (s.clk.mtime = 0) := by decide +kernel

theorem witness_TenantWindowServes_a :
  let s : State := served.modMaster 2 (fun x => { x with irq := 3 })
  let lane : Fin 2 := 0
  let dt : Nat := 5
  let part : Fin 4 := 2
  let bits : BitVec 32 := 1
  (s.live = true) ∧
    (lane.val = s.lanes.latch) := by decide +kernel

theorem witness_TenantWindowServes_b :
  let s : State := served
  let lane : Fin 2 := 0
  let dt : Nat := 5
  let part : Fin 4 := 2
  let value : BitVec 32 := 0xffff0007
  (s.live = true) ∧
    (lane.val = s.lanes.latch) := by decide +kernel

theorem witness_TenantWindowServes_c :
  let s : State := served.modMaster 2 (fun x => { x with evt := { prod := 3, cons := 65535 } })
  let lane : Fin 2 := 0
  let dt : Nat := 5
  let part : Fin 4 := 2
  let value : BitVec 32 := 1
  (s.live = true) ∧
    (lane.val = s.lanes.latch) ∧
    ((value.toNat % 65536 + 65536 - (s.master part).evt.cons) % 65536 ≤ (s.master part).evt.used) := by decide +kernel

theorem witness_TenantWindowServes_d :
  let s : State := served.modMaster 0 (fun x => { x with cmdWord := 1 })
  let lane : Fin 2 := 0
  let dt : Nat := 5
  let part : Fin 4 := 0
  let h : Hdr := wHdr 0 0x0102 []
  (s.live = true) ∧
    (lane.val = s.lanes.latch) ∧
    ((s.master part).cmd.prod < 65536) ∧
    ((s.master part).cmdWord = ((s.master part).cmd.prod + 1) % 65536) ∧
    (Accepts part (rowFrame 0x0102 h []) (s.advance dt)) := by decide +kernel

theorem witness_TenantWindowServes_e :
  let s : State := served.modMaster 13 (fun x => { x with gwPart := [1, 2], gwAt := 900000 })
  let dt : Nat := 20000000
  let gw : Fin 2 := 1
  (s.live = true) ∧
    ((s.master (12 + gw)).gwPart ≠ []) ∧
    ((s.master (12 + gw)).gwAt + 10000000 < s.now + dt) := by decide +kernel

theorem witness_SessionCommandsAnswer_a :
  let s : State := served
  let dt : Nat := 5
  let m : Fin 16 := 0
  let p : List Byte := []
  let h : Hdr := wHdr m 0x0102 p
  (Accepts m (rowFrame 0x0102 h p) (s.advance dt)) := by decide +kernel

theorem witness_SessionCommandsAnswer_b :
  let s : State := served
  let dt : Nat := 5
  let m : Fin 16 := 0
  let p : List Byte := [7, 0, 1, 0]
  let h : Hdr := wHdr m 0x0109 p
  (Accepts m (rowFrame 0x0109 h p) (s.advance dt)) ∧
    (u32At p 0 < 2 ^ 19) := by decide +kernel

theorem witness_SessionCommandsAnswer_c :
  let s : State := served
  let dt : Nat := 5
  let m : Fin 16 := 0
  let p : List Byte := []
  let h : Hdr := wHdr m 0x0108 p
  (Accepts m (rowFrame 0x0108 h p) (s.advance dt)) := by decide +kernel

theorem witness_SessionCommandsAnswer_d :
  let s : State := served
  let dt : Nat := 5
  let m : Fin 16 := 0
  let p : List Byte := [2, 0, 0, 0] ++ toLE 4 It.mtime ++ toLE 4 It.variant
  let h : Hdr := wHdr m 0x0200 p
  (Accepts m (rowFrame 0x0200 h p) (s.advance dt)) ∧
    (0 < u16At p 0) ∧
    (u16At p 0 ≤ 62) ∧
    (zeroAt p 2 2 = true) := by decide +kernel

theorem witness_SessionCommandsAnswer_e :
  let s : State := served
  let dt : Nat := 5
  let m : Fin 16 := 3
  let p : List Byte := toLE 4 0 ++ toLE 4 9 ++ toLE 4 0x7ffff
  let h : Hdr := wHdr m 0x0100 p
  (Accepts m (rowFrame 0x0100 h p) (s.advance dt)) ∧
    (u16At p 0 ≤ 1) ∧
    (zeroAt p 2 2 = true) ∧
    (u32At p 8 < 2 ^ 19) ∧
    (s.mail.owner ≠ some m.val) ∧
    (s.mail.offer = none) := by decide +kernel

theorem witness_OwnershipIsClaimedAndGivenUp_a :
  let s : State := { sets [(It.sessionState 3, 1), (It.ownPriority 3, 5)] served with mail := State.reset.mail }
  let dt : Nat := 5
  let m : Fin 16 := 3
  let p : List Byte := []
  let h : Hdr := wHdr m 0x0103 p
  (Accepts m (rowFrame 0x0103 h p) (s.advance dt)) ∧
    (s.phase ≠ .recovery) ∧
    (s.mail.owner = none) ∧
    (s.get (It.ownPriority m) ≠ 0) := by decide +kernel

theorem witness_OwnershipIsClaimedAndGivenUp_b :
  let s : State := served.modSb fun b => { b with slates := upd b.slates 3 fun x => { x with st := .opened } }
  let dt : Nat := 5
  let m : Fin 16 := 0
  let p : List Byte := []
  let h : Hdr := wHdr m 0x0104 p
  (Accepts m (rowFrame 0x0104 h p) (s.advance dt)) ∧
    (s.mail.owner = some m.val) := by decide +kernel

theorem witness_OwnershipIsClaimedAndGivenUp_c :
  let s : State := sets [(It.sessionState 3, 1)] served
  let dt : Nat := 5
  let m : Fin 16 := 3
  let p : List Byte := []
  let h : Hdr := wHdr m 0x0101 p
  (Accepts m (rowFrame 0x0101 h p) (s.advance dt)) ∧
    (s.mail.owner ≠ some m.val) ∧
    (s.mail.offer = none) := by decide +kernel

theorem witness_OwnershipIsClaimedAndGivenUp_d :
  let s : State := { served with mail := { State.reset.mail with window := some 1000002, claims := [(3, 10)] } }
  let dt : Nat := 5
  let w : Nat := 1000002
  let m : Nat := 3
  let k : Nat := 10
  (s.live = true) ∧
    (m < 16) ∧
    (s.mail.window = some w) ∧
    (w ≤ s.now + dt) ∧
    (s.mail.owner = none) ∧
    (s.mail.claims = [(m, k)]) := by decide +kernel

theorem witness_OwnershipIsClaimedAndGivenUp_e :
  let s : State := { served with mail := { State.reset.mail with claims := [(3, 9)] } }
  let dt : Nat := 5
  let m : Nat := 3
  let k : Nat := 9
  (s.live = true) ∧
    (m < 16) ∧
    (s.mail.window = none) ∧
    (s.mail.owner = none) ∧
    (s.mail.claims = [(m, k)]) ∧
    (k < s.clk.kLast) := by decide +kernel

theorem witness_OwnershipIsHandedOver_a :
  let s : State := sets [(It.sessionState 3, 1), (It.ownPriority 3, 5)] served
  let dt : Nat := 5
  let m : Fin 16 := 0
  let p : List Byte := [3, 1, 0, 0]
  let h : Hdr := wHdr m 0x0105 p
  (Accepts m (rowFrame 0x0105 h p) (s.advance dt)) ∧
    (u8At p 0 ≤ 15) ∧
    (u8At p 1 ≤ 1) ∧
    (zeroAt p 2 2 = true) ∧
    (s.sessionOpen (u8At p 0) = true) ∧
    (s.get (It.ownPriority (u8At p 0)) ≠ 0) ∧
    (s.mail.offer = none) := by decide +kernel

theorem witness_OwnershipIsHandedOver_b :
  let s : State := { sets [(It.sessionState 3, 1)] served with mail := { State.reset.mail with owner := some 0, offer := some { target := 3, keep := true, at_ := 7 } } }
  let dt : Nat := 5
  let m : Fin 16 := 3
  let p : List Byte := [0, 0, 0, 0]
  let o : Offer := { target := 3, keep := true, at_ := 7 }
  let h : Hdr := wHdr m 0x0106 p
  (Accepts m (rowFrame 0x0106 h p) (s.advance dt)) ∧
    (u8At p 0 = 0) ∧
    (zeroAt p 1 3 = true) ∧
    (s.mail.offer = some o) ∧
    (o.target = m.val) := by decide +kernel

theorem witness_OwnershipIsHandedOver_c :
  let s : State := { served with mail := { State.reset.mail with owner := some 0, offer := some { target := 3, keep := true, at_ := 7, accepted := some 9 } } }
  let dt : Nat := 5
  let w : Nat := 0
  let k : Nat := 9
  let o : Offer := { target := 3, keep := true, at_ := 7, accepted := some 9 }
  (s.live = true) ∧
    (s.mail.owner = some w) ∧
    (s.mail.offer = some o) ∧
    (o.accepted = some k) ∧
    (k < s.clk.kLast) ∧
    (w ≠ o.target) ∧
    (w < 16) ∧
    (o.target < 16) := by decide +kernel

theorem witness_OwnershipIsHandedOver_d :
  let s : State := { served with mail := { State.reset.mail with owner := some 0, offer := some { target := 3, keep := true, at_ := 7 } } }
  let dt : Nat := 200000000
  let w : Nat := 0
  let o : Offer := { target := 3, keep := true, at_ := 7 }
  (s.live = true) ∧
    (s.mail.owner = some w) ∧
    (w < 16) ∧
    (s.mail.offer = some o) ∧
    (o.accepted = none) ∧
    (o.at_ + 200000000 ≤ s.now + dt) := by decide +kernel

theorem witness_OwnershipIsHandedOver_e :
  let s : State := sets [(It.ownerlessApplied, 1)] served
  let dt : Nat := 5
  let m : Fin 16 := 0
  let p : List Byte := []
  let h : Hdr := wHdr m 0x0107 p
  (Accepts m (rowFrame 0x0107 h p) (s.advance dt)) ∧
    (s.get It.ownerlessApplied ≠ 0) := by decide +kernel

theorem witness_OwnershipEndsByTime_a :
  let s : State := served
  let dt : Nat := 500000000
  let w : Nat := 0
  (s.live = true) ∧
    (s.mail.owner = some w) ∧
    (w < 16) ∧
    (s.mail.reck.up = true) ∧
    (s.mail.lapseFrom + 500000000 ≤ s.now + dt) := by decide +kernel

theorem witness_OwnershipEndsByTime_b :
  let s : State := sets [(It.sessionState 3, 1), (It.sessionIdleS, 60)] served
  let dt : Nat := 60000000000
  let m : Fin 16 := 3
  (s.live = true) ∧
    (s.mail.owner ≠ some m.val) ∧
    (s.mail.offer = none) ∧
    (s.get (It.sessionState m) = 1) ∧
    ((s.master m).lastFrame + s.get It.sessionIdleS * 1000000000 ≤ s.now + dt) := by decide +kernel

theorem witness_OwnershipEndsByTime_c :
  let s : State := { served with mail := { State.reset.mail with grace := some 1000005 } }
  let dt : Nat := 5
  let g : Nat := 1000005
  (s.live = true) ∧
    (s.mail.grace = some g) ∧
    (g ≤ s.now + dt) ∧
    (s.mail.owner = none) := by decide +kernel

theorem witness_OwnershipEndsByTime_d :
  let s : State := served
  let dt : Nat := 5
  (s.live = true) ∧
    (s.mail.reck.up = true) := by decide +kernel

theorem witness_OwnershipEndsByTime_e :
  let s : State := served.modMail (fun l => { l with reck := { up := false, since := 900000 } })
  let dt : Nat := 50000000
  (s.live = true) ∧
    (s.mail.reck.up = false) ∧
    (s.mail.reck.since + 50000000 ≤ s.now + dt) := by decide +kernel

theorem witness_ReckonerResumesAndItemsAreStaged_a :
  let s : State := ({ served with lanes := { served.lanes with consuming := false } } : State).modMail (fun l => { l with reck := { up := false, since := 900000 }, masters := upd l.masters 2 fun x => { x with held := [(0x0580, [1])] } })
  let dt : Nat := 5
  (s.live = true) ∧
    (s.mail.reck.up = false) ∧
    (s.lanes.consuming = false) := by decide +kernel

theorem witness_ReckonerResumesAndItemsAreStaged_b :
  let s : State := served.modSb (fun b => { b with slates := upd b.slates 3 fun x => { x with st := .opened } })
  let dt : Nat := 5
  let m : Fin 16 := 0
  let p : List Byte := [1, 0, 0, 0] ++ toLE 4 It.tallyStallMs ++ [1, 2, 0, 0] ++ toLE 8 500
  let es : List (Nat × Nat) := [(It.tallyStallMs, 500)]
  let h : Hdr := wHdrAt 3 0 0x0201 ([1, 0, 0, 0] ++ toLE 4 It.tallyStallMs ++ [1, 2, 0, 0] ++ toLE 8 500)
  (Accepts m (rowFrame 0x0201 h p) (s.advance dt)) ∧
    (0 < u16At p 0) ∧
    (u16At p 0 ≤ 62) ∧
    (zeroAt p 2 2 = true) ∧
    (h.slate.toNat < 8) ∧
    ((s.slate h.slate.toNat).st = .opened) ∧
    (s.mail.offer = none) ∧
    (((taking m (rowFrame 0x0201 h p) (s.advance dt)).takeEntries false 0 ((List.range (u16At p 0)).map fun j => (p.drop (4 + 16 * j)).take 16) (s.slate h.slate.toNat).entries).toOption = some es) := by decide +kernel

theorem witness_ReckonerResumesAndItemsAreStaged_c :
  let s : State := served.modSb (fun b => { b with slates := upd b.slates 3 fun x => { x with st := .opened } })
  let dt : Nat := 5
  let m : Fin 16 := 0
  let p : List Byte := [1, 0, 0, 0] ++ toLE 4 It.mtime ++ [3, 8, 0, 0] ++ toLE 8 500
  let j : Nat := 0
  let st : Nat := stConflict
  let h : Hdr := wHdrAt 3 0 0x0201 ([1, 0, 0, 0] ++ toLE 4 It.mtime ++ [3, 8, 0, 0] ++ toLE 8 500)
  (Accepts m (rowFrame 0x0201 h p) (s.advance dt)) ∧
    (0 < u16At p 0) ∧
    (u16At p 0 ≤ 62) ∧
    (zeroAt p 2 2 = true) ∧
    (h.slate.toNat < 8) ∧
    ((s.slate h.slate.toNat).st = .opened) ∧
    (s.mail.offer = none) ∧
    ((match (taking m (rowFrame 0x0201 h p) (s.advance dt)).takeEntries false 0 ((List.range (u16At p 0)).map fun j => (p.drop (4 + 16 * j)).take 16) (s.slate h.slate.toNat).entries with | .error e => some e | .ok _ => none) = some (j, st)) := by decide +kernel

theorem witness_SlatesAreOpenedAndFilled_a :
  let s : State := served.modSb (fun b => { b with slates := upd b.slates 0 fun x => { x with st := .opened } })
  let dt : Nat := 5
  let m : Fin 16 := 0
  let p : List Byte := []
  let j : Nat := 1
  let h : Hdr := wHdr 0 0x0300 []
  (Accepts m (rowFrame 0x0300 h p) (s.advance dt)) ∧
    (h.slate.toNat = 0xff) ∧
    ((s.slatesIn [.free]).head? = some j) ∧
    (s.mail.offer = none) := by decide +kernel

theorem witness_SlatesAreOpenedAndFilled_b :
  let s : State := served
  let dt : Nat := 5
  let m : Fin 16 := 0
  let p : List Byte := []
  let h : Hdr := wHdrAt 5 0 0x0300 []
  (Accepts m (rowFrame 0x0300 h p) (s.advance dt)) ∧
    (h.slate.toNat < 8) ∧
    ((nth s.sb.slates h.slate.toNat).st = .free) ∧
    (s.mail.offer = none) := by decide +kernel

theorem witness_SlatesAreOpenedAndFilled_c :
  let s : State := (served.modSb (fun b => { b with slates := upd b.slates 3 fun x => { x with st := .opened } })).modMaster 0 (fun x => { x with blk := { prod := 1, cons := 0 }, blks := [{ seq := 40, payload := imgW, at_ := 900000 }] })
  let dt : Nat := 5
  let m : Fin 16 := 0
  let p : List Byte := toLE 2 40 ++ toLE 2 1 ++ toLE 4 32 ++ toLE 4 (crc32c imgW) ++ toLE 4 0
  let img : List Byte := imgW
  let es : List (Nat × Nat) := [(It.tallyStallMs, 500)]
  let h : Hdr := wHdrAt 3 0 0x0301 (toLE 2 40 ++ toLE 2 1 ++ toLE 4 32 ++ toLE 4 (crc32c imgW) ++ toLE 4 0)
  (Accepts m (rowFrame 0x0301 h p) (s.advance dt)) ∧
    (h.slate.toNat < 8) ∧
    (zeroAt p 12 4 = true) ∧
    ((nth s.sb.slates h.slate.toNat).st = .opened) ∧
    (s.mail.offer = none) ∧
    (((taking m (rowFrame 0x0301 h p) (s.advance dt)).blkImage m (u16At p 0) (u16At p 2) (u32At p 4) (u32At p 8)).toOption = some img) ∧
    (u32At img 0 = 1) ∧
    (u32At img 4 = 0x9648) ∧
    (0 < u16At img 8) ∧
    (u16At img 8 ≤ 4096) ∧
    (zeroAt img 10 2 = true) ∧
    (img.length = 16 + 16 * u16At img 8) ∧
    (((taking m (rowFrame 0x0301 h p) (s.advance dt)).takeEntries false 0 ((List.range (u16At img 8)).map fun j => (img.drop (16 + 16 * j)).take 16) (nth s.sb.slates h.slate.toNat).entries).toOption = some es) := by decide +kernel

theorem witness_SlatesAreOpenedAndFilled_d :
  let s : State := served
  let dt : Nat := 5
  let m : Fin 16 := 0
  let p : List Byte := []
  let h : Hdr := wHdrAt 0 m 0x0305 p
  (Accepts m (rowFrame 0x0305 h p) (s.advance dt)) ∧
    (h.slate.toNat ≠ 0xff) := by decide +kernel

theorem witness_SlatesAreOpenedAndFilled_e :
  let s : State := served.modSb (fun b => { b with slates := upd b.slates 3 fun x => { x with st := .opened, entries := [(It.tallyStallMs, 500)] } })
  let dt : Nat := 5
  let m : Fin 16 := 0
  let p : List Byte := [0, 0, 62, 0]
  let h : Hdr := wHdrAt 3 0 0x0306 [0, 0, 62, 0]
  (Accepts m (rowFrame 0x0306 h p) (s.advance dt)) ∧
    (h.slate.toNat < 8) ∧
    (0 < u16At p 2) ∧
    (u16At p 2 ≤ 62) ∧
    ((nth s.sb.slates h.slate.toNat).st ≠ .free) ∧
    (u16At p 0 ≤ (nth s.sb.slates h.slate.toNat).entries.length) := by decide +kernel

theorem witness_SlatesAreCommittedAndCancelled_a :
  let s : State := served.modSb (fun b => { b with slates := upd b.slates 3 fun x => { x with st := .opened, entries := [(It.tallyStallMs, 500)] } })
  let dt : Nat := 5
  let m : Fin 16 := 0
  let p : List Byte := []
  let h : Hdr := wHdrAt 3 0 0x0302 []
  (Accepts m (rowFrame 0x0302 h p) (s.advance dt)) ∧
    (h.slate.toNat < 8) ∧
    ((nth s.sb.slates h.slate.toNat).st = .opened) ∧
    ((taking m (rowFrame 0x0302 h p) (s.advance dt)).contentCheck (nth s.sb.slates h.slate.toNat).entries = none) := by decide +kernel

theorem witness_SlatesAreCommittedAndCancelled_b :
  let s : State := served.modSb (fun b => { b with slates := upd b.slates 3 fun x => { x with st := .opened, entries := [(It.tallyStallMs, 500)] } })
  let dt : Nat := 5
  let m : Fin 16 := 0
  let p : List Byte := [2, 0, 0, 0, 0, 0, 0, 0] ++ toLE 8 0
  let h : Hdr := wHdrAt 3 0 0x0303 ([2, 0, 0, 0, 0, 0, 0, 0] ++ toLE 8 0)
  (Accepts m (rowFrame 0x0303 h p) (s.advance dt)) ∧
    (h.slate.toNat < 8) ∧
    (u8At p 0 ≤ 2) ∧
    (zeroAt p 1 7 = true) ∧
    ((u8At p 0 = 2 → u64At p 8 = 0)) ∧
    ((nth s.sb.slates h.slate.toNat).st = .opened) ∧
    (s.mail.offer = none) ∧
    (s.phase ≠ .parking) ∧
    ((taking m (rowFrame 0x0303 h p) (s.advance dt)).slateCheck (nth s.sb.slates h.slate.toNat).entries (u8At p 0) ((s.advance dt).commitInstant (nth s.sb.slates h.slate.toNat).entries (u8At p 0) (u64At p 8)) = none) := by decide +kernel

theorem witness_SlatesAreCommittedAndCancelled_c :
  let s : State := served.modSb (fun b => { b with slates := upd b.slates 3 fun x => { x with st := .opened } })
  let dt : Nat := 5
  let m : Fin 16 := 0
  let p : List Byte := []
  let h : Hdr := wHdrAt 3 0 0x0304 []
  (Accepts m (rowFrame 0x0304 h p) (s.advance dt)) ∧
    (h.slate.toNat < 8) ∧
    (s.mail.offer = none) ∧
    ((nth s.sb.slates h.slate.toNat).st = .opened) := by decide +kernel

theorem witness_SlatesAreCommittedAndCancelled_d :
  let s : State := served.modSb (fun b => { b with slates := upd b.slates 3 fun x => { x with st := .committed } })
  let dt : Nat := 5
  let m : Fin 16 := 0
  let p : List Byte := []
  let h : Hdr := wHdrAt 3 0 0x0304 []
  (Accepts m (rowFrame 0x0304 h p) (s.advance dt)) ∧
    (h.slate.toNat < 8) ∧
    (s.mail.offer = none) ∧
    ((nth s.sb.slates h.slate.toNat).st = .committed) ∧
    ((nth s.sb.slates h.slate.toNat).ringWide = false) ∧
    ((nth s.sb.slates h.slate.toNat).cancelK = none) := by decide +kernel

theorem witness_SlatesAreCommittedAndCancelled_e :
  let s : State := served.modSb (fun b => { b with slates := upd b.slates 3 fun x => { x with st := .committed, cancelK := some 9 } })
  let dt : Nat := 5
  let k : Nat := 9
  let sl : Fin 8 := 3
  (s.live = true) ∧
    ((nth s.sb.slates sl).cancelK = some k) ∧
    (k < s.clk.kLast) := by decide +kernel

theorem witness_RingWideCarryVotes_a :
  let s : State := { sets [(It.sessionState 4, 2)] (served.modSb (fun b => { b with slates := upd b.slates 3 fun x => { x with st := .opened, entries := [(It.tallyStallMs, 500)] } })) with mail := { State.reset.mail with owner := some 4 } }
  let dt : Nat := 5
  let m : Fin 16 := 4
  let p : List Byte := toLE 4 77 ++ [1, 2, 0, 0] ++ toLE 8 900000000 ++ toLE 8 200000000
  let h : Hdr := wHdrAt 3 4 0x0310 (toLE 4 77 ++ [1, 2, 0, 0] ++ toLE 8 900000000 ++ toLE 8 200000000)
  (Accepts m (rowFrame 0x0310 h p) (s.advance dt)) ∧
    (4 ≤ m.val) ∧
    (m.val ≤ 11) ∧
    (h.slate.toNat < 8) ∧
    (u8At p 4 ≤ 1) ∧
    (0 < u8At p 5) ∧
    (u8At p 5 ≤ 64) ∧
    (zeroAt p 6 2 = true) ∧
    ((nth s.sb.slates h.slate.toNat).st = .opened) ∧
    (s.mail.offer = none) ∧
    (s.slatesIn [.prepared] = []) ∧
    (s.phase ≠ .parking) ∧
    ((taking m (rowFrame 0x0310 h p) (s.advance dt)).slateCheck (nth s.sb.slates h.slate.toNat).entries (u8At p 4) (u64At p 8) = none) ∧
    ((taking m (rowFrame 0x0310 h p) (s.advance dt)).deadlineOk (u8At p 4) (u64At p 8) (u64At p 16) (slateLead (nth s.sb.slates h.slate.toNat).entries) = true) := by decide +kernel

theorem witness_RingWideCarryVotes_b :
  let s : State := { sets [(It.sessionState 4, 2)] (served.modSb (fun b => { b with slates := upd b.slates 3 fun x => { x with st := .prepared, txn := 77, deadline := 2000000 } })) with mail := { State.reset.mail with owner := some 4 } }
  let dt : Nat := 5
  let m : Fin 16 := 4
  let p : List Byte := toLE 4 77 ++ [1, 0, 0, 0]
  let h : Hdr := wHdrAt 3 4 0x0311 (toLE 4 77 ++ [1, 0, 0, 0])
  (Accepts m (rowFrame 0x0311 h p) (s.advance dt)) ∧
    (4 ≤ m.val) ∧
    (m.val ≤ 11) ∧
    (h.slate.toNat < 8) ∧
    (u8At p 4 = 1) ∧
    (zeroAt p 5 3 = true) ∧
    (s.mail.offer = none) ∧
    ((nth s.sb.slates h.slate.toNat).st = .prepared) ∧
    ((nth s.sb.slates h.slate.toNat).txn = u32At p 0) ∧
    ((nth s.sb.slates h.slate.toNat).cancelK = none) ∧
    (s.now + dt < (nth s.sb.slates h.slate.toNat).deadline) := by decide +kernel

theorem witness_RingWideCarryVotes_c :
  let s : State := { sets [(It.sessionState 4, 2)] (served.modSb (fun b => { b with slates := upd b.slates 3 fun x => { x with st := .prepared, txn := 77, deadline := 2000000 } })) with mail := { State.reset.mail with owner := some 4 } }
  let dt : Nat := 5
  let m : Fin 16 := 4
  let p : List Byte := toLE 4 77 ++ [0, 0, 0, 0]
  let h : Hdr := wHdrAt 3 4 0x0311 (toLE 4 77 ++ [0, 0, 0, 0])
  (Accepts m (rowFrame 0x0311 h p) (s.advance dt)) ∧
    (4 ≤ m.val) ∧
    (m.val ≤ 11) ∧
    (h.slate.toNat < 8) ∧
    (u8At p 4 = 0) ∧
    (zeroAt p 5 3 = true) ∧
    (s.mail.offer = none) ∧
    ((nth s.sb.slates h.slate.toNat).st = .prepared) ∧
    ((nth s.sb.slates h.slate.toNat).txn = u32At p 0) ∧
    ((nth s.sb.slates h.slate.toNat).cancelK = none) ∧
    (s.now + dt < (nth s.sb.slates h.slate.toNat).deadline) := by decide +kernel

theorem witness_RingWideCarryVotes_d :
  let s : State := served.modSb (fun b => { b with slates := upd b.slates 3 fun x => { x with st := .prepared, txn := 77, deadline := 1000005 } })
  let dt : Nat := 5
  let sl : Fin 8 := 3
  (s.live = true) ∧
    ((nth s.sb.slates sl).st = .prepared) ∧
    ((nth s.sb.slates sl).deadline ≤ s.now + dt) := by decide +kernel

theorem witness_RingWideCarryVotes_e :
  let s : State := served.modSb (fun b => { b with txnOpen := [[(It.tallyStallMs, 500)], [(It.tallyStallMs, 501)]] })
  let dt : Nat := 5
  let t : List (Nat × Nat) := [(It.tallyStallMs, 500)]
  let r : List (List (Nat × Nat)) := [[(It.tallyStallMs, 501)]]
  (s.live = true) ∧
    (s.mail.reck.up = true) ∧
    (s.lanes.accepting = true) ∧
    (s.sb.txnOpen = t :: r) := by decide +kernel

theorem witness_SnapshotsArePinned_a :
  let s : State := served
  let dt : Nat := 5
  let m : Fin 16 := 0
  let p : List Byte := []
  let h : Hdr := wHdr m 0x0400 p
  (Accepts m (rowFrame 0x0400 h p) (s.advance dt)) ∧
    ((s.sb.pins.filter fun x => x.master == m.val).length < 2) ∧
    (s.sb.pins.length < 8) ∧
    (s.sb.nextHandle < 256) ∧
    (s.sb.pins.any (fun x => x.handle == s.sb.nextHandle) = false) := by decide +kernel

theorem witness_SnapshotsArePinned_b :
  let s : State := served.modSb (fun b => { b with pins := [{ handle := 200, master := 0, at_ := 3, snap := {} }] })
  let dt : Nat := 5
  let m : Fin 16 := 0
  let p : List Byte := [200, 0, 1, 0] ++ toLE 4 It.mtime
  let x : Pin := { handle := 200, master := 0, at_ := 3, snap := {} }
  let h : Hdr := wHdr m 0x0401 p
  (Accepts m (rowFrame 0x0401 h p) (s.advance dt)) ∧
    (0 < u16At p 2) ∧
    (u16At p 2 ≤ 62) ∧
    (zeroAt p 1 1 = true) ∧
    (s.sb.pins.find? (fun y => y.handle == u8At p 0 && y.master == m.val) = some x) := by decide +kernel

theorem witness_SnapshotsArePinned_c :
  let s : State := served.modSb (fun b => { b with pins := [{ handle := 200, master := 0, at_ := 3, snap := {} }] })
  let dt : Nat := 5
  let m : Fin 16 := 0
  let p : List Byte := [200, 0, 0, 0]
  let h : Hdr := wHdr m 0x0402 p
  (Accepts m (rowFrame 0x0402 h p) (s.advance dt)) ∧
    (zeroAt p 1 3 = true) ∧
    (s.sb.pins.any (fun y => y.handle == u8At p 0 && y.master == m.val) = true) := by decide +kernel

theorem witness_SnapshotsArePinned_d :
  let s : State := served.modSb (fun b => { b with pins := [{ handle := 200, master := 0, at_ := 3, snap := {} }] })
  let dt : Nat := 99000000000
  let handle : Nat := 200
  (s.live = true) ∧
    (s.sb.pins.any (fun x => x.handle == handle && decide (x.at_ + s.get It.pinLifetimeMs * 1000000 ≤ s.now + dt)) = true) := by decide +kernel

theorem witness_CarryReleases_a :
  let s : State := served.modSb (fun b => { b with slates := upd b.slates 3 fun x => { x with st := .committed, basis := 1, instant := 1000005, entries := [(It.tallyStallMs, 500)] } })
  let dt : Nat := 5
  let sl : Fin 8 := 3
  let x : Slate := { st := .committed, basis := 1, instant := 1000005, entries := [(It.tallyStallMs, 500)] }
  (s.live = true) ∧
    (nth s.sb.slates sl = x) ∧
    (x.st = .committed) ∧
    (x.basis = 1) ∧
    (x.instant ≤ s.now + dt) ∧
    (x.cancelK = none) ∧
    (s.committed.head? = some x) := by decide +kernel

theorem witness_CarryReleases_b :
  let s : State := served.modValve (fun v => { v with stage := [{ slate := 3, die := 1, order := 4, basis := 1, instant := 500, number := some 9, entries := [(It.bankEnable 4, 1)], loaded := true }] })
  let dt : Nat := 5
  let n : Nat := 9
  let die : Fin 4 := 1
  let sl : Fin 8 := 3
  let d : DieStage := { slate := 3, die := 1, order := 4, basis := 1, instant := 500, number := some 9, entries := [(It.bankEnable 4, 1)], loaded := true }
  (s.powered = true) ∧
    (s.valve.stage.filter (fun d => d.die == die.val && s.stageStands d) = [d]) ∧
    (d.slate = sl.val) ∧
    (d.basis = 1) ∧
    (d.number = some n) ∧
    (d.loaded = true) ∧
    ((s.advance dt).atDie (4 * die) true d.instant = true) ∧
    (d.die = die.val) := by decide +kernel

theorem witness_CameraPortsAreWatched_a :
  let s : State := (served.set (It.camEnable 2) 1).modPort 2 (fun x => { x with clock := true })
  let dt : Nat := 5
  let port : Fin 4 := 2
  (s.live = true) ∧
    (port.val < s.cam.ports.length) ∧
    (s.get (It.camEnable port) ≠ 0) ∧
    ((s.port port).frame = none) := by decide +kernel

theorem witness_CameraPortsAreWatched_b :
  let s : State := sets [(It.camEnable 2, 1), (It.camState 2, 1)] served
  let dt : Nat := 5
  let port : Fin 4 := 2
  (s.live = true) ∧
    (port.val < s.cam.ports.length) ∧
    (s.get (It.camEnable port) ≠ 0) ∧
    ((s.port port).frame = none) := by decide +kernel

theorem witness_CameraPortsAreWatched_c :
  let s : State := (served.set (It.camEnable 2) 1).modPort 2 (fun x => { x with clock := true, lastLine := some 4 })
  let dt : Nat := 99000000000
  let l : Nat := 4
  let port : Fin 4 := 2
  (s.live = true) ∧
    (s.get (It.camEnable port) ≠ 0) ∧
    ((s.port port).clock = true) ∧
    ((s.port port).lastLine = some l) ∧
    (s.get (It.camStaleMs port) * 1000000 ≤ s.now + dt - l) ∧
    (s.get (It.camPclkKhz port) * 100 ≤ s.get (It.camPclkMaxKhz port) * 102) := by decide +kernel

theorem witness_CameraPortsAreWatched_d :
  let fr : CamFrame := { n := 9, ctx := none, cfg := [], sof := { row := 4, mtime := 5, tally := 6, lat := (0, false) }, img := 3, stats := { port := 2, frame := 9, mtime := 5, tally := 6, pipeCarry := 3, height := 100 } }
  let s : State := (sets [(It.camEnable 2, 1)] served).modPort 2 (fun x => { x with clock := true, frame := some { n := 9, ctx := none, cfg := [], sof := { row := 4, mtime := 5, tally := 6, lat := (0, false) }, img := 3, stats := { port := 2, frame := 9, mtime := 5, tally := 6, pipeCarry := 3, height := 100 } } })
  let dt : Nat := 5
  let port : Fin 4 := 2
  let px : List (BitVec 16) := [1, 2]
  let overflow : Bool := false
  (s.live = true) ∧
    (port.val < s.cam.ports.length) ∧
    (s.get (It.camEnable port) ≠ 0) ∧
    ((s.port port).frame = some fr) ∧
    (fr.ctx = none) ∧
    (fr.cfg.read s.variant (It.camEmbeddedLines port) ≤ fr.emb) ∧
    (fr.img + 1 ≠ fr.cfg.read s.variant (It.camHeight port)) := by decide +kernel

theorem witness_CameraFramesAndTriggers_a :
  let s : State := sets [(It.camEnable 2, 1), (It.camFraming 2, 0)] served
  let dt : Nat := 5
  let port : Fin 4 := 2
  (s.live = true) ∧
    (port.val < s.cam.ports.length) ∧
    (s.get (It.camEnable port) ≠ 0) ∧
    (s.get (It.camFraming port) ≠ 1) ∧
    ((s.port port).frame = none) ∧
    ((s.port port).trigs = []) ∧
    ((∀ c < 8, s.get (It.ctxEnable c) ≠ 1)) := by decide +kernel

theorem witness_CameraFramesAndTriggers_b :
  let s : State := sets [(It.camTrigMode 2, 2), (It.camTrigPeriodUs 2, 1000)] served
  let dt : Nat := 5
  let port : Fin 4 := 2
  (s.live = true) ∧
    (s.lanes.accepting = true) ∧
    (s.get (It.camTrigMode port) = 2) ∧
    (0 < s.get (It.camTrigPeriodUs port)) ∧
    (s.committed = []) ∧
    ((∀ c < 8, s.get (It.ctxEnable c) ≠ 1)) ∧
    ((s.port port).lastTrig ≠ some ((s.now + dt + 100000 + s.get (It.camTrigPeriodUs port) * 1000 - 1) / (s.get (It.camTrigPeriodUs port) * 1000) * (s.get (It.camTrigPeriodUs port) * 1000))) := by decide +kernel

theorem witness_CameraFramesAndTriggers_c :
  let s : State := served.modCtx 3 (fun y => { y with waiting := [{ port := 1, frame := 9, mtime := 1, tally := 2, pipeCarry := 3, height := 4, ready := true, sum := 10, count := 5 }] })
  let dt : Nat := 5
  let ctx : Fin 8 := 3
  let x : CamStats := { port := 1, frame := 9, mtime := 1, tally := 2, pipeCarry := 3, height := 4, ready := true, sum := 10, count := 5 }
  (s.live = true) ∧
    (ctx.val < s.cam.ctxs.length) ∧
    ((s.ctx ctx).waiting.find? (·.ready) = some x) := by decide +kernel

theorem witness_CameraFramesAndTriggers_d :
  let s : State := served.modCtx 3 (fun y => { y with queue := [{ det := detW, first := { row := 1, mtime := 2, tally := 3, lat := (0, false) }, port := 1, lat := (0, false) }] })
  let dt : Nat := 5
  let ctx : Fin 8 := 3
  let x : ClosedObj := { det := detW, first := { row := 1, mtime := 2, tally := 3, lat := (0, false) }, port := 1, lat := (0, false) }
  let r : List ClosedObj := []
  (s.live = true) ∧
    ((s.ctx ctx).queue = x :: r) ∧
    ((∀ v < 4, s.viewOn v = false ∨ s.useK (It.tkViewCtx v) ≠ ctx.val)) := by decide +kernel

theorem witness_CameraCommandsAnswer_a :
  let s : State := served.modCtx 7 (fun y => { y with kept := [{ port := 1, frame := 9, mtime := 1, tally := 2, pipeCarry := 3, height := 4 }] })
  let dt : Nat := 5
  let m : Fin 16 := 0
  let p : List Byte := [7, 0, 0, 0, 0, 0, 0, 0] ++ toLE 8 (2 ^ 64 - 1)
  let x : CamStats := { port := 1, frame := 9, mtime := 1, tally := 2, pipeCarry := 3, height := 4 }
  let h : Hdr := wHdr m 0x0700 p
  (Accepts m (rowFrame 0x0700 h p) (s.advance dt)) ∧
    (u8At p 0 ≤ 7) ∧
    (zeroAt p 1 7 = true) ∧
    ((if u64At p 8 = 2 ^ 64 - 1 then (s.ctx (u8At p 0)).kept.getLast? else (s.ctx (u8At p 0)).kept.find? fun y => y.frame == u64At p 8) = some x) := by decide +kernel

theorem witness_CameraCommandsAnswer_b :
  let s : State := (sets [(It.ctxPort 7, 2), (It.camPath 2, 0)] served).modPort 2 (fun x => { x with ring := [{ frame := 9, ctx := 7, lines := [[1, 2], [3, 4]], inUse := false }] })
  let dt : Nat := 5
  let m : Fin 16 := 0
  let p : List Byte := [7, 0, 1, 0, 1, 0, 0, 0] ++ toLE 8 9
  let b : FrameBuf := { frame := 9, ctx := 7, lines := [[1, 2], [3, 4]], inUse := false }
  let h : Hdr := wHdr m 0x0701 p
  (Accepts m (rowFrame 0x0701 h p) (s.advance dt)) ∧
    (u8At p 0 ≤ 7) ∧
    (zeroAt p 1 1 = true) ∧
    (0 < u16At p 4) ∧
    (u16At p 4 ≤ 1024) ∧
    (zeroAt p 6 2 = true) ∧
    ((taking m (rowFrame 0x0701 h p) (s.advance dt)).grabbing = false) ∧
    (s.get (It.camPath (s.get (It.ctxPort (u8At p 0)))) ≠ 1) ∧
    ((s.port (s.get (It.ctxPort (u8At p 0)))).ring.find? (fun x => x.frame == u64At p 8 && x.ctx == u8At p 0) = some b) ∧
    (u16At p 2 + u16At p 4 ≤ b.lines.length) := by decide +kernel

theorem witness_CameraCommandsAnswer_c :
  let s : State := served.modMaster 0 (fun x => { x with blk := { prod := 1, cons := 0 }, blks := [{ seq := 40, payload := tabW, at_ := 900000 }] })
  let dt : Nat := 5
  let m : Fin 16 := 0
  let p : List Byte := [15, 0] ++ toLE 2 40 ++ toLE 2 1 ++ [0, 0] ++ toLE 4 22 ++ toLE 4 (crc32c tabW)
  let img : List Byte := tabW
  let h : Hdr := wHdr m 0x0702 p
  (Accepts m (rowFrame 0x0702 h p) (s.advance dt)) ∧
    (u8At p 0 ≤ 15) ∧
    (zeroAt p 1 1 = true) ∧
    (0 < u16At p 4) ∧
    (zeroAt p 6 2 = true) ∧
    (((taking m (rowFrame 0x0702 h p) (s.advance dt)).blkImage m (u16At p 2) (u16At p 4) (u32At p 8) (u32At p 12)).toOption = some img) ∧
    (tableOk img = true) ∧
    ((taking m (rowFrame 0x0702 h p) (s.advance dt)).configs.any (fun st => tableInUse (st.read s.variant) (u8At p 0)) = false) := by decide +kernel

theorem witness_TrackerSolvesInOrder_a :
  let s : State := let r := { served with fus := { served.fus with tracker := { served.fus.tracker with buf := [{ mem := 1, arr := 0, e := 5, tally := 3, value := 0, ok := true, det := some detW }] } } }; { r with cfgK := (r.set It.tkEnable 1).items }
  let dt : Nat := 99000000000
  let x : Sample := { mem := 1, arr := 0, e := 5, tally := 3, value := 0, ok := true, det := some detW }
  let d : Detection := detW
  (s.live = true) ∧
    (s.useK It.tkEnable = 1) ∧
    ((s.fus.tracker.buf.filter fun y => decide (y.e ≤ (s.advance dt).newHorizon .tracker)) = [x]) ∧
    (x.det = some d) ∧
    (s.fus.batches.any (fun b => b.view == x.mem) = false) ∧
    (s.fus.tracks = []) := by decide +kernel

theorem witness_TrackerSolvesInOrder_b :
  let s : State := { served with fus := { served.fus with tracker := { served.fus.tracker with horizon := 99000000 }, batches := [{ view := 2, seq := 4, dets := [] }], solve := some { batch := { view := 1, seq := 0, dets := [] }, rows := [], cost := [], miss := 5, birth := 6, truncated := false } } }
  let dt : Nat := 5
  let view : Fin 4 := 2
  let b : Batch := { view := 2, seq := 4, dets := [] }
  (s.live = true) ∧
    (s.fus.batches.find? (fun b => b.view == view.val) = some b) ∧
    ((256 ≤ b.dets.length ∨ ((b.dets.head?).map (·.e)).getD 0 + s.useK It.tkBatchUs * 1000 ≤ s.fus.tracker.horizon)) ∧
    (s.fus.solve.isSome = true) := by decide +kernel

theorem witness_TrackerSolvesInOrder_c :
  let s : State := { served with fus := { served.fus with solve := some { batch := { view := 1, seq := 3, dets := [trackW.birth] }, rows := [], cost := [], miss := 5, birth := 6, truncated := false } } }
  let dt : Nat := 5
  let ns : Nat := 900
  let view : Fin 4 := 1
  let x : Solve := { batch := { view := 1, seq := 3, dets := [trackW.birth] }, rows := [], cost := [], miss := 5, birth := 6, truncated := false }
  (s.live = true) ∧
    (s.fus.solve = some x) ∧
    (x.batch.view = view.val) ∧
    (x.rows = []) ∧
    (x.cost = []) ∧
    (s.useK (It.tkViewBirth view) ≠ 1) ∧
    (s.fus.closed = []) := by decide +kernel

theorem witness_TrackerSolvesInOrder_d :
  let s : State := { served with fus := { served.fus with closed := [{ view := 2, seq := 4, dets := [], closedAt := 100 }] } }
  let dt : Nat := 2000000
  let view : Fin 4 := 2
  let b : Batch := { view := 2, seq := 4, dets := [], closedAt := 100 }
  (s.live = true) ∧
    (s.fus.closed = [b]) ∧
    (b.view = view.val) ∧
    (b.closedAt + 2000000 ≤ s.now + dt) ∧
    (b.dets = []) := by decide +kernel

theorem witness_TrackerSolvesInOrder_e :
  let s : State := let r := { served with fus := { served.fus with tracker := { served.fus.tracker with mems := upd served.fus.tracker.mems 1 fun x => { x with aligned := true } } } }; { r with cfgK := (sets [(It.tkEnable, 1), (It.tkViewCtx 1, 0)] r).items }
  let dt : Nat := 99000000000
  let view : Fin 4 := 1
  (s.live = true) ∧
    (s.useK It.tkEnable ≠ 0) ∧
    (view.val < s.fus.tracker.mems.length) ∧
    ((nth s.fus.tracker.mems view).aligned = true) ∧
    ((s.useK It.tkAlignUs * 1000 : Int) < ((s.now + dt : Nat) : Int) - (s.advance dt).mark .tracker view (.view view)) := by decide +kernel

theorem witness_TrackingCommandsAnswer_a :
  let s : State := { served with fus := { served.fus with tracks := [trackW] } }
  let dt : Nat := 99000000000
  let track : Nat := 7
  let x : Track := trackW
  (s.live = true) ∧
    (s.fus.tracks.find? (fun t => t.id == track) = some x) ∧
    (x.st = 0) ∧
    (x.birth.e + s.useK It.tkTrackLifeMs * 1000000 ≤ ((s.now + dt : Nat) : Int)) := by decide +kernel

theorem witness_TrackingCommandsAnswer_b :
  let s : State := { served with cfgK := (served.set (It.stSource 31) 38).items, fus := { served.fus with streams := upd served.fus.streams 31 fun x => { x with last := some 9 } } }
  let dt : Nat := 99000000000
  let l : Nat := 9
  let stream : Fin 32 := 31
  (s.live = true) ∧
    (33 ≤ s.useK (It.stSource stream)) ∧
    (s.useK (It.stSource stream) ≤ 38) ∧
    ((nth s.fus.streams stream).last = some l) ∧
    (s.useK (It.stStaleMs stream) * 1000000 ≤ s.now + dt - l) := by decide +kernel

theorem witness_TrackingCommandsAnswer_c :
  let s : State := { served with fus := { served.fus with history := [trackW] } }
  let dt : Nat := 5
  let m : Fin 16 := 0
  let p : List Byte := toLE 4 7 ++ toLE 4 0
  let x : Track := trackW
  let h : Hdr := wHdr m 0x0800 p
  (Accepts m (rowFrame 0x0800 h p) (s.advance dt)) ∧
    (zeroAt p 4 4 = true) ∧
    ((s.fus.tracks ++ s.fus.history).find? (fun t => t.id == u32At p 0) = some x) := by decide +kernel

theorem witness_TrackingCommandsAnswer_d :
  let s : State := { served with cfgK := (served.set It.tkEnable 1).items }
  let dt : Nat := 5
  let m : Fin 16 := 0
  let p : List Byte := [3, 0, 0, 0]
  let h : Hdr := wHdr m 0x0801 p
  (Accepts m (rowFrame 0x0801 h p) (s.advance dt)) ∧
    (u8At p 0 ≤ 3) ∧
    (zeroAt p 1 3 = true) ∧
    (s.useK It.tkEnable = 1) := by decide +kernel

theorem witness_TrackingCommandsAnswer_e :
  let s : State := served.modMaster 0 (fun x => { x with blk := { prod := 1, cons := 0 }, blks := [{ seq := 40, payload := mapW, at_ := 900000 }] })
  let dt : Nat := 5
  let m : Fin 16 := 0
  let p : List Byte := [7, 0] ++ toLE 2 40 ++ toLE 2 1 ++ [0, 0] ++ toLE 4 32 ++ toLE 4 (crc32c mapW)
  let img : List Byte := mapW
  let x : FuTable := { kind := 3, map := [(0, 1000, 1, 2)] }
  let h : Hdr := wHdr m 0x0802 p
  (Accepts m (rowFrame 0x0802 h p) (s.advance dt)) ∧
    (u8At p 0 ≤ 7) ∧
    (zeroAt p 1 1 = true) ∧
    (0 < u16At p 4) ∧
    (zeroAt p 6 2 = true) ∧
    (((taking m (rowFrame 0x0802 h p) (s.advance dt)).blkImage m (u16At p 2) (u16At p 4) (u32At p 8) (u32At p 12)).toOption = some img) ∧
    (fuTableOf img = some x) ∧
    ((taking m (rowFrame 0x0802 h p) (s.advance dt)).configs.any (fun st => fuTableInUse (st.read s.variant) (u8At p 0)) = false) := by decide +kernel

theorem witness_TrackingCommandsAnswer_f :
  let s : State := { served with fus := { served.fus with gst := upd served.fus.gst 31 fun x => { x with cells := [(4, 9, [1, 2, 3])] } } }
  let dt : Nat := 5
  let m : Fin 16 := 0
  let p : List Byte := [31, 0, 0, 0, 0, 0, 0, 0] ++ toLE 8 4
  let x : Nat × Nat × List Byte := (4, 9, [1, 2, 3])
  let h : Hdr := wHdr m 0x0803 p
  (Accepts m (rowFrame 0x0803 h p) (s.advance dt)) ∧
    (u8At p 0 ≤ 31) ∧
    (zeroAt p 1 7 = true) ∧
    ((if u64At p 8 = 2 ^ 64 - 1 then (nth s.fus.gst (u8At p 0)).cells.getLast? else (nth s.fus.gst (u8At p 0)).cells.find? fun y => y.1 == u64At p 8) = some x) := by decide +kernel

theorem witness_LoopsRun_a :
  let s : State := let r := sets [(It.rodState 3, 1), (It.stState 5, 2), (It.stGuard 5, 0), (It.stValue 5, 655360), (It.rodI 3, 65536)] served; { r with cfgK := (sets [(It.rodPvSrc 3, 1), (It.rodPvInst 3, 5), (It.rodPeriodUs 3, 100), (It.rodKp 3, 131072), (It.rodTi 3, 1000000), (It.setPoint 3, 786432), (It.rodOutMax 3, 6553600)] r).items }
  let dt : Nat := 100000
  let execNs : Nat := 900
  let loop : Fin 128 := 3
  (s.live = true) ∧
    (loop.val < s.rods.rods.length) ∧
    (s.get (It.rodState loop) = 1) ∧
    (s.useK (It.rodClock loop) = 0) ∧
    ((s.rod loop).relAt ≠ some (s.now + dt)) ∧
    ((∀ k < 16, loop.val % 16 ≤ k ∨ (s.advance dt).releaseNow (loop.val / 16 * 16 + k) = false)) ∧
    ((((s.now + dt : Nat) : Int) - 1000 * (s.useK (It.rodPhaseUs loop) : Int)) % (1000 * (s.useK (It.rodPeriodUs loop) : Int)) = 0) ∧
    ((s.rod loop).running = none) ∧
    (s.useK (It.rodPvSrc loop) = 1) ∧
    (s.get (It.stState (s.useK (It.rodPvInst loop))) = 2) ∧
    (s.get (It.stGuard (s.useK (It.rodPvInst loop))) = 0) ∧
    (s.useK (It.rodFfSrc loop) = 0) ∧
    (s.useK (It.rodDest loop) = 0) ∧
    (beamOf s.useK loop = none) ∧
    (innerOf s.useK loop = none) ∧
    (outersOf s.useK loop = []) ∧
    ((s.rod loop).init = none) ∧
    ((s.rod loop).old = none) ∧
    ((s.rod loop).nofollow = false) ∧
    (s.useK (It.rodSpRate loop) = 0) ∧
    (s.rods.trace = none) := by decide +kernel

theorem witness_LoopsRun_b :
  let s : State := let r := (sets [(It.rodState 3, 1)] served).modRod 3 (fun x => { x with running := some { at_ := 900000, tally := 5, carry := 2, ns := 77 } }); { r with cfgK := (sets [(It.rodPeriodUs 3, 100), (It.rodOverrunN 3, 3)] r).items }
  let dt : Nat := 200000
  let run : RodRun := { at_ := 900000, tally := 5, carry := 2, ns := 77 }
  let loop : Fin 128 := 3
  (s.live = true) ∧
    (loop.val < s.rods.rods.length) ∧
    ((s.rod loop).running = some run) ∧
    (outersOf s.useK loop = []) ∧
    (s.useK (It.rodClock loop) = 0) ∧
    (s.nextRelease loop run.at_ ≤ ((s.now + dt : Nat) : Int)) ∧
    (s.get (It.rodState loop) = 1) ∧
    ((s.rod loop).overs + 1 < s.useK (It.rodOverrunN loop)) ∧
    (innerOf s.useK loop = none) ∧
    (s.rods.trace = none) := by decide +kernel

theorem witness_LoopsRun_c :
  let s : State := (sets [(It.rodState 3, 4)] served).modRod 3 (fun x => { x with ending := some (9, 5) })
  let dt : Nat := 5
  let k : Nat := 9
  let cause : Nat := 5
  let loop : Fin 128 := 3
  (s.live = true) ∧
    (loop.val < s.rods.rods.length) ∧
    ((s.rod loop).ending = some (k, cause)) ∧
    (k < s.clk.kLast) ∧
    (s.get (It.rodState loop) = 4) ∧
    ((s.rod loop).fsChan = none) ∧
    (innerOf s.useK loop = none) ∧
    (outersOf s.useK loop = []) := by decide +kernel

theorem witness_LoopCommandsAnswer_a :
  let s : State := served
  let dt : Nat := 5
  let m : Fin 16 := 0
  let p : List Byte := [127, 0, 0, 0]
  let h : Hdr := wHdr m 0x0600 p
  (Accepts m (rowFrame 0x0600 h p) (s.advance dt)) ∧
    (u8At p 0 ≤ 127) ∧
    (zeroAt p 1 3 = true) := by decide +kernel

theorem witness_LoopCommandsAnswer_b :
  let s : State := sets [(It.rodState 127, 4)] served
  let dt : Nat := 5
  let m : Fin 16 := 0
  let p : List Byte := [127, 0, 0, 0]
  let h : Hdr := wHdr m 0x0601 p
  (Accepts m (rowFrame 0x0601 h p) (s.advance dt)) ∧
    (u8At p 0 ≤ 127) ∧
    (zeroAt p 1 3 = true) ∧
    (s.get (It.rodState (u8At p 0)) = 4) := by decide +kernel

theorem witness_LoopCommandsAnswer_c :
  let s : State := served
  let dt : Nat := 5
  let m : Fin 16 := 0
  let p : List Byte := [15, 0, 0, 0]
  let h : Hdr := wHdr m 0x0602 p
  (Accepts m (rowFrame 0x0602 h p) (s.advance dt)) ∧
    (u8At p 0 ≤ 15) ∧
    (zeroAt p 1 3 = true) := by decide +kernel

theorem witness_LoopCommandsAnswer_d :
  let s : State := served
  let dt : Nat := 5
  let m : Fin 16 := 0
  let p : List Byte := [127, 0, 0, 1]
  let h : Hdr := wHdr m 0x0603 p
  (Accepts m (rowFrame 0x0603 h p) (s.advance dt)) ∧
    (u8At p 0 ≤ 127) ∧
    (0 < u16At p 2) ∧
    (u16At p 2 ≤ 256) ∧
    (zeroAt p 1 1 = true) ∧
    (s.rods.trace = none) := by decide +kernel

theorem witness_LoopCommandsAnswer_e :
  let s : State := served.modRods (fun b => { b with trace := some { master := 0, loop := 3, want := 1, runs := [[1, 2]] } })
  let dt : Nat := 5
  let m : Fin 16 := 0
  let p : List Byte := []
  let x : RodTrace := { master := 0, loop := 3, want := 1, runs := [[1, 2]] }
  let h : Hdr := wHdr m 0x0604 p
  (Accepts m (rowFrame 0x0604 h p) (s.advance dt)) ∧
    (s.rods.trace = some x) ∧
    (x.master = m.val) := by decide +kernel

theorem witness_BeadsRunTheirProfile_a :
  let s : State := valved [] {}
  let dt : Nat := 5
  let lane : Fin 2 := 0
  let bank : Fin 16 := 1
  let bead : Bead := beadW
  (s.powered = true) ∧
    (s.accepts lane = true) ∧
    (bead.ch.val / 8 = bank.val) ∧
    (bank.val < s.valve.banks.length) ∧
    (s.get (It.bankState bank) = 1) ∧
    ((s.vb bank).started.contains (beadKey bead) = false) ∧
    ((s.vb bank).queue.any (fun q => beadKey q.bead == beadKey bead) = false) ∧
    ((s.vb bank).queue.length < 1024) := by decide +kernel

theorem witness_BeadsRunTheirProfile_b :
  let s : State := (valved [(It.chState 11, 1), (It.boostReady 1, 1), (It.bankLimitA 1, 786432)] {}).modVb 1 (fun v => { v with queue := [{ bead := { beadW with position := 999990 } }] })
  let dt : Nat := 5
  let bank : Fin 16 := 1
  let x : Bead := { beadW with position := 999990 }
  (s.powered = true) ∧
    (bank.val < s.valve.banks.length) ∧
    (x.ch.val < s.valve.chans.length) ∧
    (x.ch.val / 8 = bank.val) ∧
    (s.get (It.bankState bank) = 1) ∧
    ((s.vb bank).queue = [{ bead := x }]) ∧
    ((s.vb bank).gate = none) ∧
    (x.op = .on) ∧
    (x.onMtime = true) ∧
    (x.position.toNat ≤ (s.advance dt).dieTime bank) ∧
    ((s.advance dt).dieTime bank - x.position.toNat ≤ s.up + dt) ∧
    ((s.advance dt).dieTime bank - x.position.toNat ≤ s.vget bank (It.profLateUs (s.profOf x)) * 1000) ∧
    (s.vget bank (It.chMode x.ch) = 1) ∧
    (s.chSt x.ch = 1) ∧
    ((s.vc x.ch).run = none) ∧
    (s.tierOf bank < 2) ∧
    (s.get (It.boostReady bank) = 1) ∧
    (s.reserved bank + s.vget bank (It.chPeakA x.ch) ≤ s.get (It.bankLimitA bank) + s.reservation x.ch) := by decide +kernel

theorem witness_BeadsRunTheirProfile_c :
  let s : State := (valved [(It.chState 11, 2), (It.boostV 1, 6000000)] { run := some runW, at_ := 1400000 }).modVb 1 (fun v => { v with gate := some 11 })
  let dt : Nat := 5
  let riseNs : Nat := 40000
  let ch : Fin 128 := 11
  let r : ProfRun := runW
  (s.powered = true) ∧
    (ch.val / 8 < s.valve.banks.length) ∧
    (ch.val < s.valve.chans.length) ∧
    (s.chSt ch = 2) ∧
    ((s.vc ch).run = some r) ∧
    ((s.vc ch).safe = .none) ∧
    ((s.vb (ch / 8)).gate = some ch.val) ∧
    ((∀ q ∈ (s.vb (ch / 8)).queue, q.reason = none)) ∧
    ((∀ c < 128, (s.vc c).safe ≠ .wait)) := by decide +kernel

theorem witness_BeadsRunTheirProfile_d :
  let s : State := valved [(It.chState 11, 3)] { run := some runW, at_ := 1400000 }
  let dt : Nat := 5
  let ch : Fin 128 := 11
  let r : ProfRun := runW
  (s.powered = true) ∧
    (s.chSt ch = 3) ∧
    ((s.vc ch).run = some r) ∧
    ((s.vc ch).safe = .none) ∧
    ((s.vc ch).at_ + r.dwell ≤ s.up + dt) := by decide +kernel

theorem witness_BeadsRunTheirProfile_e :
  let s : State := valved [(It.chState 11, 4)] { run := some { runW with bead := { beadW with op := .pulse, extent := 65536 } }, at_ := 1400000, holdAt := 1400000 }
  let dt : Nat := 5
  let ch : Fin 128 := 11
  let r : ProfRun := { runW with bead := { beadW with op := .pulse, extent := 65536 } }
  (s.powered = true) ∧
    (s.chSt ch = 4) ∧
    ((s.vc ch).run = some r) ∧
    (r.bead.op = .pulse) ∧
    (r.bead.onMtime = true) ∧
    (beadEndPos r.bead ≤ (s.advance dt).dieTime (ch / 8)) ∧
    ((s.vc ch).holdAt + r.holdMin ≤ s.up + dt) := by decide +kernel

theorem witness_BeadsRunTheirProfile_f :
  let s : State := valved [(It.chState 11, 5)] { run := some { runW with bead := { beadW with ch := 11 } }, at_ := 1400000, trips := 2 }
  let dt : Nat := 5
  let ch : Fin 128 := 11
  let r : ProfRun := { runW with bead := { beadW with ch := 11 } }
  (s.powered = true) ∧
    (ch.val / 8 < s.valve.banks.length) ∧
    (ch.val < s.valve.chans.length) ∧
    (s.chSt ch = 5) ∧
    ((s.vc ch).run = some r) ∧
    ((s.vc ch).rodSafe = false) ∧
    (s.get (It.bankState (ch / 8)) = 1) ∧
    (s.vget (ch / 8) (It.chMode ch) = 1) := by decide +kernel

theorem witness_ChannelsAreRegulatedAndProtected_a :
  let s : State := (valved ((List.range 8).map fun i => (It.chState (8 + i), 4)) {}).modValve (fun v => { v with chans := v.chans.map fun x => { x with run := some runW } })
  let dt : Nat := 5
  let bank : Fin 16 := 1
  let sense : BankSense := { current := [(3, 60000), (5, 70000)], off := [], common := 9, ohms := [] }
  (s.powered = true) ∧
    (bank.val < s.valve.banks.length) ∧
    (s.valve.chans.length = 128) ∧
    ((∀ i < 8, s.chSt (bank.val * 8 + i) = 4)) ∧
    ((∀ i < 8, (s.vc (bank.val * 8 + i)).run ≠ none)) ∧
    (sense.off = []) ∧
    (sense.ohms = []) ∧
    ((∀ q ∈ (s.vb bank).queue, q.reason = none)) ∧
    ((∀ c < 128, (s.vc c).safe ≠ .wait)) := by decide +kernel

theorem witness_ChannelsAreRegulatedAndProtected_b :
  let s : State := valved [(It.chState 11, 6)] {}
  let dt : Nat := 5
  let lane : Fin 2 := 0
  let ch : Fin 128 := 11
  let value : BitVec 32 := 65000
  (s.powered = true) ∧
    (s.accepts lane = true) ∧
    (s.get (It.bankState (ch / 8)) = 1) ∧
    (s.chSt ch < 7) ∧
    (value.toNat < 2147483648) ∧
    (value.toNat ≤ s.vget (ch / 8) (It.chImaxA ch)) := by decide +kernel

theorem witness_ChannelsAreRegulatedAndProtected_c :
  let s : State := (valved [(It.chState 11, 2)] { run := some runW, at_ := 1000000, vals := { peak := 131072, limit := 400000 } }).modVb 1 (fun v => { v with gate := some 11 })
  let dt : Nat := 5
  let ch : Fin 128 := 11
  let sense : BoostSense := { current := 13108, riseNs := 7 }
  let r : ProfRun := runW
  (s.powered = true) ∧
    (ch.val / 8 < s.valve.banks.length) ∧
    (ch.val < s.valve.chans.length) ∧
    (s.chSt ch = 2) ∧
    ((s.vc ch).run = some r) ∧
    ((s.vc ch).safe = .none) ∧
    ((s.vc ch).vals.limit ≤ s.up + dt - (s.vc ch).at_) ∧
    (65536 ≤ sense.current * 5) ∧
    ((s.vb (ch / 8)).gate = some ch.val) ∧
    ((∀ q ∈ (s.vb (ch / 8)).queue, q.reason = none)) ∧
    ((∀ c < 128, (s.vc c).safe ≠ .wait)) := by decide +kernel

theorem witness_ChannelsAreRegulatedAndProtected_d :
  let s : State := let r := valved [(It.chState 11, 4)] { run := some runW }; { r with valve := { r.valve with dies := upd r.valve.dies 0 fun d => { d with cfg := (sets [(It.chRetryN 11, 3)] { r with items := d.cfg }).items } } }
  let dt : Nat := 5
  let ch : Fin 128 := 11
  let r : ProfRun := runW
  (s.powered = true) ∧
    (ch.val / 8 < s.valve.banks.length) ∧
    (ch.val < s.valve.chans.length) ∧
    (s.chSt ch = 4) ∧
    ((s.vc ch).run = some r) ∧
    ((s.vc ch).trips < s.vget (ch / 8) (It.chRetryN ch)) ∧
    ((∀ q ∈ (s.vb (ch / 8)).queue, q.reason = none)) ∧
    ((∀ c < 128, (s.vc c).safe ≠ .wait)) := by decide +kernel

theorem witness_ChannelsAreRegulatedAndProtected_e :
  let s : State := valved [(It.chState 11, 8)] { at_ := 1000000 }
  let dt : Nat := 99000000000
  let ch : Fin 128 := 11
  (s.powered = true) ∧
    (s.chSt ch = 8) ∧
    ((s.vc ch).at_ + s.vget (ch / 8) (It.chRetryMs ch) * 1000000 ≤ s.up + dt) ∧
    ((s.vc ch).rodSafe = false) ∧
    (s.get (It.bankState (ch / 8)) = 1) ∧
    (s.vget (ch / 8) (It.chMode ch) = 1) := by decide +kernel

theorem witness_BanksFailSafeAndRecover_a :
  let s : State := valved ((List.range 8).map fun i => (It.chState (8 + i), 1)) {}
  let dt : Nat := 5
  let bank : Fin 16 := 1
  (s.powered = true) ∧
    (bank.val < s.valve.banks.length) ∧
    (s.valve.chans.length = 128) ∧
    (s.get (It.bankState bank) = 1) ∧
    (s.get (It.bankSafeCause bank) = 0) ∧
    (s.get (It.bankFault bank) = 0) ∧
    (s.vget bank (It.bankEnable bank) = 1) ∧
    ((s.vb bank).idle = false) ∧
    ((s.vb bank).wait = none) ∧
    ((s.vb bank).queue = []) ∧
    ((∀ i < 8, s.chSt (bank.val * 8 + i) = 1)) ∧
    ((∀ i < 8, (s.vc (bank.val * 8 + i)).run = none)) ∧
    ((∀ i < 8, (s.vc (bank.val * 8 + i)).safe = .none)) := by decide +kernel

theorem witness_BanksFailSafeAndRecover_b :
  let s : State := valved [] {}
  let dt : Nat := 5
  let volts : Nat := 5898240
  let bank : Fin 16 := 1
  (s.powered = true) ∧
    (s.tierOf bank = 0) ∧
    (90 * 65536 ≤ volts) ∧
    (s.get (It.bankFault bank) = 0) ∧
    (s.bankCode bank = s.get (It.bankState bank)) ∧
    ((∀ q ∈ (s.vb bank).queue, q.reason = none)) ∧
    ((∀ c < 128, (s.vc c).safe ≠ .wait)) := by decide +kernel

theorem witness_BanksFailSafeAndRecover_c :
  let s : State := (valved [] {}).modVb 1 (fun v => { v with notReady := some 70 })
  let dt : Nat := 5000000
  let t0 : Nat := 70
  let bank : Fin 16 := 1
  (s.powered = true) ∧
    ((s.vb bank).notReady = some t0) ∧
    (t0 + 5000000 ≤ s.up + dt) ∧
    (s.get (It.bankFault bank) = 0) ∧
    (s.bankCode bank = s.get (It.bankState bank)) ∧
    ((∀ c < 128, (s.vc c).safe ≠ .wait)) := by decide +kernel

theorem witness_BanksFailSafeAndRecover_d :
  let s : State := served
  let dt : Nat := 5
  let volts : Nat := 2359296
  let die : Fin 4 := 3
  (s.powered = true) ∧
    (sagTier (s.tierOf (die.val * 4)) volts = s.tierOf (die.val * 4)) := by decide +kernel

theorem witness_BanksFailSafeAndRecover_e :
  let s : State := sets [(It.boostV 13, 5000000)] served
  let dt : Nat := 5
  let volts : Nat := 2000000
  let die : Fin 4 := 3
  (s.powered = true) ∧
    (s.tierOf (die.val * 4) = 0) ∧
    (30 * 65536 ≤ volts) ∧
    (volts < 34 * 65536) ∧
    ((∀ i < 4, s.get (It.bankState (die.val * 4 + i)) = 0)) ∧
    ((∀ i < 4, s.vget (die.val * 4 + i) (It.bankEnable (die.val * 4 + i)) = 0)) ∧
    ((∀ i < 4, s.get (It.bankFault (die.val * 4 + i)) = 0)) ∧
    ((∀ i < 4, (s.vb (die.val * 4 + i)).queue = [])) ∧
    ((∀ c < 128, (s.vc c).safe ≠ .wait)) := by decide +kernel

theorem witness_BanksFailSafeAndRecover_f :
  let s : State := (valved [] {}).modVb 1 (fun v => { v with wait := some (70, false) })
  let dt : Nat := 20000000
  let t0 : Nat := 70
  let bank : Fin 16 := 1
  (s.powered = true) ∧
    ((s.vb bank).wait = some (t0, false)) ∧
    (t0 + 20000000 ≤ s.up + dt) ∧
    ((∀ b < 16, b = bank.val ∨ (s.vb b).wait = none)) := by decide +kernel

theorem witness_BanksFailSafeAndRecover_g :
  let s : State := let r := sets ((List.range 16).map (fun b => (It.bankState b, 1)) ++ (List.range 128).map (fun c => (It.chState c, 1))) served; { r with valve := { r.valve with dies := r.valve.dies.map fun d => { d with cfg := (sets ((List.range 16).map fun b => (It.bankEnable b, 1)) served).items } } }
  let dt : Nat := 2000000
  let die : Fin 4 := 3
  (s.powered = true) ∧
    (s.valve.banks.length = 16) ∧
    (s.valve.chans.length = 128) ∧
    ((s.follower (die.val * 4)).lastMsg + 2000000 ≤ s.up + dt) ∧
    ((∀ b < 16, b / 4 ≠ die.val ∨ (s.get (It.bankState b) = 1 ∧ s.get (It.bankSafeCause b) = 0 ∧ s.get (It.bankFault b) = 0 ∧ s.vget b (It.bankEnable b) = 1 ∧ (s.vb b).idle = false ∧ (s.vb b).wait = none ∧ (s.vb b).queue = []))) ∧
    ((∀ c < 128, c / 32 ≠ die.val ∨ (s.chSt c = 1 ∧ (s.vc c).run = none ∧ s.vget (c / 8) (It.chSafe c) = 0))) ∧
    ((∀ c < 128, (s.vc c).safe = .none)) := by decide +kernel

theorem witness_ValveCommandsAnswer_a :
  let s : State := sets [(It.chMode 11, 1), (It.bankState 1, 1), (It.profKind 0, 1)] served
  let dt : Nat := 5
  let m : Fin 16 := 0
  let p : List Byte := [1, 0, 0, 0] ++ toLE 8 1000100 ++ toLE 4 5 ++ [11, 1, 1, 0] ++ toLE 4 0 ++ toLE 4 0
  let h : Hdr := wHdr m 0x0900 p
  (Accepts m (rowFrame 0x0900 h p) (s.advance dt)) ∧
    (0 < u16At p 0) ∧
    (u16At p 0 ≤ 40) ∧
    (zeroAt p 2 2 = true) ∧
    ((∀ i < 40, u16At p 0 ≤ i ∨ (taking m (rowFrame 0x0900 h p) (s.advance dt)).beadRefused ((p.drop (4 + 24 * i)).take 24) = none)) := by decide +kernel

theorem witness_ValveCommandsAnswer_b :
  let s : State := (valved [] {}).modVb 1 (fun v => { v with queue := [{ bead := beadW }] })
  let dt : Nat := 5
  let m : Fin 16 := 0
  let p : List Byte := [1, 255, 1, 0, 5, 0, 0, 0]
  let q : QBead := { bead := beadW }
  let h : Hdr := wHdr m 0x0901 p
  (Accepts m (rowFrame 0x0901 h p) (s.advance dt)) ∧
    (u8At p 0 ≤ 15) ∧
    (u8At p 1 = 0xff) ∧
    (u8At p 2 = 1) ∧
    (zeroAt p 3 1 = true) ∧
    ((s.vb (u8At p 0)).queue = [q]) ∧
    ((s.vb (u8At p 0)).started = []) ∧
    (q.bead.master = true) ∧
    (q.bead.key.toNat = u32At p 4) := by decide +kernel

theorem witness_ValveCommandsAnswer_c :
  let s : State := (valved [] {}).modVb 1 (fun v => { v with queue := [{ bead := beadW }] })
  let dt : Nat := 5
  let m : Fin 16 := 0
  let p : List Byte := [1, 0, 0, 0, 40, 0, 0, 0]
  let h : Hdr := wHdr m 0x0902 p
  (Accepts m (rowFrame 0x0902 h p) (s.advance dt)) ∧
    (u8At p 0 ≤ 15) ∧
    (u16At p 2 ≤ 1023) ∧
    (0 < u16At p 4) ∧
    (u16At p 4 ≤ 40) ∧
    (zeroAt p 1 1 = true) ∧
    (zeroAt p 6 2 = true) := by decide +kernel

theorem witness_ValveCommandsAnswer_d :
  let s : State := (valved [] {}).modVb 1 (fun v => { v with log := [[1, 2]] })
  let dt : Nat := 5
  let m : Fin 16 := 0
  let p : List Byte := [1, 0, 0, 0]
  let h : Hdr := wHdr m 0x0903 p
  (Accepts m (rowFrame 0x0903 h p) (s.advance dt)) ∧
    (u8At p 0 ≤ 15) ∧
    (zeroAt p 1 3 = true) := by decide +kernel

theorem witness_ValveCommandsAnswer_e :
  let s : State := valved [(It.chState 11, 9)] {}
  let dt : Nat := 5
  let m : Fin 16 := 0
  let p : List Byte := [1, 3, 0, 0]
  let h : Hdr := wHdr m 0x0904 p
  (Accepts m (rowFrame 0x0904 h p) (s.advance dt)) ∧
    (u8At p 0 ≤ 15) ∧
    (u8At p 1 ≤ 7) ∧
    (zeroAt p 2 2 = true) ∧
    (s.chSt (u8At p 0 * 8 + u8At p 1) = 9) := by decide +kernel

theorem witness_ValveCommandsAnswer_f :
  let s : State := (valved [(It.chState 11, 9)] { trips := 5 }).modValve (fun v => { v with clears := [(1, 3, 9)] })
  let dt : Nat := 5
  let k : Nat := 9
  let bank : Fin 16 := 1
  let ch : Fin 8 := 3
  (s.live = true) ∧
    (bank.val * 8 + ch.val < s.valve.chans.length) ∧
    (s.valve.clears = [(bank.val, ch.val, k)]) ∧
    (k < s.clk.kLast) ∧
    (s.chSt (bank.val * 8 + ch.val) = 9) ∧
    ((s.vc (bank.val * 8 + ch.val)).rodSafe = false) ∧
    (s.get (It.bankState bank) = 1) ∧
    (s.vget bank (It.chMode (bank.val * 8 + ch.val)) = 1) := by decide +kernel

theorem witness_ValveCommandsAnswer_g :
  let s : State := valved [(It.chState 11, 1)] {}
  let dt : Nat := 5
  let m : Fin 16 := 0
  let p : List Byte := [11, 0, 0, 0]
  let h : Hdr := wHdr m 0x0905 p
  (Accepts m (rowFrame 0x0905 h p) (s.advance dt)) ∧
    (u8At p 0 ≤ 127) ∧
    (zeroAt p 1 3 = true) ∧
    (s.chSt (u8At p 0) ≤ 1) := by decide +kernel

theorem witness_ValveCommandsAnswer_h :
  let s : State := valved [(It.chState 11, 1)] { measuring := true }
  let dt : Nat := 5
  let ch : Fin 128 := 11
  (s.live = true) ∧
    ((s.vc ch).measuring = true) := by decide +kernel

theorem witness_ValveCommandsAnswer_i :
  let s : State := valved [(It.chState 11, 1)] { measuring := true }
  let dt : Nat := 5
  let r : Nat := (valved [] {}).vget 1 (It.chRNom 11)
  let l : Nat := (valved [] {}).vget 1 (It.chLNom 11)
  let ch : Fin 128 := 11
  (s.live = true) ∧
    ((s.vc ch).measuring = true) ∧
    (coilCode r (s.vget (ch / 8) (It.chRNom ch)) (s.vget (ch / 8) (It.chCoilTolPct ch)) = 0) ∧
    (coilCode l (s.vget (ch / 8) (It.chLNom ch)) (s.vget (ch / 8) (It.chCoilTolPct ch)) = 0) ∧
    (s.get (It.chCoilGuard ch) = 0) := by decide +kernel

theorem witness_InputsAreWatched_a :
  let s : State := (sets [(It.isoLinkB, 1)] served).modIo (fun b => { b with links := upd b.links 1 fun x => { x with inSeq := some 65535 } })
  let dt : Nat := 5
  let lane : Fin 2 := 1
  let sense : FieldSense := { counter := 77, levels := 5, edges := [(2, true, 9)], readback := 3, codes := [(7, 1)], hot := false, supply := 2400 }
  let lowCurrent : BitVec 16 := 0
  let q : Nat := 65535
  (s.live = true) ∧
    ((nth s.ring.tests (4 + lane.val)).isSome = false) ∧
    ((s.io.sec.made = 0 ∨ s.io.sec.frameAt + 25000 ≤ s.up + dt)) ∧
    (sense.noise = []) ∧
    (lane.val ≠ s.lanes.latch) ∧
    (s.get (if lane.val = 1 then It.isoLinkB else It.isoLinkA) = 1) ∧
    ((nth s.io.links lane).inSeq = some q) := by decide +kernel

theorem witness_InputsAreWatched_b :
  let s : State := (sets [(It.isoLinkA, 1)] served).modIo (fun b => { b with links := upd b.links 0 fun x => { x with lastRx := some 7 } })
  let dt : Nat := 200000
  let t0 : Nat := 7
  let lane : Fin 2 := 0
  (s.live = true) ∧
    ((nth s.io.links lane).lastRx = some t0) ∧
    (t0 + 200000 ≤ s.up + dt) ∧
    (s.get (if lane.val = 1 then It.isoLinkB else It.isoLinkA) = 1) := by decide +kernel

theorem witness_InputsAreWatched_c :
  let s : State := served.modDi 47 (fun d => { d with pend := some (70, true) })
  let dt : Nat := 5
  let stamp : Nat := 70
  let n : Fin 48 := 47
  let level : Bool := true
  (s.live = true) ∧
    (n.val < s.io.dis.length) ∧
    ((nth s.io.dis n).pend = some (stamp, level)) ∧
    (stamp + s.getAt stamp (It.diFilterUs n) * 1000 ≤ s.now + dt) := by decide +kernel

theorem witness_InputsAreWatched_d :
  let s : State := (sets [(It.diStaleMs 47, 50)] served).modDi 47 (fun d => { d with last := some 70 })
  let dt : Nat := 50000000
  let l : Nat := 70
  let n : Fin 48 := 47
  (s.live = true) ∧
    ((nth s.io.dis n).last = some l) ∧
    (s.getAt (s.now + dt) (It.diStaleMs n) ≠ 0) ∧
    (l + s.getAt (s.now + dt) (It.diStaleMs n) * 1000000 ≤ s.now + dt) ∧
    ((nth s.io.dis n).brk = false) := by decide +kernel

theorem witness_InputsAreWatched_e :
  let s : State := sets [(It.diBreakDetect 47, 1)] served
  let dt : Nat := 5
  let n : Fin 48 := 47
  (s.live = true) ∧
    (n.val < s.io.dis.length) ∧
    ((nth s.io.dis n).brk = false) ∧
    (s.getAt (s.now + dt) (It.diBreakDetect n) = 1) ∧
    (s.get (It.diGuard n) ≠ 4) := by decide +kernel

theorem witness_InputsAreWatched_f :
  let s : State := (sets [(It.aiStaleMs 15, 50)] served).modAi 15 (fun d => { d with last := some 70 })
  let dt : Nat := 50000000
  let l : Nat := 70
  let n : Fin 16 := 15
  (s.live = true) ∧
    ((nth s.io.ais n).last = some l) ∧
    (s.get (It.aiStaleMs n) ≠ 0) ∧
    (l + s.get (It.aiStaleMs n) * 1000000 ≤ s.now + dt) ∧
    ((nth s.io.ais n).bad = false) ∧
    ((nth s.io.ais n).shunt = none) := by decide +kernel

theorem witness_InputsAreWatched_g :
  let s : State := (served.modIo (fun b => { b with modes := List.replicate 16 2 })).modSec (fun c => { c with words := upd c.words 1 fun _ => 32768 })
  let dt : Nat := 5
  let n : Fin 16 := 15
  (s.live = true) ∧
    (n.val < s.io.ais.length) ∧
    (s.io.sec.aiMode n = 2) ∧
    ((nth s.io.ais n).shunt = none) := by decide +kernel

theorem witness_InputsAreWatched_h :
  let s : State := served.modAi 15 (fun a => { a with shunt := some 70 })
  let dt : Nat := 100000000
  let t0 : Nat := 70
  let n : Fin 16 := 15
  (s.live = true) ∧
    ((nth s.io.ais n).shunt = some t0) ∧
    (t0 + 100000000 ≤ s.up + dt) := by decide +kernel

theorem witness_LossInputsCountAndTest_a :
  let s : State := served.modSec (fun c => { c with words := upd c.words 2 fun _ => 255 })
  let dt : Nat := 5
  let amplitude : Nat := 9
  let n : Fin 8 := 7
  (s.powered = true) ∧
    (bit (nth s.io.sec.words 2) n = true) ∧
    (((nth s.io.lss n).hit = none ∨ ((nth s.io.lss n).hit.getD 0) + nth s.io.sec.words (13 + n.val) * 1000 ≤ s.up + dt)) ∧
    (s.io.sec.blank ≤ s.up + dt) ∧
    (nth s.io.sec.words (5 + n.val) ≤ min 65535 (amplitude * s.io.sec.lsGain n)) := by decide +kernel

theorem witness_LossInputsCountAndTest_b :
  let s : State := (sets [(It.lsStaleMs 7, 50)] served).modLs 7 (fun d => { d with last := some 70 })
  let dt : Nat := 50000000
  let l : Nat := 70
  let n : Fin 8 := 7
  (s.live = true) ∧
    ((nth s.io.lss n).last = some l) ∧
    (s.getAt (s.now + dt) (It.lsStaleMs n) ≠ 0) ∧
    (l + s.getAt (s.now + dt) (It.lsStaleMs n) * 1000000 ≤ s.now + dt) ∧
    ((nth s.io.lss n).bad = false) := by decide +kernel

theorem witness_LossInputsCountAndTest_c :
  let s : State := served.modSec (fun c => { c with words := upd c.words 2 fun _ => 128 })
  let dt : Nat := 5
  let passed : List Bool := List.replicate 8 false
  let n : Fin 8 := 7
  (s.live = true) ∧
    (n.val < s.io.lss.length) ∧
    (nth s.io.sec.words 2 = 2 ^ n.val) ∧
    (passed.getD n true = false) := by decide +kernel

theorem witness_LossInputsCountAndTest_d :
  let s : State := (sets [(It.recLsMask, 127)] served).modLs 7 (fun a => { a with win := some { start := 70, carry := 3 } })
  let dt : Nat := 99000000000
  let n : Fin 8 := 7
  let x : LsWin := { start := 70, carry := 3 }
  (s.live = true) ∧
    ((nth s.io.lss n).win = some x) ∧
    (x.start + s.get (It.lsHistMs n) * 1000000 ≤ s.now + dt) ∧
    (bit (s.get It.recLsMask) n = false) := by decide +kernel

theorem witness_LossInputsCountAndTest_e :
  let s : State := served.modLs 7 (fun a => { a with done := some [1, 2, 3] })
  let dt : Nat := 5
  let m : Fin 16 := 0
  let p : List Byte := [7, 0, 0, 0]
  let r : List Byte := [1, 2, 3]
  let h : Hdr := wHdr m 0x0a00 p
  (Accepts m (rowFrame 0x0a00 h p) (s.advance dt)) ∧
    (u8At p 0 ≤ 7) ∧
    (zeroAt p 1 3 = true) ∧
    ((nth s.io.lss (u8At p 0)).done = some r) := by decide +kernel

theorem witness_OutputsAreDriven_a :
  let s : State := { served with cam := { served.cam with pulses := [{ port := 1, out := 3, start := 1300000, width := 7, ctx := none }] }, io := { served.io with clear := 5, slice := 0 } }
  let dt : Nat := 25000
  let lane : Fin 2 := 0
  let o : OutContent := (s.advance dt).outFrame
  (s.live = true) ∧
    ((nth s.ring.tests (4 + lane.val)).isSome = false) ∧
    (nth s.ring.injects (4 + lane.val) = none) ∧
    (nth s.ring.holding (4 + lane.val) = []) ∧
    ((s.now + dt) % 25000 = 0) ∧
    ((nth s.io.links lane).outAt ≠ some (s.up + dt)) ∧
    ((s.cam.pulses.all fun p => decide (s.now + dt + 100000 ≤ p.start)) = true) ∧
    (s.get (It.laneState lane) = 4) ∧
    (o = (s.advance dt).outFrame) := by decide +kernel

theorem witness_OutputsAreDriven_b :
  let s : State := sets [(It.laneState 1, 3)] served
  let dt : Nat := 25000
  let lane : Fin 2 := 1
  (s.live = true) ∧
    ((nth s.ring.tests (4 + lane.val)).isSome = false) ∧
    (nth s.ring.injects (4 + lane.val) = none) ∧
    (nth s.ring.holding (4 + lane.val) = []) ∧
    ((s.now + dt) % 25000 = 0) ∧
    ((nth s.io.links lane).outAt ≠ some (s.up + dt)) ∧
    (s.get (It.laneState lane) = 3) := by decide +kernel

theorem witness_OutputsAreDriven_c :
  let s : State := served
  let dt : Nat := 5
  let lane : Fin 2 := 0
  let bytes : List Byte := withCrc16 ([2, 0, 9, 0, 1, 0, 0, 0, 5, 0, 2, 0] ++ List.replicate 50 0)
  (s.powered = true) ∧
    (s.accepts lane = true) ∧
    (bytes.length = 64) ∧
    (crc16 (bytes.take 62) = u16At bytes 62) ∧
    (u8At bytes 0 = 2) ∧
    (bit (u8At bytes 1) 1 = false) ∧
    (u16At bytes 12 = 0) ∧
    (bit (u8At bytes 16) 7 = false) ∧
    (bit (u8At bytes 24) 7 = false) := by decide +kernel

theorem witness_OutputsAreDriven_d :
  let s : State := (sets [(It.doRetryN 15, 3)] served).modSec (fun c => { c with have_ := true, levels := 65535 })
  let dt : Nat := 5
  let n : Fin 16 := 15
  (s.powered = true) ∧
    (n.val < s.io.dos.length) ∧
    (s.doDriven n = true) ∧
    ((nth s.io.dos n).retry = false) ∧
    ((nth s.io.dos n).latched = false) ∧
    ((nth s.io.dos n).trips = 0) ∧
    (0 < s.get (It.doRetryN n)) := by decide +kernel

theorem witness_OutputsAreDriven_e :
  let s : State := served.modDo 15 (fun d => { d with retry := true, tripAt := 9 })
  let dt : Nat := 99000000000
  let n : Fin 16 := 15
  (s.live = true) ∧
    ((nth s.io.dos n).retry = true) ∧
    ((nth s.io.dos n).tripAt + s.get (It.doRetryMs n) * 1000000 ≤ s.up + dt) := by decide +kernel

theorem witness_OutputsAreDriven_f :
  let s : State := served.modDo 15 (fun d => { d with pend := [(1499, 50)] })
  let dt : Nat := 5
  let start : Nat := 1499
  let width : Nat := 50
  let n : Fin 16 := 15
  let r : List (Nat × Nat) := []
  (s.powered = true) ∧
    (n.val < s.io.dos.length) ∧
    ((nth s.io.dos n).pend = (start, width) :: r) ∧
    (0 ≤ signedOf 32 (((s.advance dt).secCounter + 2 ^ 32 - start) % 2 ^ 32)) ∧
    (0 < width) ∧
    (s.io.sec.fsOff = false) ∧
    ((nth s.io.dos n).retry = false) ∧
    ((nth s.io.dos n).latched = false) := by decide +kernel

theorem witness_OutputsAreDriven_g :
  let s : State := served.modSec (fun c => { c with have_ := true })
  let dt : Nat := 2000000
  (s.powered = true) ∧
    (s.io.sec.have_ = true) ∧
    (s.io.sec.timedout = false) ∧
    (s.io.sec.lastFrame + 2000000 ≤ s.up + dt) ∧
    (s.io.dos.length = 16) := by decide +kernel

theorem witness_OutputsAreDriven_h :
  let s : State := served
  let dt : Nat := 5
  let volts : Nat := 1114111
  (s.powered = true) ∧
    (s.io.sec.fsLow = false) ∧
    (volts < 1114112) := by decide +kernel

theorem witness_OutputsAreDriven_i :
  let s : State := served.modDo 15 (fun d => { d with latched := true })
  let dt : Nat := 5
  let m : Fin 16 := 0
  let p : List Byte := [15, 0, 0, 0]
  let h : Hdr := wHdr m 0x0a01 p
  (Accepts m (rowFrame 0x0a01 h p) (s.advance dt)) ∧
    (u8At p 0 ≤ 15) ∧
    (zeroAt p 1 3 = true) ∧
    ((nth s.io.dos (u8At p 0)).latched = true) := by decide +kernel

theorem witness_CanFramesAndErrors_a :
  let s : State := sets [(It.canMode 5, 1), (It.fltEnable 5 0, 1), (It.fltAction 5 0, 1), (It.fltMasters 5 0, 1)] served
  let dt : Nat := 5
  let ch : Fin 6 := 5
  let got : CanArrival := { sof := 3, frame := { id := 77, ext := true, fd := false, brs := false, remote := false, dlc := 2, data := [8, 9] } }
  (s.live = true) ∧
    (s.get (It.canMode ch) ≠ 0) ∧
    (s.canCarries ch got.frame = true) ∧
    (s.get (It.canRec ch) = 0) ∧
    (s.get (It.gwCanChannel 12) ≠ ch.val) ∧
    (s.get (It.gwCanChannel 13) ≠ ch.val) ∧
    ((∀ n < 32, s.get (It.lmSource n) ≠ 5 + ch.val)) ∧
    ((∀ n < 32, s.useK (It.stSource n) ≠ 33 + ch.val)) ∧
    ((∀ c < 8, (s.ctx c).deliv = [])) ∧
    ((∀ i < 8, s.getAt (s.now + dt - got.sof) (It.hpEnable ch i) ≠ 1)) ∧
    (s.filterMatches (s.now + dt - got.sof) ch 0 got.frame = true) ∧
    (s.getAt (s.now + dt - got.sof) (It.fltAction ch 0) = 1) := by decide +kernel

theorem witness_CanFramesAndErrors_b :
  let s : State := served.modMaster 3 (fun x => { x with hpIrq := 9 })
  let dt : Nat := 5
  let part : Fin 4 := 3
  (s.live = true) := by decide +kernel

theorem witness_CanFramesAndErrors_c :
  let s : State := sets [(It.canMode 5, 1), (It.canState 5, 2), (It.canTec 5, 80)] served
  let dt : Nat := 5
  let ch : Fin 6 := 5
  (s.live = true) ∧
    (s.get (It.canMode ch) = 1) ∧
    (s.get (It.canState ch) = 2) ∧
    (s.get (It.canTec ch) + 8 < 96) ∧
    (s.get (It.canRec ch) < 96) := by decide +kernel

theorem witness_CanFramesAndErrors_d :
  let s : State := (sets [(It.canMode 5, 1), (It.canState 5, 2)] served).modCan 5 (fun c => { c with attempt := some 3, bufs := [{ idx := 3, src := 0, frame := { id := 77, ext := true, fd := false, brs := false, remote := false, dlc := 2, data := [8, 9] }, handle := 4, tag := 5, oneShot := true, el := some 1, cyc := 7 }] })
  let dt : Nat := 5
  let ch : Fin 6 := 5
  let b : TxBuf := { idx := 3, src := 0, frame := { id := 77, ext := true, fd := false, brs := false, remote := false, dlc := 2, data := [8, 9] }, handle := 4, tag := 5, oneShot := true, el := some 1, cyc := 7 }
  (s.live = true) ∧
    ((s.canCh ch).attempt = some b.idx) ∧
    ((s.canCh ch).bufs = [b]) ∧
    (b.cancel = false) ∧
    (b.oneShot = true) ∧
    (b.src ≤ 15) := by decide +kernel

theorem witness_CanFramesAndErrors_e :
  let s : State := sets [(It.canMode 5, 1), (It.canState 5, 5), (It.canTec 5, 256)] served
  let dt : Nat := 5
  let ch : Fin 6 := 5
  (s.live = true) ∧
    (s.get (It.canState ch) = 5) ∧
    ((s.canCh ch).bufs = []) := by decide +kernel

theorem witness_CanFramesAndErrors_f :
  let s : State := sets [(It.canMode 5, 1), (It.canState 5, 1)] served
  let dt : Nat := 5
  let ch : Fin 6 := 5
  (s.live = true) ∧
    (s.get (It.canMode ch) = 1) ∧
    (s.get (It.canState ch) = 1) ∧
    ((s.canCh ch).retime = false) ∧
    ((s.canCh ch).bufs = []) ∧
    (s.get (It.canTec ch) = 0) ∧
    (s.get (It.canRec ch) = 0) := by decide +kernel

theorem witness_CanFramesAndErrors_g :
  let s : State := sets [(It.canMode 5, 1), (It.canPex 5, 1), (It.canState 5, 2)] served
  let dt : Nat := 5
  let ch : Fin 6 := 5
  (s.live = true) ∧
    (s.get (It.canMode ch) = 1) ∧
    (s.get (It.canPex ch) = 1) := by decide +kernel

theorem witness_CanCommandsAnswer_a :
  let s : State := sets [(It.canMode 5, 1), (It.canState 5, 2), (It.canTxMasters 5, 1)] served
  let dt : Nat := 5
  let m : Fin 16 := 0
  let p : List Byte := [5, 0, 2, 0] ++ toLE 4 77 ++ toLE 4 5 ++ [8, 9]
  let i : Nat := 0
  let h : Hdr := wHdr m 0x0b00 p
  (Accepts m (rowFrame 0x0b00 h p) (s.advance dt)) ∧
    (u8At p 0 ≤ 5) ∧
    (u8At p 1 = 0) ∧
    (u8At p 2 ≤ 8) ∧
    (zeroAt p 3 1 = true) ∧
    (u32At p 4 ≤ 2047) ∧
    (bit (s.get (It.canTxMasters (u8At p 0))) m = true) ∧
    (s.get (It.canMode (u8At p 0)) = 1) ∧
    ((s.canCh (u8At p 0)).held = false) ∧
    ((s.canCh (u8At p 0)).freeIdx = some i) ∧
    (((s.canCh (u8At p 0)).bufs.filter fun b => decide (b.src ≤ 15)).length < 32 - reservedBufs s.get (u8At p 0)) := by decide +kernel

theorem witness_CanCommandsAnswer_b :
  let s : State := served.modCan 5 (fun c => { c with bufs := [{ idx := 3, src := 0, frame := { id := 77, ext := true, fd := false, brs := false, remote := false, dlc := 2, data := [8, 9] }, handle := 4, tag := 5, oneShot := true, el := some 1, cyc := 7 }] })
  let dt : Nat := 5
  let m : Fin 16 := 0
  let p : List Byte := [5, 0, 0, 0, 4, 0, 0, 0]
  let b : TxBuf := { idx := 3, src := 0, frame := { id := 77, ext := true, fd := false, brs := false, remote := false, dlc := 2, data := [8, 9] }, handle := 4, tag := 5, oneShot := true, el := some 1, cyc := 7 }
  let h : Hdr := wHdr m 0x0b01 p
  (Accepts m (rowFrame 0x0b01 h p) (s.advance dt)) ∧
    (u8At p 0 ≤ 5) ∧
    (zeroAt p 1 3 = true) ∧
    ((s.canCh (u8At p 0)).bufs.find? (fun x => x.handle == u32At p 4) = some b) ∧
    (b.src = m.val) ∧
    ((s.canCh (u8At p 0)).attempt = none) := by decide +kernel

theorem witness_CanCommandsAnswer_c :
  let s : State := served.modCan 5 (fun c => { c with attempt := some 3, bufs := [{ idx := 3, src := 0, frame := { id := 77, ext := true, fd := false, brs := false, remote := false, dlc := 2, data := [8, 9] }, handle := 4, tag := 5, oneShot := true, el := some 1, cyc := 7 }] })
  let dt : Nat := 5
  let m : Fin 16 := 0
  let p : List Byte := [5, 0, 0, 0, 4, 0, 0, 0]
  let b : TxBuf := { idx := 3, src := 0, frame := { id := 77, ext := true, fd := false, brs := false, remote := false, dlc := 2, data := [8, 9] }, handle := 4, tag := 5, oneShot := true, el := some 1, cyc := 7 }
  let h : Hdr := wHdr m 0x0b01 p
  (Accepts m (rowFrame 0x0b01 h p) (s.advance dt)) ∧
    (u8At p 0 ≤ 5) ∧
    (zeroAt p 1 3 = true) ∧
    ((s.canCh (u8At p 0)).bufs.find? (fun x => x.handle == u32At p 4) = some b) ∧
    (b.src = m.val) ∧
    ((s.canCh (u8At p 0)).attempt = some b.idx) := by decide +kernel

theorem witness_CanCommandsAnswer_d :
  let s : State := served
  let dt : Nat := 5
  let m : Fin 16 := 0
  let p : List Byte := [5, 0, 0, 0]
  let h : Hdr := wHdr m 0x0b02 p
  (Accepts m (rowFrame 0x0b02 h p) (s.advance dt)) ∧
    (u8At p 0 ≤ 5) ∧
    (zeroAt p 1 3 = true) := by decide +kernel

theorem witness_CanCommandsAnswer_e :
  let s : State := sets [(It.canState 5, 4)] served
  let dt : Nat := 5
  let m : Fin 16 := 0
  let p : List Byte := [5, 0, 0, 0]
  let h : Hdr := wHdr m 0x0b03 p
  (Accepts m (rowFrame 0x0b03 h p) (s.advance dt)) ∧
    (u8At p 0 ≤ 5) ∧
    (zeroAt p 1 3 = true) ∧
    (s.get (It.canState (u8At p 0)) = 4) := by decide +kernel

theorem witness_CanCommandsAnswer_f :
  let s : State := (sets [(It.hpEnable 5 7, 1)] served).modCan 5 (fun c => { c with hp := upd c.hp 7 fun _ => { seq := 2, record := [1, 2], unread := true } })
  let dt : Nat := 5
  let m : Fin 16 := 0
  let p : List Byte := [5, 7, 0, 0]
  let h : Hdr := wHdr m 0x0b04 p
  (Accepts m (rowFrame 0x0b04 h p) (s.advance dt)) ∧
    (u8At p 0 ≤ 5) ∧
    (u8At p 1 ≤ 7) ∧
    (zeroAt p 2 2 = true) ∧
    (s.get (It.hpEnable (u8At p 0) (u8At p 1)) = 1) ∧
    ((nth (s.canCh (u8At p 0)).hp (u8At p 1)).seq ≠ 0) := by decide +kernel

theorem witness_RingPortsAndMembers_a :
  let s : State := sets [(It.bypassState, 2)] served
  let dt : Nat := 5
  let port : Fin 2 := 1
  (s.speaks = true) ∧
    (s.get (It.portState port) = 0) ∧
    (s.get It.bypassState = 2) := by decide +kernel

theorem witness_RingPortsAndMembers_b :
  let s : State := sets [(It.bypassState, 2), (It.portState 1, 1), (It.portState 0, 1)] served
  let dt : Nat := 5
  let codeErrors : Nat := 9
  let port : Fin 2 := 1
  (s.speaks = true) ∧
    (s.get (It.portState port) = 1) := by decide +kernel

theorem witness_RingPortsAndMembers_c :
  let s : State := (sets [(It.portState 1, 1)] served).modRing (fun r => { r with nodes := [{ node := 7 }] })
  let dt : Nat := 5
  let src : BitVec 16 := 7
  let port : Fin 2 := 1
  let body : List Byte := []
  (s.speaks = true) ∧
    (src.toNat ≠ s.useRestart It.ringNode) ∧
    (s.ring.nodes.any (fun n => n.node == src.toNat) = true) := by decide +kernel

theorem witness_RingPortsAndMembers_d :
  let s : State := sets [(It.bypassState, 2), (It.portState 0, 1)] served
  let dt : Nat := 5
  (s.speaks = true) ∧
    (s.get It.bypassState = 2) ∧
    (s.inserts = true) ∧
    (s.get (It.portState 0) = 1) ∧
    (s.get (It.portState 1) = 0) ∧
    (nth s.ring.injects 0 = none) ∧
    (nth s.ring.holding 0 = []) := by decide +kernel

theorem witness_RingPortsAndMembers_e :
  let s : State := (sets [(It.portState 1, 1)] served).modRing (fun r => { r with nodes := [{ node := 7, east := some 5 }, { node := 8, east := some 3999999 }] })
  let dt : Nat := 4000000
  let node : BitVec 16 := 7
  (s.speaks = true) ∧
    ((s.advance dt).ringPeers.any (fun n => n.node == node.toNat) = false) := by decide +kernel

theorem witness_RingPortsAndMembers_f :
  let s : State := served.modRing (fun r => { r with join := some 70 })
  let dt : Nat := 5
  let t0 : Nat := 70
  (s.speaks = true) ∧
    (s.ring.join = some t0) ∧
    (t0 ≤ s.now + dt) ∧
    (s.get It.bypassState = 0) := by decide +kernel

theorem witness_RingPortsAndMembers_g :
  let s : State := sets [(It.bypassState, 1)] served
  let dt : Nat := 5
  (s.speaks = true) ∧
    (s.get It.bypassState = 1) ∧
    (s.get (It.portState 0) = 0) ∧
    (s.get (It.portState 1) = 0) := by decide +kernel

theorem witness_RingPortsAndMembers_h :
  let s : State := sets [(It.bypassState, 3)] served
  let dt : Nat := 5
  (s.get It.bypassState = 3) := by decide +kernel

theorem witness_RingTrafficIsTaken_a :
  let s : State := sets [(It.portState 0, 1), (It.portState 1, 1)] served
  let dt : Nat := 5
  let port : Fin 2 := 1
  let bytes : List Byte := ringBytes 1 0 2 9 7 3 [1, 2]
  (s.speaks = true) ∧
    (s.get (It.portState port) = 1) ∧
    (s.get (It.portState (1 - port.val)) = 1) ∧
    (nth s.ring.injects (1 - port.val) = none) ∧
    (nth s.ring.holding (1 - port.val) = []) ∧
    (ringValid bytes = true) ∧
    (u16At bytes 6 ≠ s.useRestart It.ringNode) ∧
    (u16At bytes 4 ≠ s.useRestart It.ringNode) ∧
    (u16At bytes 4 ≠ 0xff) ∧
    (1 < u8At bytes 2) := by decide +kernel

theorem witness_RingTrafficIsTaken_b :
  let s : State := sets [(It.bindNode 5, 7)] served
  let dt : Nat := 5
  let src : BitVec 16 := 7
  let body : List Byte := [5, 0, 3, 0, 1, 0, 0, 0] ++ List.replicate 64 9
  (s.speaks = true) ∧
    (s.boundTo (u8At body 0) src.toNat = true) ∧
    (u8At body 1 = 0) ∧
    (u16At body 4 = 1) ∧
    (body.length = 72) ∧
    ((u16At body 2 + 65536 - (s.master (u8At body 0)).cmd.prod) % 65536 < 256 - (s.master (u8At body 0)).cmd.used) := by decide +kernel

theorem witness_RingTrafficIsTaken_c :
  let s : State := (sets [(It.bindNode 5, 7)] served).modMaster 5 (fun x => { x with rsp := { prod := 1, cons := 0 }, rspFrames := [{ flags := 0, seq := 7, op := 0x0500, status := 0, slate := 255, payload := [] }] })
  let dt : Nat := 5
  let src : BitVec 16 := 7
  let body : List Byte := [5, 1, 1, 0, 1, 0, 0, 0, 0, 0, 0, 0]
  (s.speaks = true) ∧
    (s.boundTo (u8At body 0) src.toNat = true) ∧
    (u8At body 1 = 1) ∧
    (u8At body 2 = 1) ∧
    (body.length = 12) ∧
    ((u16At body 4 + 65536 - (s.master (u8At body 0)).rsp.cons) % 65536 ≤ (s.master (u8At body 0)).rsp.used) := by decide +kernel

theorem witness_RingTrafficIsTaken_d :
  let s : State := (sets [(It.bindNode 5, 7), (It.bypassState, 2), (It.portState 0, 1)] served).modMaster 5 (fun x => { x with rsp := { prod := 1, cons := 0 }, rspFrames := [{ flags := 0, seq := 7, op := 0x0500, status := 0, slate := 255, payload := [] }] })
  let dt : Nat := 2000000
  let m : Fin 16 := 5
  (s.speaks = true) ∧
    (s.boundTo m (s.get (It.bindNode m)) = true) ∧
    ((s.master m).rsp.prod ≠ (s.master m).rsp.cons) ∧
    (nth s.ring.idxAt (4 * m.val + 1) + 2000000 ≤ s.now + dt) ∧
    (s.get It.bypassState = 2) ∧
    (s.inserts = true) ∧
    (s.get (It.portState 0) = 1) ∧
    (s.get (It.portState 1) = 0) ∧
    (nth s.ring.injects 0 = none) ∧
    (nth s.ring.holding 0 = []) ∧
    (s.get (It.bindNode m) ≠ 0xff) := by decide +kernel

theorem witness_RingTrafficIsTaken_e :
  let s : State := served.modRing (fun r => { r with nodes := [{ node := 7, east := some 5 }] })
  let dt : Nat := 5
  let m : Fin 16 := 0
  let p : List Byte := []
  let h : Hdr := wHdr m 0x0c00 p
  (Accepts m (rowFrame 0x0c00 h p) (s.advance dt)) := by decide +kernel

theorem witness_RingTrafficIsTaken_f :
  let s : State := sets [(It.ringEnable, 1)] served
  let dt : Nat := 5
  let m : Fin 16 := 0
  let p : List Byte := [0, 0, 0, 0]
  let h : Hdr := wHdr m 0x0c01 p
  (Accepts m (rowFrame 0x0c01 h p) (s.advance dt)) ∧
    (u8At p 0 = 0) ∧
    (zeroAt p 1 3 = true) ∧
    (s.get It.ringEnable = 1) := by decide +kernel

theorem witness_RingTrafficIsTaken_g :
  let s : State := sets [(It.ringEnable, 1), (It.bypassState, 2)] served
  let dt : Nat := 5
  let m : Fin 16 := 0
  let p : List Byte := [1, 0, 0, 0]
  let h : Hdr := wHdr m 0x0c01 p
  (Accepts m (rowFrame 0x0c01 h p) (s.advance dt)) ∧
    (u8At p 0 = 1) ∧
    (zeroAt p 1 3 = true) ∧
    (s.get It.ringEnable = 1) ∧
    (s.get It.bypassState = 2) ∧
    (s.get (It.portState 0) = 0) ∧
    (s.get (It.portState 1) = 0) := by decide +kernel

theorem witness_LinkTestsAndInjectionsRun_a :
  let s : State := (sets [(It.ltState 5, 2), (It.ltPattern 5, 1)] served).modRing (fun r => { r with tests := upd r.tests 5 fun _ => some 70 })
  let dt : Nat := 5
  let t0 : Nat := 70
  let link : Fin 6 := 5
  (s.live = true) ∧
    (2 ≤ link.val) ∧
    (nth s.ring.tests link = some t0) ∧
    (t0 ≤ s.now + dt) := by decide +kernel

theorem witness_LinkTestsAndInjectionsRun_b :
  let s : State := (sets [(It.fiAction 5, 1)] served).modRing (fun r => { r with injects := upd r.injects 5 fun _ => some { action := 1, kind := 1, depth := 1, every := 1, count := 0, bit_ := 0, until_ := 70 } })
  let dt : Nat := 5
  let link : Fin 6 := 5
  let x : Inject := { action := 1, kind := 1, depth := 1, every := 1, count := 0, bit_ := 0, until_ := 70 }
  (s.live = true) ∧
    (nth s.ring.injects link = some x) ∧
    (x.until_ ≤ s.now + dt) := by decide +kernel

theorem witness_LinkTestsAndInjectionsRun_c :
  let s : State := (sets [(It.ltState 5, 1)] served).modRing (fun r => { r with tests := upd r.tests 5 fun _ => some 70 })
  let dt : Nat := 5
  let bits : Nat := 100
  let errors : Nat := 3
  let t0 : Nat := 70
  let link : Fin 6 := 5
  (s.live = true) ∧
    (nth s.ring.tests link = some t0) := by decide +kernel

theorem witness_LinkTestsAndInjectionsRun_d :
  let s : State := sets [(It.ltState 5, 2)] served
  let dt : Nat := 5
  let bits : Nat := 100
  let errors : Nat := 3
  let link : Fin 6 := 5
  (s.live = true) ∧
    (s.get (It.ltState link) = 2) := by decide +kernel

theorem witness_LinkTestsAndInjectionsRun_e :
  let s : State := sets [(It.testAccess, 1), (It.laneState 1, 3)] served
  let dt : Nat := 5
  let m : Fin 16 := 0
  let p : List Byte := [5, 2, 0, 0] ++ toLE 4 60000
  let h : Hdr := wHdr m 0x1300 p
  (Accepts m (rowFrame 0x1300 h p) (s.advance dt)) ∧
    (2 ≤ u8At p 0) ∧
    (u8At p 0 ≤ 5) ∧
    (u8At p 1 = 1 ∨ u8At p 1 = 2) ∧
    (zeroAt p 2 2 = true) ∧
    (0 < u32At p 4) ∧
    (u32At p 4 ≤ 60000) ∧
    (s.get It.testAccess ≠ 0) ∧
    (nth s.ring.tests (u8At p 0) = none) ∧
    (nth s.ring.injects (u8At p 0) = none) ∧
    (if u8At p 0 < 4 then s.get (It.laneState (1 - s.lanes.latch)) ≠ 3 else u8At p 0 - 4 = 1 - s.lanes.latch ∧ s.get (It.laneState (1 - s.lanes.latch)) = 3) := by decide +kernel

theorem witness_LinkTestsAndInjectionsRun_f :
  let s : State := (sets [(It.testAccess, 1), (It.ltState 5, 2), (It.ltPattern 5, 1)] served).modRing (fun r => { r with tests := upd r.tests 5 fun _ => some 70 })
  let dt : Nat := 5
  let m : Fin 16 := 0
  let p : List Byte := [5, 0, 0, 0]
  let t0 : Nat := 70
  let h : Hdr := wHdr m 0x1301 p
  (Accepts m (rowFrame 0x1301 h p) (s.advance dt)) ∧
    (2 ≤ u8At p 0) ∧
    (u8At p 0 ≤ 5) ∧
    (zeroAt p 1 3 = true) ∧
    (s.get It.testAccess ≠ 0) ∧
    (nth s.ring.tests (u8At p 0) = some t0) := by decide +kernel

theorem witness_LinkTestsAndInjectionsRun_g :
  let s : State := served
  let dt : Nat := 5
  let m : Fin 16 := 0
  let p : List Byte := [5, 0, 0, 0]
  let h : Hdr := wHdr m 0x1302 p
  (Accepts m (rowFrame 0x1302 h p) (s.advance dt)) ∧
    (u8At p 0 ≤ 5) ∧
    (zeroAt p 1 3 = true) := by decide +kernel

theorem witness_LinkTestsAndInjectionsRun_h :
  let s : State := sets [(It.testAccess, 1)] served
  let dt : Nat := 5
  let m : Fin 16 := 0
  let p : List Byte := [5, 3, 255, 8] ++ toLE 2 1 ++ toLE 2 1 ++ toLE 2 9 ++ toLE 2 0 ++ toLE 4 7
  let h : Hdr := wHdr m 0x1303 p
  (Accepts m (rowFrame 0x1303 h p) (s.advance dt)) ∧
    (u8At p 0 ≤ 5) ∧
    (u8At p 1 = 1 ∨ u8At p 1 = 2 ∨ u8At p 1 = 3) ∧
    (zeroAt p 10 2 = true) ∧
    (0 < u8At p 3) ∧
    (u8At p 3 ≤ 8) ∧
    (u16At p 4 ≠ 0) ∧
    (s.get It.testAccess ≠ 0) ∧
    (nth s.ring.injects (u8At p 0) = none) ∧
    (nth s.ring.tests (u8At p 0) = none) := by decide +kernel

theorem witness_LinkTestsAndInjectionsRun_i :
  let s : State := (sets [(It.testAccess, 1)] served).modRing (fun r => { r with injects := upd r.injects 5 fun _ => some { action := 1, kind := 1, depth := 1, every := 1, count := 0, bit_ := 0, until_ := 70 } })
  let dt : Nat := 5
  let m : Fin 16 := 0
  let p : List Byte := [5, 0, 0, 0] ++ toLE 12 0
  let x : Inject := { action := 1, kind := 1, depth := 1, every := 1, count := 0, bit_ := 0, until_ := 70 }
  let h : Hdr := wHdr m 0x1303 p
  (Accepts m (rowFrame 0x1303 h p) (s.advance dt)) ∧
    (u8At p 0 ≤ 5) ∧
    (u8At p 1 = 0) ∧
    (zeroAt p 10 2 = true) ∧
    (s.get It.testAccess ≠ 0) ∧
    (nth s.ring.injects (u8At p 0) = some x) := by decide +kernel

theorem witness_LanesLeaveService_a :
  let s : State := sets [(It.laneState 1, 3)] served
  let dt : Nat := 5
  let detectNs : Nat := 9
  let lane : Fin 2 := 1
  let cause : Fin 18 := 7
  (s.live = true) ∧
    (s.fw.ses = none) ∧
    (s.get (It.laneState lane) = 3) ∧
    (s.lanes.latch ≠ lane.val) ∧
    (s.lanes.sw = none) ∧
    (0 < cause.val) ∧
    (cause.val < 8) := by decide +kernel

theorem witness_LanesLeaveService_b :
  let s : State := served
  let dt : Nat := 5
  (s.live = true) ∧
    (s.fw.ses = none) ∧
    (s.lanes.accepting = true) ∧
    (s.lanes.latch < 2) ∧
    (s.get (It.laneState s.lanes.latch) = 4) ∧
    (s.get (It.laneState (1 - s.lanes.latch)) ≠ 3) ∧
    (s.lanes.sw = none) ∧
    (s.panel.upd = none) := by decide +kernel

theorem witness_LanesLeaveService_c :
  let s : State := { served with cfgK := (sets [(It.redTenantCritical, 7)] served).items }
  let dt : Nat := 5
  let lane : Fin 2 := 1
  let part : Fin 4 := 3
  (s.live = true) ∧
    (s.fw.ses = none) ∧
    (bit (s.useK It.redTenantCritical) part = false) ∧
    (s.lanes.latch ≠ lane.val) := by decide +kernel

theorem witness_LanesLeaveService_d :
  let s : State := served
  let dt : Nat := 5
  let lane : Fin 2 := 1
  (s.live = true) := by decide +kernel

theorem witness_LanesLeaveService_e :
  let s : State := served
  let dt : Nat := 5
  let lane : Fin 2 := 1
  let lpddr : Bool := true
  (s.live = true) := by decide +kernel

theorem witness_LanesLeaveService_f :
  let s : State := served.modLanes (fun l => { l with accepting := false, gap := some { lane := 1, cause := 3, detect := 5, at_ := 70 } })
  let dt : Nat := 20000
  let g : Gap := { lane := 1, cause := 3, detect := 5, at_ := 70 }
  (s.live = true) ∧
    (s.fw.ses = none) ∧
    (s.lanes.gap = some g) ∧
    (g.at_ + 20000 ≤ s.up + dt) := by decide +kernel

theorem witness_LanesTakeTheRole_a :
  let s : State := (sets [(It.laneState 1, 3)] served).modLanes (fun l => { l with sw := some { target := 1, initiator := 0, cycle := 7 }, copied := some { cycle := 8, items := [], mail := {}, sb := {}, can := {}, stage := [], pend := none, cmds := State.reset.cmdState } })
  let dt : Nat := 5
  let x : Switch := { target := 1, initiator := 0, cycle := 7 }
  (s.live = true) ∧
    (s.fw.ses = none) ∧
    (s.lanes.sw = some x) ∧
    (s.lanes.gap = none) ∧
    (x.cycle + 1 < s.clk.kLast) ∧
    (s.standby = true) ∧
    (s.get (It.laneState x.target) = 3) ∧
    ((nth s.ring.tests (4 + x.target)).isSome = false) ∧
    (x.ks = none) ∧
    ((s.lanes.copied.any fun c => decide (x.cycle ≤ c.cycle) && decide (c.cycle + 1 < s.clk.kLast)) = true) ∧
    (s.midResponse = false) := by decide +kernel

theorem witness_LanesTakeTheRole_b :
  let s : State := (sets [(It.laneState 1, 3)] served).modLanes (fun l => { l with sw := some { target := 1, initiator := 0, cycle := 7, ks := some 9 }, copied := some { cycle := 8, items := [], mail := {}, sb := {}, can := {}, stage := [], pend := none, cmds := State.reset.cmdState } })
  let dt : Nat := 5
  let k : Nat := 9
  let x : Switch := { target := 1, initiator := 0, cycle := 7, ks := some 9 }
  (s.live = true) ∧
    (s.fw.ses = none) ∧
    (s.lanes.sw = some x) ∧
    (x.ks = some k) ∧
    (s.lanes.accepting = true) ∧
    ((s.lanes.copied.any fun c => decide (k ≤ c.cycle + 1)) = true) ∧
    (s.panel.upd = none) ∧
    (x.initiator < 2) := by decide +kernel

theorem witness_LanesTakeTheRole_c :
  let s : State := (sets [(It.laneState 1, 3), (It.laneState 0, 5)] served).modLanes (fun l => { l with accepting := false, gap := some { lane := 0, cause := 3, detect := 5, at_ := 70, quiet := true } })
  let dt : Nat := 5
  let lane : Fin 2 := 1
  let g : Gap := { lane := 0, cause := 3, detect := 5, at_ := 70, quiet := true }
  (s.phase = .up) ∧
    (s.fw.ses = none) ∧
    (s.lanes.gap = some g) ∧
    (g.lane ≠ lane.val) ∧
    (g.quiet = true) ∧
    (g.yielded = false) ∧
    (s.get (It.laneState lane) = 3) ∧
    ((nth s.ring.tests (4 + lane.val)).isSome = false) ∧
    (nth s.lanes.marks lane ≠ 1) ∧
    (s.lanes.copied = none) ∧
    ((∀ l < 6, nth s.ring.injects l = none)) ∧
    (s.cam.pulses = []) ∧
    (s.io.sent = []) ∧
    (s.panel.rec_ = none) ∧
    ((∀ c < 128, (s.vc c).rodSafe = s.rods.rods.any fun r => r.fsChan == some c)) ∧
    ((∀ ch < 6, (s.canCh ch).bufs = [])) := by decide +kernel

theorem witness_LanesTakeTheRole_d :
  let s : State := (sets [(It.laneState 1, 5), (It.laneState 0, 2)] served).modLanes (fun l => { l with accepting := false, sw := some { target := 1, initiator := 0, cycle := 7, ks := some 9 }, gap := some { lane := 0, cause := 15, detect := 0, at_ := 70, quiet := true, yielded := true } })
  let dt : Nat := 200000
  let g : Gap := { lane := 0, cause := 15, detect := 0, at_ := 70, quiet := true, yielded := true }
  let x : Switch := { target := 1, initiator := 0, cycle := 7, ks := some 9 }
  (s.live = true) ∧
    (s.fw.ses = none) ∧
    (s.lanes.gap = some g) ∧
    (g.yielded = true) ∧
    (g.late = false) ∧
    (g.at_ + 200000 ≤ s.up + dt) ∧
    (g.lane < 2) ∧
    (s.get (It.laneState g.lane) = 2) ∧
    (s.get (It.laneState (1 - g.lane)) ≠ 3) ∧
    (s.lanes.sw = some x) ∧
    (s.panel.rec_ = none) ∧
    ((∀ c < 128, (s.vc c).rodSafe = s.rods.rods.any fun r => r.fsChan == some c)) ∧
    ((∀ ch < 6, (s.canCh ch).bufs = [])) := by decide +kernel

theorem witness_LanesTakeTheRole_e :
  let s : State := State.reset.modLanes (fun l => { l with passed := [none, some 5] })
  let dt : Nat := 99000000000
  let t0 : Nat := 5
  (s.phase = .starting) ∧
    (nth s.lanes.passed (1 - s.useRestart It.redPreferredLane) = some t0) ∧
    (t0 + s.useRestart It.redStartWaitMs * 1000000 ≤ s.up + dt) := by decide +kernel

theorem witness_CopiesKeepTheStandby_a :
  let s : State := (sets [(It.laneState 1, 3), (It.divergeCycles 1, 7)] served).modLanes (fun l => { l with flight := some { cycle := 8, items := [], mail := {}, sb := {}, can := {}, stage := [], pend := none, cmds := State.reset.cmdState } })
  let dt : Nat := 5
  let x : Copy := { cycle := 8, items := [], mail := {}, sb := {}, can := {}, stage := [], pend := none, cmds := State.reset.cmdState }
  (s.live = true) ∧
    (s.fw.ses = none) ∧
    (s.lanes.flight = some x) ∧
    (s.lanes.spoiled = false) ∧
    (s.get (It.laneState (1 - s.lanes.latch)) = 3) ∧
    (s.lanes.div = 0) := by decide +kernel

theorem witness_CopiesKeepTheStandby_b :
  let s : State := (sets [(It.laneState 1, 3)] served).modLanes (fun l => { l with flight := some { cycle := 8, items := [], mail := {}, sb := {}, can := {}, stage := [], pend := none, cmds := State.reset.cmdState } })
  let dt : Nat := 5
  let x : Copy := { cycle := 8, items := [], mail := {}, sb := {}, can := {}, stage := [], pend := none, cmds := State.reset.cmdState }
  (s.live = true) ∧
    (s.fw.ses = none) ∧
    (s.lanes.flight = some x) ∧
    (s.lanes.spoiled = false) ∧
    (s.get (It.laneState (1 - s.lanes.latch)) = 3) := by decide +kernel

theorem witness_CopiesKeepTheStandby_c :
  let s : State := (sets [(It.laneState 1, 3)] served).modLanes (fun l => { l with fails := 1, flight := some { cycle := 8, items := [], mail := {}, sb := {}, can := {}, stage := [], pend := none, cmds := State.reset.cmdState } })
  let dt : Nat := 5
  let x : Copy := { cycle := 8, items := [], mail := {}, sb := {}, can := {}, stage := [], pend := none, cmds := State.reset.cmdState }
  (s.live = true) ∧
    (s.fw.ses = none) ∧
    (s.lanes.flight = some x) ∧
    (s.lanes.fails + 1 < 3) := by decide +kernel

theorem witness_CopiesKeepTheStandby_d :
  let s : State := sets [(It.laneState 1, 2), (It.laneLink, 1)] served
  let dt : Nat := 5
  (s.live = true) ∧
    (s.fw.ses = none) ∧
    (s.get (It.laneState (1 - s.lanes.latch)) ≠ 3) := by decide +kernel

theorem witness_CopiesKeepTheStandby_e :
  let s : State := sets [(It.laneState 1, 5)] served
  let dt : Nat := 5
  (s.live = true) ∧
    (s.fw.ses = none) ∧
    (s.get (It.laneState (1 - s.lanes.latch)) ≠ 2) := by decide +kernel

theorem witness_CopiesKeepTheStandby_f :
  let s : State := let r := (sets [(It.laneState 1, 5), (It.laneCause 1, 3)] served).modLanes (fun l => { l with due := [none, some 70] }); { r with cfgK := (sets [(It.redAutoRestart, 1), (It.redRestartLimit, 3)] r).items }
  let dt : Nat := 5
  let t0 : Nat := 70
  let lane : Fin 2 := 1
  (s.live = true) ∧
    (s.fw.ses = none) ∧
    (nth s.lanes.due lane = some t0) ∧
    (t0 ≤ s.up + dt) ∧
    (s.get (It.laneState lane) = 5) ∧
    (s.lanes.gap = none) ∧
    ((s.advance dt).mayRestart lane = true) ∧
    (lane.val < s.lanes.starts.length) ∧
    ((∀ l < 6, nth s.ring.injects l = none ∧ (nth s.ring.tests l).isSome = false)) := by decide +kernel

theorem witness_CopiesKeepTheStandby_g :
  let s : State := (sets [(It.laneState 1, 1)] served).modLanes (fun l => { l with booted := [true, true] })
  let dt : Nat := 5
  let lane : Fin 2 := 1
  (s.phase = .up) ∧
    (s.fw.ses = none) ∧
    (s.get (It.laneState lane) = 1) ∧
    (s.lanes.latch ≠ lane.val) ∧
    (nth s.lanes.booted lane = true) := by decide +kernel

theorem witness_CopiesKeepTheStandby_h :
  let s : State := sets [(It.laneState 1, 2), (It.laneLink, 1)] served
  let dt : Nat := 5
  let lane : Fin 2 := 1
  (s.live = true) ∧
    (s.fw.ses = none) ∧
    (s.get (It.laneState lane) = 2) ∧
    (s.lanes.accepting = true) ∧
    (s.lanes.latch ≠ lane.val) ∧
    (s.get It.laneLink = 1) ∧
    ((nth s.ring.tests 2).isSome = false) ∧
    ((nth s.ring.tests 3).isSome = false) := by decide +kernel

theorem witness_RedundancyCommandsAnswer_a :
  let s : State := served
  let dt : Nat := 5
  let m : Fin 16 := 0
  let p : List Byte := []
  let h : Hdr := wHdr m 0x0d00 p
  (Accepts m (rowFrame 0x0d00 h p) (s.advance dt)) := by decide +kernel

theorem witness_RedundancyCommandsAnswer_b :
  let s : State := sets [(It.laneState 1, 3)] served
  let dt : Nat := 5
  let m : Fin 16 := 0
  let p : List Byte := [1, 0, 0, 0]
  let h : Hdr := wHdr m 0x0d01 p
  (Accepts m (rowFrame 0x0d01 h p) (s.advance dt)) ∧
    (u8At p 0 ≤ 1) ∧
    (zeroAt p 1 3 = true) ∧
    (s.get (It.laneState (u8At p 0)) = 3) ∧
    (s.lanes.sw = none) ∧
    (s.get It.updState < 4) := by decide +kernel

theorem witness_RedundancyCommandsAnswer_c :
  let s : State := sets [(It.laneState 1, 6)] served
  let dt : Nat := 5
  let m : Fin 16 := 0
  let p : List Byte := [1, 0, 0, 0]
  let h : Hdr := wHdr m 0x0d02 p
  (Accepts m (rowFrame 0x0d02 h p) (s.advance dt)) ∧
    (u8At p 0 ≤ 1) ∧
    (zeroAt p 1 3 = true) ∧
    (s.get (It.laneState (u8At p 0)) = 3 ∨ s.get (It.laneState (u8At p 0)) = 5 ∨ s.get (It.laneState (u8At p 0)) = 6) ∧
    (s.get It.updState < 4) := by decide +kernel

theorem witness_SuppliesDecidePower_a :
  let s : State := served
  let dt : Nat := 5
  let volts : Nat := 1703936
  (s.phase = .up) ∧
    (s.get It.sagTier = 0) ∧
    (s.power.test = none) ∧
    (26 * 65536 ≤ volts) ∧
    (volts < 30 * 65536) ∧
    (s.power.overs = false) := by decide +kernel

theorem witness_SuppliesDecidePower_b :
  let s : State := served
  let dt : Nat := 5
  let volts : Nat := 5242881
  (s.phase = .up) ∧
    (s.get It.sagTier = 0) ∧
    (s.power.test = none) ∧
    (80 * 65536 < volts) ∧
    (s.power.overs = false) := by decide +kernel

theorem witness_SuppliesDecidePower_c :
  let s : State := let r := sets [(It.opState, 1), (It.holdupDecisionMs, 655360)] served; { r with power := { r.power with running := some 70 } }
  let dt : Nat := 10000000
  let t0 : Nat := 70
  (s.phase = .up) ∧
    (s.power.running = some t0) ∧
    (s.get It.holdupDecisionMs * 1000000 / 65536 ≤ s.power.counted + (s.up + dt - t0)) ∧
    (s.panel.upd = none) ∧
    (s.get It.bypassState = 0) := by decide +kernel

theorem witness_SuppliesDecidePower_d :
  let s : State := { served with power := { served.power with outside := some 70, counted := 9 } }
  let dt : Nat := 50000000
  let t0 : Nat := 70
  (s.power.outside = some t0) ∧
    (s.power.running = none) ∧
    (t0 + 50000000 ≤ s.up + dt) := by decide +kernel

theorem witness_SuppliesDecidePower_e :
  let s : State := { served with phase := .shuttingDown, power := { served.power with ka := 786432 } }
  let dt : Nat := 5
  (s.phase = .shuttingDown) ∧
    ((∀ i < 32, nth s.hist.wins i = none)) ∧
    (s.hist.queue = []) ∧
    (8 * 65536 ≤ s.power.ka) := by decide +kernel

theorem witness_SuppliesDecidePower_f :
  let s : State := { served with power := { served.power with kaLost := false } }
  let dt : Nat := 5
  let volts : Nat := 524287
  (s.phase = .up) ∧
    (volts < 8 * 65536) ∧
    (s.power.kaLost = false) := by decide +kernel

theorem witness_SuppliesDecidePower_g :
  let s : State := { served with phase := .off }
  let dt : Nat := 5
  (s.phase = .off) := by decide +kernel

theorem witness_WakesStartsAndStates_a :
  let s : State := { served with phase := .park, cfgPark := (sets [(It.parkWake, 1)] served).items }
  let dt : Nat := 5
  (s.phase = .park) ∧
    (bit (s.usePark It.parkWake) 0 = true) ∧
    (35 * 65536 ≤ s.power.main) := by decide +kernel

theorem witness_WakesStartsAndStates_b :
  let s : State := { served with phase := .park, power := { served.power with main := 9 }, cfgPark := (sets [(It.parkWake, 2), (It.canWake 5, 1)] served).items }
  let dt : Nat := 5
  let ch : Fin 6 := 5
  (s.phase = .park) ∧
    (bit (s.usePark It.parkWake) 1 = true) ∧
    (bit (s.usePark (It.canWake ch)) 0 = true) ∧
    (s.power.main < 35 * 65536) ∧
    (s.power.wake = none) := by decide +kernel

theorem witness_WakesStartsAndStates_c :
  let s : State := { served with phase := .park, cfgPark := (sets [(It.parkWake, 4), (It.parkTimerS, 60)] served).items }
  let dt : Nat := 60000000000
  (s.phase = .park) ∧
    (s.usePark It.parkTimerS ≠ 0) ∧
    (s.power.parkAt + s.usePark It.parkTimerS * 1000000000 ≤ s.up + dt) ∧
    (bit (s.usePark It.parkWake) 2 = true) ∧
    (35 * 65536 ≤ s.power.main) := by decide +kernel

theorem witness_WakesStartsAndStates_d :
  let s : State := { served with phase := .park, power := { served.power with wake := some (3, 70) } }
  let dt : Nat := 2000000000
  let src : Nat := 3
  let t0 : Nat := 70
  (s.phase = .park) ∧
    (s.power.wake = some (src, t0)) ∧
    (t0 + 2000000000 ≤ s.up + dt) := by decide +kernel

theorem witness_WakesStartsAndStates_e :
  let s : State := State.reset
  let dt : Nat := 5
  let inp : StartInputs := { rcvy := false, retained := true, passA := none, passB := none, engA := 0, engB := 0, drive := 0, ohms := 0 }
  (s.phase = .starting) ∧
    (s.fw = State.reset.fw) ∧
    (inp.rcvy = false) ∧
    (inp.passA = none) ∧
    (inp.passB = none) := by decide +kernel

theorem witness_WakesStartsAndStates_f :
  let s : State := let r := sets [(It.opState, 1)] served; { r with power := { r.power with pend := some { what := 1, cycle := 7, released := some 9 } } }
  let dt : Nat := 5
  let k : Nat := 9
  let c : Nat := 7
  let rp : Replan := { slackA := [], slackB := [], marginA := 0, marginB := 0, holdup := (0, 0) }
  (s.live = true) ∧
    (s.power.pend = some { what := 1, cycle := c, released := some k }) ∧
    (k < s.clk.kLast) ∧
    ((∀ b < 16, (s.vb b).idle = false)) ∧
    ((∀ b < 16, s.get (It.bankState b) = 0)) ∧
    ((∀ b < 16, s.vget b (It.bankEnable b) = 0)) ∧
    ((∀ x < 128, (s.vc x).safe ≠ .wait)) ∧
    (s.valve.banks.length = 16) := by decide +kernel

theorem witness_WakesStartsAndStates_g :
  let s : State := let r := sets [(It.opState, 1)] served; { r with power := { r.power with pend := some { what := 3, cycle := 7, released := some 9 } } }
  let dt : Nat := 5
  let k : Nat := 9
  let c : Nat := 7
  (s.live = true) ∧
    (s.power.pend = some { what := 3, cycle := c, released := some k }) ∧
    (k < s.clk.kLast) ∧
    (s.get It.bypassState = 0) ∧
    (s.panel.upd = none) ∧
    ((∀ l < 6, nth s.ring.injects l = none ∧ (nth s.ring.tests l).isSome = false)) := by decide +kernel

theorem witness_WakesStartsAndStates_h :
  let s : State := { served with phase := .parking, power := { served.power with ka := 786432 } }
  let dt : Nat := 5
  (s.phase = .parking) ∧
    (s.power.replan = none) ∧
    (s.power.latched = none) ∧
    ((∀ i < 32, nth s.hist.wins i = none)) ∧
    (s.hist.queue = []) ∧
    (s.panel.final = false) ∧
    (s.get It.bypassState = 0) ∧
    (8 * 65536 ≤ s.power.ka) := by decide +kernel

theorem witness_PowerCommandsAnswer_a :
  let s : State := served
  let dt : Nat := 5
  let m : Fin 16 := 0
  let p : List Byte := []
  let h : Hdr := wHdr m 0x0e00 p
  (Accepts m (rowFrame 0x0e00 h p) (s.advance dt)) := by decide +kernel

theorem witness_PowerCommandsAnswer_b :
  let s : State := sets [(It.opState, 1)] served
  let dt : Nat := 5
  let m : Fin 16 := 0
  let p : List Byte := [1, 0, 0, 0]
  let h : Hdr := wHdr m 0x0e01 p
  (Accepts m (rowFrame 0x0e01 h p) (s.advance dt)) ∧
    (u8At p 0 ≤ 1) ∧
    (zeroAt p 1 3 = true) ∧
    (s.get It.opState = 2 - u8At p 0) ∧
    (s.power.pend = none) ∧
    (s.get It.updState < 4) := by decide +kernel

theorem witness_PowerCommandsAnswer_c :
  let s : State := served
  let dt : Nat := 5
  let m : Fin 16 := 0
  let p : List Byte := [0, 0, 0, 0]
  let h : Hdr := wHdr m 0x0e02 p
  (Accepts m (rowFrame 0x0e02 h p) (s.advance dt)) ∧
    (u8At p 0 = 0) ∧
    (zeroAt p 1 3 = true) ∧
    (s.get It.updState < 4) := by decide +kernel

theorem witness_UpdateSessionsProgress_a :
  let s : State := updating 1 { sesW with blocks := [(0, 0, [1, 2, 3, 4])] }
  let dt : Nat := 5
  let i : Nat := 0
  let u : UpdSession := { sesW with blocks := [(0, 0, [1, 2, 3, 4])] }
  let data : List Byte := [1, 2, 3, 4]
  let x : Comp := { kind := 3, size := 4 }
  (s.phase = .up) ∧
    (s.fw.ses = some u) ∧
    (s.get It.updState = 1) ∧
    ((List.range u.comps.length).find? (fun j => !(u.verified.contains j) && (u.dataOf j).isSome) = some i) ∧
    (u.dataOf i = some data) ∧
    (u.comps[i]? = some x) ∧
    (({ u with verified := u.verified ++ [i] } : UpdSession).complete = true) := by decide +kernel

theorem witness_UpdateSessionsProgress_b :
  let s : State := updating 2 { sesW with blocks := [(0, 0, [1, 2, 3, 4])], verified := [0] }
  let dt : Nat := 5
  let lane : Fin 2 := 1
  let u : UpdSession := { sesW with blocks := [(0, 0, [1, 2, 3, 4])], verified := [0] }
  (s.phase = .up) ∧
    (s.fw.ses = some u) ∧
    (s.get It.updState = 2) ∧
    (u.lag = none) ∧
    (nth u.written lane = false) ∧
    (nth (upd u.written lane fun _ => true) (1 - lane.val) = false) := by decide +kernel

theorem witness_UpdateSessionsProgress_c :
  let s : State := updating 6 { sesW with mode := 0, restarts := 3 }
  let dt : Nat := 5
  let u : UpdSession := { sesW with mode := 0, restarts := 3 }
  (s.live = true) ∧
    (s.fw.ses = some u) ∧
    (s.get It.updState = 6) ∧
    (u.mode = 0) ∧
    (u.back = false) ∧
    (u.until_ ≤ s.up + dt) ∧
    (s.holdsTrial u = false) := by decide +kernel

theorem witness_UpdateSessionsProgress_d :
  let s : State := updating 1 sesW
  let dt : Nat := 60000000000
  let u : UpdSession := sesW
  (s.speaks = true) ∧
    (s.fw.ses = some u) ∧
    (s.get It.updState = 1) ∧
    (u.lastBlk + 60000000000 ≤ s.up + dt) := by decide +kernel

theorem witness_UpdateCommandsAnswer_a :
  let s : State := ({ served with items := (It.hwRevision, 3) :: (It.fuseSvQuerik 0, 1) :: (It.fuseSvQuerik 1, 2) :: served.items } : State).modMaster 0 (fun x => { x with blk := { prod := 4, cons := 0 }, blks := [{ seq := 40, payload := manW, at_ := 900000 }] })
  let dt : Nat := 5
  let m : Fin 16 := 0
  let p : List Byte := toLE 2 40 ++ [0, 0] ++ toLE 4 232 ++ toLE 4 (crc32c manW)
  let img : List Byte := manW
  let h : Hdr := wHdr m 0x0f00 p
  (Accepts m (rowFrame 0x0f00 h p) (s.advance dt)) ∧
    (u8At p 2 ≤ 1) ∧
    (zeroAt p 3 1 = true) ∧
    (s.phase = .up) ∧
    (s.get It.updState = 0) ∧
    ((s.laneFw s.lanes.latch).running.st = 4) ∧
    (((taking m (rowFrame 0x0f00 h p) (s.advance dt)).blkImage m (u16At p 0) 1 (u32At p 4) (u32At p 8)).toOption = some img) ∧
    (manOk img = true) ∧
    (s.svOk 0 (manOf img) = true) ∧
    (s.svOk 1 (manOf img) = true) ∧
    (s.hwOk (manOf img) = true) ∧
    (s.incompatible (manComps img) (manOf img).flags (u8At p 2) (s.laneFw s.lanes.latch).running = none) := by decide +kernel

theorem witness_UpdateCommandsAnswer_b :
  let s : State := (updating 1 sesW).modMaster 0 (fun x => { x with blk := { prod := 1, cons := 0 }, blks := [{ seq := 40, payload := [0, 0, 0, 0] ++ toLE 4 0 ++ toLE 4 4 ++ toLE 4 (crc32c [1, 2, 3, 4]) ++ [1, 2, 3, 4], at_ := 900000 }] })
  let dt : Nat := 5
  let m : Fin 16 := 0
  let p : List Byte := toLE 2 40 ++ toLE 2 1 ++ toLE 4 0
  let u : UpdSession := sesW
  let r : UpdSession := { sesW with lastBlk := 1500005, blocks := [(0, 0, [1, 2, 3, 4])] }
  let fs : List BlkSeen := [{ seq := 40, payload := [0, 0, 0, 0] ++ toLE 4 0 ++ toLE 4 4 ++ toLE 4 (crc32c [1, 2, 3, 4]) ++ [1, 2, 3, 4], at_ := 900000 }]
  let h : Hdr := wHdr m 0x0f01 p
  (Accepts m (rowFrame 0x0f01 h p) (s.advance dt)) ∧
    (0 < u16At p 2) ∧
    (u16At p 2 ≤ 3) ∧
    (zeroAt p 4 4 = true) ∧
    (s.fw.ses = some u) ∧
    (s.get It.updState = 1) ∧
    ((taking m (rowFrame 0x0f01 h p) (s.advance dt)).blkFrames m (u16At p 0) (u16At p 2) = some fs) ∧
    (takeBlocks 0 fs { u with lastBlk := s.up + dt } = (r, none)) := by decide +kernel

theorem witness_UpdateCommandsAnswer_c :
  let s : State := updating 3 sesW
  let dt : Nat := 5
  let m : Fin 16 := 0
  let p : List Byte := []
  let u : UpdSession := sesW
  let h : Hdr := wHdr m 0x0f02 p
  (Accepts m (rowFrame 0x0f02 h p) (s.advance dt)) ∧
    (s.fw.ses = some u) ∧
    (s.get It.updState = 3) ∧
    (s.phase = .up) ∧
    (u.mode = 1) ∧
    (u.lag = none) := by decide +kernel

theorem witness_UpdateCommandsAnswer_d :
  let s : State := updating 6 sesW
  let dt : Nat := 5
  let m : Fin 16 := 0
  let p : List Byte := []
  let h : Hdr := wHdr m 0x0f03 p
  (Accepts m (rowFrame 0x0f03 h p) (s.advance dt)) ∧
    (s.get It.updState = 6) := by decide +kernel

theorem witness_UpdateCommandsAnswer_e :
  let s : State := updating 1 sesW
  let dt : Nat := 5
  let m : Fin 16 := 0
  let p : List Byte := []
  let h : Hdr := wHdr m 0x0f04 p
  (Accepts m (rowFrame 0x0f04 h p) (s.advance dt)) ∧
    (s.get It.updState = 1) := by decide +kernel

theorem witness_UpdateCommandsAnswer_f :
  let s : State := served
  let dt : Nat := 5
  let m : Fin 16 := 0
  let p : List Byte := [1, 1, 0, 0]
  let h : Hdr := wHdr m 0x0f05 p
  (Accepts m (rowFrame 0x0f05 h p) (s.advance dt)) ∧
    (u8At p 0 ≤ 1) ∧
    (u8At p 1 ≤ 1) ∧
    (zeroAt p 2 2 = true) := by decide +kernel

theorem witness_UpdateCommandsAnswer_g :
  let s : State := served
  let dt : Nat := 5
  let m : Fin 16 := 0
  let p : List Byte := []
  let h : Hdr := wHdr m 0x0f06 p
  (Accepts m (rowFrame 0x0f06 h p) (s.advance dt)) ∧
    (s.get It.updState = 0) := by decide +kernel

theorem witness_UpdateCommandsAnswer_h :
  let s : State := sets [(It.sessionState 4, 2)] { served with phase := .recovery, mail := { served.mail with owner := some 4 } }
  let dt : Nat := 5
  let m : Fin 16 := 4
  let p : List Byte := []
  let h : Hdr := wHdr m 0x0f07 p
  (Accepts m (rowFrame 0x0f07 h p) (s.advance dt)) ∧
    (s.phase = .recovery) ∧
    (s.fw.rcvy = false) := by decide +kernel

theorem witness_RecordsAreKeptAndRead_a :
  let s : State := (sets [(It.recKind 31, 1), (It.recWindowS 31, 1)] served).modHist (fun h => { h with wins := upd h.wins 31 fun _ => some { start := 70, carry := 3, part := true } })
  let dt : Nat := 1000000000
  let ch : Fin 32 := 31
  let x : RecWin := { start := 70, carry := 3, part := true }
  (s.live = true) ∧
    (ch.val < s.hist.wins.length) ∧
    (nth s.hist.wins ch = some x) ∧
    ((x.start / (s.get (It.recWindowS ch) * 1000000000) + 1) * (s.get (It.recWindowS ch) * 1000000000) ≤ s.now + dt) ∧
    (s.get (It.recKind ch) = 1) ∧
    (queueBytes s.hist.queue + 200 ≤ 1048576) := by decide +kernel

theorem witness_RecordsAreKeptAndRead_b :
  let s : State := served.modHist (fun h => { h with queue := [{ kind := 1, epoch := 2, carry := 3, start := 4, fin := 5, calendar := 6, lane := 0, flags := 1, chan := 7, body := [1, 2], cycle := 8 }] })
  let dt : Nat := 5
  let r : Record := { kind := 1, epoch := 2, carry := 3, start := 4, fin := 5, calendar := 6, lane := 0, flags := 1, chan := 7, body := [1, 2], cycle := 8 }
  let q : List Record := []
  (s.live = true) ∧
    (s.lanes.accepting = true) ∧
    (s.hist.queue = r :: q) ∧
    (s.sb.txnOpen = []) := by decide +kernel

theorem witness_RecordsAreKeptAndRead_c :
  let s : State := sets [(It.ageTrendH, 1), (It.opState, 1)] served
  let dt : Nat := 3600000000000
  (s.live = true) ∧
    ((s.get It.opState = 1 ∨ s.get It.opState = 2)) ∧
    ((s.hist.lastTrend / (s.get It.ageTrendH * 3600000000000) + 1) * (s.get It.ageTrendH * 3600000000000) ≤ s.now + dt) := by decide +kernel

theorem witness_RecordsAreKeptAndRead_d :
  let s : State := served.modHist (fun h => { h with canary := [none, some 2000000] })
  let dt : Nat := 5
  let slack : Nat := 3000000
  let lane : Fin 2 := 1
  (s.live = true) ∧
    (30 * 65536 ≤ slack) := by decide +kernel

theorem witness_RecordsAreKeptAndRead_e :
  let s : State := served.modHist (fun h => { h with hist := [{ seq := 4, bytes := [1, 2] }, { seq := 5, bytes := [3] }] })
  let dt : Nat := 5
  let m : Fin 16 := 0
  let p : List Byte := [0, 0, 0, 0, 5, 0, 0, 0]
  let h : Hdr := wHdr m 0x1000 p
  (Accepts m (rowFrame 0x1000 h p) (s.advance dt)) ∧
    (u8At p 0 = 0) ∧
    (zeroAt p 1 3 = true) := by decide +kernel

theorem witness_RecordsAreKeptAndRead_f :
  let s : State := served.modHist (fun h => { h with hist := [{ seq := 4, bytes := [1, 2] }] })
  let dt : Nat := 5
  let m : Fin 16 := 0
  let p : List Byte := [0, 0, 0, 0]
  let h : Hdr := wHdr m 0x1001 p
  (Accepts m (rowFrame 0x1001 h p) (s.advance dt)) ∧
    (u8At p 0 = 0) ∧
    (zeroAt p 1 3 = true) := by decide +kernel

theorem witness_RecordsAreKeptAndRead_g :
  let s : State := served.modHist (fun h => { h with plan := some [1, 2] })
  let dt : Nat := 5
  let m : Fin 16 := 0
  let p : List Byte := []
  let b : List Byte := [1, 2]
  let h : Hdr := wHdr m 0x1100 p
  (Accepts m (rowFrame 0x1100 h p) (s.advance dt)) ∧
    (s.hist.plan = some b) := by decide +kernel

theorem witness_RecordsAreKeptAndRead_h :
  let s : State := sets [(It.chROhm 127, 99)] served
  let dt : Nat := 5
  let m : Fin 16 := 0
  let p : List Byte := [8, 0, 127, 0]
  let h : Hdr := wHdr m 0x1101 p
  (Accepts m (rowFrame 0x1101 h p) (s.advance dt)) ∧
    (0 < u8At p 0) ∧
    (u8At p 0 ≤ 10) ∧
    (zeroAt p 1 1 = true) ∧
    (u16At p 2 < monInstances (u8At p 0)) ∧
    (s.hist.sums.find? (fun a => a.mon == u8At p 0 && a.inst == u16At p 2) = none) ∧
    (monItem (u8At p 0) (u16At p 2) ≠ It.framesRx m) := by decide +kernel

theorem witness_PanelUpdatesAndRests_a :
  let s : State := (sets [(It.panelState, 0), (It.panelBand, 4), (It.holdupReserveMs, 200000), (It.panelPage, 3), (It.opState, 1)] served).modPanel (fun x => { x with want := true, pages := x.pages.map fun _ => [7, 7] })
  let dt : Nat := 5
  let ohms : Nat := 131072000
  let target : Nat := 3
  let clr : Bool := false
  (s.live = true) ∧
    (s.panel.upd = none) ∧
    (s.panelNext = some (target, clr)) ∧
    (s.panelFree = true) ∧
    (2 * 65536 ≤ s.get It.holdupReserveMs) ∧
    (ohms ≤ 2000 * 65536) := by decide +kernel

theorem witness_PanelUpdatesAndRests_b :
  let s : State := served.modPanel (fun x => { x with upd := some { target := 3, image := [7], clearing := true, prev := none, band := 4, total := 9, start := 70 } })
  let dt : Nat := 5
  let temp : Int := 2000000
  let u : PanelUpd := { target := 3, image := [7], clearing := true, prev := none, band := 4, total := 9, start := 70 }
  (s.live = true) ∧
    (s.panel.upd = some u) ∧
    (u.frame < u.total) := by decide +kernel

theorem witness_PanelUpdatesAndRests_c :
  let s : State := (sets [(It.panelState, 1), (It.panelBand, 4)] served).modPanel (fun x => { x with upd := some { target := 3, image := [7], clearing := true, prev := none, band := 4, frame := 9, total := 9, start := 70 } })
  let dt : Nat := 5
  let u : PanelUpd := { target := 3, image := [7], clearing := true, prev := none, band := 4, frame := 9, total := 9, start := 70 }
  (s.live = true) ∧
    (s.panel.upd = some u) ∧
    (u.total ≤ u.frame) ∧
    (u.suspect = false) ∧
    (s.get It.panelState ≠ 3) := by decide +kernel

theorem witness_PanelUpdatesAndRests_d :
  let s : State := (sets [(It.panelState, 0), (It.panelBand, 4)] served).modPanel (fun x => { x with read := true })
  let dt : Nat := 5
  let temp : Int := -1400000
  (s.live = true) ∧
    (s.panel.upd = none) ∧
    (s.panel.read = true) ∧
    (s.get It.panelState ≠ 3) := by decide +kernel

theorem witness_PanelUpdatesAndRests_e :
  let s : State := served
  let dt : Nat := 5
  let ohms : Nat := 131072001
  (s.live = true) ∧
    (s.panel.upd = none) ∧
    (2000 * 65536 < ohms) := by decide +kernel

theorem witness_PanelUpdatesAndRests_g :
  let s : State := served
  let dt : Nat := 5
  let m : Fin 16 := 0
  let p : List Byte := []
  let h : Hdr := wHdr m 0x1201 p
  (Accepts m (rowFrame 0x1201 h p) (s.advance dt)) := by decide +kernel

theorem witness_PanelUpdatesAndRests_h :
  let s : State := served
  let dt : Nat := 5
  let m : Fin 16 := 0
  let p : List Byte := []
  let h : Hdr := wHdr m 0x1202 p
  (Accepts m (rowFrame 0x1202 h p) (s.advance dt)) ∧
    (s.get It.panelState ≠ 3) := by decide +kernel

theorem witness_StepTakesTheFront_b :
  let s : State := served
  (s.pending = []) := by decide +kernel

theorem witness_NothingRunsWithoutPower_a :
  let s : State := { served with phase := .park }
  let i : Instr := .beadDue 5 3
  (s.phase = .off ∨ s.phase = .park) ∧
    (supplyRow i = false) := by decide +kernel

theorem witness_NothingRunsWithoutPower_b :
  let s : State := { served with phase := .off }
  let i : Instr := .beadDue 5 3
  (s.phase = .off) := by decide +kernel

theorem witness_NothingRunsWithoutPower_c :
  let s : State := { served with phase := .shuttingDown }
  let i : Instr := .heartbeat 5 0 (wHdr 0 0x0102 []) []
  let c : OpCmd := { code := 0x0102, dt := 5, m := 0, h := wHdr 0 0x0102 [], p := [] }
  (opRow i = some c) ∧
    (s.speaks = false) := by decide +kernel

theorem witness_RefusedFramesHaveNoEffect_a :
  let s : State := served
  let i : Instr := .heartbeat 5 0 { wHdr 0 0x0102 [] with check := 1 } []
  let c : OpCmd := { code := 0x0102, dt := 5, m := 0, h := { wHdr 0 0x0102 [] with check := 1 }, p := [] }
  let st : Nat := stIntegrity
  (opRow i = some c) ∧
    (Reaches c.m c.frame (s.advance c.dt)) ∧
    (frontCheck c.m c.frame (s.advance c.dt) = .refuse st) := by decide +kernel

theorem witness_RefusedFramesHaveNoEffect_b :
  let s : State := served
  let i : Instr := .heartbeat 5 0 (wHdr 1 0x0102 []) []
  let c : OpCmd := { code := 0x0102, dt := 5, m := 0, h := wHdr 1 0x0102 [], p := [] }
  (opRow i = some c) ∧
    (Reaches c.m c.frame (s.advance c.dt)) ∧
    (frontCheck c.m c.frame (s.advance c.dt) = .discard) := by decide +kernel

theorem witness_RefusedFramesHaveNoEffect_c :
  let s : State := { served with mail := { served.mail with owner := some 3 } }
  let i : Instr := .ownRelease 5 0 (wHdr 0 0x0104 []) []
  let c : OpCmd := { code := 0x0104, dt := 5, m := 0, h := wHdr 0 0x0104 [], p := [] }
  let st : Nat := stNotOwner
  (opRow i = some c) ∧
    (Reaches c.m c.frame (s.advance c.dt)) ∧
    (frontCheck c.m c.frame (s.advance c.dt) = .accept) ∧
    (kept c.m c.frame (s.advance c.dt) = none) ∧
    (backCheck c.m c.frame (s.advance c.dt) = some st) := by decide +kernel

theorem witness_RefusedFramesHaveNoEffect_d :
  let s : State := (sets [(It.reckonerLoadPct, 90), (It.sessionState 2, 1)] served)
  let i : Instr := .sessionList 5 2 (wHdr 2 0x0108 []) []
  let c : OpCmd := { code := 0x0108, dt := 5, m := 2, h := wHdr 2 0x0108 [], p := [] }
  (opRow i = some c) ∧
    (Reaches c.m c.frame (s.advance c.dt)) ∧
    (frontCheck c.m c.frame (s.advance c.dt) = .accept) ∧
    (kept c.m c.frame (s.advance c.dt) = none) ∧
    (backCheck c.m c.frame (s.advance c.dt) = none) ∧
    ((s.advance c.dt).busy c.m c.code = true) := by decide +kernel

theorem witness_RefusedFramesHaveNoEffect_e :
  let s : State := served.modMaster 0 (fun ma => { ma with rsp := { prod := 250, cons := 0 } })
  let i : Instr := .heartbeat 5 0 (wHdr 0 0x0102 []) []
  let c : OpCmd := { code := 0x0102, dt := 5, m := 0, h := wHdr 0 0x0102 [], p := [] }
  (opRow i = some c) ∧
    (s.speaks = true) ∧
    (s.serves c.m = false ∨ s.rspRoom c.m = false ∨ (s.master c.m).waiting ≠ []) := by decide +kernel

theorem witness_RefusedFramesHaveNoEffect_f :
  let s : State := { sets [(It.laneState 1, 3)] served with lanes := { served.lanes with used := 36864 } }
  let i : Instr := .ownRelease 5 0 (wHdr 0 0x0104 []) []
  let c : OpCmd := { code := 0x0104, dt := 5, m := 0, h := wHdr 0 0x0104 [], p := [] }
  (opRow i = some c) ∧
    (s.speaks = true) ∧
    (s.serves c.m = true) ∧
    (s.rspRoom c.m = true) ∧
    ((s.master c.m).waiting = []) ∧
    (s.mayStart c.code = false) := by decide +kernel

theorem witness_CommandsAreExecutedOrRetried_a :
  let s : State := served.modMaster 0 (fun ma => { ma with cache := [{ seq := 7, op := 0x0104, status := 0, slate := 0xff, payload := [1, 2], cycle := 3, changing := true, wait := .ready }] })
  let i : Instr := .heartbeat 5 0 (wRetry 0 0x0102 []) []
  let c : OpCmd := { code := 0x0102, dt := 5, m := 0, h := wRetry 0 0x0102 [], p := [] }
  let r : Resp := { seq := 7, op := 0x0104, status := 0, slate := 0xff, payload := [1, 2], cycle := 3, changing := true, wait := .ready }
  (opRow i = some c) ∧
    (Reaches c.m c.frame (s.advance c.dt)) ∧
    (frontCheck c.m c.frame (s.advance c.dt) = .accept) ∧
    (kept c.m c.frame (s.advance c.dt) = some r) := by decide +kernel

theorem witness_CommandsAreExecutedOrRetried_b :
  let s : State := served
  let i : Instr := .evtMaskSet 5 0 (wRetry 0 0x0109 [1, 0, 0, 0]) [1, 0, 0, 0]
  let c : OpCmd := { code := 0x0109, dt := 5, m := 0, h := wRetry 0 0x0109 [1, 0, 0, 0], p := [1, 0, 0, 0] }
  (opRow i = some c) ∧
    (Reaches c.m c.frame (s.advance c.dt)) ∧
    (frontCheck c.m c.frame (s.advance c.dt) = .accept) ∧
    (kept c.m c.frame (s.advance c.dt) = none) ∧
    (backCheck c.m c.frame (s.advance c.dt) = none) ∧
    ((s.advance c.dt).busy c.m c.code = false) := by decide +kernel

theorem witness_CommandsAreExecutedOrRetried_c :
  let s : State := served.modMaster 0 (fun ma => { ma with cache := [{ seq := 7, op := 0x0104, status := 0, slate := 0xff, payload := [1, 2], cycle := 3, changing := true, wait := .ready }] })
  let m : Nat := 0
  let f : Frame := rowFrame 0x0102 (wRetry 0 0x0102 []) []
  let r : Resp := { seq := 7, op := 0x0104, status := 0, slate := 0xff, payload := [1, 2], cycle := 3, changing := true, wait := .ready }
  (f.h.flags.toNat = 2) ∧
    (r ∈ (s.master m).cache) ∧
    (r.seq = f.h.seq.toNat) := by decide +kernel

theorem witness_CommandsAreExecutedOrRetried_d :
  let s : State := served
  let m : Nat := 0
  let r : Resp := { seq := 7, op := 0x0104, status := 0, slate := 0xff, payload := [1, 2], cycle := 3, changing := true, wait := .ready }
  (s.mail.reck.up = true) ∧
    (m < s.mail.masters.length) ∧
    ((s.master m).outq = []) ∧
    (r.wait = .ready) ∧
    (r.placed = 0) ∧
    (RoomFor r (s.master m)) := by decide +kernel

theorem witness_LongResponsesAreSplit_a :
  let s : State := served
  let m : Nat := 0
  let r : Resp := { seq := 7, op := 0x0108, status := 0, slate := 0xff, payload := toLE 2500 77, cycle := 3, changing := true, wait := .ready }
  (s.mail.reck.up = true) ∧
    (m < s.mail.masters.length) ∧
    ((s.master m).outq = []) ∧
    (r.wait = .ready) ∧
    (r.placed = 0) ∧
    (RoomFor r (s.master m)) := by decide +kernel

theorem witness_LongResponsesAreSplit_b :
  let served : Nat := 4
  let ma : Master := { outq := [{ seq := 7, op := 0x0108, status := 0, slate := 0xff, payload := toLE 2500 77, cycle := 3, changing := true, wait := .ready }] }
  let t : Master := (flushN 4 3 { outq := [{ seq := 7, op := 0x0108, status := 0, slate := 0xff, payload := toLE 2500 77, cycle := 3, changing := true, wait := .ready }] })
  let r : Resp := { seq := 7, op := 0x0108, status := 0, slate := 0xff, payload := toLE 2500 77, cycle := 3, changing := true, wait := .ready }
  let rest : List Resp := []
  (ma.outq = r :: rest) ∧
    (r.wait = .ready) ∧
    (r.placed = 0) ∧
    (RoomFor r ma) ∧
    (flushN served (respParts r) ma = t) := by decide +kernel

theorem witness_LongResponsesAreSplit_c :
  let served : Nat := 4
  let k : Nat := 1
  let r : Resp := { seq := 7, op := 0x0108, status := 0, slate := 0xff, payload := toLE 2500 77, cycle := 3, changing := true, wait := .ready }
  (k < respParts r) ∧
    (served % 2 = 0) := by decide +kernel

theorem witness_WritesAreRefusedInOrder_a :
  let s : State := served
  let direct : Bool := false
  let e : List Byte := [0, 0, 0, 1] ++ toLE 12 0
  (2 ^ 24 ≤ u32At e 0 ∨ findRow (u32At e 0) = none) := by decide +kernel

theorem witness_WritesAreRefusedInOrder_b :
  let s : State := served
  let direct : Bool := false
  let e : List Byte := toLE 4 It.mtime ++ [3, 8, 0, 0] ++ toLE 8 500
  let r : ItemRow := (findRow It.mtime).get (by decide +kernel)
  (u32At e 0 < 2 ^ 24) ∧
    (findRow (u32At e 0) = some r) ∧
    (u8At e 4 = r.ty.code) ∧
    (u8At e 5 = r.ty.bytes) ∧
    (zeroAt e 6 2 = true) ∧
    (zeroAt e (8 + r.ty.bytes) (8 - r.ty.bytes) = true) := by decide +kernel

theorem witness_WritesAreRefusedInOrder_c :
  let s : State := served
  let dt : Nat := 5
  let m : Fin 16 := 0
  let p : List Byte := [1, 0, 0, 0] ++ toLE 4 It.mtime ++ [3, 8, 0, 0] ++ toLE 8 500
  let j : Nat := 0
  let st : Nat := stConflict
  let h : Hdr := wHdr m 0x0201 p
  (Accepts m (rowFrame 0x0201 h p) (s.advance dt)) ∧
    (u16At p 0 ≤ 62) ∧
    (zeroAt p 2 2 = true) ∧
    (j < u16At p 0) ∧
    (h.slate.toNat = 0xff ∨ (h.slate.toNat < 8 ∧ s.fillable h.slate.toNat = true)) ∧
    (((taking m (rowFrame 0x0201 h p) (s.advance dt)).takeEntries (h.slate.toNat == 0xff) 0 ((List.range j).map fun i => (p.drop (4 + 16 * i)).take 16) (if h.slate.toNat = 0xff then [] else (s.slate h.slate.toNat).entries)).toOption.isSome = true) ∧
    ((match (taking m (rowFrame 0x0201 h p) (s.advance dt)).entryOf (h.slate.toNat == 0xff) ((p.drop (4 + 16 * j)).take 16) with | .error e => some e | .ok _ => none) = some st) := by decide +kernel

theorem witness_WritesAreRefusedInOrder_d :
  let s : State := (served.modSb (fun b => { b with slates := upd b.slates 3 fun x => { x with st := .opened } })).modMaster 0 (fun x => { x with blk := { prod := 1, cons := 0 }, blks := [{ seq := 40, payload := badImgW, at_ := 900000 }] })
  let dt : Nat := 5
  let m : Fin 16 := 0
  let p : List Byte := toLE 2 40 ++ toLE 2 1 ++ toLE 4 32 ++ toLE 4 (crc32c badImgW) ++ toLE 4 0
  let j : Nat := 0
  let st : Nat := stConflict
  let img : List Byte := badImgW
  let h : Hdr := wHdrAt 3 0 0x0301 (toLE 2 40 ++ toLE 2 1 ++ toLE 4 32 ++ toLE 4 (crc32c badImgW) ++ toLE 4 0)
  (Accepts m (rowFrame 0x0301 h p) (s.advance dt)) ∧
    (h.slate.toNat < 8) ∧
    (zeroAt p 12 4 = true) ∧
    (s.fillable h.slate.toNat = true) ∧
    (((taking m (rowFrame 0x0301 h p) (s.advance dt)).blkImage m (u16At p 0) (u16At p 2) (u32At p 4) (u32At p 8)).toOption = some img) ∧
    (u32At img 0 = 1) ∧
    (u32At img 4 = 0x9648) ∧
    (j < u16At img 8) ∧
    (u16At img 8 ≤ 4096) ∧
    (zeroAt img 10 2 = true) ∧
    (img.length = 16 + 16 * u16At img 8) ∧
    (((taking m (rowFrame 0x0301 h p) (s.advance dt)).takeEntries false 0 ((List.range j).map fun i => (img.drop (16 + 16 * i)).take 16) (s.slate h.slate.toNat).entries).toOption.isSome = true) ∧
    ((match (taking m (rowFrame 0x0301 h p) (s.advance dt)).entryOf false ((img.drop (16 + 16 * j)).take 16) with | .error e => some e | .ok _ => none) = some st) := by decide +kernel

theorem witness_SlatesHoldTheirLimit_a :
  let s : State := served
  let direct : Bool := false
  let i : Nat := 0
  let rows : List (List Byte) := [toLE 4 It.tallyStallMs ++ [1, 2, 0, 0] ++ toLE 8 500]
  let acc : List (Nat × Nat) := []
  let es : List (Nat × Nat) := [(It.tallyStallMs, 500)]
  ((s.takeEntries direct i rows acc).toOption = some es) := by decide +kernel

theorem witness_SlatesHoldTheirLimit_b :
  let s : State := served.modSb (fun b => { b with slates := upd b.slates 3 fun x => { x with st := .opened, entries := List.replicate 4096 (0, 0) } })
  let dt : Nat := 5
  let m : Fin 16 := 0
  let p : List Byte := [1, 0, 0, 0] ++ toLE 4 It.tallyStallMs ++ [1, 2, 0, 0] ++ toLE 8 500
  let es : List (Nat × Nat) := [(It.tallyStallMs, 500)]
  let h : Hdr := wHdrAt 3 0 0x0201 ([1, 0, 0, 0] ++ toLE 4 It.tallyStallMs ++ [1, 2, 0, 0] ++ toLE 8 500)
  (Accepts m (rowFrame 0x0201 h p) (s.advance dt)) ∧
    (0 < u16At p 0) ∧
    (u16At p 0 ≤ 62) ∧
    (zeroAt p 2 2 = true) ∧
    (h.slate.toNat < 8) ∧
    (s.fillable h.slate.toNat = true) ∧
    ((List.range (u16At p 0)).mapM (fun j => ((taking m (rowFrame 0x0201 h p) (s.advance dt)).entryOf false ((p.drop (4 + 16 * j)).take 16)).toOption) = some es) ∧
    (4096 < (es.foldl (fun a e => putEntry e a) (s.slate h.slate.toNat).entries).length) := by decide +kernel

theorem witness_SlatesHoldTheirLimit_c :
  let s : State := (served.modSb (fun b => { b with slates := upd b.slates 3 fun x => { x with st := .opened, entries := List.replicate 4096 (0, 0) } })).modMaster 0 (fun x => { x with blk := { prod := 1, cons := 0 }, blks := [{ seq := 40, payload := imgW, at_ := 900000 }] })
  let dt : Nat := 5
  let m : Fin 16 := 0
  let p : List Byte := toLE 2 40 ++ toLE 2 1 ++ toLE 4 32 ++ toLE 4 (crc32c imgW) ++ toLE 4 0
  let img : List Byte := imgW
  let es : List (Nat × Nat) := [(It.tallyStallMs, 500)]
  let h : Hdr := wHdrAt 3 0 0x0301 (toLE 2 40 ++ toLE 2 1 ++ toLE 4 32 ++ toLE 4 (crc32c imgW) ++ toLE 4 0)
  (Accepts m (rowFrame 0x0301 h p) (s.advance dt)) ∧
    (h.slate.toNat < 8) ∧
    (zeroAt p 12 4 = true) ∧
    (s.fillable h.slate.toNat = true) ∧
    (((taking m (rowFrame 0x0301 h p) (s.advance dt)).blkImage m (u16At p 0) (u16At p 2) (u32At p 4) (u32At p 8)).toOption = some img) ∧
    (u32At img 0 = 1) ∧
    (u32At img 4 = 0x9648) ∧
    (0 < u16At img 8) ∧
    (u16At img 8 ≤ 4096) ∧
    (zeroAt img 10 2 = true) ∧
    (img.length = 16 + 16 * u16At img 8) ∧
    ((List.range (u16At img 8)).mapM (fun j => ((taking m (rowFrame 0x0301 h p) (s.advance dt)).entryOf false ((img.drop (16 + 16 * j)).take 16)).toOption) = some es) ∧
    (4096 < (es.foldl (fun a e => putEntry e a) (s.slate h.slate.toNat).entries).length) := by decide +kernel

theorem witness_CountingFollowsTheProcedure_a :
  let prescale : Nat := 4
  let t : Nat := 900
  let c : Counter := { acc := 3, int := 7, debt := 2 }
  let forward : Bool := true
  let a : Int := 4
  let d : Counter := Counter.edge 4 false true 900 { acc := 3, int := 7, debt := 2 }
  (0 < prescale) ∧
    (a = c.acc + (if forward then 1 else -1)) ∧
    (d = c.edge prescale false forward t) := by decide +kernel

theorem witness_CountingFollowsTheProcedure_b :
  let prescale : Nat := 4
  let t : Nat := 900
  let c : Counter := { acc := 3, int := 7 }
  let forward : Bool := true
  (c.debt = 0) ∧
    (-(prescale : Int) ≤ c.acc) := by decide +kernel

theorem witness_TallyNeverTurnsBack_a :
  let c : Counter := { acc := 3, int := 7, st := .running, pLast := some 1000, tLast := 5 }
  let t : Nat := 100
  let u : Nat := 900
  (t ≤ u) := by decide +kernel

theorem witness_TallyNeverTurnsBack_b :
  let prescale : Nat := 4
  let t : Nat := 900
  let limit : Nat := 0
  let c : Counter := { acc := 3, int := 7, st := .running, pLast := some 1000, tLast := 5 }
  let discard : Bool := false
  let forward : Bool := true
  (TallyOk c) ∧
    (c.int + 1 < 2 ^ 48) := by decide +kernel

theorem witness_TallyNeverTurnsBack_c :
  let s : State := sets [(It.tallySource, 12)] served
  (TallyOk s.time.lane) ∧
    (s.time.lane.int + 1 < 2 ^ 48) := by decide +kernel

theorem witness_TallyNeverTurnsBack_d :
  let s : State := served
  let dt : Nat := 900
  (TallyOk s.time.lane) := by decide +kernel

theorem witness_CycleBoundaryAdvances_c :
  let s : State := { served with phase := .starting }
  let meas : List (Nat × Nat) := []
  let eq : Bool := true
  (s.clk.kLast = s.clk.mtime / 100000) ∧
    (s.live = false) ∧
    (s.phase ≠ .recovery) ∧
    (s.phase ≠ .shuttingDown) := by decide +kernel

end Sys2Proof.Tests
end

section
/-! SUPPORT. The refusal of an entry in the requests that write items (R10, R11, R97, R101, R103), and the state after reset. -/

namespace Sys2Proof.Machine

open Sys2Proof.Safety

/-! ## The tests of one entry -/

theorem State.entryOf_noItem (s : State) (direct : Bool) (e : List Byte)
    (h : 2 ^ 24 ≤ u32At e 0 ∨ findRow (u32At e 0) = none) : s.entryOf direct e = .error stNoItem := by
  have hnone : (if u32At e 0 < 2 ^ 24 then findRow (u32At e 0) else none) = none := by
    rcases h with h | h
    · exact if_neg (Nat.not_lt.2 h)
    · rw [h, ite_self]
  unfold State.entryOf
  simp only [hnone]

/-- An entry as Table 3.13 lays it out for the item of a row: its key, type code and length are the item's, and its reserved
bytes and those past the value are zero. -/
structure EntryFor (r : ItemRow) (e : List Byte) : Prop where
  key : u32At e 0 < 2 ^ 24
  row : findRow (u32At e 0) = some r
  code : u8At e 4 = r.ty.code
  size : u8At e 5 = r.ty.bytes
  reserved : zeroAt e 6 2 = true
  padding : zeroAt e (8 + r.ty.bytes) (8 - r.ty.bytes) = true

/-- The tests that are left for an entry of the right form. -/
theorem State.entryOf_formed (s : State) (direct : Bool) {e : List Byte} {r : ItemRow} (h : EntryFor r e) :
    s.entryOf direct e =
      if r.apply = .immediate ∨ r.surv = .f then .error stConflict
      else if !r.inRange (leAt e 8 r.ty.bytes) then .error stRange
      else if direct && (!directItem (u32At e 0) || s.directRefused (u32At e 0)) then .error stConflict
      else .ok (u32At e 0, leAt e 8 r.ty.bytes) := by
  have hfind : (if u32At e 0 < 2 ^ 24 then findRow (u32At e 0) else none) = some r := by rw [if_pos h.key, h.row]
  unfold State.entryOf
  simp only [hfind]
  rw [if_neg (by simp [h.code, h.size, h.reserved, h.padding])]

theorem State.entryOf_conflict (s : State) (direct : Bool) {e : List Byte} {r : ItemRow} (h : EntryFor r e)
    (hc : r.apply = .immediate ∨ r.surv = .f) : s.entryOf direct e = .error stConflict := by
  rw [s.entryOf_formed direct h, if_pos hc]

theorem State.entryOf_range (s : State) (direct : Bool) {e : List Byte} {r : ItemRow} (h : EntryFor r e)
    (hc : ¬ (r.apply = .immediate ∨ r.surv = .f)) (hr : r.inRange (leAt e 8 r.ty.bytes) = false) :
    s.entryOf direct e = .error stRange := by
  rw [s.entryOf_formed direct h, if_neg hc, hr]
  rfl

/-! ## The first refused entry of a request -/

/-- Entries are taken from left to right: the second part of a list is taken into what the first part has left. -/
theorem State.takeEntries_append (s : State) (direct : Bool) (i : Nat) (l r : List (List Byte)) (acc : List (Nat × Nat)) :
    s.takeEntries direct i (l ++ r) acc =
      (s.takeEntries direct i l acc).bind fun es => s.takeEntries direct (i + l.length) r es := by
  induction l generalizing i acc with
  | nil => rfl
  | cons e l ih =>
    rw [List.cons_append, State.takeEntries, State.takeEntries]
    cases s.entryOf direct e with
    | error st => rfl
    | ok x =>
      dsimp only
      split
      · rfl
      · rw [ih, List.length_cons, Nat.add_right_comm, Nat.add_assoc]

/-- Where the entries before entry `j` are taken and entry `j` is refused, the request is refused at `j` with that status. -/
theorem State.takeEntries_refused (s : State) (direct : Bool) (row : Nat → List Byte) (acc : List (Nat × Nat)) {n j st : Nat}
    (hj : j < n) (hbefore : (s.takeEntries direct 0 ((List.range j).map row) acc).toOption.isSome = true)
    (hrow : s.entryOf direct (row j) = .error st) :
    s.takeEntries direct 0 ((List.range n).map row) acc = .error (j, st) := by
  obtain ⟨k, rfl⟩ := Nat.exists_eq_add_of_lt hj
  have hsplit : (List.range (j + k + 1)).map row =
      (List.range j).map row ++ row j :: (List.range k).map fun i => row (j + (i + 1)) := by
    simp [Nat.add_assoc, List.range_add, List.range_succ_eq_map]
  rw [hsplit, State.takeEntries_append]
  cases htaken : s.takeEntries direct 0 ((List.range j).map row) acc with
  | error e => simp [htaken, Except.toOption] at hbefore
  | ok es => simp [Except.bind, State.takeEntries, hrow]

/-! ## ITEM_WRITE and SLATE_LOAD -/

/-- Row `j` of the entries of an ITEM_WRITE (Table 3.13). -/
@[reducible] def writeRow (p : List Byte) (j : Nat) : List Byte := (p.drop (4 + 16 * j)).take 16

/-- Row `j` of the entries of a slate image (Table 4.2). -/
@[reducible] def imageRow (img : List Byte) (j : Nat) : List Byte := (img.drop (16 + 16 * j)).take 16

/-- The form of a slate image (Table 4.2): format, part code, a count of entries that its length agrees with, reserved bytes 0. -/
structure ImageOk (img : List Byte) : Prop where
  format : u32At img 0 = 1
  part : u32At img 4 = 0x9648
  count : u16At img 8 ≤ 4096
  reserved : zeroAt img 10 2 = true
  size : img.length = 16 + 16 * u16At img 8

/-- ITEM_WRITE of the right form whose first refused entry is entry `j` (R97). -/
theorem opItemWrite_refused (m : Nat) (f : Frame) (s : State) {j st : Nat}
    (hslate : f.h.slate.toNat = 0xff ∨ s.fillable f.h.slate.toNat = true) (hn : u16At f.p 0 ≤ 62) (hz : zeroAt f.p 2 2 = true)
    (hj : j < u16At f.p 0)
    (hbefore : (s.takeEntries (f.h.slate.toNat == 0xff) 0 ((List.range j).map (writeRow f.p))
      (if f.h.slate.toNat = 0xff then [] else (s.slate f.h.slate.toNat).entries)).toOption.isSome = true)
    (hrow : s.entryOf (f.h.slate.toNat == 0xff) (writeRow f.p j) = .error st) :
    opItemWrite m f s = (s, { status := st, payload := refusedAt j st }) := by
  have hrefused := s.takeEntries_refused _ _ _ hj hbefore hrow
  have hform : ¬ (u16At f.p 0 = 0 ∨ 62 < u16At f.p 0 ∨ (!zeroAt f.p 2 2) = true) := by
    simp [hz, hn, Nat.ne_zero_of_lt hj]
  have hopen : ¬ (f.h.slate.toNat ≠ 0xff ∧ (!s.fillable f.h.slate.toNat) = true) := by
    rintro ⟨hi, h⟩
    simp [hslate.resolve_left hi] at h
  unfold opItemWrite
  simp only [if_neg hform, if_neg hopen]
  by_cases hi : f.h.slate.toNat = 0xff
  · simp only [hi, beq_self_eq_true, if_true] at hrefused
    rw [if_pos hi, hrefused]
  · simp only [hi, beq_eq_false_iff_ne.2 hi, if_false] at hrefused
    rw [if_neg hi, hrefused]

/-- SLATE_LOAD of an image of the right form whose first refused entry is entry `j` (R103). -/
theorem opSlateLoad_refused (m : Nat) (f : Frame) (s : State) {j st : Nat} {img : List Byte}
    (hslate : f.h.slate.toNat ≠ 0xff) (hfill : s.fillable f.h.slate.toNat = true) (hz : zeroAt f.p 12 4 = true)
    (himg : s.blkImage m (u16At f.p 0) (u16At f.p 2) (u32At f.p 4) (u32At f.p 8) = .ok img) (hi : ImageOk img)
    (hj : j < u16At img 8)
    (hbefore : (s.takeEntries false 0 ((List.range j).map (imageRow img)) (s.slate f.h.slate.toNat).entries).toOption.isSome = true)
    (hrow : s.entryOf false (imageRow img j) = .error st) :
    opSlateLoad m f s = (s, { status := st, payload := refusedAt j st }) := by
  have hrefused := s.takeEntries_refused _ _ _ hj hbefore hrow
  have hform : ¬ (u32At img 0 ≠ 1 ∨ u32At img 4 ≠ 0x9648 ∨ u16At img 8 = 0 ∨ 4096 < u16At img 8 ∨ (!zeroAt img 10 2) = true ∨
      img.length ≠ 16 + 16 * u16At img 8) := by
    simp [hi.format, hi.part, hi.reserved, hi.size, hi.count, Nat.ne_zero_of_lt hj]
  unfold opSlateLoad
  simp only [hslate, hz, hfill, himg, hform, Bool.not_true, Bool.false_eq_true, false_or, if_false, hrefused]

/-! ## The refused writes as responses -/

theorem eq_error_of_match {x : Except Nat (Nat × Nat)} {st : Nat}
    (h : (match x with | .error e => some e | .ok _ => none) = some st) : x = .error st := by
  cases x with
  | error e => exact congrArg _ (Option.some.inj h)
  | ok v => cases h

theorem eq_ok_of_toOption {ε α : Type} {x : Except ε α} {a : α} (h : x.toOption = some a) : x = .ok a := by
  cases x with
  | error e => cases h
  | ok b => exact congrArg _ (Option.some.inj h)

/-- Settles O54: the tests of an entry stand in the order of R97, the entries are taken from left to right, and a request that
is refused leaves the state in which its frame was taken. -/
theorem writesAreRefusedInOrder : Obligations.WritesAreRefusedInOrder := by
  unfold Obligations.WritesAreRefusedInOrder
  refine ⟨State.entryOf_noItem, ?entry, ?write, ?load⟩
  case entry =>
    intro s direct e r hkey hrow hcode hsize hreserved hpadding
    have hentry : EntryFor r e := ⟨hkey, hrow, hcode, hsize, hreserved, hpadding⟩
    exact ⟨s.entryOf_conflict direct hentry, s.entryOf_range direct hentry⟩
  case write =>
    intro s dt m h p j st haccepts hn hz hj hslate hbefore hrow
    exact cmdRow_replied opItemWrite 0x0201 dt m h p s id _ haccepts
      (opItemWrite_refused m _ _ (hslate.imp_right And.right) hn hz hj hbefore (eq_error_of_match hrow)) rfl rfl
  case load =>
    intro s dt m h p j st img haccepts hslate hz hfill himg hformat hpart hj hcount hreserved hsize hbefore hrow
    exact cmdRow_replied opSlateLoad 0x0301 dt m h p s id _ haccepts
      (opSlateLoad_refused m _ _ (Nat.ne_of_lt (Nat.lt_trans hslate (by decide))) hfill hz (eq_ok_of_toOption himg)
        ⟨hformat, hpart, hcount, hreserved, hsize⟩ hj hbefore (eq_error_of_match hrow)) rfl rfl

/-! ## The state after reset -/

/-- A list of defaults reads the default at every index, inside it and outside. -/
theorem nth_replicate_default {α : Type} [Inhabited α] (n i : Nat) : nth (List.replicate n (default : α)) i = default := by
  simp only [nth, List.getD_eq_getElem?_getD, List.getElem?_replicate]
  split <;> rfl

theorem State.reset_get (k : Nat) : State.reset.get k = itemDefault State.reset.variant k := rfl

theorem State.reset_slate (i : Nat) : State.reset.slate i = { st := .free } := nth_replicate_default 8 i

theorem State.reset_master (i : Nat) : State.reset.master i = {} := nth_replicate_default 16 i

/-- The default of session_state is CLOSED for every master (R84). -/
theorem itemDefault_sessionState (i : Fin 16) : itemDefault 0 (It.sessionState i) = 0 := by
  revert i
  decide

/-- Settles O49: the lists of mailboxes and slates hold only defaults at reset, and an item store that lists nothing reads every
default, CLOSED for each session_state among them. -/
theorem resetStartsTheModule : Obligations.ResetStartsTheModule := by
  unfold Obligations.ResetStartsTheModule
  intro k i
  have hclk : ClockOk State.reset.clk := ⟨Nat.le_refl 0, Nat.zero_le _, Nat.le_refl 0⟩
  have hsession : State.reset.sessionOpen i = false := by
    rw [State.sessionOpen, State.reset_get]
    exact bne_eq_false_iff_eq.2 (itemDefault_sessionState i)
  rw [State.reset_master]
  exact ⟨rfl, hclk, State.reset_get k, rfl, rfl, rfl, hsession, State.reset_slate i, rfl, rfl, rfl, rfl, rfl, rfl⟩

end Sys2Proof.Machine
end

section
/-! SUPPORT. What a command does to the clock and the queue (R25, R50, R53), and the base-cycle boundary. -/

namespace Sys2Proof.Machine

open Sys2Proof.Safety

/-! ## The clock's moves -/

/-- The clock at the next tick of the internal tally source, the next multiple of 1000 ns. -/
def Clock.toTick (c : Clock) : Clock :=
  let t := max (c.tickNext * 1000) ((c.mtime + 999) / 1000 * 1000)
  { c with mtime := t, wall := c.wall + (t - c.mtime), tickNext := t / 1000 + 1 }

theorem Clock.mtime_le_toK (c : Clock) : c.mtime ≤ c.toK.mtime := by
  simp only [Clock.toK]
  omega

theorem Clock.mtime_le_toTick (c : Clock) : c.mtime ≤ c.toTick.mtime := by
  simp only [Clock.toTick]
  omega

theorem clockOk_advance (dt : Nat) {c : Clock} (h : ClockOk c) : ClockOk (c.advance dt) := by
  obtain ⟨hk, htick, hwall⟩ := h
  simp only [ClockOk, Clock.advance]
  omega

/-- A clock moved on to an instant stays consistent when the boundary and the tick it then names are not after that instant. -/
theorem clockOk_forward {c : Clock} (h : ClockOk c) {t k n : Nat} (hle : c.mtime ≤ t) (hk : k * 100000 ≤ t)
    (hn : n * 1000 ≤ t + 1000) : ClockOk { mtime := t, wall := c.wall + (t - c.mtime), kLast := k, tickNext := n } := by
  obtain ⟨-, -, hwall⟩ := h
  exact ⟨hk, hn, by dsimp only; omega⟩

theorem clockOk_toK {c : Clock} (h : ClockOk c) : ClockOk c.toK := by
  have ⟨_, htick, _⟩ := h
  exact clockOk_forward h c.mtime_le_toK (Nat.div_mul_le_self c.toK.mtime 100000)
    (Nat.le_trans htick (Nat.add_le_add_right c.mtime_le_toK 1000))

theorem clockOk_toTick {c : Clock} (h : ClockOk c) : ClockOk c.toTick := by
  have ⟨hk, _, _⟩ := h
  have hnext : ∀ t : Nat, (t / 1000 + 1) * 1000 ≤ t + 1000 := by omega
  exact clockOk_forward h c.mtime_le_toTick (Nat.le_trans hk c.mtime_le_toTick) (hnext c.toTick.mtime)

/-- A new epoch has neither a boundary nor a tick behind it, whatever the clock was. -/
theorem clockOk_restart (c : Clock) : ClockOk c.restart := by
  simp only [ClockOk, Clock.restart]
  omega

/-- The lane's own mtime is limited to the time since power-on, and what lies in its future is taken back, whatever the clock
was. -/
theorem clockOk_shift (off : Int) (c : Clock) : ClockOk (c.shift off) := by
  simp only [ClockOk, Clock.shift]
  omega

/-- With no boundary missed, the clock moves to the first multiple of 100 000 ns after the last one. -/
theorem Clock.toK_of_current {c : Clock} (h : c.kLast = c.mtime / 100000) :
    c.toK = { c with mtime := (c.kLast + 1) * 100000, kLast := c.kLast + 1, wall := c.wall + ((c.kLast + 1) * 100000 - c.mtime) } := by
  have hmax : max ((c.kLast + 1) * 100000) ((c.mtime + 99999) / 100000 * 100000) = (c.kLast + 1) * 100000 := by omega
  have hdiv : (c.kLast + 1) * 100000 / 100000 = c.kLast + 1 := by omega
  simp only [Clock.toK, hmax, hdiv]

/-! ## How a step moves the clock -/

/-- Everything that a step can do to the clock: time passes, the clock moves to a boundary or to a tick, a start begins a new
epoch (R53), or a lane that takes the role from another goes on with its own mtime (Table 2.8). -/
inductive ClockMove (s t : State) : Prop
  | passes (dt : Nat) (hclk : t.clk = s.clk.advance dt)
  | boundary (hclk : t.clk = s.clk.toK)
  | tick (hclk : t.clk = s.clk.toTick)
  | epoch (dt : Nat) (hstart : s.phase = .starting) (hup : t.phase = .up ∨ t.phase = .recovery)
      (hclk : t.clk = (s.clk.advance dt).restart)
  | claim (dt : Nat) (hgap : s.lanes.gap.isSome = true) (hnone : t.lanes.gap.isNone = true) (hlatch : t.lanes.latch ≠ s.lanes.latch)
      (hclk : t.clk = (s.clk.advance dt).shift s.time.standbyOff)

theorem ClockMove.wall_le {s t : State} (h : ClockMove s t) : s.clk.wall ≤ t.clk.wall := by
  cases h with
  | passes dt hclk | epoch dt _ _ hclk | claim dt _ _ _ hclk =>
    rw [hclk]
    exact Nat.le_add_right s.clk.wall dt
  | boundary hclk | tick hclk =>
    rw [hclk]
    exact Nat.le_add_right s.clk.wall _

/-- Module time turns back in the two moves of a claim alone. -/
theorem ClockMove.claims_of_mtime_lt {s t : State} (h : ClockMove s t) (hlt : t.clk.mtime < s.clk.mtime) :
    (s.phase = .starting ∧ (t.phase = .up ∨ t.phase = .recovery) ∧ t.clk.mtime = 0) ∨
      (s.lanes.gap.isSome = true ∧ t.lanes.gap.isNone = true ∧ t.lanes.latch ≠ s.lanes.latch ∧
        ∃ dt, t.clk = (s.clk.advance dt).shift s.time.standbyOff) := by
  cases h with
  | passes dt hclk =>
    rw [hclk] at hlt
    exact absurd hlt (Nat.not_lt.2 (Nat.le_add_right s.clk.mtime dt))
  | boundary hclk =>
    rw [hclk] at hlt
    exact absurd hlt (Nat.not_lt.2 s.clk.mtime_le_toK)
  | tick hclk =>
    rw [hclk] at hlt
    exact absurd hlt (Nat.not_lt.2 s.clk.mtime_le_toTick)
  | epoch dt hstart hup hclk => exact .inl ⟨hstart, hup, congrArg Clock.mtime hclk⟩
  | claim dt hgap hnone hlatch hclk => exact .inr ⟨hgap, hnone, hlatch, dt, hclk⟩

theorem ClockMove.clockOk {s t : State} (h : ClockMove s t) (hs : ClockOk s.clk) : ClockOk t.clk := by
  cases h with
  | passes dt hclk => exact hclk ▸ clockOk_advance dt hs
  | boundary hclk => exact hclk ▸ clockOk_toK hs
  | tick hclk => exact hclk ▸ clockOk_toTick hs
  | epoch dt _ _ hclk => exact hclk ▸ clockOk_restart _
  | claim dt _ _ _ hclk => exact hclk ▸ clockOk_shift _ _

/-! ## What each form of a command does to the clock and the queue -/

/-- An outcome goes on, leaves the queue as it was, and moves the clock in one of the ways of `ClockMove`. -/
def MovesOn (s : State) (o : Host.Outcome State Fault Refusal) : Prop :=
  ∃ t, o = .next t ∧ t.pending = s.pending ∧ ClockMove s t

theorem timedAny_movesOn (dt : Nat) (f : State → State) (s : State) : MovesOn s (timedAny dt f s) := by
  obtain ⟨t, ht⟩ := timedAny_next dt f s
  obtain ⟨hclk, hpending⟩ := timedAny_clk dt f s t ht
  exact ⟨t, ht, hpending, .passes dt hclk⟩

theorem timedLines_movesOn (dt : Nat) (f dies : State → State) (s : State) : MovesOn s (timedLines dt f dies s) :=
  timedAny_movesOn dt (fun a => if a.runs then f a else if a.powered then dies a else a) s

/-- A command in which a lane may claim: what its effect does to the phase, the gap and the latch decides which move it is. -/
theorem timedStart_movesOn (dt : Nat) (f : State → State) (s : State) : MovesOn s (timedStart dt f s) := by
  refine ⟨_, rfl, rfl, ?_⟩
  by_cases hclaimed : s.phase = .starting ∧ ((f (s.advance dt)).phase = .up ∨ (f (s.advance dt)).phase = .recovery)
  · exact .epoch dt hclaimed.1 hclaimed.2 (if_pos (by simpa using hclaimed))
  · by_cases htook : s.lanes.gap.isSome = true ∧ (f (s.advance dt)).lanes.gap.isNone = true ∧
        s.lanes.latch ≠ (f (s.advance dt)).lanes.latch
    · obtain ⟨hgap, hnone, hlatch⟩ := htook
      refine .claim dt hgap hnone hlatch.symm ((if_neg (by simpa using hclaimed)).trans (if_pos ?_))
      simp only [State.advance_lanes, Bool.and_eq_true, bne_iff_ne]
      exact ⟨⟨hgap, hnone⟩, hlatch⟩
    · refine .passes dt ((if_neg (by simpa using hclaimed)).trans (if_neg ?_))
      simpa only [State.advance_lanes, Bool.and_eq_true, bne_iff_ne, and_assoc] using htook

theorem execInternalTallyTick_movesOn (s : State) : MovesOn s (execInternalTallyTick s) :=
  ⟨_, rfl, rfl, .tick rfl⟩

/-! ## The base-cycle boundary -/

/-- What the chapters do at a K, by what the module as a whole is doing. -/
def State.workAtK (meas : List (Nat × Nat)) (eq : Bool) (a : State) : State :=
  if a.live then a.atK meas eq else match a.phase with
    | .recovery => a.romAtK
    | .shuttingDown => a.shutAtK meas
    | _ => a

/-- Where no engine runs, no ROM serves and no shut-down goes on, a K has no work. -/
theorem State.workAtK_idle (meas : List (Nat × Nat)) (eq : Bool) {a : State} (hlive : a.live = false)
    (hrom : a.phase ≠ .recovery) (hshut : a.phase ≠ .shuttingDown) : a.workAtK meas eq = a := by
  rw [State.workAtK, if_neg (Bool.eq_false_iff.1 hlive)]
  split
  case h_1 h => exact absurd h hrom
  case h_2 h => exact absurd h hshut
  case h_3 => rfl

/-- The work of a K is done at that K's clock and keeps it and the queue. -/
theorem execBaseCycleBoundary_eq (meas : List (Nat × Nat)) (eq : Bool) (s : State) :
    execBaseCycleBoundary meas eq s =
      .next { ({ s with clk := s.kClock } : State).workAtK meas eq with clk := s.kClock, pending := s.pending } := rfl

/-- A boundary answers a state in which the clock stands at the K and the queue is as before. -/
theorem execBaseCycleBoundary_next (meas : List (Nat × Nat)) (eq : Bool) (s : State) :
    ∃ t, execBaseCycleBoundary meas eq s = .next t ∧ t.clk = s.kClock ∧ t.pending = s.pending := ⟨_, rfl, rfl, rfl⟩

/-- The first K of a start whose module time stands at 0 moves no clock (R25). -/
theorem State.kClock_of_start {s : State} (hlive : s.live = true) (hstart : s.power.startK.isSome = true) (h0 : s.clk.mtime = 0) :
    s.kClock = s.clk :=
  if_pos (by simp [hlive, hstart, h0])

/-- Every other K is the next multiple of 100 000 ns (R25). -/
theorem State.kClock_of_running {s : State} (h : s.live = true → s.power.startK.isSome = true → s.clk.mtime ≠ 0) :
    s.kClock = s.clk.toK :=
  if_neg (by simpa using h)

/-- In a module whose engines do not run, that is not in recovery mode and not shutting down, a K is a matter of the clock. -/
theorem execBaseCycleBoundary_idle (meas : List (Nat × Nat)) (eq : Bool) {s : State} (hlive : s.live = false)
    (hrom : s.phase ≠ .recovery) (hshut : s.phase ≠ .shuttingDown) :
    execBaseCycleBoundary meas eq s = .next { s with clk := s.kClock } := by
  rw [execBaseCycleBoundary_eq, State.workAtK_idle meas eq (a := { s with clk := s.kClock }) hlive hrom hshut]

theorem execBaseCycleBoundary_movesOn (meas : List (Nat × Nat)) (eq : Bool) (s : State) :
    MovesOn s (execBaseCycleBoundary meas eq s) := by
  obtain ⟨t, ht, hclk, hpending⟩ := execBaseCycleBoundary_next meas eq s
  refine ⟨t, ht, hpending, ?_⟩
  by_cases hstart : s.live = true ∧ s.power.startK.isSome = true ∧ s.clk.mtime = 0
  · obtain ⟨hlive, hk, h0⟩ := hstart
    exact .passes 0 (hclk.trans (State.kClock_of_start hlive hk h0))
  · exact .boundary (hclk.trans (State.kClock_of_running fun hlive hk h0 => hstart ⟨hlive, hk, h0⟩))

/-! ## Every command -/

/-- The commands come in four forms: the boundary and the tick set the clock themselves, the commands in which a lane may claim
run through `timedStart`, and every other one runs through `timedAny`. -/
theorem exec_movesOn (i : Instr) (s : State) : MovesOn s (exec i s) := by
  cases i
  case baseCycleBoundary meas eq => exact execBaseCycleBoundary_movesOn meas eq s
  case internalTallyTick => exact execInternalTallyTick_movesOn s
  case moduleStart | laneClaim | startWaitExpiry | selfTestDone => exact timedStart_movesOn _ _ s
  case encoderEdge | tallyStall => exact timedLines_movesOn _ _ _ s
  -- The wrapper of a row whose effect branches on the state is seen only once the row's definition is open.
  case cameraLineStart dt port px overflow =>
    unfold exec execCameraLineStart
    exact timedLines_movesOn _ _ _ s
  case mainStartDwell dt =>
    unfold exec execMainStartDwell
    exact timedAny_movesOn _ _ s
  case orderlyParkComplete dt =>
    unfold exec execOrderlyParkComplete
    exact timedAny_movesOn _ _ s
  all_goals exact timedAny_movesOn _ _ s

/-- A step takes the front of the queue, adds nothing to it, and moves the clock; with no command waiting nothing moves. -/
theorem step_moves (s : State) : ∃ t, step s = .next t ∧ t.pending = s.pending.tail ∧ ClockMove s t := by
  unfold step
  split
  case h_1 hnil => exact ⟨s, rfl, by rw [hnil]; rfl, .passes 0 rfl⟩
  case h_2 c rest hcons =>
    obtain ⟨t, ht, hpending, hmove⟩ := exec_movesOn c { s with pending := rest }
    refine ⟨t, ht, by rw [hpending, hcons]; rfl, ?_⟩
    cases hmove with
    | passes dt hclk => exact .passes dt hclk
    | boundary hclk => exact .boundary hclk
    | tick hclk => exact .tick hclk
    | epoch dt hstart hup hclk => exact .epoch dt hstart hup hclk
    | claim dt hgap hnone hlatch hclk => exact .claim dt hgap hnone hlatch hclk

/-! ## The obligations -/

/-- Settles O48: every command runs in one of four forms, each form moves the clock in one of five ways, and each way keeps the
clocks consistent. -/
theorem stepsGoOnAndKeepTheClock : Obligations.StepsGoOnAndKeepTheClock := by
  unfold Obligations.StepsGoOnAndKeepTheClock
  refine ⟨fun s => ?goesOn, fun s hs => ?keeps⟩ <;> obtain ⟨t, ht, hpending, hmove⟩ := step_moves s
  case goesOn => exact ⟨t, ht, hpending, hmove.wall_le, hmove.claims_of_mtime_lt⟩
  case keeps => exact ⟨t, ht, hmove.clockOk hs⟩

/-- Settles O5: a K does its work at the clock of `State.kClock` and keeps that clock and the queue. -/
theorem cycleBoundaryAdvances : Obligations.CycleBoundaryAdvances := by
  unfold Obligations.CycleBoundaryAdvances
  refine ⟨?next, ?first, ?idle⟩
  case next =>
    intro s meas eq hcurrent hrunning
    obtain ⟨t, ht, hclk, hpending⟩ := execBaseCycleBoundary_next meas eq s
    rw [State.kClock_of_running hrunning, Clock.toK_of_current hcurrent] at hclk
    have hcycle : t.cycle = s.cycle + 1 := by
      rw [State.cycle, State.cycle, hclk, ← hcurrent]
      exact Nat.mul_div_cancel _ (by decide)
    refine ⟨t, ht, ?_, ?_, hcycle, ?_, ?_, hpending⟩ <;> rw [hclk]
  case first =>
    intro s meas eq hlive hstart h0
    obtain ⟨t, ht, hclk, hpending⟩ := execBaseCycleBoundary_next meas eq s
    exact ⟨t, ht, hclk.trans (State.kClock_of_start hlive hstart h0), hpending⟩
  case idle =>
    intro s meas eq hcurrent hlive hrom hshut
    have hrunning : s.kClock = s.clk.toK := State.kClock_of_running fun h => absurd h (by simp [hlive])
    rw [← Clock.toK_of_current hcurrent, ← hrunning]
    exact execBaseCycleBoundary_idle meas eq hlive hrom hshut

end Sys2Proof.Machine
end

section
/-! SUPPORT. What counting, stalling and a change of source do to a counter, and the tally of the lane in service (R37 to R42). -/

namespace Sys2Proof.Machine

open Sys2Proof.Safety

/-! ## The fraction and the position of a counter (R39, R40) -/

theorem Counter.fraction_of_not_running {c : Counter} (h : c.st ≠ .running) (t : Nat) : c.fraction t = c.frac := by
  unfold Counter.fraction
  split
  case h_1 hst _ | h_2 hst _ => exact absurd hst h
  case h_3 => rfl

theorem Counter.fraction_mono (c : Counter) {t u : Nat} (h : t ≤ u) : c.fraction t ≤ c.fraction u := by
  unfold Counter.fraction
  split
  case h_1 p _ hp =>
    have helapsed : (t - c.tLast) * 65536 ≤ (u - c.tLast) * 65536 := Nat.mul_le_mul_right _ (Nat.sub_le_sub_right h _)
    have hunits : (t - c.tLast) * 65536 / p ≤ (u - c.tLast) * 65536 / p := Nat.div_le_div_right helapsed
    exact Nat.le_min.2 ⟨Nat.le_trans (Nat.min_le_left _ _) hunits, Nat.min_le_right _ _⟩
  case h_2 | h_3 => exact Nat.le_refl _

theorem Counter.fraction_lt {c : Counter} (h : c.frac < 65536) (t : Nat) : c.fraction t < 65536 := by
  unfold Counter.fraction
  split
  case h_1 => exact Nat.lt_succ_of_le (Nat.min_le_right _ _)
  case h_2 => decide
  case h_3 => exact h

theorem Counter.pos_mono (c : Counter) {t u : Nat} (h : t ≤ u) : c.pos t ≤ c.pos u :=
  Nat.add_le_add_left (c.fraction_mono h) _

/-! ## No operation turns a counter back -/

/-- From a counter to what it has become at an instant: the position is not behind, and the counter is again one that cannot turn
back. -/
structure Counter.Onward (t : Nat) (c d : Counter) : Prop where
  pos_le : c.pos t ≤ d.pos t
  ok : TallyOk d

theorem Counter.Onward.refl {c : Counter} (h : TallyOk c) (t : Nat) : c.Onward t c := ⟨Nat.le_refl _, h⟩

/-- A frozen counter stands where it stood at the instant of freezing. -/
theorem Counter.freeze_pos (c : Counter) (t u : Nat) {st : TallyState} (h : st ≠ .running) : (c.freeze t st).pos u = c.pos t := by
  unfold Counter.pos
  rw [Counter.fraction_of_not_running (c := c.freeze t st) h]
  rfl

theorem Counter.freeze_tallyOk {c : Counter} (hc : TallyOk c) (t : Nat) {st : TallyState} (h : st ≠ .running) :
    TallyOk (c.freeze t st) :=
  ⟨Counter.fraction_lt hc.1 t, fun hst => absurd hst h⟩

theorem Counter.unit_onward {c : Counter} (hc : TallyOk c) (t : Nat) (hint : c.int + 1 < 2 ^ 48) (hdebt : c.debt = 0) :
    c.Onward t (c.unit t) := by
  have hfrac : c.fraction t < 65536 := Counter.fraction_lt hc.1 t
  have hnext : (c.unit t).int = c.int + 1 := Nat.mod_eq_of_lt hint
  refine ⟨?_, (by decide : 0 < 65536), fun _ => hdebt⟩
  unfold Counter.pos
  rw [hnext]
  omega

/-- A whole unit forward while there is debt pays a unit of it; the last one leaves the counter STALLED (R37, R40). -/
def Counter.pay (c : Counter) : Counter :=
  { c with acc := 0, debt := c.debt - 1, st := if c.debt = 1 then .stalled else c.st }

/-- A whole unit back is a unit of debt, and the counter is frozen in REVERSE (R37, R40). -/
def Counter.owe (t : Nat) (c : Counter) : Counter := { c.freeze t .reverse with acc := 0, debt := min (c.debt + 1) 4294967295 }

/-- The edges by what they do: ignored, a unit of debt paid, a unit forward, a unit of debt made, or counted alone (R37). -/
theorem Counter.edge_eq (prescale : Nat) (discard forward : Bool) (t : Nat) (c : Counter) :
    c.edge prescale discard forward t =
      if discard && !forward then c
      else if c.acc + (if forward then 1 else -1) = (prescale : Int) then (if 0 < c.debt then c.pay else c.unit t)
      else if c.acc + (if forward then 1 else -1) = -(prescale : Int) then c.owe t
      else { c with acc := c.acc + (if forward then 1 else -1) } := rfl

/-- A counter with debt is not RUNNING, and its last unit of debt does not make it so. -/
theorem Counter.pay_onward {c : Counter} (hc : TallyOk c) (t : Nat) (hdebt : 0 < c.debt) : c.Onward t c.pay := by
  have hstill : c.st ≠ .running := fun h => Nat.ne_of_gt hdebt (hc.2 h)
  have hpaid : c.pay.st ≠ .running := by
    unfold Counter.pay
    dsimp only
    split
    · decide
    · exact hstill
  refine ⟨?_, hc.1, fun h => absurd h hpaid⟩
  unfold Counter.pos
  rw [Counter.fraction_of_not_running hstill, Counter.fraction_of_not_running hpaid]
  exact Nat.le_refl _

theorem Counter.owe_onward {c : Counter} (hc : TallyOk c) (t : Nat) : c.Onward t (c.owe t) :=
  have hrev : TallyState.reverse ≠ .running := by decide
  ⟨Nat.le_of_eq (c.freeze_pos t t hrev).symm, Counter.fraction_lt hc.1 t, fun h => absurd h hrev⟩

theorem Counter.edge_onward {c : Counter} (hc : TallyOk c) (prescale t : Nat) (discard forward : Bool) (hint : c.int + 1 < 2 ^ 48) :
    c.Onward t (c.edge prescale discard forward t) := by
  rw [Counter.edge_eq]
  generalize c.acc + (if forward then 1 else -1) = acc
  split
  next => exact .refl hc t
  next =>
    split
    next =>
      split
      next hdebt => exact Counter.pay_onward hc t hdebt
      next hdebt => exact Counter.unit_onward hc t hint (Nat.eq_zero_of_not_pos hdebt)
    next =>
      split
      next => exact Counter.owe_onward hc t
      next => exact ⟨Nat.le_refl _, hc⟩

theorem Counter.stall_pos (c : Counter) (limit t : Nat) : (c.stall limit t).pos t = c.pos t := by
  unfold Counter.stall
  split
  · exact c.freeze_pos t t (by decide)
  · rfl

theorem Counter.stall_tallyOk {c : Counter} (hc : TallyOk c) (limit t : Nat) : TallyOk (c.stall limit t) := by
  unfold Counter.stall
  split
  · exact Counter.freeze_tallyOk hc t (by decide)
  · exact hc

theorem Counter.changeSource_pos (c : Counter) (t : Nat) : (c.changeSource t).pos t = c.pos t :=
  c.freeze_pos t t (st := .stalled) (by decide)

theorem Counter.changeSource_tallyOk {c : Counter} (hc : TallyOk c) (t : Nat) : TallyOk (c.changeSource t) :=
  ⟨Counter.fraction_lt hc.1 t, fun _ => rfl⟩

theorem Counter.stall_onward {c : Counter} (hc : TallyOk c) (limit t : Nat) : c.Onward t (c.stall limit t) :=
  ⟨Nat.le_of_eq (c.stall_pos limit t).symm, Counter.stall_tallyOk hc limit t⟩

/-! ## The counter of the lane in service -/

/-- The lane's counter after an edge of a source: it counts the edge when it has selected that source and the edge reaches it
(R34). -/
def State.laneEdge (src : Nat) (forward : Bool) (seen : Nat) (s : State) : Counter :=
  if s.get It.tallySource = src ∧ bit seen 0 then
    s.time.lane.edge (s.get It.tallyPrescale) (s.get It.reversePolicy == 1) forward s.now
  else s.time.lane

/-- The lane's counter after the end of the stall time: the internal source never stalls (Table 2.1). -/
def State.laneStall (s : State) : Counter :=
  if s.get It.tallySource == 12 then s.time.lane else s.time.lane.stall (s.get It.tallyStallMs) s.now

/-- From a state to one in which the lane's counter is another, with its history. Beside it only the counters of the standby and
of the drive dies, the mailboxes and the counters of lost events may differ. -/
structure Recounted (c : Counter) (s t : State) : Prop where
  lane : t.time.lane = c
  hist : t.time.hist = pushUnit 65536 s.now s.time.lane c s.time.hist
  items : ItemsBut [] s t
  owner : SameOwner s t
  frame : t = { s with items := t.items, mail := t.mail, time := { s.time with
    lane := t.time.lane, standby := t.time.standby, dies := t.time.dies, hist := t.time.hist } }

/-- The lane's counter replaced, then those of the standby and of the drive dies, then the event of a changed state (R40). -/
theorem State.setCount_recounted (c standby : Counter) (dies : List Follower) (old : TallyState) (s : State) :
    Recounted c s (((s.setCount c).modTime fun tm => { tm with standby := standby, dies := dies }).tallyEvent old) := by
  unfold State.tallyEvent
  split
  · exact ⟨rfl, rfl, fun _ _ _ => rfl, rfl, rfl⟩
  · obtain ⟨ms, it, h, hget⟩ := State.emit_shape 0x0580 _
      ((s.setCount c).modTime fun tm => { tm with standby := standby, dies := dies })
    rw [h]
    exact ⟨rfl, rfl, fun k _ hk => hget k hk, rfl, rfl⟩

theorem State.tallyEdge_recounted (src : Nat) (forward : Bool) (seen : Nat) (s : State) :
    Recounted (s.laneEdge src forward seen) s (s.tallyEdge src forward seen) :=
  State.setCount_recounted _ _ _ _ s

theorem State.tallyStall_recounted (s : State) : Recounted s.laneStall s s.tallyStall :=
  State.setCount_recounted _ _ _ _ s

/-! ## The commands of the tally -/

theorem State.runs_of_live {s : State} (h : s.live = true) : s.runs = true := by
  simp [State.runs, h]

theorem timedLines_eq (dt : Nat) (f dies : State → State) (s t : State) (hruns : s.runs = true) (ht : f (s.advance dt) = t)
    (hc : t.clk = s.clk.advance dt) (hp : t.pending = s.pending) : timedLines dt f dies s = .next t := by
  refine timedAny_eq dt _ s t ?_ hc hp
  rw [← ht]
  exact if_pos hruns

theorem timedRun_eq (dt : Nat) (f : State → State) (s t : State) (hruns : s.runs = true) (ht : f (s.advance dt) = t)
    (hc : t.clk = s.clk.advance dt) (hp : t.pending = s.pending) : timedRun dt f s = .next t := by
  refine timedAny_eq dt _ s t ?_ hc hp
  rw [← ht]
  exact if_pos hruns

/-- Of a command that reaches the lanes or the drive dies, the counters are those of its effect on the lanes, of its effect on the
dies, or as before. -/
theorem timedLines_time (dt : Nat) (f dies : State → State) (s : State) : ∃ t, timedLines dt f dies s = .next t ∧
    t.clk = s.clk.advance dt ∧ (t.time = (f (s.advance dt)).time ∨ t.time = (dies (s.advance dt)).time ∨ t.time = s.time) := by
  refine ⟨_, rfl, rfl, ?_⟩
  dsimp only
  split
  next => exact .inl rfl
  next =>
    split
    next => exact .inr (.inl rfl)
    next => exact .inr (.inr rfl)

/-- The tick of the internal source at its instant: the counters of an edge of source 12 at every counter, at the dies alone, or as
before. -/
theorem execInternalTallyTick_time (s : State) : ∃ t, execInternalTallyTick s = .next t ∧ t.clk = s.clk.toTick ∧
    (t.time = (({ s with clk := s.clk.toTick } : State).tallyEdge 12 true 0x3f).time ∨
      t.time = (({ s with clk := s.clk.toTick } : State).dieEdge 12 true 0x3f).time ∨ t.time = s.time) := by
  refine ⟨_, rfl, rfl, ?_⟩
  dsimp only
  split
  next => exact .inl rfl
  next =>
    split
    next => exact .inr (.inl rfl)
    next => exact .inr (.inr rfl)

/-- The tick in a module whose engines run. -/
theorem execInternalTallyTick_eq {s : State} (hruns : s.runs = true) : execInternalTallyTick s =
    .next { ({ s with clk := s.clk.toTick } : State).tallyEdge 12 true 0x3f with clk := s.clk.toTick, pending := s.pending } := by
  have htick : ({ s with clk := s.clk.toTick } : State).runs = true := hruns
  exact congrArg (fun a : State => Host.Outcome.next { a with clk := s.clk.toTick, pending := s.pending }) (if_pos htick)

/-- With no tick missed, the clock moves to the instant of the number of the tick. -/
theorem Clock.toTick_of_current {c : Clock} (h : c.mtime ≤ c.tickNext * 1000) : c.toTick =
    { c with mtime := c.tickNext * 1000, wall := c.wall + (c.tickNext * 1000 - c.mtime), tickNext := c.tickNext + 1 } := by
  have hmax : max (c.tickNext * 1000) ((c.mtime + 999) / 1000 * 1000) = c.tickNext * 1000 := by omega
  have hdiv : c.tickNext * 1000 / 1000 = c.tickNext := by omega
  simp only [Clock.toTick, hmax, hdiv]

theorem State.laneEdge_onward {s : State} (h : TallyOk s.time.lane) (hint : s.time.lane.int + 1 < 2 ^ 48) (src : Nat) (forward : Bool)
    (seen : Nat) : s.time.lane.Onward s.now (s.laneEdge src forward seen) := by
  unfold State.laneEdge
  split
  · exact Counter.edge_onward h _ _ _ _ hint
  · exact .refl h _

theorem State.laneStall_onward {s : State} (h : TallyOk s.time.lane) : s.time.lane.Onward s.now s.laneStall := by
  unfold State.laneStall
  split
  · exact .refl h _
  · exact Counter.stall_onward h _ _

/-- As time passes and the lane's counter goes onward, the position of the lane goes onward. -/
theorem State.pos_le_of_onward {s t : State} (htime : s.now ≤ t.now) (h : s.time.lane.Onward t.now t.time.lane) :
    s.pos ≤ t.pos ∧ TallyOk t.time.lane :=
  ⟨Nat.le_trans (s.time.lane.pos_mono htime) h.pos_le, h.ok⟩

/-! ## The obligations -/

/-- Settles O57: each change of a counter takes it onward, and the two commands change the lane's counter by an edge or a stall, or
leave it. -/
theorem tallyNeverTurnsBack : Obligations.TallyNeverTurnsBack := by
  unfold Obligations.TallyNeverTurnsBack
  refine ⟨fun c t u h => c.pos_mono h, ?counter, ?tick, ?stall⟩
  case counter =>
    intro prescale t limit c discard forward hc hint
    obtain ⟨hpos, hok⟩ := Counter.edge_onward hc prescale t discard forward hint
    exact ⟨hpos, hok, c.stall_pos limit t, Counter.stall_tallyOk hc limit t, c.changeSource_pos t,
      Counter.changeSource_tallyOk hc t⟩
  case tick =>
    intro s hok hint
    obtain ⟨t, ht, hclk, hcases⟩ := execInternalTallyTick_time s
    have hnow : t.now = s.clk.toTick.mtime := congrArg Clock.mtime hclk
    refine ⟨t, ht, State.pos_le_of_onward (by rw [hnow]; exact s.clk.mtime_le_toTick) ?_⟩
    rcases hcases with h | h | h <;> rw [h]
    · rw [(State.tallyEdge_recounted ..).lane, hnow]
      exact State.laneEdge_onward (s := { s with clk := s.clk.toTick }) hok hint 12 true 0x3f
    · exact .refl hok _
    · exact .refl hok _
  case stall =>
    intro s dt hok
    obtain ⟨t, ht, hclk, hcases⟩ := timedLines_time dt State.tallyStall State.dieStall s
    have hnow : t.now = s.now + dt := congrArg Clock.mtime hclk
    refine ⟨t, ht, State.pos_le_of_onward (by rw [hnow]; exact Nat.le_add_right _ _) ?_⟩
    rcases hcases with h | h | h <;> rw [h]
    · rw [(State.tallyStall_recounted _).lane, hnow]
      exact State.laneStall_onward (s := s.advance dt) hok
    · exact .refl hok _
    · exact .refl hok _

/-- A unit forward changes the integer of a counter, also at its wrap. -/
theorem Counter.unit_int_ne (c : Counter) (t : Nat) : (c.unit t).int ≠ c.int := by
  unfold Counter.unit
  dsimp only
  omega

/-- A change of the integer enters the history as a unit. -/
theorem pushUnit_of_int_ne (n t : Nat) {before after : Counter} (h : after.int ≠ before.int) (units : List TallyUnit) :
    pushUnit n t before after units = ({ int := after.int, at_ := after.tLast, p := after.pLast } :: units).take n :=
  if_pos h

/-- With prescale 1, an empty accumulator and no debt, an edge forward is a unit (R37). -/
theorem Counter.edge_forward_unit {c : Counter} (hacc : c.acc = 0) (hdebt : c.debt = 0) (discard : Bool) (t : Nat) :
    c.edge 1 discard true t = c.unit t := by
  simp [Counter.edge_eq, hacc, hdebt]

/-- Settles O2: both commands recount the lane's counter, the first by a unit and the second by freezing it. -/
theorem tallyUnitsAndStalls : Obligations.TallyUnitsAndStalls := by
  unfold Obligations.TallyUnitsAndStalls
  refine ⟨?tick, ?stall⟩
  case tick =>
    intro s hlive hcurrent hsource hprescale hacc hdebt
    have hclk := Clock.toTick_of_current hcurrent
    obtain ⟨hlane, hhist, hitems, howner, hframe⟩ :=
      State.tallyEdge_recounted 12 true 0x3f { s with clk := s.clk.toTick }
    have hunit : ({ s with clk := s.clk.toTick } : State).laneEdge 12 true 0x3f = s.time.lane.unit s.clk.toTick.mtime := by
      have hhere : s.get It.tallySource = 12 ∧ bit 0x3f 0 = true := ⟨hsource, by decide⟩
      refine (if_pos hhere).trans ?_
      rw [← Counter.edge_forward_unit hacc hdebt, ← hprescale]
      rfl
    rw [hunit] at hlane hhist
    refine ⟨_, execInternalTallyTick_eq (State.runs_of_live hlive), hclk, ?_, ?_, hitems, howner, ?_⟩
    · dsimp only
      rw [hlane, Counter.unit, hacc]
    · dsimp only
      rw [hhist, pushUnit_of_int_ne _ _ (Counter.unit_int_ne _ _), hlane]
      rfl
    · rw [hframe]
  case stall =>
    intro s dt hlive hsource hrunning hdue
    obtain ⟨hlane, hhist, hitems, howner, hframe⟩ := State.tallyStall_recounted (s.advance dt)
    have hstall : (s.advance dt).laneStall = s.time.lane.freeze (s.now + dt) .stalled :=
      (if_neg (by simpa using hsource)).trans (if_pos ⟨hrunning, hdue⟩)
    refine ⟨_, timedLines_eq dt _ _ s _ (State.runs_of_live hlive) rfl ?_ ?_, hlane.trans hstall, ?_, hitems, howner, ?_⟩
    · rw [hframe]; rfl
    · rw [hframe]; rfl
    · rw [hhist, hlane]; rfl
    · exact hframe

end Sys2Proof.Machine
end

section
/-! SUPPORT. The messages between lanes and drive dies and the latency monitors (R46 to R58). -/

namespace Sys2Proof.Machine

open Sys2Proof.Safety

/-! ## Items that differ by their field -/

/-- Keys with different fields are keys of different items, whatever their indices. -/
theorem itemKey_ne_of_field {c i f c' i' f' : Nat} (h : f % 256 ≠ f' % 256) : itemKey c i f ≠ itemKey c' i' f' := by
  unfold itemKey
  omega

theorem State.get_set_of_ne (s : State) {k j : Nat} (v : Nat) (h : j ≠ k) : (s.set k v).get j = s.get j := by
  rw [State.get_set, if_neg h]

theorem State.get_seti_of_ne (s : State) {k j : Nat} (v : Int) (h : j ≠ k) : (s.seti k v).get j = s.get j :=
  s.get_set_of_ne _ h

theorem State.get_bump_of_ne (s : State) {k j : Nat} (h : j ≠ k) : (s.bump k).get j = s.get j := by
  rw [State.get_bump, if_neg h]

/-! ## Events and the drive dies -/

theorem State.evtTo_modValve (f : ValveBank → ValveBank) (m code : Nat) (p : List Byte) (s : State) :
    (s.modValve f).evtTo m code p = (s.evtTo m code p).modValve f := by
  have hplace : (s.modValve f).placeEvt m code p = (s.placeEvt m code p).modValve f := by
    unfold State.placeEvt
    dsimp only
    rw [apply_ite (State.modValve f)]
    rfl
  unfold State.evtTo
  rw [hplace]
  simp only [apply_ite (State.modValve f)]
  rfl

/-- What the drive dies hold is no part of an event, and an event no part of it. -/
theorem State.emit_modValve (f : ValveBank → ValveBank) (code : Nat) (p : List Byte) (s : State) :
    (s.modValve f).emit code p = (s.emit code p).modValve f := by
  unfold State.emit
  have hwants : (s.modValve f).wants code = s.wants code := rfl
  rw [hwants]
  clear hwants
  generalize (List.range 16).filter (s.wants code) = masters
  induction masters generalizing s with
  | nil => rfl
  | cons m rest ih => rw [List.foldl_cons, List.foldl_cons, State.evtTo_modValve, ih]

/-! ## Followers (R46, R52, Table 2.4) -/

theorem unitDiff_self (a : Nat) : unitDiff a a = 0 := by
  rw [unitDiff, Nat.add_sub_cancel_left, Nat.mod_self]
  rfl

theorem latchAgrees_of_eq {a b : Counter} (h : a.latched = b.latched) : latchAgrees a b = true := by
  simp [latchAgrees, h, unitDiff_self]

/-- Latched values that differ agree only through an edge near K (R46). -/
theorem latchAgrees_of_far {a b : Counter} (h : unitDiff a.latched b.latched ≠ 0) (ha : a.near = false) (hb : b.near = false) :
    latchAgrees a b = false := by
  simp [latchAgrees, h, ha, hb]

theorem State.followerCorrection_of_none {s : State} {die : Nat} (h : (nth s.time.dies die).corr = none) :
    s.followerCorrection die = s := by
  unfold State.followerCorrection
  rw [h]

/-- A correction found before the last K is added to the count of the follower and to its latched value (log entry 10). -/
theorem State.followerCorrection_of_due {s : State} {die k : Nat} {d : Int} (h : (nth s.time.dies die).corr = some (d, k))
    (hk : k < s.clk.kLast) :
    s.followerCorrection die = s.modTime fun tm => { tm with dies := upd tm.dies die fun f =>
      let c := { f.cnt with int := twos 48 (f.cnt.int + d), latched := twos 48 (f.cnt.latched + d) }
      { f with corr := none, cnt := c, jumps := if 0 < d then ((f.cnt.pos s.up, c.pos s.up) :: f.jumps).take 4096 else f.jumps } } := by
  unfold State.followerCorrection
  rw [h]
  exact if_pos hk

/-- A die of the lane's epoch without a correction, whose latched value does not agree with the lane's: it is steered, the
correction is set up, and the mismatch is counted and told (Table 2.4). -/
theorem State.followerCheck_of_mismatch {s : State} {die : Nat} (off : Int) (hcorr : (nth s.time.dies die).corr = none)
    (hepoch : (nth s.time.dies die).epoch = s.get It.mtimeEpoch)
    (hfar : latchAgrees s.time.lane (nth s.time.dies die).cnt = false) :
    s.followerCheck die off =
      ((s.modTime fun tm => { tm with dies := upd tm.dies die fun f => { f with
        off := clampInt (-200) 200 off, lastMsg := s.up, epoch := s.get It.mtimeEpoch
        corr := some (unitDiff s.time.lane.latched (nth s.time.dies die).cnt.latched, s.clk.kLast) } }).bump It.followerMismatch).emit
        0x0581 (toLE 1 die ++ toLE 3 0 ++ toLE 4 (twos 32 (unitDiff s.time.lane.latched (nth s.time.dies die).cnt.latched)) ++
          toLE 8 s.cycle) := by
  unfold State.followerCheck
  rw [State.followerCorrection_of_none hcorr]
  dsimp only
  rw [if_neg (fun hne => hne hepoch), hfar, if_neg Bool.false_ne_true]
  simp only [State.modTime, upd_upd]
  rfl

theorem State.each_eq_self {l : List Nat} {f : Nat → State → State} {s : State} (h : ∀ n ∈ l, f n s = s) : s.each l f = s := by
  unfold State.each
  induction l with
  | nil => rfl
  | cons n r ih =>
    obtain ⟨hn, hr⟩ := List.forall_mem_cons.1 h
    rw [List.foldl_cons, hn, ih hr]

theorem mem_banksOf {die b : Nat} (h : b ∈ banksOf die) : b / 4 = die := by
  obtain ⟨i, hi, rfl⟩ := List.mem_map.1 h
  have := List.mem_range.1 hi
  omega

/-- A message that ends no output timeout is the comparison of the follower and the release of the staged values. -/
theorem State.cycleStart_of_accepted {s : State} {die : Nat} {lane : Nat} (off : Int) (haccepts : s.accepts lane = true)
    (hcause : ∀ b, b / 4 = die →
      bit ((((s.set (It.drvLane die) (lane + 1)).followerCheck die off).get (It.bankSafeCause b))) 1 = false) :
    s.cycleStart die lane off = ((s.set (It.drvLane die) (lane + 1)).followerCheck die off).modValve fun v =>
      { v with stage := v.stage.map fun d => if d.die = die then { d with loaded := true } else d } := by
  unfold State.cycleStart
  rw [haccepts]
  refine State.each_eq_self fun b hb => if_neg ?_
  exact Bool.eq_false_iff.1 (hcause b (mem_banksOf hb))

/-! ## Lane link and latency monitors (R51, R58) -/

/-- An offset within the step threshold is reported, and made smaller by the free value (log entry 166). -/
theorem State.steerStandby_of_small {found : Int} (s : State) (h : found.natAbs ≤ 1000) : ∃ left : Int,
    s.steerStandby found = ((s.seti It.laneOffsetNs found).modTime fun tm => { tm with standbyOff := left }).useFree 1 ∧
      (found - left).natAbs ≤ 10 ∧ left.natAbs ≤ found.natAbs := by
  have hby := Nat.lt_succ_iff.1 (Nat.mod_lt (Config.freeValue s.free) (Nat.succ_pos (min 10 found.natAbs)))
  refine ⟨if found < 0 then found + (Config.freeValue s.free % (min 10 found.natAbs + 1) : Nat)
    else found - (Config.freeValue s.free % (min 10 found.natAbs + 1) : Nat), ?_, ?_⟩
  · unfold State.steerStandby
    rw [if_neg (Nat.not_lt.2 h)]
    rfl
  · generalize Config.freeValue s.free % (min 10 found.natAbs + 1) = by_ at hby ⊢
    split <;> omega

/-- Where no lane was restarted or took over and no update is under way, a change of the lanes means nothing more. -/
theorem State.updLanes_of_no_session {s before : State} (hses : s.fw.ses = none) (hfail : s.get It.failovers = before.get It.failovers)
    (hrestarts : ∀ x, s.get (It.laneRestarts x) = before.get (It.laneRestarts x)) : s.updLanes before = s := by
  unfold State.updLanes
  simp only [hfail, hrestarts, bne_self_eq_false, Bool.or_self, Bool.false_eq_true, if_false]
  unfold State.updFollow
  rw [hses]

/-- At a standby lane whose latched value agrees, the message of the lane link steers its mtime and does no more. -/
theorem State.laneMessage_of_agreement {s : State} (off : Int) (haccepting : s.lanes.accepting = true)
    (hstandby : s.lane (1 - s.lanes.latch) = 3) (hlink : s.linkCarries = true) (hses : s.fw.ses = none)
    (hlatched : s.time.standby.latched = s.time.lane.latched) (hsmall : (s.time.standbyOff + off).natAbs ≤ 1000) : ∃ left : Int,
    (s.laneMessage off).updLanes s =
        ((s.seti It.laneOffsetNs (s.time.standbyOff + off)).modTime fun tm => { tm with standbyOff := left }).useFree 1 ∧
      (s.time.standbyOff + off - left).natAbs ≤ 10 ∧ left.natAbs ≤ (s.time.standbyOff + off).natAbs := by
  obtain ⟨left, hsteer, hbounds⟩ := s.steerStandby_of_small hsmall
  refine ⟨left, ?_, hbounds⟩
  have hheard : (!(s.lanes.accepting && s.linkCarries &&
      (s.lane (1 - s.lanes.latch) == 2 || s.lane (1 - s.lanes.latch) == 3))) = false := by
    simp [haccepting, hlink, hstandby]
  have hmessage : s.laneMessage off = s.steerStandby (s.time.standbyOff + off) := by
    unfold State.laneMessage
    dsimp only
    rw [hheard, if_neg Bool.false_ne_true, hsteer]
    exact if_pos (.inr (latchAgrees_of_eq hlatched))
  have hget : ∀ k, k ≠ It.laneOffsetNs →
      (((s.seti It.laneOffsetNs (s.time.standbyOff + off)).modTime fun tm => { tm with standbyOff := left }).useFree 1).get k =
        s.get k := by
    intro k hk
    rw [State.useFree_get, State.modTime_get, State.get_seti_of_ne _ _ hk]
  rw [hmessage, hsteer]
  exact State.updLanes_of_no_session hses (hget _ (itemKey_ne_of_field (by decide))) fun x => hget _ (itemKey_ne_of_field (by decide))

theorem State.setGuard_of_ne {s : State} {k g : Nat} (code : Nat) (p : List Byte) (h : s.get k ≠ g) :
    s.setGuard k g code p = (s.set k g).emit code p :=
  if_neg h

theorem State.lmSilent_of_due {s : State} {n l : Nat} (hinactive : s.get (It.lmState n) ≠ 0) (hsilent : s.get (It.lmState n) ≠ 5)
    (hsource : s.get (It.lmSource n) ≠ 0) (hlast : (nth s.time.lat n).lastAt = some l)
    (hdue : s.get (It.lmStaleMs n) * 1000000 ≤ s.now - l) :
    s.lmSilent n = (s.set (It.lmState n) 5).emit 0x0583
      (toLE 1 n ++ toLE 1 0 ++ toLE 2 5 ++ toLE 4 0 ++ toLE 8 s.now) := by
  unfold State.lmSilent
  dsimp only
  rw [if_neg (by simp [hinactive, hsilent, hsource]), hlast, Option.getD_some, if_pos hdue]
  exact State.setGuard_of_ne _ _ hsilent

/-! ## The obligations -/

/-- Settles O3: the drive die's comparison, its correction, the steering of the standby lane, and the silence of a monitor. -/
theorem followersKeepStep : Obligations.FollowersKeepStep := by
  unfold Obligations.FollowersKeepStep
  refine ⟨?discarded, ?mismatch, ?correction, ?lanelink, ?silent⟩
  case discarded =>
    intro s dt die lane off hpowered hrefused
    refine timedDie_eq dt _ s _ hpowered ?_ rfl rfl
    exact if_pos (by rw [Bool.not_eq_true']; exact hrefused)
  case mismatch =>
    intro s dt die lane off hpowered haccepts hcorr hepoch hlane hdie hdiff hcause
    have hget : ∀ k, k ≠ It.drvLane die → ((s.advance dt).set (It.drvLane die) (lane + 1)).get k = s.get k :=
      fun k hk => State.get_set_of_ne _ _ hk
    have hepochKey : It.mtimeEpoch ≠ It.drvLane die := itemKey_ne_of_field (by decide)
    have hcheck := State.followerCheck_of_mismatch (s := (s.advance dt).set (It.drvLane die) (lane + 1)) off hcorr
      (hepoch.trans (hget _ hepochKey).symm) (latchAgrees_of_far hdiff hlane hdie)
    refine timedDie_eq dt _ s _ hpowered ?_ (by rw [State.emit_clk]; rfl) (by rw [State.emit_pending]; rfl)
    rw [State.cycleStart_of_accepted (s := s.advance dt) off haccepts, hcheck, ← State.emit_modValve, hget _ hepochKey]
    · rfl
    · intro b hb
      have hlost : ∀ m < 16, It.bankSafeCause b ≠ It.eventsLost m := fun m _ => itemKey_ne_of_field (by decide)
      rw [hcheck, State.emit_get _ _ _ _ hlost, State.get_bump_of_ne _ (itemKey_ne_of_field (by decide)), State.modTime_get,
        hget _ (itemKey_ne_of_field (by decide))]
      exact (hcause b (by omega)).resolve_left (fun hne => hne hb)
  case correction =>
    intro s dt die d k hlive hcorr hk
    exact timedRun_eq dt _ s _ (State.runs_of_live hlive) (State.followerCorrection_of_due hcorr hk) rfl rfl
  case lanelink =>
    intro s dt off hlive haccepting hstandby hlink hses hlatched hlow hhigh
    obtain ⟨left, hsteered, hstep, hless⟩ := State.laneMessage_of_agreement (s := s.advance dt) off haccepting hstandby hlink hses
      hlatched (show (s.time.standbyOff + off).natAbs ≤ 1000 by omega)
    exact ⟨_, timed_eq dt (fun a => (a.laneMessage off).updLanes a) s _ hlive hsteered rfl rfl, hstep, hless, rfl⟩
  case silent =>
    intro s dt l n hlive hinactive hsilent hsource hlast hdue
    refine timedRun_eq dt _ s _ (State.runs_of_live hlive) ?_ (by rw [State.emit_clk]; rfl) (by rw [State.emit_pending]; rfl)
    exact State.lmSilent_of_due hinactive hsilent hsource hlast hdue

end Sys2Proof.Machine
end

section
/-! SUPPORT. What the opcodes of Table 2.11 answer, and the commands whose frame is taken at once (R59 to R63). -/

namespace Sys2Proof.Machine

open Sys2Proof.Safety

/-! ## The opcodes on any state -/

theorem opCalendarSet_accepted (m : Nat) (f : Frame) (s : State) (hpast : u64At f.p 8 ≤ s.now)
    (hrecent : s.now ≤ u64At f.p 8 + 10000000000) (hyear : 1577836800000000000 ≤ u64At f.p 0) :
    opCalendarSet m f s = reply [] (((s.modTime fun tm =>
      { tm with calBase := u64At f.p 0 + (s.now - u64At f.p 8), calAt := s.now }).set It.calendarValid 1).bump It.calendarSets) :=
  if_neg (by omega)

/-- While a rate is known, TALLY_FORECAST converts the distance at that rate (R62). -/
theorem opTallyForecast_of_rate (m : Nat) (f : Frame) (s : State) (hnear : withinTally s.time.lane s.now (u64At f.p 0) = true)
    (hrate : s.time.lane.rate ≠ 0) :
    opTallyForecast m f s = reply (toLE 8 (twos 64 (s.now + distanceNs (posDiff (u64At f.p 0) s.pos) s.time.lane.rate)) ++
      toLE 2 (if posDiff (u64At f.p 0) s.pos ≤ 0 then 2 else 0) ++ toLE 6 0) s := by
  unfold opTallyForecast
  dsimp only
  rw [hnear, Bool.not_true, if_neg Bool.false_ne_true, if_neg hrate]

theorem opLatencyRelearn_accepted (m : Nat) (f : Frame) (s : State) (hn : u8At f.p 0 ≤ 31) (hz : zeroAt f.p 1 3 = true)
    (hsource : s.get (It.lmSource (u8At f.p 0)) ≠ 0) :
    opLatencyRelearn m f s =
      reply [] ((s.modTime fun tm => { tm with lat := upd tm.lat (u8At f.p 0) LatMon.clear }).setLm (u8At f.p 0) 1) := by
  have hform : ¬ (31 < u8At f.p 0 ∨ (!zeroAt f.p 1 3) = true) := by simp [hn, hz]
  unfold opLatencyRelearn
  dsimp only
  rw [if_neg hform, if_neg hsource]

/-- An item of another field than frames_rx reads while a frame is executed as it did when the frame came. -/
theorem get_taking_of_field (m : Nat) (f : Frame) (a : State) {c i fld : Nat} (h : fld % 256 ≠ 7) :
    (taking m f a).get (itemKey c i fld) = a.get (itemKey c i fld) :=
  get_taking m f a _ (itemKey_ne_of_field h)

/-! ## The obligation -/

/-- Settles O4: on the state in which a taken frame executes, each opcode has the effect and the answer named. -/
theorem timeCommandsAnswer : Obligations.TimeCommandsAnswer := by
  unfold Obligations.TimeCommandsAnswer
  refine ⟨?read, ?calendar, ?forecast, ?relearn⟩
  case read =>
    intro s dt m h p ha
    refine cmdRow_replied opTimeRead _ dt m h p s id _ ha ?_ rfl rfl
    unfold opTimeRead
    rw [get_taking_of_field _ _ _ (by decide), get_taking_of_field _ _ _ (by decide)]
    rfl
  case calendar =>
    intro s dt m h p ha hpast hrecent hyear
    exact cmdRow_replied opCalendarSet _ dt m h p s _ _ ha (opCalendarSet_accepted _ _ _ hpast hrecent hyear) rfl rfl
  case forecast =>
    intro s dt m h p ha hnear hrate
    refine cmdRow_replied opTallyForecast _ dt m h p s id _ ha ?_ rfl rfl
    exact opTallyForecast_of_rate _ _ _ (decide_eq_true hnear) hrate
  case relearn =>
    intro s dt m h p ha hn hz hsource hstate
    refine cmdRow_replied opLatencyRelearn _ dt m h p s _ _ ha ?_ (by rw [State.emit_clk]; rfl) (by rw [State.emit_pending]; rfl)
    rw [opLatencyRelearn_accepted _ _ _ hn hz (by rwa [get_taking_of_field _ _ _ (by decide)])]
    unfold State.setLm
    rw [State.setGuard_of_ne]
    · rfl
    · rwa [State.modTime_get, get_taking_of_field _ _ _ (by decide)]

end Sys2Proof.Machine
end

section
/-! SUPPORT. What the opcodes that open, fill, list and cancel slates do (R100 to R103, R114, R127). -/

namespace Sys2Proof.Machine

open Sys2Proof.Safety

/-! ## Slates that may be filled -/

/-- The number of a slate is not 0xff, which names none. -/
theorem ne_noSlate_of_lt {i : Nat} (h : i < 8) : i ≠ 0xff := by omega

theorem State.fillable_of_open {s : State} {i : Nat} (hopen : (s.slate i).st = .opened) (hoffer : s.mail.offer = none) :
    s.fillable i = true := by
  simp [State.fillable, hopen, hoffer]

/-! ## Opening, loading and listing -/

/-- The slate that SLATE_OPEN opens: the lowest free one for slate 0xff, else the one named while it is free (R100). -/
def State.openPick (s : State) (i : Nat) : Option Nat :=
  if i = 0xff then (s.slatesIn [.free]).head? else if (s.slate i).st = .free then some i else none

theorem opSlateOpen_of_pick (m : Nat) (f : Frame) {s : State} {j : Nat} (hpick : s.openPick f.h.slate.toNat = some j)
    (hoffer : s.mail.offer = none) : opSlateOpen m f s = (s.modSlate j fun _ => { st := .opened }, { slate := some j }) := by
  unfold State.openPick at hpick
  unfold opSlateOpen
  dsimp only
  rw [hpick, hoffer]
  rfl

/-- SLATE_LOAD of an image of the right form, with at least one entry, whose entries are all taken (R103). -/
theorem opSlateLoad_accepted (m : Nat) (f : Frame) (s : State) {img : List Byte} {es : List (Nat × Nat)}
    (hslate : f.h.slate.toNat ≠ 0xff) (hfill : s.fillable f.h.slate.toNat = true) (hz : zeroAt f.p 12 4 = true)
    (himg : s.blkImage m (u16At f.p 0) (u16At f.p 2) (u32At f.p 4) (u32At f.p 8) = .ok img) (hi : ImageOk img)
    (hcount : 0 < u16At img 8)
    (htaken : s.takeEntries false 0 ((List.range (u16At img 8)).map (imageRow img)) (s.slate f.h.slate.toNat).entries = .ok es) :
    opSlateLoad m f s =
      ((s.modSlate f.h.slate.toNat fun x => { x with entries := es, build := u32At img 12 }).blkConsume m (u16At f.p 0) (u16At f.p 2),
        { status := stStaged, payload := refusedAt 0xffff 0 }) := by
  have hform : ¬ (u32At img 0 ≠ 1 ∨ u32At img 4 ≠ 0x9648 ∨ u16At img 8 = 0 ∨ 4096 < u16At img 8 ∨ (!zeroAt img 10 2) = true ∨
      img.length ≠ 16 + 16 * u16At img 8) := by
    simp [hi.format, hi.part, hi.reserved, hi.size, hi.count, Nat.ne_of_gt hcount]
  unfold opSlateLoad
  simp only [hslate, hz, hfill, himg, hform, Bool.not_true, Bool.false_eq_true, false_or, if_false, htaken]

theorem opSlateEntries_of_index (m : Nat) (f : Frame) (s : State) (hslate : f.h.slate.toNat ≠ 0xff) (hn : 0 < u16At f.p 2)
    (hmax : u16At f.p 2 ≤ 62) (hst : (s.slate f.h.slate.toNat).st ≠ .free)
    (hfirst : u16At f.p 0 ≤ (s.slate f.h.slate.toNat).entries.length) :
    opSlateEntries m f s =
      (let es := ((s.slate f.h.slate.toNat).entries.drop (u16At f.p 0)).take (u16At f.p 2)
      reply (toLE 2 es.length ++ toLE 2 0 ++ es.flatMap entryBytes) s) := by
  have hform : ¬ (f.h.slate.toNat = 0xff ∨ u16At f.p 2 = 0 ∨ 62 < u16At f.p 2) := by omega
  unfold opSlateEntries
  dsimp only
  rw [if_neg hform, if_neg hst, if_neg (Nat.not_lt.2 hfirst)]

/-! ## The obligations -/

/-- Settles O12: each opcode, on the state in which its frame is executed, has the effect and the answer named. -/
theorem slatesAreOpenedAndFilled : Obligations.SlatesAreOpenedAndFilled := by
  unfold Obligations.SlatesAreOpenedAndFilled
  refine ⟨?lowest, ?named, ?load, ?list, ?entries⟩
  case lowest =>
    intro s dt m h p j ha hany hfree hoffer
    exact cmdRow_replied opSlateOpen _ dt m h p s _ _ ha (opSlateOpen_of_pick m _ ((if_pos hany).trans hfree) hoffer) rfl rfl
  case named =>
    intro s dt m h p ha hslate hfree hoffer
    exact cmdRow_replied opSlateOpen _ dt m h p s _ _ ha
      (opSlateOpen_of_pick m _ ((if_neg (ne_noSlate_of_lt hslate)).trans (if_pos hfree)) hoffer) rfl rfl
  case load =>
    intro s dt m h p img es ha hslate hz hopen hoffer himg hformat hpart hcount hmax hreserved hsize htaken
    exact cmdRow_replied opSlateLoad _ dt m h p s _ _ ha
      (opSlateLoad_accepted m _ _ (ne_noSlate_of_lt hslate) (State.fillable_of_open hopen hoffer) hz (eq_ok_of_toOption himg)
        ⟨hformat, hpart, hmax, hreserved, hsize⟩ hcount (eq_ok_of_toOption htaken)) rfl rfl
  case list =>
    intro s dt m h p ha hslate
    exact cmdRow_replied opSlateList _ dt m h p s id _ ha (if_neg hslate) rfl rfl
  case entries =>
    intro s dt m h p ha hslate hn hmax hst hfirst
    exact cmdRow_replied opSlateEntries _ dt m h p s id _ ha
      (opSlateEntries_of_index m _ _ (ne_noSlate_of_lt hslate) hn hmax hst hfirst) rfl rfl

/-! ### A cancel of an OPEN slate for which a cancel still waits -/

/-- Slate 3 is OPEN while a cancel waits for it, whose response master 1 has yet to get; master 0 is the owner. -/
def openWithCancel : State :=
  let r : State := { State.reset with
    phase := .up, lanes := { State.reset.lanes with consuming := true }, mail := { State.reset.mail with owner := some 0 } }
  ((r.set (It.sessionState 0) 2).modSlate 3 fun _ => { st := .opened, cancelK := some 0 }).modMaster 1 fun ma => { ma with
    outq := [{ seq := 0, op := 0x0304, status := stOk, slate := 3, payload := [], wait := .cancel 3, cycle := 0, changing := true }] }

/-- The header of master 0 for SLATE_CANCEL of slate 3. -/
def cancelHdr : Hdr :=
  let h : Hdr := { mfield := 0, ring := 0, flags := 0, seq := 0, slate := 3, rsv := 0, status := 0, check := 0 }
  { h with check := BitVec.ofNat 32 (expectedCheck (rowFrame 0x0304 h [])) }

theorem openWithCancel_accepts : Accepts 0 (rowFrame 0x0304 cancelHdr []) (openWithCancel.advance 0) := by decide +kernel

/-- How many responses wait in a master's queue in the state that a step answers. -/
def queuedFor (m : Nat) : Host.Outcome State Fault Refusal → Nat
  | .next t => (t.master m).outq.length
  | _ => 0

/-- Refutes O13: clause (c) has no premise that no cancel waits for the OPEN slate. The commands let a cancel wait only for a slate
that is COMMITTED or PREPARED, but the statement admits `openWithCancel`: there the discard answers the waiting cancel of master 1
(R114), where the clause leaves it in its queue. -/
theorem not_slatesAreCommittedAndCancelled : ¬ Obligations.SlatesAreCommittedAndCancelled := by
  unfold Obligations.SlatesAreCommittedAndCancelled
  rintro ⟨-, -, hopen, -⟩
  have hclause := hopen openWithCancel 0 0 cancelHdr [] openWithCancel_accepts (by decide) rfl rfl
  have hmodel : queuedFor 1 (exec (.slateCancel 0 0 cancelHdr []) openWithCancel) = 0 := by decide +kernel
  rw [hclause] at hmodel
  exact absurd hmodel (by decide +kernel)

end Sys2Proof.Machine
end

section
/-! SUPPORT. Slates that are freed, ring-wide carries and the store transaction (R116, R120 to R122, Table 4.1). -/

namespace Sys2Proof.Machine

open Sys2Proof.Safety

/-! ## Slates freed -/

theorem State.cancelAnswer_shape (i st : Nat) (s : State) : ∃ ms,
    s.cancelAnswer i st = { s with mail := { s.mail with masters := ms } } :=
  State.fold_shape _ (fun s m => State.answerNow_shape m _ st s) _ s

/-- A slate for which no cancel waits is freed, counted and reported (Table 4.1). -/
theorem State.discardSlate_of_no_cancel {s : State} {i : Nat} (cause : Nat) (h : (nth s.sb.slates i).cancelK = none) :
    s.discardSlate i cause = ((s.modSlate i fun _ => {}).bump It.slatesDiscarded).emit 0x0381
      (toLE 1 i ++ toLE 1 0 ++ toLE 2 cause ++ toLE 4 (nth s.sb.slates i).txn ++ toLE 8 s.cycle) := by
  unfold State.discardSlate
  simp only [h, Option.isSome_none, Bool.false_eq_true, if_false]
  rfl

/-- A slate freed, whether a cancel waits for it or not: beside the slate, only mailboxes, the count of slates discarded and the
counters of lost events change. -/
theorem State.discardSlate_shape (i cause : Nat) (s : State) : ∃ ms it,
    s.discardSlate i cause = { s.modSlate i fun _ => {} with mail := { s.mail with masters := ms }, items := it } ∧
      ∀ k, (∀ m < 16, k ≠ It.eventsLost m) → it.read s.variant k = (s.bump It.slatesDiscarded).get k := by
  have hanswered : ∃ ms, (if (nth s.sb.slates i).cancelK.isSome then s.cancelAnswer i stOk else s) =
      { s with mail := { s.mail with masters := ms } } := by
    split
    · exact s.cancelAnswer_shape i stOk
    · exact ⟨_, rfl⟩
  obtain ⟨ms, hms⟩ := hanswered
  unfold State.discardSlate
  dsimp only
  rw [hms]
  obtain ⟨ms', it, hemit, hget⟩ := State.emit_shape 0x0381
    (toLE 1 i ++ toLE 1 0 ++ toLE 2 cause ++ toLE 4 (nth s.sb.slates i).txn ++ toLE 8 s.cycle)
    ((({ s with mail := { s.mail with masters := ms } } : State).modSlate i fun _ => {}).bump It.slatesDiscarded)
  exact ⟨ms', it, hemit, hget⟩

/-! ## The vote and the decision of a ring-wide carry -/

/-- A prepare of the right form, from a ring master, that passes every check and the rule of its deadline. -/
theorem opRingPrepare_accepted (m : Nat) (f : Frame) (s : State) (hlow : 4 ≤ m) (hhigh : m ≤ 11) (hslate : f.h.slate.toNat ≠ 0xff)
    (hbasis : u8At f.p 4 ≤ 1) (hn : 0 < u8At f.p 5) (hmax : u8At f.p 5 ≤ 64) (hz : zeroAt f.p 6 2 = true)
    (hfill : s.fillable f.h.slate.toNat = true) (hnone : s.slatesIn [.prepared] = []) (hphase : s.phase ≠ .parking)
    (hcheck : s.slateCheck (s.slate f.h.slate.toNat).entries (u8At f.p 4) (u64At f.p 8) = none)
    (hdeadline : s.deadlineOk (u8At f.p 4) (u64At f.p 8) (u64At f.p 16) (slateLead (s.slate f.h.slate.toNat).entries) = true) :
    opRingPrepare m f s = report stOk {} (((s.modSlate f.h.slate.toNat fun x => { x with
      st := .prepared, basis := u8At f.p 4, instant := u64At f.p 8, txn := u32At f.p 0, deadline := u64At f.p 16, ringWide := true
      order := s.sb.nextOrder }).modSb fun b => { b with
        nextOrder := b.nextOrder + 1, expired := b.expired.filter (· != u32At f.p 0) }).stageDies f.h.slate.toNat) := by
  have hmaster : ¬ (m < 4 ∨ 11 < m) := by omega
  have hform : ¬ (f.h.slate.toNat = 0xff ∨ 1 < u8At f.p 4 ∨ u8At f.p 5 = 0 ∨ 64 < u8At f.p 5 ∨ (!zeroAt f.p 6 2) = true) := by
    simp [hslate, hbasis, hmax, hz, Nat.ne_of_gt hn]
  have hmay : ¬ ((!s.fillable f.h.slate.toNat) = true ∨ (!(s.slatesIn [.prepared]).isEmpty) = true ∨ s.phase = .parking) := by
    simp [hfill, hnone, hphase]
  unfold opRingPrepare
  dsimp only
  rw [if_neg hmaster, if_neg hform, if_neg hmay, hcheck]
  dsimp only
  rw [hdeadline, Bool.not_true, if_neg Bool.false_ne_true]

/-- Two changes of a slate are the same when they agree on what the slate holds. -/
theorem State.modSlate_congr {s : State} {i : Nat} {f g : Slate → Slate} (h : f (s.slate i) = g (s.slate i)) :
    s.modSlate i f = s.modSlate i g := by
  have hupd : upd s.sb.slates i f = upd s.sb.slates i g := by
    refine upd_congr _ _ _ _ fun x hx => ?_
    rw [State.slate, nth, List.getD_eq_getElem?_getD, hx] at h
    exact h
  unfold State.modSlate State.modSb
  dsimp only
  rw [hupd]

/-- A decision of the right form from a ring master on the slate PREPARED for its transaction, before the decision deadline and with
no cancel waiting. -/
structure DecidesInTime (m : Nat) (f : Frame) (s : State) : Prop where
  low : 4 ≤ m
  high : m ≤ 11
  slate : f.h.slate.toNat ≠ 0xff
  decision : u8At f.p 4 ≤ 1
  reserved : zeroAt f.p 5 3 = true
  offer : s.mail.offer = none
  prepared : (s.slate f.h.slate.toNat).st = .prepared
  txn : (s.slate f.h.slate.toNat).txn = u32At f.p 0
  cancel : (s.slate f.h.slate.toNat).cancelK = none
  early : s.now < (s.slate f.h.slate.toNat).deadline

theorem opRingDecide_in_time {m : Nat} {f : Frame} {s : State} (h : DecidesInTime m f s) : opRingDecide m f s =
    if u8At f.p 4 = 0 then reply [] (s.discardSlate f.h.slate.toNat 3)
    else reply [] (((s.modSlate f.h.slate.toNat fun x => { x with
      st := .committed, deadline := 0, order := s.sb.nextOrder, cancelK := none }).modSb fun b => { b with
        nextOrder := b.nextOrder + 1 }).stageDies f.h.slate.toNat) := by
  obtain ⟨hlow, hhigh, hslate, hdecision, hz, hoffer, hprepared, htxn, hcancel, hearly⟩ := h
  have hmaster : ¬ (m < 4 ∨ 11 < m) := by omega
  have hform : ¬ (f.h.slate.toNat = 0xff ∨ 1 < u8At f.p 4 ∨ (!zeroAt f.p 5 3) = true) := by simp [hslate, hdecision, hz]
  have hown : ¬ ((s.slate f.h.slate.toNat).st ≠ .prepared ∨ (s.slate f.h.slate.toNat).txn ≠ u32At f.p 0) := by
    simp [hprepared, htxn]
  unfold opRingDecide
  dsimp only
  rw [if_neg hmaster, if_neg hform, hoffer, Option.isSome_none, if_neg Bool.false_ne_true, if_neg hown,
    if_neg (Nat.not_le.2 hearly), hcancel, Option.isSome_none, if_neg Bool.false_ne_true]

theorem opRingDecide_commit {m : Nat} {f : Frame} {s : State} (h : DecidesInTime m f s) (hcommit : u8At f.p 4 = 1) :
    opRingDecide m f s = reply [] (((s.modSlate f.h.slate.toNat fun x => { x with
      st := .committed, deadline := 0, order := s.sb.nextOrder }).modSb fun b => { b with
        nextOrder := b.nextOrder + 1 }).stageDies f.h.slate.toNat) := by
  have hyes : u8At f.p 4 ≠ 0 := by rw [hcommit]; decide
  rw [opRingDecide_in_time h, if_neg hyes]
  refine congrArg (fun t => reply [] ((State.modSb _ t).stageDies f.h.slate.toNat)) (State.modSlate_congr ?_)
  rw [← h.cancel]

theorem opRingDecide_abort {m : Nat} {f : Frame} {s : State} (h : DecidesInTime m f s) (habort : u8At f.p 4 = 0) :
    opRingDecide m f s = reply [] (((s.modSlate f.h.slate.toNat fun _ => {}).bump It.slatesDiscarded).emit 0x0381
      (toLE 1 f.h.slate.toNat ++ toLE 1 0 ++ toLE 2 3 ++ toLE 4 (s.slate f.h.slate.toNat).txn ++ toLE 8 s.cycle)) := by
  rw [opRingDecide_in_time h, if_pos habort, State.discardSlate_of_no_cancel 3 h.cancel]
  rfl

/-! ## The decision deadline and the store transaction -/

theorem State.deadlineExpiry_of_due {s : State} {i : Nat} (hprepared : (s.slate i).st = .prepared)
    (hdue : (s.slate i).deadline ≤ s.now) :
    s.deadlineExpiry i =
      ((s.modSb fun b => { b with expired := b.expired ++ [(s.slate i).txn] }).bump It.ringAborts).discardSlate i 4 :=
  if_pos ⟨hprepared, hdue⟩

/-- The oldest open transaction is written whole, and persist_pending tells whether another is open (R116). -/
theorem State.txnDone_of_open {s : State} {t : List (Nat × Nat)} {r : List (List (Nat × Nat))} (h : s.sb.txnOpen = t :: r) :
    s.txnDone = (s.modSb fun b => { b with stored := Store.putAll s.variant t b.stored, txnOpen := r }).set It.persistPending
      (if r = [] then 0 else 1) := by
  unfold State.txnDone
  rw [h]
  cases r <;> rfl

/-! ## The obligation -/

/-- Settles O14: each opcode on the state in which its frame is executed, the deadline and the store transaction on the lane. -/
theorem ringWideCarryVotes : Obligations.RingWideCarryVotes := by
  unfold Obligations.RingWideCarryVotes
  refine ⟨?prepare, ?commit, ?abort, ?expiry, ?store⟩
  case prepare =>
    intro s dt m h p ha hlow hhigh hslate hbasis hn hmax hz hopen hoffer hnone hphase hcheck hdeadline
    exact cmdRow_replied opRingPrepare _ dt m h p s _ _ ha
      (opRingPrepare_accepted m _ _ hlow hhigh (ne_noSlate_of_lt hslate) hbasis hn hmax hz (State.fillable_of_open hopen hoffer) hnone
        hphase hcheck hdeadline) rfl rfl
  case commit =>
    intro s dt m h p ha hlow hhigh hslate hcommit hz hoffer hprepared htxn hcancel hearly
    have hdecides : DecidesInTime m (rowFrame 0x0311 h p) (taking m (rowFrame 0x0311 h p) (s.advance dt)) :=
      ⟨hlow, hhigh, ne_noSlate_of_lt hslate, Nat.le_of_eq hcommit, hz, hoffer, hprepared, htxn, hcancel, hearly⟩
    exact cmdRow_replied opRingDecide _ dt m h p s _ _ ha (opRingDecide_commit hdecides hcommit) rfl rfl
  case abort =>
    intro s dt m h p ha hlow hhigh hslate habort hz hoffer hprepared htxn hcancel hearly
    have hdecides : DecidesInTime m (rowFrame 0x0311 h p) (taking m (rowFrame 0x0311 h p) (s.advance dt)) :=
      ⟨hlow, hhigh, ne_noSlate_of_lt hslate, Nat.le_of_lt (habort ▸ Nat.one_pos), hz, hoffer, hprepared, htxn, hcancel, hearly⟩
    exact cmdRow_replied opRingDecide _ dt m h p s _ _ ha (opRingDecide_abort hdecides habort)
      (by rw [State.emit_clk]; rfl) (by rw [State.emit_pending]; rfl)
  case expiry =>
    intro s dt sl hlive hprepared hdue
    obtain ⟨ms, it, hfreed, hget⟩ := State.discardSlate_shape sl 4
      (((s.advance dt).modSb fun b => { b with expired := b.expired ++ [(nth s.sb.slates sl).txn] }).bump It.ringAborts)
    have hexpiry := (State.deadlineExpiry_of_due (s := s.advance dt) hprepared hdue).trans hfreed
    refine ⟨_, timed_eq dt (State.deadlineExpiry sl) s _ hlive hexpiry rfl rfl, rfl, ?aborts, ?discarded, ?others, rfl, rfl⟩
    case aborts =>
      refine (hget _ fun m _ => itemKey_ne_of_field (by decide)).trans ?_
      rw [State.get_bump_of_ne _ (itemKey_ne_of_field (by decide)), State.get_bump, if_pos rfl]
      rfl
    case discarded =>
      refine (hget _ fun m _ => itemKey_ne_of_field (by decide)).trans ?_
      rw [State.get_bump, if_pos rfl, State.get_bump_of_ne _ (itemKey_ne_of_field (by decide))]
      rfl
    case others =>
      intro k hk hlost
      obtain ⟨haborts, hdiscarded⟩ : k ≠ It.ringAborts ∧ k ≠ It.slatesDiscarded := by simpa using hk
      refine (hget k hlost).trans ?_
      rw [State.get_bump_of_ne _ hdiscarded, State.get_bump_of_ne _ haborts]
      rfl
  case store =>
    intro s dt t r hlive hup haccepting hopen
    refine timedRun_eq dt _ s _ (State.runs_of_live hlive) ?_ rfl rfl
    refine (if_pos ?_).trans (State.txnDone_of_open hopen)
    simp [hup, haccepting]

end Sys2Proof.Machine
end

section
/-! SUPPORT. Pinned snapshots (R126). -/

namespace Sys2Proof.Machine

open Sys2Proof.Safety

/-- While the next handle is free, it is the first free one in the order of the pins. -/
theorem first_handle_free {used : Nat → Bool} {n : Nat} (hn : n < 256) (hfree : used n = false) :
    (((List.range 16).map fun i => (n + i) % 256).find? fun h => !used h).getD 0 = n := by
  have hfirst : (n + 0) % 256 = n := Nat.mod_eq_of_lt hn
  rw [List.range_succ_eq_map, List.map_cons, List.find?_cons_of_pos (by rw [hfirst, hfree]; rfl), hfirst]
  rfl

theorem opSnapshotPin_of_room (m : Nat) (f : Frame) (s : State) (hmine : (s.sb.pins.filter fun x => x.master == m).length < 2)
    (hall : s.sb.pins.length < 8) (hhandle : s.sb.nextHandle < 256)
    (hfree : s.sb.pins.any (fun x => x.handle == s.sb.nextHandle) = false) :
    opSnapshotPin m f s = reply (toLE 1 s.sb.nextHandle ++ toLE 3 0 ++ toLE 4 s.sb.snap.carry ++ toLE 8 s.sb.snap.cycle)
      (s.modSb fun b => { b with
        pins := b.pins ++ [{ handle := s.sb.nextHandle, master := m, at_ := s.now, snap := s.sb.snap }]
        nextHandle := (s.sb.nextHandle + 1) % 256
        gone := b.gone.filter fun g => g.1 != s.sb.nextHandle, lost := b.lost.filter fun g => g.1 != s.sb.nextHandle }) := by
  have hroom : ¬ (2 ≤ (s.sb.pins.filter fun x => x.master == m).length ∨ 8 ≤ s.sb.pins.length) := by omega
  unfold opSnapshotPin
  dsimp only
  rw [if_neg hroom, first_handle_free (used := fun h => s.sb.pins.any fun x => x.handle == h) hhandle hfree]

theorem opSnapshotRead_of_pin (m : Nat) (f : Frame) (s : State) {x : Pin} (hn : 0 < u16At f.p 2) (hmax : u16At f.p 2 ≤ 62)
    (hz : zeroAt f.p 1 1 = true) (hpin : s.sb.pins.find? (fun y => y.handle == u8At f.p 0 && y.master == m) = some x) :
    opSnapshotRead m f s = reply (readPayload s.variant false x.snap (readKeys f.p (u16At f.p 2))) s := by
  have hform : ¬ (u16At f.p 2 = 0 ∨ 62 < u16At f.p 2 ∨ (!zeroAt f.p 1 1) = true) := by simp [hz, hmax, Nat.ne_of_gt hn]
  unfold opSnapshotRead
  dsimp only
  rw [if_neg hform, hpin]

theorem length_readKeys (p : List Byte) (n : Nat) : (readKeys p n).length = n := by
  simp [readKeys]

theorem opSnapshotRelease_of_pin (m : Nat) (f : Frame) (s : State) (hz : zeroAt f.p 1 3 = true)
    (hpin : s.sb.pins.any (fun y => y.handle == u8At f.p 0 && y.master == m) = true) :
    opSnapshotRelease m f s = reply [] (s.unpin (u8At f.p 0)) := by
  unfold opSnapshotRelease
  dsimp only
  rw [hz, Bool.not_true, if_neg Bool.false_ne_true, if_pos hpin]

/-- A pin whose lifetime is over is freed (R126). -/
theorem execPinLifetimeExpiry_of_due {s : State} {dt handle : Nat} (hlive : s.live = true)
    (hdue : s.sb.pins.any (fun x => x.handle == handle && decide (x.at_ + s.get It.pinLifetimeMs * 1000000 ≤ s.now + dt)) = true) :
    execPinLifetimeExpiry dt handle s = .next ((s.advance dt).unpin handle) := by
  have hnow : (s.advance dt).now = s.now + dt := rfl
  unfold execPinLifetimeExpiry
  refine timed_eq dt _ s _ hlive ?_ rfl rfl
  rw [State.advance_sb, State.advance_get, hnow]
  exact if_pos hdue

/-! ## The obligation -/

/-- Settles O15: the three opcodes on the state in which their frame is executed, and the end of a pin's lifetime. -/
theorem snapshotsArePinned : Obligations.SnapshotsArePinned := by
  unfold Obligations.SnapshotsArePinned
  refine ⟨?pin, ?read, ?release, ?expiry⟩
  case pin =>
    intro s dt m h p ha hmine hall hhandle hfree
    exact cmdRow_replied opSnapshotPin _ dt m h p s _ _ ha (opSnapshotPin_of_room m _ _ hmine hall hhandle hfree) rfl rfl
  case read =>
    intro s dt m h p x ha hn hmax hz hpin
    refine cmdRow_replied opSnapshotRead _ dt m h p s id _ ha ((opSnapshotRead_of_pin m _ _ hn hmax hz hpin).trans ?_) rfl rfl
    rw [readPayload, length_readKeys]
    rfl
  case release =>
    intro s dt m h p ha hz hpin
    exact cmdRow_replied opSnapshotRelease _ dt m h p s _ _ ha (opSnapshotRelease_of_pin m _ _ hz hpin) rfl rfl
  case expiry =>
    intro s dt handle hlive hdue
    exact execPinLifetimeExpiry_of_due hlive hdue

end Sys2Proof.Machine
end

section
/-! SUPPORT. The carry on the lanes and at a drive die (R108 to R119, Table 4.7). -/

namespace Sys2Proof.Machine

open Sys2Proof.Safety

/-! ## Commands whose effect is named, not what it leaves of clock and queue -/

theorem timedAny_of_eq (dt : Nat) (f : State → State) (s t : State) (ht : f (s.advance dt) = t) :
    timedAny dt f s = .next { t with clk := (s.advance dt).clk, pending := (s.advance dt).pending } := by
  rw [← ht]
  rfl

theorem timed_of_live (dt : Nat) (f : State → State) (s t : State) (hlive : s.live = true) (ht : f (s.advance dt) = t) :
    timed dt f s = .next { t with clk := (s.advance dt).clk, pending := (s.advance dt).pending } :=
  timedAny_of_eq dt _ s t ((if_pos hlive).trans ht)

theorem timedDie_of_powered (dt : Nat) (f : State → State) (s t : State) (hpowered : s.powered = true) (ht : f (s.advance dt) = t) :
    timedDie dt f s = .next { t with clk := (s.advance dt).clk, pending := (s.advance dt).pending } :=
  timedAny_of_eq dt _ s t ((if_pos hpowered).trans ht)

/-! ## The store transaction of a carry -/

theorem State.openTxn_clk (es : List (Nat × Nat)) (s : State) : (s.openTxn es).clk = s.clk := by
  unfold State.openTxn
  split <;> rfl

theorem State.openTxn_time (es : List (Nat × Nat)) (s : State) : (s.openTxn es).time = s.time := by
  unfold State.openTxn
  split <;> rfl

theorem State.openTxn_get_of_ne (es : List (Nat × Nat)) (s : State) {k : Nat} (h : k ≠ It.persistPending) :
    (s.openTxn es).get k = s.get k := by
  unfold State.openTxn
  split
  · rfl
  · rw [State.get_set_of_ne _ _ h]
    rfl

/-- The items kept for what is stamped before C are no part of the store transaction. -/
theorem State.openTxn_before (es : List (Nat × Nat)) (l : List (Nat × Store)) (s : State) :
    (s.modSb fun b => { b with before := l }).openTxn es = (s.openTxn es).modSb fun b => { b with before := l } := by
  unfold State.openTxn
  split <;> rfl

/-! ## The release of a slate at C -/

/-- The values of some entries in force on the lanes with the next carry number, the instant of the carry and its position, and
their store transaction open (Table 4.7 steps 4, 5 and 8). -/
def State.inForce (es : List (Nat × Nat)) (s : State) : State :=
  State.openTxn es (((State.set It.carryNumber (s.get It.carryNumber + 1) { s with items := Store.putAll s.variant es s.items }).set
    It.lastCarryMtime s.now).set It.lastCarryTally s.pos)

theorem State.inForce_clk (es : List (Nat × Nat)) (s : State) : (s.inForce es).clk = s.clk := State.openTxn_clk es _

theorem State.inForce_time (es : List (Nat × Nat)) (s : State) : (s.inForce es).time = s.time := State.openTxn_time es _

theorem State.inForce_carryNumber (es : List (Nat × Nat)) (s : State) :
    (s.inForce es).get It.carryNumber = s.get It.carryNumber + 1 := by
  have hpending : It.carryNumber ≠ It.persistPending := itemKey_ne_of_field (by decide)
  have htally : It.carryNumber ≠ It.lastCarryTally := itemKey_ne_of_field (by decide)
  have hmtime : It.carryNumber ≠ It.lastCarryMtime := itemKey_ne_of_field (by decide)
  rw [State.inForce, State.openTxn_get_of_ne _ _ hpending, State.get_set_of_ne _ _ htally, State.get_set_of_ne _ _ hmtime,
    State.get_set, if_pos rfl]

/-- The items kept at an instant for what is stamped before C: those of the carries of the last 100 ms, and those in force (R119). -/
def State.keptItems (s : State) : List (Nat × Store) :=
  (s.sb.before.filter fun y => decide (s.now < y.1 + 100000000)) ++ [(s.now, s.items)]

theorem State.keepBefore_releaseEntries (es : List (Nat × Nat)) (s : State) : s.keepBefore.releaseEntries es =
    (s.inForce es).modSb fun b => { b with
      before := s.keptItems, ceiling := raised b.ceiling (s.get It.carryNumber + 1) } :=
  congrArg (State.modSb fun b => { b with ceiling := raised b.ceiling (s.get It.carryNumber + 1) })
    (State.openTxn_before es s.keptItems (((State.set It.carryNumber (s.get It.carryNumber + 1)
      { s with items := Store.putAll s.variant es s.items }).set It.lastCarryMtime s.now).set It.lastCarryTally s.pos))

/-- What a carry does once its values are in force: the slate is free, the carry waits to be reported at the next K, the stages of
the dies have its number, and the copies know of it (Table 4.7 steps 4 and 7). -/
def State.freedAsCarried (i : Nat) (x : Slate) (late n : Nat) (b : State) : State :=
  { b with
    sb := { b.sb with
      slates := upd b.sb.slates i fun _ => {}
      carried := b.sb.carried ++
        [{ slate := i, basis := x.basis, number := n, mtime := b.now, tally := b.pos, late := late }] }
    valve := { b.valve with stage := b.valve.stage.map fun d =>
      if d.slate = i ∧ d.order = x.order then { d with number := some n } else d }
    lanes := { b.lanes with carriedSince := b.lanes.carriedSince ++ [(b.cycle, i, x.entries)] } }

/-- The carry of a slate whose lateness takes no free value and for which no cancel waits. -/
theorem State.carryNow_of_late {s : State} {x : Slate} {late : Nat} (i : Nat) (hlate : s.carryLate x = (late, s))
    (hcancel : x.cancelK = none) :
    s.carryNow i x = ((s.keepBefore.releaseEntries x.entries).freedAsCarried i x late
      ((s.keepBefore.releaseEntries x.entries).get It.carryNumber)).carryHooks s.items (x.entries.map (·.1)) := by
  unfold State.carryNow
  simp only [hlate, hcancel, Option.isSome_none, Bool.false_eq_true, if_false]
  generalize s.keepBefore.releaseEntries x.entries = b
  rfl

/-- The release of a slate's values, with the instant, the position and the cycle of the state before it. -/
theorem State.freedAsCarried_release (i : Nat) (x : Slate) (late : Nat) (s : State) :
    (s.keepBefore.releaseEntries x.entries).freedAsCarried i x late ((s.keepBefore.releaseEntries x.entries).get It.carryNumber) =
      (let n := s.get It.carryNumber + 1
      let b := s.inForce x.entries
      { b with
        sb := { b.sb with
          before := s.keptItems
          ceiling := raised b.sb.ceiling n
          slates := upd b.sb.slates i fun _ => {}
          carried := b.sb.carried ++
            [{ slate := i, basis := x.basis, number := n, mtime := s.now, tally := s.pos, late := late }] }
        valve := { b.valve with stage := b.valve.stage.map fun d =>
          if d.slate = i ∧ d.order = x.order then { d with number := some n } else d }
        lanes := { b.lanes with carriedSince := b.lanes.carriedSince ++ [(s.cycle, i, x.entries)] } }) := by
  have hclk := s.inForce_clk x.entries
  have hnow : (s.inForce x.entries).now = s.now := congrArg Clock.mtime hclk
  have hcycle : (s.inForce x.entries).cycle = s.cycle := congrArg (fun c => c.mtime / 100000) hclk
  have hpos : (s.inForce x.entries).pos = s.pos := by rw [State.pos, s.inForce_time, hnow]; rfl
  rw [State.keepBefore_releaseEntries, State.modSb_get, State.inForce_carryNumber, ← hnow, ← hcycle, ← hpos]
  rfl

/-! ## The carry of the first slate, and at a drive die -/

theorem State.carry_of_first {s : State} {i : Nat} {x : Slate} (hslate : s.slate i = x) (hst : x.st = .committed)
    (hdue : s.carryDue x = true) (hfirst : s.committed.head? = some x) :
    s.carry i = (s.carryNow i x).carryWith x.basis x.instant 7 := by
  subst hslate
  exact if_pos ⟨hst, hdue, hfirst⟩

/-- The only stage that stands for a die is released when its instant is reached there (R117). -/
theorem State.dieCarry_of_only {s : State} {die i : Nat} {d : DieStage}
    (honly : s.valve.stage.filter (fun e => e.die == die && s.stageStands e) = [d]) (hslate : d.slate = i)
    (hreached : s.dieReached d = true) :
    s.dieCarry die i = (s.modValve fun v => { v with stage := v.stage.filter fun e =>
      e != d && (e.die != die || s.stageStays e) }).dieRelease die (d.number.getD (s.get It.carryNumber + 1)) d.entries := by
  unfold State.dieCarry
  rw [honly]
  exact if_pos ⟨hslate, hreached⟩

theorem State.dieReached_of_mtime {s : State} {d : DieStage} (hloaded : d.loaded = true) (hbasis : d.basis = 1)
    (hat : s.atDie (4 * d.die) true d.instant = true) : s.dieReached d = true := by
  simp [State.dieReached, hloaded, hbasis, hat]

/-! ## The obligation -/

/-- Settles O16: the first slate in the order of commits is released on the lanes, and the only stage that stands at the die. -/
theorem carryReleases : Obligations.CarryReleases := by
  unfold Obligations.CarryReleases
  refine ⟨?lanes, ?die⟩
  case lanes =>
    intro s dt sl x hlive hslate hst hbasis hdue hcancel hfirst
    have hreached : (s.advance dt).carryDue x = true := by
      rw [State.carryDue, if_neg (by rw [hbasis]; decide)]
      exact decide_eq_true hdue
    have hcarry := State.carry_of_first (s := s.advance dt) hslate hst hreached hfirst
    have hlate : (s.advance dt).carryLate x = ((s.advance dt).now - x.instant, s.advance dt) :=
      if_neg (by rw [hbasis]; decide)
    rw [State.carryNow_of_late _ hlate hcancel, State.freedAsCarried_release, hbasis] at hcarry
    exact timed_of_live dt (State.carry sl) s _ hlive hcarry
  case die =>
    intro s dt n die sl d hpowered honly hslate hbasis hnumber hloaded hat hdie
    have hreached : (s.advance dt).dieReached d = true :=
      State.dieReached_of_mtime hloaded hbasis (by rw [hdie]; exact hat)
    have hcarry := State.dieCarry_of_only (s := s.advance dt) honly hslate hreached
    rw [hnumber] at hcarry
    exact timedDie_of_powered dt (State.dieCarry die sl) s _ hpowered hcarry

end Sys2Proof.Machine
end

section
/-! SUPPORT. Frames and triggers of the camera ports, final statistics and emitted detections (R133 to R153). -/

namespace Sys2Proof.Machine

open Sys2Proof.Safety

/-! ## Ports, contexts and their latencies -/

theorem State.port_modPort {s : State} {p : Nat} (f : CamPort → CamPort) (h : p < s.cam.ports.length) :
    (s.modPort p f).port p = f (s.port p) := by
  rw [State.port, State.modPort_cam, nth_upd, if_pos ⟨rfl, h⟩]
  rfl

theorem State.ctx_modCtx {s : State} {c : Nat} (f : CamCtx → CamCtx) (h : c < s.cam.ctxs.length) :
    (s.modCtx c f).ctx c = f (s.ctx c) := by
  rw [State.ctx, State.modCtx_cam, nth_upd, if_pos ⟨rfl, h⟩]
  rfl

theorem lmLatencyNs_ne_eventsLost (n : Nat) : ∀ m < 16, It.lmLatencyNs n ≠ It.eventsLost m := by
  intro m hm
  simp only [It.lmLatencyNs, It.eventsLost, itemKey]
  omega

/-- The latency of a port is read from the sources, latencies and states of the monitors. -/
theorem State.portLatency_congr {s t : State} (p : Nat) (hsource : ∀ n, t.get (It.lmSource n) = s.get (It.lmSource n))
    (hlatency : ∀ n, t.get (It.lmLatencyNs n) = s.get (It.lmLatencyNs n)) (hstate : ∀ n, t.get (It.lmState n) = s.get (It.lmState n)) :
    t.portLatency p = s.portLatency p := by
  unfold State.portLatency State.latency
  simp only [hsource, hlatency, hstate]

/-- While no context is enabled, no frame has an owner (R140). -/
theorem ownerCtx_of_disabled {rd : Nat → Nat} (p n : Nat) (h : ∀ c < 8, rd (It.ctxEnable c) ≠ 1) : ownerCtx rd p n = none :=
  List.find?_eq_none.2 fun c hc => by simp [h c (List.mem_range.1 hc)]

/-! ## Operations on items, mailboxes and the camera bank alone -/

/-- From a state to one that differs in its items, the frames in its mailboxes, and the camera bank. -/
structure CamOnly (s t : State) : Prop where
  owner : SameOwner s t
  frame : t = { s with items := t.items, mail := t.mail, cam := t.cam }

theorem CamOnly.trans {s t u : State} (h : CamOnly s t) (h' : CamOnly t u) : CamOnly s u where
  owner := by rw [SameOwner, h'.owner, h.owner]
  frame := by rw [h'.frame, h.frame]

theorem State.set_camOnly (k v : Nat) (s : State) : CamOnly s (s.set k v) := ⟨rfl, rfl⟩

theorem State.modPort_camOnly (p : Nat) (f : CamPort → CamPort) (s : State) : CamOnly s (s.modPort p f) := ⟨rfl, rfl⟩

theorem State.emit_camOnly (code : Nat) (b : List Byte) (s : State) : CamOnly s (s.emit code b) := by
  obtain ⟨ms, it, h, -⟩ := State.emit_shape code b s
  rw [h]
  exact ⟨rfl, rfl⟩

/-! ## Deliveries judged at a start-of-frame (R151) -/

/-- From a state to one that differs in the contexts, the mailboxes, the counts of unconfirmed deliveries and those of lost events. -/
structure DeliveriesNoted (s t : State) : Prop where
  items : ItemsBut ((List.range 8).map It.ctxExpUnconfirmed) s t
  owner : SameOwner s t
  frame : t = { s with items := t.items, mail := t.mail, cam := { s.cam with ctxs := t.cam.ctxs } }

theorem DeliveriesNoted.refl (s : State) : DeliveriesNoted s s := ⟨fun _ _ _ => rfl, rfl, rfl⟩

theorem DeliveriesNoted.trans {s t u : State} (h : DeliveriesNoted s t) (h' : DeliveriesNoted t u) : DeliveriesNoted s u where
  items k hk hlost := (h'.items k hk hlost).trans (h.items k hk hlost)
  owner := by rw [SameOwner, h'.owner, h.owner]
  frame := by rw [h'.frame, h.frame]

theorem DeliveriesNoted.get_of_field {s t : State} (h : DeliveriesNoted s t) {c i f : Nat} (hf : f % 256 ≠ 0x29)
    (hlost : ∀ m < 16, itemKey c i f ≠ It.eventsLost m) : t.get (itemKey c i f) = s.get (itemKey c i f) := by
  refine h.items _ (fun hmem => ?_) hlost
  obtain ⟨d, -, hd⟩ := List.mem_map.1 hmem
  exact itemKey_ne_of_field (Ne.symm hf) hd

theorem DeliveriesNoted.portLatency {s t : State} (h : DeliveriesNoted s t) (p : Nat) : t.portLatency p = s.portLatency p :=
  State.portLatency_congr p (fun _ => h.get_of_field (by decide) fun _ _ => itemKey_ne_of_field (by decide))
    (fun n => h.get_of_field (by decide) (lmLatencyNs_ne_eventsLost n))
    (fun _ => h.get_of_field (by decide) fun _ _ => itemKey_ne_of_field (by decide))

theorem DeliveriesNoted.camOnly {s t : State} (h : DeliveriesNoted s t) : CamOnly s t := ⟨h.owner, by rw [h.frame]⟩

theorem DeliveriesNoted.port {s t : State} (h : DeliveriesNoted s t) (p : Nat) : t.port p = s.port p := by
  rw [State.port, h.frame]
  rfl

theorem State.modCtx_noted (c : Nat) (f : CamCtx → CamCtx) (s : State) : DeliveriesNoted s (s.modCtx c f) :=
  ⟨fun _ _ _ => rfl, rfl, rfl⟩

theorem State.emit_noted (code : Nat) (p : List Byte) (s : State) : DeliveriesNoted s (s.emit code p) := by
  obtain ⟨ms, it, h, hget⟩ := State.emit_shape code p s
  rw [h]
  exact ⟨fun k _ hk => hget k hk, rfl, rfl⟩

theorem State.unconfirmed_noted {c : Nat} (hc : c < 8) (d : Delivery) (s : State) : DeliveriesNoted s (s.unconfirmed c d) := by
  have hbump : DeliveriesNoted s (s.bump (It.ctxExpUnconfirmed c)) :=
    ⟨fun k hk _ => State.get_bump_of_ne s fun h => hk (h ▸ List.mem_map_of_mem (List.mem_range.2 hc)), rfl, rfl⟩
  exact hbump.trans (State.emit_noted _ _ _)

theorem State.judgeDeliveries_noted (p : Nat) (s : State) : DeliveriesNoted s (s.judgeDeliveries p) := by
  refine List.foldlRecOn (motive := DeliveriesNoted s) _ _ (.refl s) fun t ht c hc => ?_
  refine List.foldlRecOn (motive := DeliveriesNoted s) _ _ (ht.trans (t.modCtx_noted c _)) fun u hu d _ => ?_
  exact hu.trans (u.unconfirmed_noted (List.mem_range.1 hc) d)

/-! ## A start-of-frame without an owner (R133, R137, Table 5.12 step 1) -/

/-- What a start-of-frame does before the frame opens: it counts the port frame, judges the pending deliveries, and lets the records
that wait on the port become final. -/
def State.frameCounted (p : Nat) (s : State) : State :=
  ((s.set (It.camPortFrame p) (s.get (It.camPortFrame p) + 1)).judgeDeliveries p).each (List.range 8) fun c s =>
    s.modCtx c fun x => { x with waiting := x.waiting.map fun t => if t.port = p then { t with ready := true } else t }

theorem State.frameCounted_noted (p : Nat) (s : State) :
    DeliveriesNoted (s.set (It.camPortFrame p) (s.get (It.camPortFrame p) + 1)) (s.frameCounted p) :=
  List.foldlRecOn (motive := DeliveriesNoted _) _ _ (State.judgeDeliveries_noted p _) fun t ht c _ => ht.trans (t.modCtx_noted c _)

theorem State.get_frameCounted_of_field (p : Nat) (s : State) {c i f : Nat} (hcount : f % 256 ≠ 0x24) (hf : f % 256 ≠ 0x29)
    (hlost : ∀ m < 16, itemKey c i f ≠ It.eventsLost m) : (s.frameCounted p).get (itemKey c i f) = s.get (itemKey c i f) := by
  rw [(s.frameCounted_noted p).get_of_field hf hlost, State.get_set_of_ne _ _ (itemKey_ne_of_field hcount)]

theorem State.frameCounted_portFrame (p : Nat) (s : State) :
    (s.frameCounted p).get (It.camPortFrame p) = s.get (It.camPortFrame p) + 1 := by
  rw [(s.frameCounted_noted p).get_of_field (by decide) fun _ _ => itemKey_ne_of_field (by decide), State.get_set, if_pos rfl]

/-- The frame `n` of a port as it opens in a state without an owner, with its settings and its statistics. -/
def State.unownedFrame (s : State) (p n : Nat) (cfg : Store) (stats : CamStats) : CamFrame where
  n := n
  ctx := none
  cfg := cfg
  tables := s.cam.tables
  sof := { row := (s.port p).row, mtime := s.now, tally := s.pos, lat := s.portLatency p }
  stats := stats

theorem DeliveriesNoted.unownedFrame {s t : State} (h : DeliveriesNoted s t) (p n : Nat) (cfg : Store) (stats : CamStats) :
    t.unownedFrame p n cfg stats = s.unownedFrame p n cfg stats := by
  have htables : t.cam.tables = s.cam.tables := by rw [h.frame]
  have hnow : t.now = s.now := by rw [h.frame]
  have hpos : t.pos = s.pos := by rw [h.frame]; rfl
  rw [State.unownedFrame, h.port, h.portLatency, htables, hnow, hpos, State.unownedFrame]

/-- What is counted before the frame opens is no part of its stamps. -/
theorem State.frameCounted_unownedFrame (s : State) (p n : Nat) (cfg : Store) (stats : CamStats) :
    (s.frameCounted p).unownedFrame p n cfg stats = s.unownedFrame p n cfg stats := by
  have hget : ∀ {c i f}, f % 256 ≠ 0x24 →
      (s.set (It.camPortFrame p) (s.get (It.camPortFrame p) + 1)).get (itemKey c i f) = s.get (itemKey c i f) :=
    fun hf => State.get_set_of_ne _ _ (itemKey_ne_of_field hf)
  have hlatency := State.portLatency_congr p (fun _ => hget (by decide)) (fun _ => hget (by decide)) (fun _ => hget (by decide))
  rw [(s.frameCounted_noted p).unownedFrame, State.unownedFrame, hlatency]
  rfl

theorem State.exposures_of_disabled {s : State} (p n : Nat) (h : ∀ c < 8, s.get (It.ctxEnable c) ≠ 1) : s.exposures p n = s :=
  State.each_eq_self fun c hc => if_neg fun hon => h c (List.mem_range.1 hc) hon.1

theorem State.frameOwner_of_disabled {s : State} {p : Nat} (n : Nat) (htrigs : (s.port p).trigs = [])
    (h : ∀ c < 8, s.get (It.ctxEnable c) ≠ 1) : s.frameOwner p n = (none, s.items, s.get It.carryNumber) := by
  unfold State.frameOwner
  rw [htrigs, ownerCtx_of_disabled p n h]
  rfl

theorem State.frameStart_of_disabled {s : State} {p : Nat} (htrigs : (s.port p).trigs = [])
    (h : ∀ c < 8, s.get (It.ctxEnable c) ≠ 1) :
    ∃ cfg stats, s.frameStart p = (s.frameCounted p).modPort p fun x => { x with
      after := none, frame := some ((s.frameCounted p).unownedFrame p (s.get (It.camPortFrame p) + 1) cfg stats)
      trigs := x.trigs.filter fun t => decide ((s.frameCounted p).now < t.start) } := by
  have htrigs' : ((s.frameCounted p).port p).trigs = [] := by rw [(s.frameCounted_noted p).port]; exact htrigs
  have hoff : ∀ c < 8, (s.frameCounted p).get (It.ctxEnable c) ≠ 1 := fun c hc => by
    rw [s.get_frameCounted_of_field p (by decide) (by decide) fun _ _ => itemKey_ne_of_field (by decide)]
    exact h c hc
  have hown := State.frameOwner_of_disabled (s.get (It.camPortFrame p) + 1) htrigs' hoff
  unfold State.frameStart
  dsimp only
  rw [← State.frameCounted, hown]
  generalize s.frameCounted p = u at hoff
  exact ⟨_, _, State.exposures_of_disabled p _ hoff⟩

/-- From a state to one in which a port has opened its next frame, without an owner. -/
structure OpensUnowned (p : Nat) (s t : State) : Prop where
  port : ∃ cfg stats trigs, t.port p = { s.port p with
    after := none, frame := some (s.unownedFrame p (s.get (It.camPortFrame p) + 1) cfg stats), trigs := trigs }
  count : t.get (It.camPortFrame p) = s.get (It.camPortFrame p) + 1
  enable : t.get (It.camEnable p) = s.get (It.camEnable p)
  only : CamOnly s t

theorem State.frameStart_opensUnowned {s : State} {p : Nat} (hport : p < s.cam.ports.length) (htrigs : (s.port p).trigs = [])
    (hoff : ∀ c < 8, s.get (It.ctxEnable c) ≠ 1) : OpensUnowned p s (s.frameStart p) := by
  have hnoted := s.frameCounted_noted p
  have hcount := s.frameCounted_portFrame p
  have henable : (s.frameCounted p).get (It.camEnable p) = s.get (It.camEnable p) :=
    s.get_frameCounted_of_field p (by decide) (by decide) fun _ _ => itemKey_ne_of_field (by decide)
  obtain ⟨cfg, stats, hstart⟩ := State.frameStart_of_disabled htrigs hoff
  rw [s.frameCounted_unownedFrame] at hstart
  rw [hstart]
  generalize s.frameCounted p = u at hnoted hcount henable
  have hlength : p < u.cam.ports.length := by rw [hnoted.frame]; exact hport
  refine ⟨⟨cfg, stats, (s.port p).trigs.filter fun t => decide (u.now < t.start), ?_⟩, hcount, henable,
    ((s.set_camOnly _ _).trans hnoted.camOnly).trans (u.modPort_camOnly p _)⟩
  rw [State.port_modPort _ hlength, hnoted.port]
  rfl

/-! ## A port judged (R135, R136) -/

/-- From a state to one in which a port is judged: its state, guard and line rate, and the state of its window. -/
structure Judged (p : Nat) (s t : State) : Prop where
  state : t.get (It.camState p) = s.camStateOf p
  items : ItemsBut [It.camState p, It.camGuard p, It.camLineRate p] s t
  cam : ∃ w, t.cam = (s.modPort p fun x => { x with win := w }).cam
  only : CamOnly s t

theorem Judged.port {p : Nat} {s t : State} (h : Judged p s t) : ∃ w, t.port p = { s.port p with win := w } := by
  obtain ⟨w, hw⟩ := h.cam
  rw [State.port, hw, State.modPort_cam, nth_upd]
  split
  · exact ⟨w, rfl⟩
  · exact ⟨(s.port p).win, rfl⟩

/-- The three items set, whatever the guard and the rate. -/
theorem State.judged_of_set (p w g r : Nat) (s : State) : Judged p s
    ((((s.modPort p fun x => { x with win := w }).set (It.camState p) (s.camStateOf p)).set (It.camGuard p) g).set
      (It.camLineRate p) r) where
  state := by
    rw [State.get_set_of_ne _ _ (itemKey_ne_of_field (by decide)), State.get_set_of_ne _ _ (itemKey_ne_of_field (by decide)),
      State.get_set, if_pos rfl]
  items k hk _ := by
    obtain ⟨hstate, hguard, hrate⟩ : k ≠ It.camState p ∧ k ≠ It.camGuard p ∧ k ≠ It.camLineRate p := by simpa using hk
    rw [State.get_set_of_ne _ _ hrate, State.get_set_of_ne _ _ hguard, State.get_set_of_ne _ _ hstate, State.modPort_get]
  cam := ⟨w, rfl⟩
  only := ⟨rfl, rfl⟩

theorem Judged.emit {p : Nat} {s t : State} (h : Judged p s t) (code : Nat) (b : List Byte) : Judged p s (t.emit code b) where
  state := (State.emit_get _ _ _ _ fun _ _ => itemKey_ne_of_field (by decide)).trans h.state
  items k hk hlost := (State.emit_get _ _ _ k hlost).trans (h.items k hk hlost)
  cam := by rw [State.emit_cam]; exact h.cam
  only := h.only.trans (State.emit_camOnly code b t)

theorem Judged.emit_unless {p : Nat} {s t : State} (h : Judged p s t) (same : Prop) [Decidable same] (code : Nat) (b : List Byte) :
    Judged p s (if same then t else t.emit code b) := by
  split
  · exact h
  · exact h.emit code b

theorem State.camJudge_judged (p : Nat) (s : State) : Judged p s (s.camJudge p) := by
  unfold State.camJudge
  exact (s.judged_of_set p _ _ _).emit_unless _ _ _

theorem State.camStateOf_capturing {s : State} {p : Nat} (hon : s.get (It.camEnable p) ≠ 0) (hclock : (s.port p).clock = true)
    (hframe : (s.port p).frame.isSome = true) : s.camStateOf p = 3 := by
  unfold State.camStateOf
  rw [if_neg hon, hclock, Bool.not_true, if_neg Bool.false_ne_true, Option.isNone_eq_false_iff.2 hframe, if_neg Bool.false_ne_true]

theorem State.frameClose_of_none {s : State} {p : Nat} (flag : Nat) (h : (s.port p).frame = none) : s.frameClose p flag = s := by
  unfold State.frameClose
  rw [h]

/-- VSYNC on an enabled, VSYNC-framed port with no frame open: only the opening of a frame. -/
theorem State.vsync_of_none {s : State} {p : Nat} (hport : p < s.cam.ports.length) (hon : s.get (It.camEnable p) ≠ 0)
    (hframing : s.get (It.camFraming p) ≠ 1) (hframe : (s.port p).frame = none) :
    s.vsync p = ((s.modPort p fun x => { x with clock := true }).frameStart p).camJudge p := by
  have hform : ¬ (s.get (It.camEnable p) = 0 ∨ s.framing p = 1) := by
    rw [State.framing, hframe]
    exact not_or.2 ⟨hon, hframing⟩
  have hnone : ((s.modPort p fun x => { x with clock := true }).port p).frame = none := by
    rw [State.port_modPort _ hport]
    exact hframe
  unfold State.vsync
  dsimp only
  rw [if_neg hform, State.frameClose_of_none 1 hnone]

/-- With no context enabled and no trigger pulse ahead, that frame has no owner; the port is judged after it has opened. -/
theorem State.vsync_opensUnowned {s : State} {p : Nat} (hport : p < s.cam.ports.length) (hon : s.get (It.camEnable p) ≠ 0)
    (hframing : s.get (It.camFraming p) ≠ 1) (hframe : (s.port p).frame = none) (htrigs : (s.port p).trigs = [])
    (hoff : ∀ c < 8, s.get (It.ctxEnable c) ≠ 1) :
    ∃ u, OpensUnowned p (s.modPort p fun x => { x with clock := true }) u ∧ Judged p u (s.vsync p) := by
  rw [State.vsync_of_none hport hon hframing hframe]
  refine ⟨_, State.frameStart_opensUnowned ?_ ?_ hoff, State.camJudge_judged p _⟩
  · rw [State.modPort_cam, length_upd]
    exact hport
  · rw [State.port_modPort _ hport]
    exact htrigs

/-! ## Triggers with the mtime basis (R146) -/

/-- The first multiple of the trigger period of a port that lies at least the trigger lead of 100 µs after an mtime (R146). -/
def State.trigInstant (s : State) (p now : Nat) : Nat :=
  (now + 100000 + s.get (It.camTrigPeriodUs p) * 1000 - 1) / (s.get (It.camTrigPeriodUs p) * 1000) *
    (s.get (It.camTrigPeriodUs p) * 1000)

theorem State.nextTrigger_of_mtime {s : State} {p : Nat} (hmode : s.get (It.camTrigMode p) = 2) :
    s.nextTrigger p = some (s.trigInstant p s.now, s.trigInstant p s.now) := by
  unfold State.nextTrigger
  rw [hmode]
  rfl

/-- While no slate is COMMITTED, the items in force now are those in force at every coming instant. -/
theorem State.itemsBy_of_none {s : State} (t pos : Nat) (h : s.committed = []) : s.itemsBy t pos = (s.items, s.get It.carryNumber) := by
  unfold State.itemsBy
  rw [h]
  rfl

theorem State.cameraTrigger_of_mtime {s : State} {p : Nat} (haccepting : s.lanes.accepting = true)
    (hmode : s.get (It.camTrigMode p) = 2) (hcommitted : s.committed = []) (hoff : ∀ c < 8, s.get (It.ctxEnable c) ≠ 1)
    (hnew : (s.port p).lastTrig ≠ some (s.trigInstant p s.now)) :
    s.cameraTrigger p = { s with cam := { s.cam with
      ports := upd s.cam.ports p fun x => { x with
        lastTrig := some (s.trigInstant p s.now)
        trigs := x.trigs ++ [{ start := s.trigInstant p s.now, frame := s.get (It.camPortFrame p) + 1 + (s.port p).trigs.length
                               carry := s.get It.carryNumber, cfg := s.items }] }
      pulses := s.cam.pulses ++ [{ out := s.get (It.camTrigDo p), start := s.trigInstant p s.now
                                   width := s.get (It.camTrigWidthUs p), port := p, ctx := none }] } } := by
  have hmarked : ((s.modPort p fun x => { x with lastTrig := some (s.trigInstant p s.now) }).port p).trigs = (s.port p).trigs := by
    rw [State.port, State.modPort_cam, nth_upd]
    split <;> rfl
  have hitems : ∀ t pos, (s.modPort p fun x => { x with lastTrig := some (s.trigInstant p s.now) }).itemsBy t pos =
      (s.items, s.get It.carryNumber) := fun t pos => State.itemsBy_of_none t pos hcommitted
  have hown : ∀ n, ownerCtx (s.items.read s.variant) p n = none := fun n => ownerCtx_of_disabled p n hoff
  unfold State.cameraTrigger
  rw [State.nextTrigger_of_mtime hmode]
  dsimp only
  rw [if_neg hnew, hitems, hmarked]
  simp only [State.modPort_variant, hown, Option.filter_none, State.modPort_lanes]
  rw [if_pos haccepting, State.modPort_cam, State.modPort_cam, upd_upd]
  rfl

/-! ## Final statistics (R153, R154) -/

/-- A record as it becomes final: with its exposure, mean, extremes and flags beside what was counted over the frame. -/
structure FinalOf (x y : CamStats) : Prop where
  port : y.port = x.port
  frame : y.frame = x.frame
  mtime : y.mtime = x.mtime
  tally : y.tally = x.tally
  pipeCarry : y.pipeCarry = x.pipeCarry
  sum : y.sum = x.sum
  count : y.count = x.count
  hist : y.hist = x.hist

theorem State.statsFinal_of_ready {s : State} {c : Nat} {x : CamStats} (hready : (s.ctx c).waiting.find? (·.ready) = some x) :
    ∃ y : CamStats, FinalOf x y ∧ s.statsFinal c =
      (((((s.useFree 6).modCtx c fun z => { z with
          waiting := z.waiting.filter fun t => t.frame != y.frame || t.port != y.port
          kept := (z.kept ++ [y]).drop (z.kept.length + 1 - 16) }).set (It.ctxFrame c) y.frame).set
        (It.ctxExpCarry c) y.expCarry).set (It.ctxPipeCarry c) y.pipeCarry).modPort y.port fun z => { z with
          ring := z.ring.map fun b => if b.frame = y.frame then { b with inUse := false } else b } := by
  unfold State.statsFinal
  rw [hready]
  refine ⟨_, ?_, rfl⟩
  exact ⟨rfl, rfl, rfl, rfl, rfl, rfl, rfl, rfl⟩

/-- Of a list that grows by one, the latest 16 are the new element and the latest 15 of those before. -/
theorem drop_concat_of_latest {α : Type} (l : List α) (y : α) :
    (l ++ [y]).drop (l.length + 1 - 16) = l.drop (l.length + 1 - 16) ++ [y] :=
  List.drop_append_of_le_length (by omega)

/-! ## Detections (R143) -/

/-- No view takes the detections of a context (R165): no view that is in use is bound to it. -/
theorem State.views_of_unbound {s : State} {c : Nat} (h : ∀ v < 4, s.viewOn v = false ∨ s.useK (It.tkViewCtx v) ≠ c) :
    ((List.range 4).filter fun v => s.viewOn v && s.useK (It.tkViewCtx v) == c) = [] := by
  refine List.filter_eq_nil_iff.2 fun v hv => ?_
  rcases h v (List.mem_range.1 hv) with hoff | hother
  · simp [hoff]
  · simp [hother]

theorem State.emitDetection_of_unbound {s : State} {c : Nat} {x : ClosedObj} {r : List ClosedObj} (hqueue : (s.ctx c).queue = x :: r)
    (hviews : ∀ v < 4, s.viewOn v = false ∨ s.useK (It.tkViewCtx v) ≠ c) :
    s.emitDetection c = State.bump (It.ctxDetections c) { s with
      free := s.free + 1
      cam := { s.cam with
        ctxs := upd s.cam.ctxs c fun y => { y with queue := r }
        detTimes := (s.cam.detTimes.filter fun t => decide (s.now < t + 10000000)) ++ [s.now] } } := by
  unfold State.emitDetection
  rw [hqueue]
  dsimp only
  rw [State.views_of_unbound]
  · rfl
  · exact hviews

/-! ## The obligation -/

/-- Settles O18: a frame that opens without an owner, a trigger while no slate waits to carry, the record that becomes final, and a
detection that no view takes. -/
theorem cameraFramesAndTriggers : Obligations.CameraFramesAndTriggers := by
  unfold Obligations.CameraFramesAndTriggers
  refine ⟨?frame, ?trigger, ?statistics, ?detection⟩
  case frame =>
    intro s dt port hlive hport hon hframing hnone htrigs hoff
    obtain ⟨u, hopens, hjudged⟩ := State.vsync_opensUnowned (s := s.advance dt) hport hon hframing hnone htrigs hoff
    have honly := hopens.only.trans hjudged.only
    generalize hvsync : (s.advance dt).vsync port = t at hjudged honly
    have hclocked := State.port_modPort (s := s.advance dt) (fun x => { x with clock := true }) hport
    obtain ⟨cfg, stats, trigs, hopened⟩ := hopens.port
    obtain ⟨w, hwindow⟩ := hjudged.port
    rw [hclocked] at hopened
    rw [hopened] at hwindow
    refine ⟨t, timed_eq dt (State.vsync port) s t hlive hvsync ?clk ?queue, ?count, ?stamps, ?lines, ?after, ?clock, ?state, honly.owner,
      honly.frame⟩
    case clk => rw [honly.frame]; rfl
    case queue => rw [honly.frame]; rfl
    case count =>
      refine (hjudged.items _ ?_ fun _ _ => itemKey_ne_of_field (by decide)).trans hopens.count
      simp [itemKey_ne_of_field]
    case stamps => rw [hwindow, State.unownedFrame, hclocked]; rfl
    case lines => rw [hwindow]; rfl
    case after => rw [hwindow]
    case clock => rw [hwindow]
    case state =>
      refine hjudged.state.trans (State.camStateOf_capturing ?_ ?_ ?_)
      · rw [hopens.enable]; exact hon
      · rw [hopened]
      · rw [hopened]; rfl
  case trigger =>
    intro s dt port hlive haccepting hmode hperiod hcommitted hoff hnew
    exact timed_eq dt (State.cameraTrigger port) s _ hlive
      (State.cameraTrigger_of_mtime (s := s.advance dt) haccepting hmode hcommitted hoff hnew) rfl rfl
  case statistics =>
    intro s dt ctx x hlive hctx hready
    obtain ⟨y, hy, hfinal⟩ := State.statsFinal_of_ready (s := s.advance dt) hready
    have hkept : ((s.advance dt).statsFinal ctx).ctx ctx = { s.ctx ctx with
        waiting := (s.ctx ctx).waiting.filter fun t => t.frame != y.frame || t.port != y.port
        kept := (s.ctx ctx).kept.drop ((s.ctx ctx).kept.length + 1 - 16) ++ [y] } := by
      rw [hfinal, ← drop_concat_of_latest]
      exact State.ctx_modCtx _ hctx
    refine ⟨_, timed_eq dt (State.statsFinal ctx) s _ hlive rfl (by rw [hfinal]; rfl) (by rw [hfinal]; rfl), ?latest, ?record, ?waiting,
      ?number, ?carry, ?items, by rw [hfinal]; rfl⟩
    case latest => rw [hkept, List.dropLast_concat]
    case record => rw [hkept, List.getLast?_concat, Option.map_some, hy.frame, hy.sum, hy.count, hy.hist, hy.mtime, hy.tally]
    case waiting => rw [hkept, hy.frame, hy.port]
    case number =>
      rw [hfinal, State.modPort_get, State.get_set_of_ne _ _ (itemKey_ne_of_field (by decide)),
        State.get_set_of_ne _ _ (itemKey_ne_of_field (by decide)), State.get_set, if_pos rfl, hy.frame]
    case carry => rw [hfinal, State.modPort_get, State.get_set, if_pos rfl, hy.pipeCarry]
    case items =>
      intro k hk _
      obtain ⟨hnumber, hpipe, hexp⟩ : k ≠ It.ctxFrame ctx ∧ k ≠ It.ctxPipeCarry ctx ∧ k ≠ It.ctxExpCarry ctx := by simpa using hk
      rw [hfinal, State.modPort_get, State.get_set_of_ne _ _ hpipe, State.get_set_of_ne _ _ hexp, State.get_set_of_ne _ _ hnumber]
      rfl
  case detection =>
    intro s dt ctx x r hlive hqueue hviews
    exact timedRun_eq dt (State.emitDetection ctx) s _ (State.runs_of_live hlive)
      (State.emitDetection_of_unbound (s := s.advance dt) hqueue hviews) rfl rfl

end Sys2Proof.Machine
end

section
/-! SUPPORT. The opcodes of Table 5.13: statistics, frame grabs and calibration tables (R145, R154, R159). -/

namespace Sys2Proof.Machine

open Sys2Proof.Safety

/-! ## The opcodes on any state -/

/-- The record that CAM_STATS_READ names: that of a frame, or the latest for 2^64 − 1 (R154). -/
def State.statsNamed (s : State) (c n : Nat) : Option CamStats :=
  if n = 2 ^ 64 - 1 then (s.ctx c).kept.getLast? else (s.ctx c).kept.find? fun t => t.frame == n

theorem opCamStatsRead_of_kept (m : Nat) (f : Frame) (s : State) {x : CamStats} (hctx : u8At f.p 0 ≤ 7) (hz : zeroAt f.p 1 7 = true)
    (hkept : s.statsNamed (u8At f.p 0) (u64At f.p 8) = some x) : opCamStatsRead m f s = reply (x.bytes (u8At f.p 0)) s := by
  have hform : ¬ (7 < u8At f.p 0 ∨ (!zeroAt f.p 1 7) = true) := by simp [hctx, hz]
  unfold opCamStatsRead
  dsimp only
  rw [if_neg hform, ← State.statsNamed, hkept]

/-- CAM_FRAME_GRAB of lines that a stored frame of a memory-path port holds, while no grab is in progress (R159). -/
theorem opCamFrameGrab_of_stored (m : Nat) (f : Frame) (s : State) {b : FrameBuf} (hctx : u8At f.p 0 ≤ 7)
    (hz : zeroAt f.p 1 1 = true) (hn : 0 < u16At f.p 4) (hmax : u16At f.p 4 ≤ 1024) (hz' : zeroAt f.p 6 2 = true)
    (hgrabbing : s.grabbing = false) {port : Nat} (hport : s.get (It.ctxPort (u8At f.p 0)) = port)
    (hpath : s.get (It.camPath port) ≠ 1)
    (hbuf : (s.port port).ring.find? (fun x => x.frame == u64At f.p 8 && x.ctx == u8At f.p 0) = some b)
    (hlines : u16At f.p 2 + u16At f.p 4 ≤ b.lines.length) :
    opCamFrameGrab m f s =
      (let ls := (b.lines.drop (u16At f.p 2)).take (u16At f.p 4)
      reply (toLE 8 (u64At f.p 8) ++ toLE 2 (u16At f.p 2) ++ toLE 2 (u16At f.p 4) ++ toLE 2 (ls.headD []).length ++ toLE 2 0 ++ ls.flatten)
        (s.modPort port fun x => { x with ring := x.ring.map fun y => { y with grab := y.frame == u64At f.p 8 } })) := by
  have hform : ¬ (7 < u8At f.p 0 ∨ (!zeroAt f.p 1 1) = true ∨ u16At f.p 4 = 0 ∨ 1024 < u16At f.p 4 ∨ (!zeroAt f.p 6 2) = true) := by
    simp [hctx, hz, hmax, hz', Nat.ne_of_gt hn]
  subst hport
  unfold opCamFrameGrab
  dsimp only
  rw [if_neg hform, hgrabbing, if_neg Bool.false_ne_true, if_neg hpath, hbuf]
  exact if_neg (Nat.not_lt.2 hlines)

/-- CAM_TABLE_LOAD of a transfer that carries a valid image, into a slot that no configuration uses (R145). -/
theorem opCamTableLoad_accepted (m : Nat) (f : Frame) (s : State) {img : List Byte} (hslot : u8At f.p 0 ≤ 15)
    (hz : zeroAt f.p 1 1 = true) (hn : 0 < u16At f.p 4) (hz' : zeroAt f.p 6 2 = true)
    (himg : s.blkImage m (u16At f.p 2) (u16At f.p 4) (u32At f.p 8) (u32At f.p 12) = .ok img) (hok : tableOk img = true)
    (hunused : s.configs.any (fun st => tableInUse (st.read s.variant) (u8At f.p 0)) = false) :
    opCamTableLoad m f s = reply [] ((((((({ s with cam := { s.cam with tables := upd s.cam.tables (u8At f.p 0) fun _ =>
        { kind := u8At img 8, entries := tableEntries (u8At img 8) (img.drop 20) } } } : State).set
      (It.tabKind (u8At f.p 0)) (u8At img 8)).set (It.tabEntries (u8At f.p 0)) (u32At img 12)).set
      (It.tabCrc (u8At f.p 0)) (u32At f.p 12)).set (It.tabBuild (u8At f.p 0)) (u32At img 16)).blkConsume m (u16At f.p 2)
      (u16At f.p 4))) := by
  have hform : ¬ (15 < u8At f.p 0 ∨ (!zeroAt f.p 1 1) = true ∨ u16At f.p 4 = 0 ∨ (!zeroAt f.p 6 2) = true) := by
    simp [hslot, hz, hz', Nat.ne_of_gt hn]
  unfold opCamTableLoad
  dsimp only
  rw [if_neg hform, himg]
  dsimp only
  rw [hok, Bool.not_true, if_neg Bool.false_ne_true, hunused, if_neg Bool.false_ne_true]

/-! ## The obligation -/

/-- Settles O19: each opcode, on the state in which its frame is executed, has the effect and the answer named. -/
theorem cameraCommandsAnswer : Obligations.CameraCommandsAnswer := by
  unfold Obligations.CameraCommandsAnswer
  refine ⟨?stats, ?grab, ?table⟩
  case stats =>
    intro s dt m h p x ha hctx hz hkept
    exact cmdRow_replied opCamStatsRead _ dt m h p s id _ ha (opCamStatsRead_of_kept m _ _ hctx hz hkept) rfl rfl
  case grab =>
    intro s dt m h p b ha hctx hz hn hmax hz' hgrabbing hpath hbuf hlines
    have hport := get_taking_of_field m (rowFrame 0x0701 h p) (s.advance dt) (c := 0x48) (i := u8At p 0) (fld := 0x01) (by decide)
    have hpath' := get_taking_of_field m (rowFrame 0x0701 h p) (s.advance dt) (c := 0x40) (i := s.get (It.ctxPort (u8At p 0)))
      (fld := 0x0c) (by decide)
    exact cmdRow_replied opCamFrameGrab _ dt m h p s _ _ ha
      (opCamFrameGrab_of_stored m _ _ hctx hz hn hmax hz' hgrabbing hport (fun h => hpath (hpath'.symm.trans h)) hbuf hlines) rfl rfl
  case table =>
    intro s dt m h p img ha hslot hz hn hz' himg hok hunused
    exact cmdRow_replied opCamTableLoad _ dt m h p s _ _ ha
      (opCamTableLoad_accepted m _ _ hslot hz hn hz' (eq_ok_of_toOption himg) hok hunused) rfl rfl

end Sys2Proof.Machine
end

section
/-! SUPPORT. Tracks that expire, streams that fall stale, and the opcodes of Table 6.17 (R164, R170, R171, R187). -/

namespace Sys2Proof.Machine

open Sys2Proof.Safety

/-! ## Instants reached -/

/-- A track whose life ends without a decision leaves for the history as expired (R171). -/
theorem State.trackExpired_of_due {s : State} {id : Nat} {x : Track} (hfind : s.fus.tracks.find? (fun t => t.id == id) = some x)
    (hundecided : x.st = 0) (hdue : x.birth.e + s.useK It.tkTrackLifeMs * 1000000 ≤ (s.now : Int)) :
    s.trackExpired id = (s.retire { x with st := 3 }).bump It.tkExpired := by
  unfold State.trackExpired
  rw [hfind]
  exact if_pos ⟨hundecided, hdue⟩

/-- A CAN stream has the sources 33 to 38 (Table 6.1). -/
theorem State.streamStale_of_due {s : State} {n l : Nat} (hlow : 33 ≤ s.useK (It.stSource n)) (hhigh : s.useK (It.stSource n) ≤ 38)
    (hlast : (nth s.fus.streams n).last = some l) (hdue : s.useK (It.stStaleMs n) * 1000000 ≤ s.now - l) :
    s.streamStale n = s.set (It.stGuard n) gStale := by
  unfold State.streamStale
  rw [hlast]
  exact if_pos ⟨hlow, hhigh, hdue⟩

/-! ## The opcodes on any state -/

/-- The quotients of a track record (Table 6.6) may take three free values. -/
theorem opTrackRead_of_found (m : Nat) (f : Frame) (s : State) {x : Track} (hz : zeroAt f.p 4 4 = true)
    (hfind : (s.fus.tracks ++ s.fus.history).find? (fun t => t.id == u32At f.p 0) = some x) :
    opTrackRead m f s = reply (x.bytes s.free) (s.useFree 3) := by
  unfold opTrackRead
  dsimp only
  rw [hz, Bool.not_true, if_neg Bool.false_ne_true, hfind]

/-- What SOLVE_READ answers for a view: the record of its latest solve, zeros around the view's
number before the first (log entry 83). -/
def State.solveRecord (s : State) (v : Nat) : List Byte := (nth s.fus.records v).getD (toLE 8 0 ++ toLE 1 v ++ toLE 7 0)

theorem opSolveRead_of_enabled (m : Nat) (f : Frame) (s : State) (hview : u8At f.p 0 ≤ 3) (hz : zeroAt f.p 1 3 = true)
    (hon : s.useK It.tkEnable = 1) : opSolveRead m f s = reply (s.solveRecord (u8At f.p 0)) s := by
  have hform : ¬ (3 < u8At f.p 0 ∨ (!zeroAt f.p 1 3) = true) := by simp [hview, hz]
  unfold opSolveRead State.solveRecord
  dsimp only
  rw [if_neg hform, if_neg (not_not_intro hon)]
  cases nth s.fus.records (u8At f.p 0) with
  | none => rfl
  | some r => rfl

/-- FU_TABLE_LOAD of a transfer that carries a valid image, into a slot that the tracker uses in no configuration (R170);
the transfer is consumed (log entry 29). -/
theorem opFuTableLoad_accepted (m : Nat) (f : Frame) (s : State) {img : List Byte} {x : FuTable} (hslot : u8At f.p 0 ≤ 7)
    (hz : zeroAt f.p 1 1 = true) (hn : 0 < u16At f.p 4) (hz' : zeroAt f.p 6 2 = true)
    (himg : s.blkImage m (u16At f.p 2) (u16At f.p 4) (u32At f.p 8) (u32At f.p 12) = .ok img) (hcontent : fuTableOf img = some x)
    (hunused : s.configs.any (fun st => fuTableInUse (st.read s.variant) (u8At f.p 0)) = false) :
    opFuTableLoad m f s = reply [] ((((((s.modFus fun k => { k with tables := upd k.tables (u8At f.p 0) fun _ => x }).set
      (It.ftKind (u8At f.p 0)) x.kind).set (It.ftEntries (u8At f.p 0)) (u32At img 12)).set
      (It.ftCrc (u8At f.p 0)) (u32At f.p 12)).set (It.ftBuild (u8At f.p 0)) (u32At img 16)).blkConsume m (u16At f.p 2)
      (u16At f.p 4)) := by
  have hform : ¬ (7 < u8At f.p 0 ∨ (!zeroAt f.p 1 1) = true ∨ u16At f.p 4 = 0 ∨ (!zeroAt f.p 6 2) = true) := by
    simp [hslot, hz, hz', Nat.ne_of_gt hn]
  unfold opFuTableLoad
  dsimp only
  rw [if_neg hform, himg]
  dsimp only
  rw [hcontent]
  dsimp only
  rw [hunused, if_neg Bool.false_ne_true]

/-- The cell that CELL_READ names: that of a window index, or the latest kept for 2^64 − 1 (R187). -/
def State.cellNamed (s : State) (g i : Nat) : Option (Nat × Nat × List Byte) :=
  if i = 2 ^ 64 - 1 then (nth s.fus.gst g).cells.getLast? else (nth s.fus.gst g).cells.find? fun y => y.1 == i

theorem opCellRead_of_kept (m : Nat) (f : Frame) (s : State) {x : Nat × Nat × List Byte} (hgroup : u8At f.p 0 ≤ 31)
    (hz : zeroAt f.p 1 7 = true) (hkept : s.cellNamed (u8At f.p 0) (u64At f.p 8) = some x) : opCellRead m f s = reply x.2.2 s := by
  have hform : ¬ (31 < u8At f.p 0 ∨ (!zeroAt f.p 1 7) = true) := by simp [hgroup, hz]
  unfold opCellRead
  dsimp only
  rw [if_neg hform, ← State.cellNamed, hkept]

/-! ## The obligation -/

/-- Settles O21: a track and a stream at their instants, and each opcode on the state in which its frame is executed. -/
theorem trackingCommandsAnswer : Obligations.TrackingCommandsAnswer := by
  unfold Obligations.TrackingCommandsAnswer
  refine ⟨?expired, ?stale, ?track, ?solve, ?table, ?cell⟩
  case expired =>
    intro s dt track x hlive hfind hundecided hdue
    exact timedRun_eq dt (State.trackExpired track) s _ (State.runs_of_live hlive)
      (State.trackExpired_of_due (s := s.advance dt) hfind hundecided hdue) rfl rfl
  case stale =>
    intro s dt l stream hlive hlow hhigh hlast hdue
    exact timedRun_eq dt (State.streamStale stream) s _ (State.runs_of_live hlive)
      (State.streamStale_of_due (s := s.advance dt) hlow hhigh hlast hdue) rfl rfl
  case track =>
    intro s dt m h p x ha hz hfind
    exact cmdRow_replied opTrackRead _ dt m h p s (State.useFree 3) _ ha (opTrackRead_of_found m _ _ hz hfind) rfl rfl
  case solve =>
    intro s dt m h p ha hview hz hon
    exact cmdRow_replied opSolveRead _ dt m h p s id _ ha (opSolveRead_of_enabled m _ _ hview hz hon) rfl rfl
  case table =>
    intro s dt m h p img x ha hslot hz hn hz' himg hcontent hunused
    exact cmdRow_replied opFuTableLoad _ dt m h p s _ _ ha
      (opFuTableLoad_accepted m _ _ hslot hz hn hz' (eq_ok_of_toOption himg) hcontent hunused) rfl rfl
  case cell =>
    intro s dt m h p x ha hgroup hz hkept
    exact cmdRow_replied opCellRead _ dt m h p s id _ ha (opCellRead_of_kept m _ _ hgroup hz hkept) rfl rfl

end Sys2Proof.Machine
end

section
/-! SUPPORT. The opcodes of Table 7.6: loops, beams and the trace buffer (R210, R218). -/

namespace Sys2Proof.Machine

open Sys2Proof.Safety

/-! ## The opcodes on any state -/

/-- The record of a loop that ROD_READ answers (Table 7.6). -/
def State.loopRecord (s : State) (l : Nat) : List Byte :=
  toLE 1 l ++ toLE 1 (s.get (It.rodState l)) ++ toLE 2 (s.get (It.rodFlags l)) ++ toLE 4 (s.rod l).carry ++
    toLE 8 (s.get (It.rodLastRelease l)) ++ toLE 8 (s.rod l).tally ++ toLE 4 (s.get (It.rodPv l)) ++ toLE 4 (s.get (It.rodSpEff l)) ++
    toLE 4 (twos 32 (s.rod l).p) ++ toLE 4 (s.get (It.rodI l)) ++ toLE 4 (twos 32 (s.rod l).d) ++ toLE 4 (s.get (It.rodOut l))

/-- The latest evaluation of a beam, as BEAM_READ answers it (Table 7.6). -/
def State.beamRecord (s : State) (b : Nat) : List Byte :=
  toLE 1 b ++ toLE 1 (s.get (It.beamWinner b)) ++ toLE 2 (s.beam b).members ++ toLE 4 (s.beam b).carry ++
    toLE 8 (s.get (It.beamLastEval b)) ++ toLE 4 (s.get (It.beamOut b)) ++ toLE 4 (s.beam b).limit ++
    (List.range 8).flatMap fun i => toLE 4 ((s.beam b).outs.getD i 0)

/-- The runs traced so far and whether they are all that were asked for, as ROD_TRACE_READ answers them (Table 7.6). -/
def RodTrace.record (x : RodTrace) : List Byte :=
  toLE 1 x.loop ++ toLE 1 (b2n (x.runs.length == x.want)) ++ toLE 2 x.runs.length ++ toLE 4 0 ++ x.runs.flatten

theorem opRodRead_formed (m : Nat) (f : Frame) (s : State) (hloop : u8At f.p 0 ≤ 127) (hz : zeroAt f.p 1 3 = true) :
    opRodRead m f s = reply (s.loopRecord (u8At f.p 0)) s := by
  have hform : ¬ (127 < u8At f.p 0 ∨ (!zeroAt f.p 1 3) = true) := by simp [hloop, hz]
  unfold opRodRead
  exact if_neg hform

/-- ROD_RESET ends FAILSAFE at the K after the latest one, with cause 5 (R210). -/
theorem opRodReset_of_failsafe (m : Nat) (f : Frame) (s : State) (hloop : u8At f.p 0 ≤ 127) (hz : zeroAt f.p 1 3 = true)
    (hfailsafe : s.get (It.rodState (u8At f.p 0)) = rodFailsafeSt) :
    opRodReset m f s = reply [] (s.modRod (u8At f.p 0) fun r => { r with ending := some (s.clk.kLast, 5) }) := by
  have hform : ¬ (127 < u8At f.p 0 ∨ (!zeroAt f.p 1 3) = true) := by simp [hloop, hz]
  unfold opRodReset
  dsimp only
  rw [if_neg hform, if_neg (not_not_intro hfailsafe)]

theorem opBeamRead_formed (m : Nat) (f : Frame) (s : State) (hbeam : u8At f.p 0 ≤ 15) (hz : zeroAt f.p 1 3 = true) :
    opBeamRead m f s = reply (s.beamRecord (u8At f.p 0)) s := by
  have hform : ¬ (15 < u8At f.p 0 ∨ (!zeroAt f.p 1 3) = true) := by simp [hbeam, hz]
  unfold opBeamRead
  exact if_neg hform

theorem opRodTraceArm_of_free (m : Nat) (f : Frame) (s : State) (hloop : u8At f.p 0 ≤ 127) (hn : 0 < u16At f.p 2)
    (hmax : u16At f.p 2 ≤ 256) (hz : zeroAt f.p 1 1 = true) (hfree : s.rods.trace = none) :
    opRodTraceArm m f s =
      reply [] (s.modRods fun b => { b with trace := some { master := m, loop := u8At f.p 0, want := u16At f.p 2 } }) := by
  have hform : ¬ (127 < u8At f.p 0 ∨ u16At f.p 2 = 0 ∨ 256 < u16At f.p 2 ∨ (!zeroAt f.p 1 1) = true) := by
    simp [hloop, hz, hmax, Nat.ne_of_gt hn]
  unfold opRodTraceArm
  dsimp only
  rw [if_neg hform, hfree, Option.isSome_none, if_neg Bool.false_ne_true]

/-- A read of its master frees a complete trace (R218). -/
theorem opRodTraceRead_of_master (m : Nat) (f : Frame) (s : State) {x : RodTrace} (htrace : s.rods.trace = some x)
    (hmaster : x.master = m) :
    opRodTraceRead m f s =
      reply x.record (if x.runs.length = x.want then s.modRods fun b => { b with trace := none } else s) := by
  unfold opRodTraceRead
  rw [htrace]
  dsimp only
  rw [if_neg (not_not_intro hmaster)]
  simp only [beq_iff_eq]
  rfl

/-! ## The records while a frame is executed -/

theorem loopRecord_taking (m : Nat) (f : Frame) (a : State) (l : Nat) : (taking m f a).loopRecord l = a.loopRecord l := by
  have hrod : (taking m f a).rod l = a.rod l := rfl
  simp (disch := decide) only [State.loopRecord, hrod, get_taking_of_field]

theorem beamRecord_taking (m : Nat) (f : Frame) (a : State) (b : Nat) : (taking m f a).beamRecord b = a.beamRecord b := by
  have hbeam : (taking m f a).beam b = a.beam b := rfl
  simp (disch := decide) only [State.beamRecord, hbeam, get_taking_of_field]

/-! ## The obligation -/

/-- Settles O23: each opcode, on the state in which its frame is executed, has the effect and the answer named. -/
theorem loopCommandsAnswer : Obligations.LoopCommandsAnswer := by
  unfold Obligations.LoopCommandsAnswer
  refine ⟨?read, ?reset, ?beam, ?arm, ?trace⟩
  case read =>
    intro s dt m h p ha hloop hz
    refine cmdRow_replied opRodRead _ dt m h p s id _ ha ?_ rfl rfl
    rw [opRodRead_formed m _ _ hloop hz, loopRecord_taking]
    rfl
  case reset =>
    intro s dt m h p ha hloop hz hfailsafe
    refine cmdRow_replied opRodReset _ dt m h p s _ _ ha ?_ rfl rfl
    rw [opRodReset_of_failsafe m _ _ hloop hz (by rwa [get_taking_of_field _ _ _ (by decide)])]
    rfl
  case beam =>
    intro s dt m h p ha hbeam hz
    refine cmdRow_replied opBeamRead _ dt m h p s id _ ha ?_ rfl rfl
    rw [opBeamRead_formed m _ _ hbeam hz, beamRecord_taking]
    rfl
  case arm =>
    intro s dt m h p ha hloop hn hmax hz hfree
    exact cmdRow_replied opRodTraceArm _ dt m h p s _ _ ha (opRodTraceArm_of_free m _ _ hloop hn hmax hz hfree) rfl rfl
  case trace =>
    intro s dt m h p x ha htrace hmaster
    refine cmdRow_replied opRodTraceRead _ dt m h p s _ _ ha (opRodTraceRead_of_master m _ _ htrace hmaster) ?clk ?pending <;>
      split <;> rfl

end Sys2Proof.Machine
end

section
/-! SUPPORT. The run of a loop at its release, a run abandoned at its deadline, and the end of FAILSAFE (R196 to R212). -/

namespace Sys2Proof.Machine

open Sys2Proof.Safety

/-! ## Operations on loops -/

theorem State.rod_modRod {s : State} {l : Nat} (f : Rod → Rod) (h : l < s.rods.rods.length) :
    (s.modRod l f).rod l = f (s.rod l) := by
  rw [State.rod, State.modRod, State.modRods_rods, nth_upd, if_pos ⟨rfl, h⟩]
  rfl

theorem State.modRod_get (l : Nat) (f : Rod → Rod) (s : State) (k : Nat) : (s.modRod l f).get k = s.get k := rfl

/-- Setting an item leaves the items of another field, whatever the indices. -/
theorem State.get_set_of_field (s : State) {c i f c' i' f' v : Nat} (h : f' % 256 ≠ f % 256) :
    (s.set (itemKey c i f) v).get (itemKey c' i' f') = s.get (itemKey c' i' f') :=
  s.get_set_of_ne v (itemKey_ne_of_field h)

theorem State.get_seti (k : Nat) (v : Int) (s : State) : (s.seti k v).get k = twos 32 v := by
  rw [State.seti, State.get_set, if_pos rfl]

theorem State.get_seti_of_field (s : State) {c i f c' i' f' : Nat} {v : Int} (h : f' % 256 ≠ f % 256) :
    (s.seti (itemKey c i f) v).get (itemKey c' i' f') = s.get (itemKey c' i' f') :=
  s.get_set_of_field h

theorem State.get_setOutput (l : Nat) (u : Int) (s : State) : (s.setOutput l u).get (It.rodOut l) = twos 32 u :=
  State.get_seti _ u _

theorem State.get_setOutput_of_field (s : State) {l c i f : Nat} {u : Int} (h : f % 256 ≠ 0x32) :
    (s.setOutput l u).get (itemKey c i f) = s.get (itemKey c i f) :=
  State.get_seti_of_field _ h

theorem State.modRod_modRod (l : Nat) (f g : Rod → Rod) (s : State) :
    (s.modRod l f).modRod l g = s.modRod l fun r => g (f r) := by
  simp only [State.modRod, State.modRods, upd_upd]

/-- An item of another field is none of the counters of lost events. -/
theorem ne_eventsLost_of_field {c i f : Nat} (h : f % 256 ≠ 0x0a) : ∀ m < 16, itemKey c i f ≠ It.eventsLost m :=
  fun _ _ => itemKey_ne_of_field h

theorem State.setRod_of_eq {s : State} {l st : Nat} (cause : Nat) (h : s.get (It.rodState l) = st) : s.setRod l st cause = s :=
  if_pos h

/-- A change of rod_state, with the event that tells it (R210). -/
theorem State.setRod_of_ne {s : State} {l st : Nat} (cause : Nat) (h : s.get (It.rodState l) ≠ st) :
    s.setRod l st cause = (s.set (It.rodState l) st).emit 0x0680
      (toLE 1 l ++ toLE 1 0 ++ toLE 2 st ++ toLE 2 cause ++ toLE 2 0 ++ toLE 8 s.now) :=
  if_neg h

theorem State.traceRun_of_none {s : State} (h : s.rods.trace = none) (l at_ ns : Nat) (ff : Int) : s.traceRun l at_ ns ff = s := by
  unfold State.traceRun
  rw [h]

/-- From a state to one that differs in its items and in the rod engines, the trace buffer aside. -/
structure RodsOnly (s t : State) : Prop where
  size : t.rods.rods.length = s.rods.rods.length
  trace : t.rods.trace = s.rods.trace
  frame : t = { s with items := t.items, rods := t.rods }

theorem RodsOnly.trans {s t u : State} (h : RodsOnly s t) (h' : RodsOnly t u) : RodsOnly s u where
  size := h'.size.trans h.size
  trace := h'.trace.trans h.trace
  frame := by rw [h'.frame, h.frame]

theorem RodsOnly.useK {s t : State} (h : RodsOnly s t) : t.useK = s.useK := by
  rw [h.frame]
  rfl

theorem State.set_rodsOnly (k v : Nat) (s : State) : RodsOnly s (s.set k v) := ⟨rfl, rfl, rfl⟩

theorem State.seti_rodsOnly (k : Nat) (v : Int) (s : State) : RodsOnly s (s.seti k v) := ⟨rfl, rfl, rfl⟩

theorem State.modRod_rodsOnly (l : Nat) (f : Rod → Rod) (s : State) : RodsOnly s (s.modRod l f) := ⟨length_upd _ _ _, rfl, rfl⟩

theorem State.setOutput_rodsOnly (l : Nat) (u : Int) (s : State) : RodsOnly s (s.setOutput l u) :=
  (State.modRod_rodsOnly l _ s).trans (State.seti_rodsOnly _ u _)

/-! ## Loops that nothing is joined to (R204 to R206) -/

/-- Under some settings, a loop is in no cascade, neither as inner nor as outer. -/
structure Uncascaded (rd : Nat → Nat) (l : Nat) : Prop where
  inner : innerOf rd l = none
  outers : outersOf rd l = []

/-- Under some settings, a loop has no destination and is in no beam and in no cascade. -/
structure LoneLoop (rd : Nat → Nat) (l : Nat) : Prop extends Uncascaded rd l where
  dest : rd (It.rodDest l) = 0
  beam : beamOf rd l = none

theorem State.casOf_of_uncascaded {s : State} {l : Nat} (h : Uncascaded s.useK l) : s.casOf l = s := by
  unfold State.casOf
  rw [h.inner]
  dsimp only
  rw [h.outers]
  rfl

theorem State.evaluateFor_of_lone {s : State} {l : Nat} (h : LoneLoop s.useK l) : s.evaluateFor l = s := by
  unfold State.evaluateFor
  rw [h.beam]

theorem State.writeOut_of_lone {s : State} {l : Nat} (h : LoneLoop s.useK l) (u : Int) : s.writeOut l u = s := by
  have hdest : ¬ s.useK (It.rodDest l) = 1 := by simp [h.dest]
  unfold State.writeOut
  dsimp only
  rw [if_neg hdest, h.outers]
  rfl

theorem State.rodFollows_of_lone {s : State} {l : Nat} (h : LoneLoop s.useK l) : s.rodFollows l = true := by
  have hdest : ¬ s.useK (It.rodDest l) = 1 := by simp [h.dest]
  unfold State.rodFollows State.rodChannel
  rw [if_neg hdest, h.beam]

theorem State.rodStep_of_lone {s : State} {l : Nat} (h : LoneLoop s.useK l) (di : Int) : s.rodStep l true di = (di, false) := by
  unfold State.rodStep
  rw [h.outers]
  rfl

/-- What the end of a run does of a lone loop that is in RUN already: nothing but noting the run. -/
theorem State.runEnd_of_lone {s : State} {l : Nat} (f : Rod → Rod) (u : Int) (hlone : LoneLoop s.useK l)
    (hrun : s.get (It.rodState l) = rodRun) :
    ((((s.setRod l rodRun 4).modRod l f).evaluateFor l).writeOut l u).casOf l = s.modRod l f := by
  have hlone' : LoneLoop (s.modRod l f).useK l := hlone
  rw [State.setRod_of_eq 4 hrun, State.evaluateFor_of_lone hlone', State.writeOut_of_lone hlone',
    State.casOf_of_uncascaded hlone'.toUncascaded]

/-! ## A run with valid sources (R202) -/

/-- The scaled process value of a run. -/
def State.runPv (s : State) (l : Nat) (raw : Int) : Int := qm raw (s.useKi (It.rodPvScale l))

/-- The terms of the law in a run at the set-point, without feed-forward. -/
def State.runLaw (s : State) (l : Nat) (raw : Int) : LawOut :=
  s.law l (s.gains l) (s.useKi (It.setPoint l)) (s.runPv l raw) 0 (s.rod l).d (s.geti (It.rodPv l))

/-- The integrator after a run: moved by its step, within its own clamp and what the rest leaves in the limits of the output. -/
def State.runI (s : State) (l : Nat) (o : LawOut) : Int :=
  clampInt (s.useKi (It.rodIMin l)) (s.useKi (It.rodIMax l))
    (clampInt (qs (s.useKi (It.rodOutMin l) - o.rest)) (qs (s.useKi (It.rodOutMax l) - o.rest)) (qs (s.geti (It.rodI l) + o.di)))

/-- The output of a run: the rest and the integrator, limited. -/
def State.runOut (s : State) (l : Nat) (o : LawOut) : Int :=
  clampInt (s.useKi (It.rodOutMin l)) (s.useKi (It.rodOutMax l)) (qs (o.rest + s.runI l o))

/-- A change of a loop that leaves the instants of its latest release and of its latest run. -/
def KeepsRelease (f : Rod → Rod) : Prop := ∀ r, (f r).relAt = r.relAt ∧ (f r).runAt = r.runAt

/-- Without a rate limit the set-point in use steps to its target. -/
theorem qs_rateStep_zero (dt d : Int) : qs (fdiv (0 * dt) d) = 0 := by
  rw [Int.zero_mul, fdiv, Int.zero_fdiv]
  rfl

/-- A run of a lone loop in RUN, with nothing to initialise and no rate limit, writes output, process value, set-point, integrator
and flags. -/
theorem State.fullRun_of_lone {s : State} {l : Nat} (raw : Int) (hlone : LoneLoop s.useK l) (hrun : s.get (It.rodState l) = rodRun)
    (hinit : (s.rod l).init = none) (hold : (s.rod l).old = none) (hrate : s.useK (It.rodSpRate l) = 0) :
    ∃ f g flags, KeepsRelease f ∧ KeepsRelease g ∧ s.fullRun l raw 0 true =
      ((((((s.modRod l f).setOutput l (s.runOut l (s.runLaw l raw))).seti (It.rodPv l) (s.runPv l raw)).seti (It.rodSpEff l)
        (s.useKi (It.setPoint l))).seti (It.rodI l) (s.runI l (s.runLaw l raw))).set (It.rodFlags l) flags).modRod l g := by
  have hrate' : s.useKi (It.rodSpRate l) = 0 := by rw [State.useKi, hrate]; rfl
  have hnofailsafe : (rodRun == rodFailsafeSt) = false := rfl
  unfold State.fullRun
  simp only [hinit, hold, hlone.inner, hlone.outers, hrun, hrate', hnofailsafe, qs_rateStep_zero, State.rodStep_of_lone hlone,
    Option.filter_none, Option.isSome_none, List.any_nil, Bool.false_eq_true, false_and, if_false, if_true]
  rw [← State.runPv, ← State.runLaw, ← State.runI, ← State.runOut]
  refine ⟨_, _, _, ?stored, ?noted, (State.runEnd_of_lone _ _ ?lone ?running).trans rfl⟩
  case stored | noted => exact fun _ => ⟨rfl, rfl⟩
  case lone =>
    rw [State.modFlags, (State.set_rodsOnly _ _ _).useK, (State.seti_rodsOnly _ _ _).useK, (State.seti_rodsOnly _ _ _).useK,
      (State.seti_rodsOnly _ _ _).useK, (State.setOutput_rodsOnly _ _ _).useK]
    exact hlone
  case running =>
    simp (disch := decide) only [State.modFlags, State.get_set_of_field, State.get_seti_of_field, State.get_setOutput_of_field,
      State.modRod_get, hrun]

/-- From a state to one in which a loop has run on a process value: what the run wrote, and that nothing else differs but the rod
engines. -/
structure LoopRan (l : Nat) (raw : Int) (s t : State) : Prop where
  pv : t.get (It.rodPv l) = twos 32 (s.runPv l raw)
  spEff : t.get (It.rodSpEff l) = twos 32 (s.useKi (It.setPoint l))
  integrator : t.get (It.rodI l) = twos 32 (s.runI l (s.runLaw l raw))
  out : t.get (It.rodOut l) = twos 32 (s.runOut l (s.runLaw l raw))
  items : ∀ k, k ∉ [It.rodPv l, It.rodSpEff l, It.rodI l, It.rodOut l, It.rodFlags l] → t.get k = s.get k
  released : (t.rod l).relAt = (s.rod l).relAt ∧ (t.rod l).runAt = (s.rod l).runAt
  only : RodsOnly s t

theorem KeepsRelease.modRod {f : Rod → Rod} (hf : KeepsRelease f) (l : Nat) (s : State) :
    ((s.modRod l f).rod l).relAt = (s.rod l).relAt ∧ ((s.modRod l f).rod l).runAt = (s.rod l).runAt := by
  rw [State.rod, State.modRod, State.modRods_rods, nth_upd]
  split
  · exact hf _
  · exact ⟨rfl, rfl⟩

theorem State.setOutput_keepsRelease (l : Nat) (u : Int) (s : State) :
    ((s.setOutput l u).rod l).relAt = (s.rod l).relAt ∧ ((s.setOutput l u).rod l).runAt = (s.rod l).runAt :=
  KeepsRelease.modRod
    (f := fun r => { r with
      prev := if (s.rod l).outAt = some s.now then (s.rod l).prev else s.geti (It.rodOut l)
      outAt := some s.now })
    (fun _ => ⟨rfl, rfl⟩) l s

theorem State.fullRun_ran {s : State} {l : Nat} (raw : Int) (hlone : LoneLoop s.useK l) (hrun : s.get (It.rodState l) = rodRun)
    (hinit : (s.rod l).init = none) (hold : (s.rod l).old = none) (hrate : s.useK (It.rodSpRate l) = 0) :
    LoopRan l raw s (s.fullRun l raw 0 true) := by
  obtain ⟨f, g, flags, hf, hg, heq⟩ := State.fullRun_of_lone raw hlone hrun hinit hold hrate
  have hout := State.setOutput_keepsRelease l (s.runOut l (s.runLaw l raw)) (s.modRod l f)
  rw [heq]
  refine ⟨?pv, ?spEff, ?integrator, ?out, ?items, ?released, ?only⟩
  case pv | spEff | integrator | out =>
    simp (disch := decide) only [State.modRod_get, State.get_set_of_field, State.get_seti_of_field, State.get_seti, State.get_setOutput]
  case items =>
    intro k hk
    obtain ⟨hpv, hsp, hi, hu, hflags⟩ :
        k ≠ It.rodPv l ∧ k ≠ It.rodSpEff l ∧ k ≠ It.rodI l ∧ k ≠ It.rodOut l ∧ k ≠ It.rodFlags l := by simpa using hk
    rw [State.modRod_get, State.get_set_of_ne _ _ hflags, State.get_seti_of_ne _ _ hi, State.get_seti_of_ne _ _ hsp,
      State.get_seti_of_ne _ _ hpv, State.setOutput]
    exact State.get_seti_of_ne _ _ hu
  case released =>
    rw [(hg.modRod l _).1, (hg.modRod l _).2, State.rod, State.set_rods, State.seti_rods, State.seti_rods, State.seti_rods,
      ← State.rod, hout.1, hout.2]
    exact hf.modRod l s
  case only =>
    exact (s.modRod_rodsOnly l f).trans <| (State.setOutput_rodsOnly _ _ _).trans <| (State.seti_rodsOnly _ _ _).trans <|
      (State.seti_rodsOnly _ _ _).trans <| (State.seti_rodsOnly _ _ _).trans <| (State.set_rodsOnly _ _ _).trans <|
      State.modRod_rodsOnly _ _ _

/-! ## From a release to its run (R196, R199, R201) -/

/-- A loop takes its process value from a stream that is valid for it, and has no feed-forward source (R201, Table 7.1). -/
structure StreamFed (s : State) (l : Nat) : Prop where
  source : s.useK (It.rodPvSrc l) = 1
  following : s.get (It.stState (s.useK (It.rodPvInst l))) = 2
  good : s.get (It.stGuard (s.useK (It.rodPvInst l))) = 0
  alone : s.useK (It.rodFfSrc l) = 0

/-- The value of the stream that a loop takes its process value from. -/
def State.streamPv (s : State) (l : Nat) : Int := s.geti (It.stValue (s.useK (It.rodPvInst l)))

/-- A run noted as the latest of its loop. -/
def State.runNoted (l : Nat) (run : RodRun) (s : State) : State :=
  ((s.set (It.rodExecMaxNs l) (max (s.get (It.rodExecMaxNs l)) (sat32 run.ns))).set (It.rodLastRelease l) run.at_).modRod l fun r =>
    { r with runAt := some run.at_, tally := run.tally, carry := run.carry }

/-- What a run of a loop whose destination follows does before it applies the law. -/
def State.runBegun (l : Nat) (run : RodRun) (s : State) : State :=
  ((s.runNoted l run).modRod l fun r => { r with nofollow := false, okRun := false }).modFlags l (1023 - 128) 0

theorem State.runNoted_rodsOnly (l : Nat) (run : RodRun) (s : State) : RodsOnly s (s.runNoted l run) :=
  (State.set_rodsOnly _ _ _).trans <| (State.set_rodsOnly _ _ _).trans <| State.modRod_rodsOnly _ _ _

theorem State.runBegun_rodsOnly (l : Nat) (run : RodRun) (s : State) : RodsOnly s (s.runBegun l run) :=
  (s.runNoted_rodsOnly l run).trans <| (State.modRod_rodsOnly _ _ _).trans <| State.set_rodsOnly _ _ _

theorem State.get_runNoted_of_field (run : RodRun) (s : State) {l c i f : Nat} (hexec : f % 256 ≠ 0x39) (hlast : f % 256 ≠ 0x3c) :
    (s.runNoted l run).get (itemKey c i f) = s.get (itemKey c i f) := by
  rw [State.runNoted, State.modRod_get, State.get_set_of_field _ hlast, State.get_set_of_field _ hexec]

theorem State.rod_runBegun {s : State} {l : Nat} (run : RodRun) (hsize : l < s.rods.rods.length) : (s.runBegun l run).rod l =
    { s.rod l with runAt := some run.at_, tally := run.tally, carry := run.carry, nofollow := false, okRun := false } := by
  have hnoted : (s.runNoted l run).rod l =
      { s.rod l with runAt := some run.at_, tally := run.tally, carry := run.carry } := State.rod_modRod _ hsize
  rw [State.runBegun, State.modFlags, State.rod, State.set_rods, ← State.rod, State.rod_modRod, hnoted]
  rwa [(s.runNoted_rodsOnly l run).size]

/-- What the sources of a loop fed by a valid stream give its run. -/
theorem StreamFed.rodSource {s t : State} {l : Nat} (h : StreamFed s l) (hcfg : t.useK = s.useK)
    (hget : ∀ i f, 0x20 ≤ f → f ≤ 0x22 → t.get (itemKey 0x58 i f) = s.get (itemKey 0x58 i f)) :
    t.rodSource l (t.useK (It.rodPvSrc l)) (t.useK (It.rodPvInst l)) = (s.streamPv l, true) ∧
      t.rodSource l (t.useK (It.rodFfSrc l)) (t.useK (It.rodFfInst l)) = (0, true) := by
  rw [hcfg, h.source, h.alone]
  refine ⟨?_, rfl⟩
  unfold State.rodSource State.streamPv State.geti
  dsimp only
  rw [hget _ 0x20 (by decide) (by decide), hget _ 0x21 (by decide) (by decide), hget _ 0x22 (by decide) (by decide), h.following, h.good]
  rfl

/-- A run of a lone loop that a valid stream feeds applies the law, and is then traced. -/
theorem State.runLoop_of_streamFed {s : State} {l : Nat} (run : RodRun) (hsize : l < s.rods.rods.length) (hlone : LoneLoop s.useK l)
    (hfed : StreamFed s l) (hfollowed : (s.rod l).nofollow = false) :
    ∃ ff, s.runLoop l run = ((s.runBegun l run).fullRun l (s.streamPv l) 0 true).traceRun l run.at_ run.ns ff := by
  have huse := (s.runNoted_rodsOnly l run).useK
  obtain ⟨hpv, hff⟩ := hfed.rodSource huse fun _ f hlow hhigh => s.get_runNoted_of_field run (by omega) (by omega)
  have hfollows : (s.runNoted l run).rodFollows l = true := State.rodFollows_of_lone (by rwa [huse])
  have hnofollow : ((s.runNoted l run).rod l).nofollow = false := by
    rw [State.runNoted, State.rod_modRod]
    · exact hfollowed
    · exact hsize
  unfold State.runLoop
  dsimp only
  rw [← State.runNoted, hpv, hff, hfollows, hnofollow]
  exact ⟨_, rfl⟩

/-- From a state to one in which the engines have taken a run: it joins those of its engine, and may preempt one of them (R199). -/
structure JobStarted (l : Nat) (s t : State) : Prop where
  rod : t.rod l = s.rod l
  items : ∀ k, k ≠ It.engPreemptions (l / 16) → t.get k = s.get k
  only : RodsOnly s t

theorem State.startJob_started (l : Nat) (left : Option Nat) (s : State) : JobStarted l s (s.startJob l left) := by
  unfold State.startJob
  dsimp only
  split
  · exact ⟨rfl, fun k hk => State.get_bump_of_ne _ hk, rfl, rfl, rfl⟩
  · exact ⟨rfl, fun _ _ => rfl, rfl, rfl, rfl⟩

/-- From a state to one in which a loop has been released, its run still to be done. -/
structure Released (l : Nat) (s t : State) : Prop where
  rod : ∃ npos, t.rod l = { s.rod l with relAt := some s.now, npos := npos }
  items : ∀ k, k ≠ It.engPreemptions (l / 16) → t.get k = s.get k
  only : RodsOnly s t

/-- A release changes no item of a stream. -/
theorem Released.get_stream {s t : State} {l : Nat} (h : Released l s t) (i f : Nat) (hlow : 0x20 ≤ f) (hhigh : f ≤ 0x22) :
    t.get (itemKey 0x58 i f) = s.get (itemKey 0x58 i f) :=
  h.items _ (itemKey_ne_of_field (by omega))

theorem Released.streamPv {s t : State} {l : Nat} (h : Released l s t) : t.streamPv l = s.streamPv l := by
  rw [State.streamPv, State.geti, h.only.useK, h.get_stream _ 0x22 (by decide) (by decide)]
  rfl

theorem Released.streamFed {s t : State} {l : Nat} (h : Released l s t) (hfed : StreamFed s l) : StreamFed t l where
  source := by rw [h.only.useK, hfed.source]
  following := by rw [h.only.useK, h.get_stream _ 0x20 (by decide) (by decide), hfed.following]
  good := by rw [h.only.useK, h.get_stream _ 0x21 (by decide) (by decide), hfed.good]
  alone := by rw [h.only.useK, hfed.alone]

/-- A release that is due, of a loop without a run in progress, whose run completes on time. -/
theorem State.loopRelease_of_due {s : State} {l : Nat} (ns : Nat) (hsize : l < s.rods.rods.length) (hdue : s.releaseDue l = true)
    (hidle : (s.rod l).running = none) :
    ∃ t run, Released l s t ∧ run.at_ = s.now ∧ s.loopRelease l true ns = t.runLoop l run := by
  have habandon : s.abandon l = s := by
    unfold State.abandon
    rw [hidle]
  have hstarted := State.startJob_started l (some ns) s
  unfold State.loopRelease
  rw [if_pos hdue, habandon]
  simp only [if_true]
  generalize State.startJob l (some ns) s = a at hstarted
  have hnow : a.now = s.now := by rw [hstarted.only.frame]
  refine ⟨_, _, ⟨?rod, ?items, ?only⟩, ?instant, rfl⟩
  case rod =>
    rw [← hnow, ← hstarted.rod]
    exact ⟨_, State.rod_modRod (s := a) _ (by rwa [hstarted.only.size])⟩
  case items => exact hstarted.items
  case only => exact hstarted.only.trans ((State.modRod_rodsOnly _ _ _).trans ⟨rfl, rfl, rfl⟩)
  case instant => exact hnow

/-- From a state to one in which a released loop has begun its run and the law is still to be applied. -/
structure RunReady (l : Nat) (s t : State) : Prop where
  rod : ∃ npos tally carry, t.rod l = { s.rod l with
    relAt := some s.now, npos := npos, runAt := some s.now, tally := tally, carry := carry, nofollow := false, okRun := false }
  lastRelease : t.get (It.rodLastRelease l) = s.now
  items : ∀ k, k ∉ [It.rodFlags l, It.rodLastRelease l, It.rodExecMaxNs l, It.engPreemptions (l / 16)] → t.get k = s.get k
  only : RodsOnly s t

theorem Released.runReady {s t : State} {l : Nat} (h : Released l s t) (hsize : l < s.rods.rods.length) {run : RodRun}
    (hat : run.at_ = s.now) : RunReady l s (t.runBegun l run) where
  rod := by
    obtain ⟨npos, hrod⟩ := h.rod
    exact ⟨npos, run.tally, run.carry, by rw [State.rod_runBegun run (by rwa [h.only.size]), hrod, hat]⟩
  lastRelease := by
    rw [State.runBegun, State.modFlags, State.get_set_of_field _ (by decide), State.modRod_get, State.runNoted, State.modRod_get,
      State.get_set, if_pos rfl, hat]
  items := by
    intro k hk
    obtain ⟨hflags, hlast, hexec, hpre⟩ :
        k ≠ It.rodFlags l ∧ k ≠ It.rodLastRelease l ∧ k ≠ It.rodExecMaxNs l ∧ k ≠ It.engPreemptions (l / 16) := by
      simpa using hk
    rw [State.runBegun, State.modFlags, State.get_set_of_ne _ _ hflags, State.modRod_get, State.runNoted, State.modRod_get,
      State.get_set_of_ne _ _ hlast, State.get_set_of_ne _ _ hexec, h.items k hpre]
  only := h.only.trans (t.runBegun_rodsOnly l run)

/-- A release instant of an mtime-clocked loop in RUN, when the slots before it on its engine have no release due (R196, R199). -/
theorem State.releaseDue_of_instant {s : State} {l : Nat} (hrun : s.get (It.rodState l) = rodRun) (hclock : s.useK (It.rodClock l) = 0)
    (hnew : (s.rod l).relAt ≠ some s.now)
    (hbefore : ∀ k < 16, l % 16 ≤ k ∨ s.releaseNow (l / 16 * 16 + k) = false)
    (hinstant : ((s.now : Int) - 1000 * (s.useK (It.rodPhaseUs l) : Int)) % (1000 * (s.useK (It.rodPeriodUs l) : Int)) = 0) :
    s.releaseDue l = true := by
  have hnow : s.releaseNow l = true := by
    unfold State.releaseNow
    dsimp only
    rw [hrun, if_pos hclock, bne_iff_ne.2 hnew, decide_eq_true hinstant]
    rfl
  have hothers : (List.range (l % 16)).all (fun k => !s.releaseNow (l / 16 * 16 + k)) = true := by
    refine List.all_eq_true.2 fun k hk => ?_
    have hlt : k < l % 16 := List.mem_range.1 hk
    rw [(hbefore k (by omega)).resolve_left (by omega)]
    rfl
  rw [State.releaseDue, hnow, hothers]
  rfl

/-- A loop in RUN, released with no run in progress and nothing to initialise: it is joined to nothing, its set-point steps, a valid
stream feeds it, and no trace is armed. -/
structure PlainLoop (s : State) (l : Nat) : Prop where
  size : l < s.rods.rods.length
  running : s.get (It.rodState l) = rodRun
  idle : (s.rod l).running = none
  lone : LoneLoop s.useK l
  fed : StreamFed s l
  followed : (s.rod l).nofollow = false
  init : (s.rod l).init = none
  old : (s.rod l).old = none
  steps : s.useK (It.rodSpRate l) = 0
  untraced : s.rods.trace = none

/-- The release of such a loop brings it to its run, and the run applies the law. -/
theorem PlainLoop.loopRelease {s : State} {l : Nat} (h : PlainLoop s l) (ns : Nat) (hdue : s.releaseDue l = true) :
    ∃ t, RunReady l s t ∧ LoopRan l (s.streamPv l) t (s.loopRelease l true ns) := by
  obtain ⟨t, run, hreleased, hat, heq⟩ := State.loopRelease_of_due ns h.size hdue h.idle
  have hready : RunReady l s (t.runBegun l run) := hreleased.runReady h.size hat
  have hsize : l < t.rods.rods.length := by
    rw [hreleased.only.size]
    exact h.size
  have hlone : LoneLoop t.useK l := by
    rw [hreleased.only.useK]
    exact h.lone
  obtain ⟨npos, hrod⟩ := hreleased.rod
  obtain ⟨ff, hrun⟩ := State.runLoop_of_streamFed run hsize hlone (hreleased.streamFed h.fed) (by rw [hrod]; exact h.followed)
  obtain ⟨npos', tally, carry, hrod'⟩ := hready.rod
  have hstate : (t.runBegun l run).get (It.rodState l) = rodRun := by
    rw [hready.items _ (by simp [itemKey_ne_of_field]), h.running]
  have hran := State.fullRun_ran (s := t.runBegun l run) (t.streamPv l) (by rw [hready.only.useK]; exact h.lone) hstate
    (by rw [hrod']; exact h.init) (by rw [hrod']; exact h.old) (by rw [hready.only.useK]; exact h.steps)
  refine ⟨_, hready, ?_⟩
  rw [heq, hrun, State.traceRun_of_none, ← hreleased.streamPv]
  · exact hran
  · rw [hran.only.trace, hready.only.trace, h.untraced]

/-- What a run comes to is settled when its loop is released. -/
theorem RunReady.runPv_eq {s t : State} {l : Nat} (h : RunReady l s t) (raw : Int) : t.runPv l raw = s.runPv l raw := by
  rw [State.runPv, State.useKi, h.only.useK]
  rfl

/-- The terms of the law depend on the settings in use alone. -/
theorem State.law_congr {s t : State} (h : t.useK = s.useK) (l : Nat) (sp pv ffv d pvPrev : Int) :
    t.law l (t.gains l) sp pv ffv d pvPrev = s.law l (s.gains l) sp pv ffv d pvPrev := by
  unfold State.law State.gains State.rodDt State.useKi
  rw [h]

theorem RunReady.runLaw_eq {s t : State} {l : Nat} (h : RunReady l s t) (raw : Int) : t.runLaw l raw = s.runLaw l raw := by
  obtain ⟨npos, tally, carry, hrod⟩ := h.rod
  have hpv : t.get (It.rodPv l) = s.get (It.rodPv l) := h.items _ (by simp [itemKey_ne_of_field])
  rw [State.runLaw, State.law_congr h.only.useK, h.runPv_eq, State.useKi, h.only.useK, State.geti, hpv, hrod]
  rfl

theorem RunReady.runI_eq {s t : State} {l : Nat} (h : RunReady l s t) (o : LawOut) : t.runI l o = s.runI l o := by
  have hi : t.get (It.rodI l) = s.get (It.rodI l) := h.items _ (by simp [itemKey_ne_of_field])
  simp only [State.runI, State.useKi, State.geti, h.only.useK, hi]

theorem RunReady.runOut_eq {s t : State} {l : Nat} (h : RunReady l s t) (o : LawOut) : t.runOut l o = s.runOut l o := by
  simp only [State.runOut, State.useKi, h.only.useK, h.runI_eq]

/-! ## A run abandoned at its deadline (R209) -/

/-- From a state to one in which rod_state of a loop has been changed, and the sessions told (R210). -/
structure RodSet (l st : Nat) (s t : State) : Prop where
  state : t.get (It.rodState l) = st
  items : ∀ k, k ≠ It.rodState l → (∀ m < 16, k ≠ It.eventsLost m) → t.get k = s.get k
  owner : SameOwner s t
  frame : t = { s with items := t.items, mail := t.mail }

theorem State.setRod_set {s : State} {l st : Nat} (cause : Nat) (h : s.get (It.rodState l) ≠ st) :
    RodSet l st s (s.setRod l st cause) := by
  rw [State.setRod_of_ne cause h]
  obtain ⟨ms, it, hemit, hget⟩ := State.emit_shape 0x0680
    (toLE 1 l ++ toLE 1 0 ++ toLE 2 st ++ toLE 2 cause ++ toLE 2 0 ++ toLE 8 s.now) (s.set (It.rodState l) st)
  rw [hemit]
  refine ⟨?state, ?items, rfl, rfl⟩
  case state => exact (hget _ (ne_eventsLost_of_field (by decide))).trans (by rw [State.get_set, if_pos rfl])
  case items =>
    intro k hk hlost
    exact (hget k hlost).trans (State.get_set_of_ne s st hk)

theorem RodSet.useK {s t : State} {l st : Nat} (h : RodSet l st s t) : t.useK = s.useK := by
  rw [h.frame]
  rfl

theorem RodSet.rods {s t : State} {l st : Nat} (h : RodSet l st s t) : t.rods = s.rods := by rw [h.frame]

/-- A run taken from its loop and its engine, with the overrun counted and flagged. -/
def State.runDropped (l : Nat) (s : State) : State :=
  (((s.modRod l fun r => { r with running := none, overs := r.overs + 1, good := 0, okRun := false }).bump
    (It.rodOverruns l)).dropJob l).modFlags l 1023 32

theorem State.dropJob_rodsOnly (l : Nat) (s : State) : RodsOnly s (s.dropJob l) := ⟨rfl, rfl, rfl⟩

theorem State.runDropped_rodsOnly (l : Nat) (s : State) : RodsOnly s (s.runDropped l) :=
  (State.modRod_rodsOnly l _ s).trans <| (State.set_rodsOnly _ _ _).trans <|
    (State.dropJob_rodsOnly l _).trans <| State.set_rodsOnly _ _ _

theorem State.runDropped_get_of_ne {s : State} {l k : Nat} (hovers : k ≠ It.rodOverruns l) (hflags : k ≠ It.rodFlags l) :
    (s.runDropped l).get k = s.get k := by
  rw [State.runDropped, State.modFlags, State.get_set_of_ne _ _ hflags]
  exact State.get_bump_of_ne _ hovers

theorem State.runDropped_overruns (s : State) (l : Nat) :
    (s.runDropped l).get (It.rodOverruns l) = sat32 (s.get (It.rodOverruns l) + 1) := by
  rw [State.runDropped, State.modFlags, State.get_set_of_field _ (by decide)]
  exact (State.get_bump _ _ _).trans (if_pos rfl)

theorem State.runDropped_flags (s : State) (l : Nat) :
    (s.runDropped l).get (It.rodFlags l) = (s.get (It.rodFlags l) &&& 1023) ||| 32 := by
  have hflags : (((s.modRod l fun r => { r with running := none, overs := r.overs + 1, good := 0, okRun := false }).bump
      (It.rodOverruns l)).dropJob l).get (It.rodFlags l) = s.get (It.rodFlags l) :=
    State.get_bump_of_ne _ (itemKey_ne_of_field (by decide))
  rw [State.runDropped, State.modFlags, hflags, State.get_set, if_pos rfl]

theorem State.runDropped_rods (s : State) (l : Nat) : (s.runDropped l).rods = { s.rods with
    rods := upd s.rods.rods l fun r => { r with running := none, overs := r.overs + 1, good := 0, okRun := false }
    jobs := (s.runDropped l).rods.jobs
    jobsAt := (s.runDropped l).rods.jobsAt } := rfl

/-- No run of the loop is left on its engine. -/
theorem State.runDropped_jobs (s : State) (l : Nat) :
    (nth (s.runDropped l).rods.jobs (l / 16)).any (fun j => j.slot == l % 16) = false := by
  have hjobs : (s.runDropped l).rods.jobs = upd s.rods.jobs (l / 16) fun _ =>
      (jobsRun (s.up - nth s.rods.jobsAt (l / 16)) (nth s.rods.jobs (l / 16))).filter fun j => j.slot != l % 16 := rfl
  rw [hjobs, nth_upd]
  by_cases hengine : l / 16 < s.rods.jobs.length
  · rw [if_pos ⟨rfl, hengine⟩, List.any_eq_false]
    intro j hj
    simpa using (List.mem_filter.1 hj).2
  · rw [if_neg fun h => hengine h.2, nth, List.getD_eq_getElem?_getD, List.getElem?_eq_none (Nat.le_of_not_lt hengine)]
    rfl

/-- The run of an uncascaded loop in RUN is abandoned below the limit of overruns: the loop is in HOLD (R209, Table 7.3). -/
theorem State.abandon_of_below {s : State} {l : Nat} {run : RodRun} (hsize : l < s.rods.rods.length)
    (hrunning : (s.rod l).running = some run) (hrun : s.get (It.rodState l) = rodRun)
    (hbelow : (s.rod l).overs + 1 < s.useK (It.rodOverrunN l)) (huncascaded : Uncascaded s.useK l) (huntraced : s.rods.trace = none) :
    RodSet l rodHold (s.runDropped l) (s.abandon l) := by
  have honly := s.runDropped_rodsOnly l
  have hstate : (s.runDropped l).get (It.rodState l) = rodRun := by
    rw [State.runDropped_get_of_ne (itemKey_ne_of_field (by decide)) (itemKey_ne_of_field (by decide)), hrun]
  have hovers : ((s.runDropped l).rod l).overs = (s.rod l).overs + 1 := by
    rw [State.rod, State.runDropped_rods, nth_upd, if_pos ⟨rfl, hsize⟩]
    rfl
  have hlimit : ¬ (s.runDropped l).useK (It.rodOverrunN l) ≤ ((s.runDropped l).rod l).overs := by
    rw [honly.useK, hovers]
    exact Nat.not_le.2 hbelow
  have hset : RodSet l rodHold (s.runDropped l) ((s.runDropped l).setRod l rodHold 1) :=
    State.setRod_set 1 (by rw [hstate]; decide)
  have habandon : s.abandon l = (s.runDropped l).setRod l rodHold 1 := by
    unfold State.abandon
    rw [hrunning]
    dsimp only
    rw [← State.runDropped, if_neg (by rw [hstate]; decide), if_neg hlimit, State.casOf_of_uncascaded, State.traceRun_of_none]
    · rw [hset.rods, honly.trace, huntraced]
    · rwa [hset.useK, honly.useK]
  rwa [habandon]

/-- The deadline of a run of a loop that feeds no cascade is the loop's own next release (R209). -/
theorem State.deadlinePassed_of_nextRelease {s : State} {l t : Nat} (houters : outersOf s.useK l = [])
    (hclock : s.useK (It.rodClock l) = 0) (hdue : s.nextRelease l t ≤ (s.now : Int)) : s.deadlinePassed l t = true := by
  unfold State.deadlinePassed
  rw [houters, if_pos hclock, decide_eq_true hdue]
  rfl

theorem execRunDeadline_of_passed {s : State} {dt : Nat} {loop : Fin 128} {run : RodRun} (hruns : s.runs = true)
    (hrunning : (s.rod loop).running = some run) (hpassed : (s.advance dt).deadlinePassed loop run.at_ = true)
    (hclk : ((s.advance dt).abandon loop).clk = s.clk.advance dt) (hpending : ((s.advance dt).abandon loop).pending = s.pending) :
    execRunDeadline dt loop s = .next ((s.advance dt).abandon loop) := by
  have hrunning' : ((s.advance dt).rod loop).running = some run := hrunning
  refine timedRun_eq dt _ s _ hruns ?_ hclk hpending
  rw [hrunning']
  exact if_pos hpassed

/-! ## The end of FAILSAFE (R210) -/

/-- FAILSAFE ended for an uncascaded loop that holds no channel in its safe state: it is in RUN, and its next run starts from u_fs. -/
theorem State.rodResetEffect_of_passed {s : State} {l k cause : Nat} (hsize : l < s.rods.rods.length)
    (hending : (s.rod l).ending = some (k, cause)) (hpassed : k < s.clk.kLast) (hfailsafe : s.get (It.rodState l) = rodFailsafeSt)
    (hfree : (s.rod l).fsChan = none) (huncascaded : Uncascaded s.useK l) :
    s.rodResetEffect l = ((s.modRod l fun r => { r with ending := none, init := some .failsafe, inval := 0, overs := 0 }).set
      (It.rodState l) rodRun).emit 0x0680 (toLE 1 l ++ toLE 1 0 ++ toLE 2 rodRun ++ toLE 2 cause ++ toLE 2 0 ++ toLE 8 s.now) := by
  have hended : ((s.modRod l fun r => { r with ending := none }).rod l).fsChan = none := by
    rw [State.rod_modRod _ hsize]
    exact hfree
  have hleft : (s.modRod l fun r => { r with ending := none }).leaveFailsafe l = s.modRod l fun r => { r with ending := none } := by
    unfold State.leaveFailsafe
    rw [hended]
  have hstate : (s.modRod l fun r => { r with ending := none, init := some .failsafe, inval := 0, overs := 0 }).get (It.rodState l) ≠
      rodRun := by
    rw [State.modRod_get, hfailsafe]
    decide
  unfold State.rodResetEffect
  rw [hending]
  dsimp only
  rw [if_pos hpassed, State.endFailsafe, State.modRod_get, if_pos hfailsafe, hleft, State.modRod_modRod, State.casOf_of_uncascaded]
  · exact State.setRod_of_ne cause hstate
  · rw [(State.setRod_set cause hstate).useK]
    exact huncascaded

/-! ## The obligation -/

/-- Settles O22: a release that brings a plain loop to a run of the law, a run dropped at its deadline, and FAILSAFE ended. -/
theorem loopsRun : Obligations.LoopsRun := by
  unfold Obligations.LoopsRun
  refine ⟨?release, ?deadline, ?reset⟩
  case release =>
    intro s dt execNs loop hlive hsize hrun hclock hnew hbefore hinstant hidle hsource hfollowing hgood halone hdest hbeam hinner
      houters hinit hold hfollowed hsteps huntraced
    have hplain : PlainLoop (s.advance dt) loop :=
      ⟨hsize, hrun, hidle, ⟨⟨hinner, houters⟩, hdest, hbeam⟩, ⟨hsource, hfollowing, hgood, halone⟩, hfollowed, hinit, hold,
        hsteps, huntraced⟩
    obtain ⟨t, hready, hran⟩ := hplain.loopRelease execNs (State.releaseDue_of_instant hrun hclock hnew hbefore hinstant)
    have honly := hready.only.trans hran.only
    obtain ⟨npos, tally, carry, hrod⟩ := hready.rod
    refine ⟨_, timedRun_eq dt _ s _ (State.runs_of_live hlive) rfl ?clk ?queue, ⟨?pv, ?spEff, ?integrator, ?out⟩, ?state, ?last,
      ?runAt, ?relAt, ?items, honly.frame⟩
    case clk => rw [honly.frame]; rfl
    case queue => rw [honly.frame]; rfl
    case pv => rw [hran.pv, hready.runPv_eq]; rfl
    case spEff => rw [hran.spEff, State.useKi, hready.only.useK]; rfl
    case integrator => rw [hran.integrator, hready.runLaw_eq, hready.runI_eq]; rfl
    case out => rw [hran.out, hready.runLaw_eq, hready.runOut_eq]; rfl
    case state =>
      rw [hran.items _ (by simp [itemKey_ne_of_field]), hready.items _ (by simp [itemKey_ne_of_field])]
      exact hrun
    case last => rw [hran.items _ (by simp [itemKey_ne_of_field]), hready.lastRelease]; rfl
    case runAt => rw [hran.released.2, hrod]; rfl
    case relAt => rw [hran.released.1, hrod]; rfl
    case items =>
      intro k hk _
      simp only [List.mem_cons, List.not_mem_nil, or_false, not_or] at hk
      obtain ⟨hpv, hsp, hi, hu, hflags, hlast, hexec, hpre⟩ := hk
      rw [hran.items k (by simp [hpv, hsp, hi, hu, hflags]), hready.items k (by simp [hflags, hlast, hexec, hpre])]
      rfl
  case deadline =>
    intro s dt run loop hlive hsize hrunning houters hclock hdue hrun hbelow hinner huntraced
    have hpassed : (s.advance dt).deadlinePassed loop run.at_ = true := State.deadlinePassed_of_nextRelease houters hclock hdue
    have hset : RodSet loop rodHold ((s.advance dt).runDropped loop) ((s.advance dt).abandon loop) :=
      State.abandon_of_below hsize hrunning hrun hbelow ⟨hinner, houters⟩ huntraced
    refine ⟨_, execRunDeadline_of_passed (State.runs_of_live hlive) hrunning hpassed ?clk ?queue, hset.state, ?overruns, ?flags, ?rods,
      ?jobs, ?items, ?owner, ?frame⟩
    case clk => rw [hset.frame]; rfl
    case queue => rw [hset.frame]; rfl
    case overruns =>
      exact (hset.items _ (itemKey_ne_of_field (by decide)) (ne_eventsLost_of_field (by decide))).trans (State.runDropped_overruns _ _)
    case flags =>
      exact (hset.items _ (itemKey_ne_of_field (by decide)) (ne_eventsLost_of_field (by decide))).trans (State.runDropped_flags _ _)
    case rods => rw [hset.rods]; rfl
    case jobs => rw [hset.rods]; exact State.runDropped_jobs _ _
    case items =>
      intro k hk hlost
      obtain ⟨hstate, hovers, hflags⟩ : k ≠ It.rodState loop ∧ k ≠ It.rodOverruns loop ∧ k ≠ It.rodFlags loop := by
        simpa using hk
      exact (hset.items k hstate hlost).trans (State.runDropped_get_of_ne hovers hflags)
    case owner => exact hset.owner
    case frame => rw [hset.frame]; rfl
  case reset =>
    intro s dt k cause loop hlive hsize hending hpassed hfailsafe hfree hinner houters
    exact timedRun_eq dt (State.rodResetEffect loop) s _ (State.runs_of_live hlive)
      (State.rodResetEffect_of_passed (s := s.advance dt) hsize hending hpassed hfailsafe hfree ⟨hinner, houters⟩)
      (State.emit_clk _ _ _) (State.emit_pending _ _ _)

end Sys2Proof.Machine
end

section
/-! SUPPORT. What operations on the field I/O leave alone, one operation over all channels, numbers in byte strings (R9, R255). -/

namespace Sys2Proof.Machine

open Sys2Proof.Safety

/-! ## Operations on items, mailboxes and the field I/O alone -/

/-- From a state to one that differs in the items listed, the counters of lost events, the frames in its mailboxes, and the field
I/O. -/
structure IoOnly (ks : List Nat) (s t : State) : Prop where
  items : ItemsBut ks s t
  owner : SameOwner s t
  frame : t = { s with items := t.items, mail := t.mail, io := t.io }

theorem sameOwner_trans {s t u : State} (h : SameOwner s t) (h' : SameOwner t u) : SameOwner s u := by
  rw [SameOwner, h', h]

theorem IoOnly.refl (ks : List Nat) (s : State) : IoOnly ks s s := ⟨fun _ _ _ => rfl, rfl, rfl⟩

theorem IoOnly.trans {ks : List Nat} {s t u : State} (h : IoOnly ks s t) (h' : IoOnly ks t u) : IoOnly ks s u where
  items k hk hlost := (h'.items k hk hlost).trans (h.items k hk hlost)
  owner := sameOwner_trans h.owner h'.owner
  frame := by rw [h'.frame, h.frame]

theorem IoOnly.mono {ks ks' : List Nat} {s t : State} (h : IoOnly ks s t) (hsub : ks ⊆ ks') : IoOnly ks' s t :=
  ⟨fun k hk => h.items k fun hmem => hk (hsub hmem), h.owner, h.frame⟩

/-- A listed item that keeps its value need not be listed. -/
theorem IoOnly.drop {k : Nat} {ks : List Nat} {s t : State} (h : IoOnly (k :: ks) s t) (hk : t.get k = s.get k) :
    IoOnly ks s t where
  items j hj hlost := by
    by_cases hjk : j = k
    · rw [hjk, hk]
    · exact h.items j (by simp [hjk, hj]) hlost
  owner := h.owner
  frame := h.frame

theorem IoOnly.clk {ks : List Nat} {s t : State} (h : IoOnly ks s t) : t.clk = s.clk := by rw [h.frame]

theorem IoOnly.pending {ks : List Nat} {s t : State} (h : IoOnly ks s t) : t.pending = s.pending := by rw [h.frame]

theorem IoOnly.lanes {ks : List Nat} {s t : State} (h : IoOnly ks s t) : t.lanes = s.lanes := by rw [h.frame]

theorem IoOnly.get_of_not_mem {ks : List Nat} {s t : State} (h : IoOnly ks s t) {c i f : Nat} (hk : itemKey c i f ∉ ks)
    (hf : f % 256 ≠ 0x0a) : t.get (itemKey c i f) = s.get (itemKey c i f) :=
  h.items _ hk (ne_eventsLost_of_field hf)

/-- Time passes, then the operation acts: what differs from the state before. -/
theorem IoOnly.of_advance {ks : List Nat} {s t : State} {dt : Nat} (h : IoOnly ks (s.advance dt) t) :
    ItemsBut ks s t ∧ SameOwner s t ∧ t = { s with clk := s.clk.advance dt, items := t.items, mail := t.mail, io := t.io } :=
  ⟨h.items, h.owner, h.frame⟩

theorem IoOnly.of_advance_io {ks : List Nat} {s t : State} {dt : Nat} {b : IoBank} (h : IoOnly ks (s.advance dt) t)
    (hb : t.io = b) :
    ItemsBut ks s t ∧ SameOwner s t ∧ t = { s with clk := s.clk.advance dt, items := t.items, mail := t.mail, io := b } :=
  ⟨h.items, h.owner, hb ▸ h.frame⟩

theorem timedRun_ioOnly {dt : Nat} {f : State → State} {s : State} {ks : List Nat} (hlive : s.live = true)
    (h : IoOnly ks (s.advance dt) (f (s.advance dt))) : timedRun dt f s = .next (f (s.advance dt)) :=
  timedRun_eq dt f s _ (State.runs_of_live hlive) rfl h.clk h.pending

theorem timedDie_ioOnly {dt : Nat} {f : State → State} {s : State} {ks : List Nat} (hpowered : s.powered = true)
    (h : IoOnly ks (s.advance dt) (f (s.advance dt))) : timedDie dt f s = .next (f (s.advance dt)) :=
  timedDie_eq dt f s _ hpowered rfl h.clk h.pending

theorem IoOnly.modIo {ks : List Nat} {s t : State} (h : IoOnly ks s t) (f : IoBank → IoBank) : IoOnly ks s (t.modIo f) :=
  h.trans ⟨fun _ _ _ => rfl, rfl, rfl⟩

theorem IoOnly.set {ks : List Nat} {s t : State} (h : IoOnly ks s t) {k : Nat} (v : Nat) (hk : k ∈ ks) : IoOnly ks s (t.set k v) :=
  h.trans ⟨fun _ hj _ => State.get_set_of_ne t v fun heq => hj (heq ▸ hk), rfl, rfl⟩

theorem IoOnly.bump {ks : List Nat} {s t : State} (h : IoOnly ks s t) {k : Nat} (hk : k ∈ ks) : IoOnly ks s (t.bump k) := h.set _ hk

theorem IoOnly.emit {ks : List Nat} {s t : State} (h : IoOnly ks s t) (code : Nat) (p : List Byte) :
    IoOnly ks s (t.emit code p) := by
  obtain ⟨ms, it, heq, hget⟩ := State.emit_shape code p t
  rw [heq]
  exact h.trans ⟨fun k _ hk => hget k hk, rfl, rfl⟩

theorem IoOnly.setGuard {ks : List Nat} {s t : State} (h : IoOnly ks s t) {k : Nat} (g code : Nat) (p : List Byte) (hk : k ∈ ks) :
    IoOnly ks s (t.setGuard k g code p) := by
  unfold State.setGuard
  split
  · exact h
  · exact (h.set g hk).emit code p

theorem IoOnly.each {ks l : List Nat} {f : Nat → State → State} (s : State) (h : ∀ n ∈ l, ∀ t, IoOnly ks t (f n t)) :
    IoOnly ks s (s.each l f) :=
  List.foldlRecOn (motive := IoOnly ks s) _ _ (.refl ks s) fun t ht n hn => ht.trans (h n hn t)

/-! ## An item set with an event at its change -/

@[simp] theorem State.setGuard_io (k g code : Nat) (p : List Byte) (s : State) : (s.setGuard k g code p).io = s.io := by
  unfold State.setGuard
  split <;> simp

theorem State.get_setGuard (s : State) {c i f : Nat} (g code : Nat) (p : List Byte) (hf : f % 256 ≠ 0x0a) :
    (s.setGuard (itemKey c i f) g code p).get (itemKey c i f) = g := by
  unfold State.setGuard
  split
  · assumption
  · rw [State.emit_get _ _ _ _ (ne_eventsLost_of_field hf), State.get_set, if_pos rfl]

/-! ## Items in force at an mtime (R119) -/

theorem State.getAt_set_of_ne (s : State) {k j : Nat} (v t : Nat) (h : j ≠ k) : (s.set k v).getAt t j = s.getAt t j := by
  have hbefore : (s.set k v).sb = s.sb := rfl
  unfold State.getAt
  rw [hbefore, State.get_set_of_ne s v h]
  rfl

/-! ## Lists by index -/

theorem upd_of_fixed {α : Type} (l : List α) (i : Nat) (f : α → α) (h : ∀ x, l[i]? = some x → f x = x) : upd l i f = l := by
  rw [upd_congr l i f id h]
  exact List.modify_id i l

theorem nth_of_getElem? {α : Type} [Inhabited α] {l : List α} {i : Nat} {x : α} (h : l[i]? = some x) : nth l i = x := by
  rw [nth, List.getD_eq_getElem?_getD, h, Option.getD_some]

/-- A field set at an index, told by the value that the new list has there. -/
theorem upd_self_field {α β : Type} [Inhabited α] (l : List α) (i : Nat) (put : β → α → α) (field : α → β)
    (h : ∀ b x, field (put b x) = b) (b : β) : upd l i (put b) = upd l i (put (field (nth (upd l i (put b)) i))) := by
  refine upd_congr l i _ _ fun x hx => ?_
  obtain ⟨hi, -⟩ := List.getElem?_eq_some_iff.1 hx
  rw [nth_upd, if_pos ⟨rfl, hi⟩, h]

/-! ## One operation over all channels -/

/-- An operation on each channel of a list, in a state where something holds that the operation keeps: what the operation brings
about for its own channel and keeps for every channel, holds of all channels of the list at the end. -/
theorem State.each_brings {ι : Type} {l : List Nat} {f : Nat → State → State} {I : State → Prop} {P : ι → State → Prop}
    {g : Nat → ι}
    (hkeep : ∀ n ∈ l, ∀ t, I t → I (f n t) ∧ ∀ m, P m t → P m (f n t)) (hown : ∀ n ∈ l, ∀ t, I t → P (g n) (f n t)) :
    ∀ s, I s → I (s.each l f) ∧ (∀ m, P m s → P m (s.each l f)) ∧ ∀ n ∈ l, P (g n) (s.each l f) := by
  induction l with
  | nil => exact fun s hs => ⟨hs, fun _ h => h, fun _ h => absurd h List.not_mem_nil⟩
  | cons a r ih =>
    intro s hs
    obtain ⟨hka, hkr⟩ := List.forall_mem_cons.1 hkeep
    obtain ⟨hoa, hor⟩ := List.forall_mem_cons.1 hown
    obtain ⟨hI, hP⟩ := hka s hs
    obtain ⟨hI', hP', hn⟩ := ih hkr hor (f a s) hI
    exact ⟨hI', fun m hm => hP' m (hP m hm), List.forall_mem_cons.2 ⟨hP' _ (hoa s hs), hn⟩⟩

/-- What an operation keeps on each channel, it keeps over all of them. -/
theorem State.each_keeps {α : Type} {f : Nat → State → State} (p : State → α) (h : ∀ n t, p (f n t) = p t) (l : List Nat)
    (s : State) : p (s.each l f) = p s :=
  List.foldlRecOn (motive := fun t => p t = p s) l _ rfl fun t ht n _ => (h n t).trans ht

/-! ## Numbers in byte strings (R9) -/

@[simp] theorem length_toLE (n v : Nat) : (toLE n v).length = n := by
  induction n generalizing v with
  | zero => rfl
  | succ n ih => simp [toLE, ih]

theorem leNat_toLE (n v : Nat) : leNat (toLE n v) = v % 256 ^ n := by
  induction n generalizing v with
  | zero => simp [toLE, leNat, Nat.mod_one]
  | succ n ih =>
    rw [toLE, leNat, ih, BitVec.toNat_ofNat, Nat.pow_succ' (m := 256) (n := n)]
    exact Nat.mod_mul.symm

/-- A number written after a stretch of bytes is read at the end of that stretch. -/
theorem leAt_append_toLE (l r : List Byte) (n v o : Nat) (ho : l.length = o) : leAt (l ++ toLE n v ++ r) o n = v % 256 ^ n := by
  subst ho
  rw [leAt, List.append_assoc, List.drop_left, List.take_left' (length_toLE n v), leNat_toLE]

/-! ## The check value of the isolation link (R255) -/

theorem crc16Shift_lt (n c : Nat) (h : c < 65536) : crc16Shift n c < 65536 := by
  induction n generalizing c with
  | zero => exact h
  | succ n ih =>
    refine ih _ ?_
    split
    · exact Nat.xor_lt_two_pow (n := 16) (by omega) (by decide)
    · omega

theorem crc16_lt (l : List Byte) : crc16 l < 65536 := by
  refine List.foldlRecOn (motive := fun c : Nat => c < 65536) _ _ (by decide) fun c hc b _ => crc16Shift_lt 8 _ ?_
  have hb := b.isLt
  exact Nat.xor_lt_two_pow (n := 16) hc (by omega)

theorem length_withCrc16 (l : List Byte) : (withCrc16 l).length = l.length + 2 := by
  rw [withCrc16, List.length_append, length_toLE]

/-- A frame with its CRC-16 passes the check of its receiver. -/
theorem withCrc16_checks (l : List Byte) {n : Nat} (h : l.length = n) :
    crc16 ((withCrc16 l).take n) = u16At (withCrc16 l) n := by
  have hread := leAt_append_toLE l [] 2 (crc16 l) n h
  rw [List.append_nil] at hread
  rw [withCrc16, List.take_left' h, u16At, hread]
  exact (Nat.mod_eq_of_lt (crc16_lt l)).symm

end Sys2Proof.Machine
end

section
/-! SUPPORT. Input frames of the isolated section, and the guards of its channels judged (R253 to R268). -/

namespace Sys2Proof.Machine

open Sys2Proof.Safety

/-! ## The state of the isolation link (R255) -/

theorem linkItem_eq (lane : Nat) : ∃ f, f < 2 ∧ linkItem lane = itemKey 0x70 0x60 f := by
  unfold linkItem
  split
  · exact ⟨1, by decide, rfl⟩
  · exact ⟨0, by decide, rfl⟩

theorem linkItem_not_mem {ks : List Nat} (lane : Nat) (h : ∀ k ∈ ks, 0x20 ≤ k % 256) : linkItem lane ∉ ks := by
  intro hmem
  obtain ⟨f, hf, hkey⟩ := linkItem_eq lane
  have hfield := h _ hmem
  rw [hkey] at hfield
  unfold itemKey at hfield
  omega

theorem linkItem_ne_eventsLost (lane : Nat) : ∀ m < 16, linkItem lane ≠ It.eventsLost m := by
  obtain ⟨f, hf, hkey⟩ := linkItem_eq lane
  rw [hkey]
  exact ne_eventsLost_of_field (by omega)

/-- An operation that writes no item of a link leaves it. -/
theorem IoOnly.get_link {ks : List Nat} {s t : State} (h : IoOnly ks s t) (hks : ∀ k ∈ ks, 0x20 ≤ k % 256) (lane : Nat) :
    t.get (linkItem lane) = s.get (linkItem lane) :=
  h.items _ (linkItem_not_mem lane hks) (linkItem_ne_eventsLost lane)

theorem State.isoDown_eq (s : State) : s.isoDown = (s.get (linkItem s.lanes.latch) == 0) := rfl

theorem IoOnly.isoDown {ks : List Nat} {s t : State} (h : IoOnly ks s t) (hks : ∀ k ∈ ks, 0x20 ≤ k % 256) :
    t.isoDown = s.isoDown := by
  rw [State.isoDown_eq, State.isoDown_eq, h.lanes, h.get_link hks]

/-! ## A guard told, its breaks counted (R256) -/

/-- The end of a judgement of a digital or analog input: a guard that falls to BROKEN is counted, and the guard is told. -/
def State.guardTold (cls kb kg n g : Nat) (s : State) : State :=
  (if g = gBroken ∧ s.get kg ≠ gBroken then s.bump kb else s).ioGuard cls kg n g

theorem State.guardTold_io (cls kb kg n g : Nat) (s : State) : (s.guardTold cls kb kg n g).io = s.io := by
  unfold State.guardTold State.ioGuard
  rw [State.setGuard_io]
  split <;> rfl

theorem State.guardTold_ioOnly (cls kb kg n g : Nat) (s : State) : IoOnly [kb, kg] s (s.guardTold cls kb kg n g) := by
  unfold State.guardTold State.ioGuard
  refine IoOnly.setGuard ?_ _ _ _ (by simp)
  split
  · exact (IoOnly.refl _ s).bump (by simp)
  · exact .refl _ s

theorem State.get_guardTold (cls kb n g : Nat) (s : State) {c i f : Nat} (hf : f % 256 ≠ 0x0a) :
    (s.guardTold cls kb (itemKey c i f) n g).get (itemKey c i f) = g :=
  State.get_setGuard _ g _ _ hf

theorem State.get_breaks_guardTold (cls kg n g : Nat) (s : State) {c i f : Nat} (hf : f % 256 ≠ 0x0a) (hne : itemKey c i f ≠ kg) :
    (s.guardTold cls (itemKey c i f) kg n g).get (itemKey c i f) =
      if g = gBroken ∧ s.get kg ≠ gBroken then sat32 (s.get (itemKey c i f) + 1) else s.get (itemKey c i f) := by
  unfold State.guardTold State.ioGuard
  rw [((IoOnly.refl [kg] _).setGuard _ _ _ (by simp)).get_of_not_mem (by simpa using hne) hf]
  split
  · rw [State.get_bump, if_pos rfl]
  · rfl

/-- Nothing has come within a timeout that is not 0 (R256). -/
theorem silentFor_of_due {now ms l : Nat} (hms : ms ≠ 0) (hdue : l + ms * 1000000 ≤ now) : silentFor now ms (some l) = true := by
  simp [silentFor, hms, hdue]

theorem guardState_of_stale (w : Nat) (broken : Bool) : 3 ≤ guardState w true broken := by
  cases broken
  · exact Nat.le_refl 3
  · exact Nat.le_succ 3

/-! ## A digital input judged (R257, R259, R260) -/

/-- The guard of a digital input by the items in force at an mtime, with a state of its range window. -/
def State.diGuardOf (w n m : Nat) (s : State) : Nat :=
  guardState w (s.isoDown || silentFor s.now (s.getAt m (It.diStaleMs n)) (nth s.io.dis n).last)
    ((nth s.io.dis n).brk && s.getAt m (It.diBreakDetect n) == 1)

/-- From a state to one in which a digital input has been judged by the items in force at an mtime. -/
structure DiJudged (n m : Nat) (s t : State) : Prop where
  rate : t.get (It.diRate n) = rateOf s.now (nth s.io.dis n).times
  guard : ∃ w, t.get (It.diGuard n) = s.diGuardOf w n m
  breaks : t.get (It.diBreaks n) = if t.get (It.diGuard n) = gBroken ∧ s.get (It.diGuard n) ≠ gBroken then
    sat32 (s.get (It.diBreaks n) + 1) else s.get (It.diBreaks n)
  io : t.io = { s.io with dis := upd s.io.dis n fun d => { d with win := (nth t.io.dis n).win } }
  only : IoOnly [It.diBreaks n, It.diRate n, It.diGuard n] s t

theorem State.judgeDiAt_eq (n m : Nat) (s : State) : ∃ w, s.judgeDiAt n m =
    ((s.set (It.diRate n) (rateOf s.now (nth s.io.dis n).times)).modDi n fun d => { d with win := w }).guardTold 0x70
      (It.diBreaks n) (It.diGuard n) n (s.diGuardOf w n m) := by
  have hset := (IoOnly.refl [It.diRate n] s).set (rateOf s.now (nth s.io.dis n).times) (List.mem_singleton_self _)
  have hdown := hset.isoDown (by simp only [List.mem_singleton, forall_eq, It.diRate, itemKey]; omega)
  have hstale := s.getAt_set_of_ne (k := It.diRate n) (j := It.diStaleMs n) (rateOf s.now (nth s.io.dis n).times) m
    (itemKey_ne_of_field (by decide))
  have hdetect := s.getAt_set_of_ne (k := It.diRate n) (j := It.diBreakDetect n) (rateOf s.now (nth s.io.dis n).times) m
    (itemKey_ne_of_field (by decide))
  unfold State.diGuardOf
  rw [← hstale, ← hdetect, ← hdown]
  exact ⟨_, rfl⟩

theorem State.judgeDiAt_judged (n m : Nat) (s : State) : DiJudged n m s (s.judgeDiAt n m) := by
  obtain ⟨w, h⟩ := s.judgeDiAt_eq n m
  have hguard : (s.judgeDiAt n m).get (It.diGuard n) = s.diGuardOf w n m := by
    rw [h]
    exact State.get_guardTold _ _ _ _ _ (by decide)
  have hrated : ∀ (f : Di → Di) (r c i fld : Nat), fld % 256 ≠ 0x22 →
      ((s.set (It.diRate n) r).modDi n f).get (itemKey c i fld) = s.get (itemKey c i fld) :=
    fun _ _ _ _ _ hfld => State.get_set_of_field _ hfld
  refine ⟨?rate, ⟨w, hguard⟩, ?breaks, ?io, ?only⟩
  case rate =>
    have hother : It.diRate n ∉ [It.diBreaks n, It.diGuard n] := by simp [itemKey]
    rw [h, (State.guardTold_ioOnly _ _ _ _ _ _).get_of_not_mem hother (by decide)]
    exact (State.get_set _ _ _ _).trans (if_pos rfl)
  case breaks =>
    rw [hguard, h, State.get_breaks_guardTold _ _ _ _ _ (by decide) (itemKey_ne_of_field (by decide)), hrated _ _ _ _ _ (by decide),
      hrated _ _ _ _ _ (by decide)]
  case io =>
    have hio : (s.judgeDiAt n m).io = { s.io with dis := upd s.io.dis n fun d => { d with win := w } } := by
      rw [h, State.guardTold_io]
      rfl
    rw [hio]
    exact congrArg (fun l => { s.io with dis := l })
      (upd_self_field s.io.dis n (fun w d => { d with win := w }) Di.win (fun _ _ => rfl) w)
  case only =>
    rw [h]
    exact (((IoOnly.refl _ s).set _ (by simp)).modIo _).trans ((State.guardTold_ioOnly _ _ _ _ _ _).mono (by simp))

theorem DiJudged.guard_of_stale {n m : Nat} {s t : State} (h : DiJudged n m s t)
    (hstale : silentFor s.now (s.getAt m (It.diStaleMs n)) (nth s.io.dis n).last = true) (hwhole : (nth s.io.dis n).brk = false) :
    t.get (It.diGuard n) = gStale := by
  obtain ⟨w, hw⟩ := h.guard
  rw [hw, State.diGuardOf, hstale, hwhole, Bool.or_true]
  rfl

/-! ## An analog input judged (R257, R263) -/

/-- The guard of an analog input, with a state of its range window. -/
def State.aiGuardOf (w n : Nat) (s : State) : Nat :=
  guardState w (s.isoDown || silentFor s.now (s.get (It.aiStaleMs n)) (nth s.io.ais n).last)
    (((nth s.io.ais n).bad && (nth s.io.ais n).mode == nth s.io.modes n) ||
      ((nth s.io.ais n).shunt.isSome && nth s.io.modes n == 2))

/-- From a state to one in which an analog input has been judged. -/
structure AiJudged (n : Nat) (s t : State) : Prop where
  guard : ∃ w, t.get (It.aiGuard n) = s.aiGuardOf w n
  breaks : t.get (It.aiBreaks n) = if t.get (It.aiGuard n) = gBroken ∧ s.get (It.aiGuard n) ≠ gBroken then
    sat32 (s.get (It.aiBreaks n) + 1) else s.get (It.aiBreaks n)
  io : t.io = { s.io with ais := upd s.io.ais n fun a => { a with win := (nth t.io.ais n).win } }
  only : IoOnly [It.aiBreaks n, It.aiGuard n] s t

theorem State.judgeAi_eq (n : Nat) (s : State) : ∃ w, s.judgeAi n =
    (s.modAi n fun a => { a with win := w }).guardTold 0x74 (It.aiBreaks n) (It.aiGuard n) n (s.aiGuardOf w n) :=
  ⟨_, rfl⟩

theorem State.judgeAi_judged (n : Nat) (s : State) : AiJudged n s (s.judgeAi n) := by
  obtain ⟨w, h⟩ := s.judgeAi_eq n
  have hguard : (s.judgeAi n).get (It.aiGuard n) = s.aiGuardOf w n := by
    rw [h]
    exact State.get_guardTold _ _ _ _ _ (by decide)
  refine ⟨⟨w, hguard⟩, ?breaks, ?io, ?only⟩
  case breaks =>
    rw [hguard, h, State.get_breaks_guardTold _ _ _ _ _ (by decide) (itemKey_ne_of_field (by decide))]
    rfl
  case io =>
    have hio : (s.judgeAi n).io = { s.io with ais := upd s.io.ais n fun a => { a with win := w } } := by
      rw [h, State.guardTold_io]
      rfl
    rw [hio]
    exact congrArg (fun l => { s.io with ais := l })
      (upd_self_field s.io.ais n (fun w a => { a with win := w }) Ai.win (fun _ _ => rfl) w)
  case only =>
    rw [h]
    exact ((IoOnly.refl _ s).modIo _).trans (State.guardTold_ioOnly _ _ _ _ _ _)

theorem AiJudged.guard_of_stale {n : Nat} {s t : State} (h : AiJudged n s t)
    (hstale : silentFor s.now (s.get (It.aiStaleMs n)) (nth s.io.ais n).last = true) (hgood : (nth s.io.ais n).bad = false)
    (hclosed : (nth s.io.ais n).shunt = none) : t.get (It.aiGuard n) = gStale := by
  obtain ⟨w, hw⟩ := h.guard
  rw [hw, State.aiGuardOf, hstale, hgood, hclosed, Bool.or_true]
  rfl

/-! ## A loss input judged (R257, R266 to R268) -/

/-- The guard of a loss input by the items in force at an mtime, with a state of its range window. -/
def State.lsGuardOf (w n m : Nat) (s : State) : Nat :=
  guardState w (s.isoDown || silentFor s.now (s.getAt m (It.lsStaleMs n)) (nth s.io.lss n).last) (nth s.io.lss n).bad

/-- A window in progress with a guard noted in it that is not OK. -/
def noteGuard (g : Nat) (w : Option LsWin) : Option LsWin := if g = gOk then w else w.map fun w => { w with notOk := true }

/-- From a state to one in which a loss input has been judged by the items in force at an mtime. -/
structure LsJudged (n m : Nat) (s t : State) : Prop where
  guard : ∃ w, t.get (It.lsGuard n) = s.lsGuardOf w n m
  io : t.io = { s.io with lss := upd s.io.lss n fun a => { a with
    range := (nth t.io.lss n).range, win := noteGuard (t.get (It.lsGuard n)) a.win } }
  only : IoOnly [It.lsRate n, It.lsGuard n] s t

theorem State.judgeLsAt_eq (n m : Nat) (s : State) : ∃ w, s.judgeLsAt n m =
    (((s.set (It.lsRate n) (rateOf s.now (nth s.io.lss n).times)).modLs n fun a => { a with range := w }).ioGuard 0x78
      (It.lsGuard n) n (s.lsGuardOf w n m)).modLs n fun a => { a with win := noteGuard (s.lsGuardOf w n m) a.win } := by
  have hset := (IoOnly.refl [It.lsRate n] s).set (rateOf s.now (nth s.io.lss n).times) (List.mem_singleton_self _)
  have hdown := hset.isoDown (by simp only [List.mem_singleton, forall_eq, It.lsRate, itemKey]; omega)
  have hstale := s.getAt_set_of_ne (k := It.lsRate n) (j := It.lsStaleMs n) (rateOf s.now (nth s.io.lss n).times) m
    (itemKey_ne_of_field (by decide))
  have hnote : ∀ g u, (State.modLs n (fun a => { a with win := noteGuard g a.win }) u) =
      if g = gOk then u else u.modLs n fun a => { a with win := a.win.map fun w => { w with notOk := true } } := by
    intro g u
    unfold noteGuard
    split
    · exact congrArg (fun l => { u with io := { u.io with lss := l } }) (upd_of_fixed u.io.lss n _ fun _ _ => rfl)
    · rfl
  unfold State.lsGuardOf
  rw [← hstale, ← hdown]
  simp only [hnote]
  exact ⟨_, rfl⟩

theorem State.judgeLsAt_judged (n m : Nat) (s : State) : LsJudged n m s (s.judgeLsAt n m) := by
  obtain ⟨w, h⟩ := s.judgeLsAt_eq n m
  have hguard : (s.judgeLsAt n m).get (It.lsGuard n) = s.lsGuardOf w n m := by
    rw [h, State.modLs, State.modIo_get]
    exact State.get_setGuard _ _ _ _ (by decide)
  refine ⟨⟨w, hguard⟩, ?io, ?only⟩
  case io =>
    have hio : (s.judgeLsAt n m).io = { s.io with lss := upd s.io.lss n fun a => { a with
        range := w, win := noteGuard (s.lsGuardOf w n m) a.win } } := by
      rw [h, State.modLs, State.modIo_io, State.ioGuard, State.setGuard_io]
      exact congrArg (fun l => { s.io with lss := l }) (upd_upd _ _ _ _)
    rw [hguard, hio]
    exact congrArg (fun l => { s.io with lss := l }) (upd_self_field s.io.lss n
      (fun w' a => { a with range := w', win := noteGuard (s.lsGuardOf w n m) a.win }) Ls.range (fun _ _ => rfl) w)
  case only =>
    rw [h]
    exact ((((IoOnly.refl _ s).set _ (by simp)).modIo _).setGuard _ _ _ (by simp)).modIo _

end Sys2Proof.Machine
end

section
/-! SUPPORT. Input frames, a silent isolation link, and edges, breaks and shunts of the inputs (R253 to R264). -/

namespace Sys2Proof.Machine

open Sys2Proof.Safety

/-! ## The input frame of the section (R253, Table 9.1) -/

/-- An input frame that its receiver accepts, with the sequence and the counter it carries. -/
structure InputFrame (l : List Byte) (seq counter : Nat) : Prop where
  length : l.length = 132
  crc : crc16 (l.take 130) = u16At l 130
  kind : u8At l 0 = 1
  seqAt : u16At l 2 = seq
  counterAt : u32At l 4 = counter

theorem length_padTo (n : Nat) (l : List Byte) : (padTo n l).length = n := by
  rw [padTo, List.length_take, List.length_append, List.length_replicate]
  omega

theorem State.secFrame_eq (s : State) (f : FieldSense) : ∃ flags rest, rest.length = 122 ∧
    s.secFrame f =
      withCrc16 (toLE 1 1 ++ (toLE 1 flags ++ (toLE 2 (s.io.sec.made % 65536) ++ (toLE 4 f.counter.toNat ++ rest)))) := by
  unfold State.secFrame
  simp only [List.append_assoc]
  refine ⟨_, _, ?_, rfl⟩
  simp only [List.length_append, List.length_flatMap, length_toLE, length_padTo]
  rfl

theorem State.secFrame_inputFrame (s : State) (f : FieldSense) :
    InputFrame (s.secFrame f) (s.io.sec.made % 65536) f.counter.toNat := by
  obtain ⟨flags, rest, hrest, heq⟩ := s.secFrame_eq f
  have hlen : (toLE 1 1 ++ (toLE 1 flags ++ (toLE 2 (s.io.sec.made % 65536) ++
      (toLE 4 f.counter.toNat ++ rest)))).length = 130 := by simp [hrest]
  rw [heq]
  refine ⟨?length, withCrc16_checks _ hlen, ?kind, ?seqAt, ?counterAt⟩
  case length => rw [length_withCrc16, hlen]
  case kind => exact leAt_append_toLE [] _ 1 1 0 rfl
  case seqAt =>
    rw [withCrc16, u16At, List.append_assoc, List.append_assoc, List.append_assoc, ← List.append_assoc, ← List.append_assoc,
      leAt_append_toLE _ _ 2 _ 2 (by simp)]
    omega
  case counterAt =>
    rw [withCrc16, u32At, List.append_assoc, List.append_assoc, List.append_assoc, List.append_assoc, ← List.append_assoc,
      ← List.append_assoc, ← List.append_assoc, leAt_append_toLE _ _ 4 _ 4 (by simp)]
    have hcounter := f.counter.isLt
    omega

theorem noisy_nil (l : List Byte) : noisy l [] = l := by
  cases l <;> rfl

/-- A frame due at the section, without noise on its way, reaches the lane as the section has made it. -/
theorem State.inputRx_of_due {s : State} {lane : Nat} {f : FieldSense} (low : Nat)
    (htest : (nth s.ring.tests (4 + lane)).isSome = false)
    (hdue : s.io.sec.made = 0 ∨ s.io.sec.frameAt + 25000 ≤ s.up) (hnoise : f.noise = []) :
    s.inputRx lane f low =
      ((s.secSends f).modLink lane fun x => { x with got := s.io.sec.made + 1 }).inputBytes lane (s.secFrame f) low := by
  have hframe : s.frameFor lane f = some (s.secSends f) := if_pos hdue
  unfold State.inputRx State.underTest
  rw [htest, if_neg Bool.false_ne_true, hframe, hnoise]
  dsimp only
  rw [noisy_nil]
  rfl

/-- At a lane whose link is UP and that the latch does not name, a frame is noted, and the frames lost before it are counted. -/
theorem State.inputBytes_of_standby {s : State} {lane seq counter q : Nat} {l : List Byte} (low : Nat)
    (hframe : InputFrame l seq counter) (hup : s.get (linkItem lane) = 1)
    (hlatch : lane ≠ s.lanes.latch) (hseq : (nth s.io.links lane).inSeq = some q) :
    s.inputBytes lane l low = (s.bumpBy (lostItem lane) ((seq + 65535 - q) % 65536)).modLink lane fun x => { x with
      lastRx := some s.up, inSeq := some seq, conv := some (counter, (s.now : Int) + s.get It.isoLatencyNs) } := by
  have hform : ¬ (l.length ≠ 132 ∨ crc16 (l.take 130) ≠ u16At l 130 ∨ u8At l 0 ≠ 1) := by
    simp [hframe.length, hframe.crc, hframe.kind]
  have hkey : linkItem lane ≠ lostItem lane := by
    unfold linkItem lostItem
    split <;> exact itemKey_ne_of_field (by decide)
  have hstays : ∀ f, ((s.bumpBy (lostItem lane) ((seq + 65535 - q) % 65536)).modLink lane f).linkUp lane =
      (s.bumpBy (lostItem lane) ((seq + 65535 - q) % 65536)).modLink lane f := by
    intro f
    unfold State.linkUp
    refine if_pos ?_
    exact (State.get_set_of_ne _ _ hkey).trans hup
  unfold State.inputBytes
  rw [if_neg hform]
  dsimp only
  rw [hframe.seqAt, hframe.counterAt, hseq]
  dsimp only
  rw [hstays]
  exact if_neg hlatch

/-! ## Every channel judged while the lane receives nothing (R255) -/

/-- The guards of the section's channels. -/
def InputGuard (k : Nat) : Prop := (∃ n < 48, k = It.diGuard n) ∨ (∃ n < 16, k = It.aiGuard n) ∨ ∃ n < 8, k = It.lsGuard n

theorem InputGuard.ne_others {k n : Nat} (h : InputGuard k) (hn : n < 48) :
    k ≠ It.diRate n ∧ k ≠ It.diBreaks n ∧ k ≠ It.aiBreaks n ∧ k ≠ It.lsRate n := by
  obtain ⟨i, hi, rfl⟩ | ⟨i, hi, rfl⟩ | ⟨i, hi, rfl⟩ := h <;> refine ⟨?_, ?_, ?_, ?_⟩ <;>
    simp only [It.diGuard, It.aiGuard, It.lsGuard, It.diRate, It.diBreaks, It.aiBreaks, It.lsRate, itemKey] <;> omega

theorem InputGuard.ne_eventsLost {k : Nat} (h : InputGuard k) : ∀ m < 16, k ≠ It.eventsLost m := by
  obtain ⟨i, -, rfl⟩ | ⟨i, -, rfl⟩ | ⟨i, -, rfl⟩ := h <;> exact ne_eventsLost_of_field (by decide)

/-- From a state to one in which channels have been judged: beside items and mailboxes, only the states of range windows and the
note of a guard in the windows of loss inputs differ; the state of the links does not. -/
structure InputsJudged (s t : State) : Prop where
  dis : ∀ i, nth t.io.dis i = { nth s.io.dis i with win := (nth t.io.dis i).win }
  ais : ∀ i, nth t.io.ais i = { nth s.io.ais i with win := (nth t.io.ais i).win }
  lss : ∀ i, nth t.io.lss i = { nth s.io.lss i with range := (nth t.io.lss i).range, win := (nth t.io.lss i).win }
  io : t.io = { s.io with dis := t.io.dis, ais := t.io.ais, lss := t.io.lss }
  owner : SameOwner s t
  frame : t = { s with items := t.items, mail := t.mail, io := t.io }
  link : ∀ lane, t.get (linkItem lane) = s.get (linkItem lane)

theorem InputsJudged.refl (s : State) : InputsJudged s s :=
  ⟨fun _ => rfl, fun _ => rfl, fun _ => rfl, rfl, rfl, rfl, fun _ => rfl⟩

theorem InputsJudged.trans {s t u : State} (h : InputsJudged s t) (h' : InputsJudged t u) : InputsJudged s u where
  dis i := by rw [h'.dis i, h.dis i]
  ais i := by rw [h'.ais i, h.ais i]
  lss i := by rw [h'.lss i, h.lss i]
  io := by rw [h'.io, h.io]
  owner := sameOwner_trans h.owner h'.owner
  frame := by rw [h'.frame, h.frame]
  link lane := (h'.link lane).trans (h.link lane)

theorem InputsJudged.isoDown {s t : State} (h : InputsJudged s t) : t.isoDown = s.isoDown := by
  have hlanes : t.lanes = s.lanes := by rw [h.frame]
  rw [State.isoDown_eq, State.isoDown_eq, hlanes, h.link]

/-- From a state to one in which the guard at an item has been judged, and no other guard. -/
structure GuardJudged (k : Nat) (s t : State) : Prop where
  inputs : InputsJudged s t
  others : ∀ j, InputGuard j → j ≠ k → t.get j = s.get j
  down : s.isoDown = true → 3 ≤ t.get k

/-- An operation that leaves the inputs but for their windows, writes items of its own channel, and tells a guard that the loss of
the link makes STALE, judges that guard. -/
theorem GuardJudged.of_ioOnly {k : Nat} {ks : List Nat} {s t : State} (honly : IoOnly ks s t) (hfields : ∀ j ∈ ks, 0x20 ≤ j % 256)
    (hothers : ∀ j, InputGuard j → j ≠ k → j ∉ ks) (hguard : ∃ w stale broken, t.get k = guardState w (s.isoDown || stale) broken)
    (hdis : ∀ i, nth t.io.dis i = { nth s.io.dis i with win := (nth t.io.dis i).win })
    (hais : ∀ i, nth t.io.ais i = { nth s.io.ais i with win := (nth t.io.ais i).win })
    (hlss : ∀ i, nth t.io.lss i = { nth s.io.lss i with range := (nth t.io.lss i).range, win := (nth t.io.lss i).win })
    (hio : t.io = { s.io with dis := t.io.dis, ais := t.io.ais, lss := t.io.lss }) : GuardJudged k s t where
  inputs := ⟨hdis, hais, hlss, hio, honly.owner, honly.frame, honly.get_link hfields⟩
  others j hj hne := honly.items j (hothers j hj hne) hj.ne_eventsLost
  down hdown := by
    obtain ⟨w, stale, broken, hw⟩ := hguard
    rw [hw, hdown, Bool.true_or]
    exact guardState_of_stale _ _

theorem State.judgeDi_guardJudged {n : Nat} (hn : n < 48) (s : State) : GuardJudged (It.diGuard n) s (s.judgeDi n) := by
  have h : DiJudged n s.now s (s.judgeDi n) := s.judgeDiAt_judged n s.now
  obtain ⟨w, hw⟩ := h.guard
  refine .of_ioOnly h.only (by simp [itemKey]; omega) ?others ⟨w, _, _, hw⟩ ?dis ?ais ?lss ?io
  case others =>
    intro j hj hne
    obtain ⟨hrate, hbreaks, -, -⟩ := hj.ne_others hn
    simp [hrate, hbreaks, hne]
  case dis =>
    intro i
    rw [h.io]
    dsimp only
    rw [nth_upd]
    split <;> rfl
  case ais | lss => intro i; rw [h.io]
  case io => rw [h.io]

theorem State.judgeAi_guardJudged {n : Nat} (hn : n < 16) (s : State) : GuardJudged (It.aiGuard n) s (s.judgeAi n) := by
  have h := s.judgeAi_judged n
  obtain ⟨w, hw⟩ := h.guard
  refine .of_ioOnly h.only (by simp [itemKey]; omega) ?others ⟨w, _, _, hw⟩ ?dis ?ais ?lss ?io
  case others =>
    intro j hj hne
    obtain ⟨-, -, hbreaks, -⟩ := hj.ne_others (n := n) (by omega)
    simp [hbreaks, hne]
  case ais =>
    intro i
    rw [h.io]
    dsimp only
    rw [nth_upd]
    split <;> rfl
  case dis | lss => intro i; rw [h.io]
  case io => rw [h.io]

theorem State.judgeLs_guardJudged {n : Nat} (hn : n < 8) (s : State) : GuardJudged (It.lsGuard n) s (s.judgeLs n) := by
  have h : LsJudged n s.now s (s.judgeLs n) := s.judgeLsAt_judged n s.now
  obtain ⟨w, hw⟩ := h.guard
  refine .of_ioOnly h.only (by simp [itemKey]; omega) ?others ⟨w, _, _, hw⟩ ?dis ?ais ?lss ?io
  case others =>
    intro j hj hne
    obtain ⟨-, -, -, hrate⟩ := hj.ne_others (n := n) (by omega)
    simp [hrate, hne]
  case lss =>
    intro i
    rw [h.io]
    dsimp only
    rw [nth_upd]
    split <;> rfl
  case dis | ais => intro i; rw [h.io]
  case io => rw [h.io]

theorem State.each_guardJudged {l : List Nat} {f : Nat → State → State} {g : Nat → Nat}
    (h : ∀ n ∈ l, ∀ t, GuardJudged (g n) t (f n t)) (s : State) : InputsJudged s (s.each l f) :=
  List.foldlRecOn (motive := InputsJudged s) _ _ (.refl s) fun t ht n hn => ht.trans (h n hn t).inputs

theorem State.each_guardsDown {l : List Nat} {f : Nat → State → State} {g : Nat → Nat}
    (h : ∀ n ∈ l, ∀ t, GuardJudged (g n) t (f n t)) (s : State) (hdown : s.isoDown = true) :
    (∀ k, (InputGuard k → 3 ≤ s.get k) → InputGuard k → 3 ≤ (s.each l f).get k) ∧
      ∀ n ∈ l, InputGuard (g n) → 3 ≤ (s.each l f).get (g n) := by
  refine (State.each_brings (I := fun t => t.isoDown = true) (P := fun k t => InputGuard k → 3 ≤ t.get k) (g := g) ?_ ?_ s hdown).2
  · refine fun n hn t ht => ⟨(h n hn t).inputs.isoDown.trans ht, fun k hk hguard => ?_⟩
    by_cases hown : k = g n
    · exact hown ▸ (h n hn t).down ht
    · exact (h n hn t).others k hguard hown ▸ hk hguard
  · exact fun n hn t ht _ => (h n hn t).down ht

/-- Every guard judged: none is written but as its own channel says, and while the lane receives nothing each is STALE or BROKEN. -/
theorem State.judgeInputs_judged (s : State) :
    InputsJudged s s.judgeInputs ∧ (s.isoDown = true → ∀ k, InputGuard k → 3 ≤ s.judgeInputs.get k) := by
  have hdi : ∀ n ∈ List.range 48, ∀ t : State, GuardJudged (It.diGuard n) t (t.judgeDi n) :=
    fun n hn t => t.judgeDi_guardJudged (List.mem_range.1 hn)
  have hai : ∀ n ∈ List.range 16, ∀ t : State, GuardJudged (It.aiGuard n) t (t.judgeAi n) :=
    fun n hn t => t.judgeAi_guardJudged (List.mem_range.1 hn)
  have hls : ∀ n ∈ List.range 8, ∀ t : State, GuardJudged (It.lsGuard n) t (t.judgeLs n) :=
    fun n hn t => t.judgeLs_guardJudged (List.mem_range.1 hn)
  have hdis := State.each_guardJudged hdi s
  have hais := State.each_guardJudged hai (s.each (List.range 48) State.judgeDi)
  refine ⟨(hdis.trans hais).trans (State.each_guardJudged hls _), fun hdown k hk => ?_⟩
  obtain ⟨-, hown⟩ := State.each_guardsDown hdi s hdown
  obtain ⟨hkept, hown'⟩ := State.each_guardsDown hai _ (hdis.isoDown.trans hdown)
  obtain ⟨hkept', hown''⟩ := State.each_guardsDown hls _ ((hdis.trans hais).isoDown.trans hdown)
  obtain ⟨n, hn, rfl⟩ | ⟨n, hn, rfl⟩ | ⟨n, hn, rfl⟩ := id hk
  · exact hkept' _ (hkept _ (hown n (List.mem_range.2 hn))) hk
  · exact hkept' _ (hown' n (List.mem_range.2 hn)) hk
  · exact hown'' n (List.mem_range.2 hn) hk

end Sys2Proof.Machine
end

section
/-! SUPPORT. A silent isolation link, and edges, wire breaks and shunts of the inputs (R255 to R264). -/

namespace Sys2Proof.Machine

open Sys2Proof.Safety

/-! ## A silent isolation link (R255) -/

/-- From a state to one in which the link of a lane has gone DOWN, and the lane's self-diagnosis knows but while the link is under
test (log entry 128). -/
structure LinkLost (lane : Nat) (s t : State) : Prop where
  link : t.get (linkItem lane) = 0
  lanes : t.lanes = if (nth s.ring.tests (4 + lane)).isSome then s.lanes else { s.lanes with found := s.lanes.found ++ [(lane, 8)] }
  owner : SameOwner s t
  frame : t = { s with items := t.items, mail := t.mail, lanes := t.lanes }

theorem State.isoStale_of_due {s : State} {lane t0 : Nat} (hlast : (nth s.io.links lane).lastRx = some t0)
    (hdue : t0 + 200000 ≤ s.up) (hup : s.get (linkItem lane) = 1) : ∃ u, LinkLost lane s u ∧ s.isoStale lane = u.judgeInputs := by
  have honly : IoOnly [linkItem lane] s (s.setIsoLink lane 0) := (IoOnly.refl _ s).setGuard _ _ _ (List.mem_singleton_self _)
  have hio : (s.setIsoLink lane 0).io = s.io := State.setGuard_io _ _ _ _ s
  have hring : (s.setIsoLink lane 0).ring = s.ring := by rw [honly.frame]
  have hdown : (s.setIsoLink lane 0).get (linkItem lane) = 0 := by
    obtain ⟨f, hf, hkey⟩ := linkItem_eq lane
    rw [State.setIsoLink, hkey]
    exact State.get_setGuard s 0 _ _ (by omega)
  have hframe : s.setIsoLink lane 0 = { s with items := (s.setIsoLink lane 0).items, mail := (s.setIsoLink lane 0).mail } :=
    honly.frame.trans (by rw [hio])
  refine ⟨if (nth s.ring.tests (4 + lane)).isSome then s.setIsoLink lane 0 else (s.setIsoLink lane 0).found lane 8, ?lost, ?eq⟩
  case lost =>
    split
    · exact ⟨hdown, by rw [honly.lanes, if_pos ‹_›], honly.owner, hframe.trans (by rw [honly.lanes])⟩
    · refine ⟨hdown, ?_, honly.owner, ?_⟩
      · rw [State.found, honly.lanes, if_neg ‹_›]
      · rw [State.found, hframe]
  case eq =>
    unfold State.isoStale
    rw [hlast]
    dsimp only
    rw [if_pos ⟨hdue, hup⟩, State.underTest, hring]

/-! ## Edges and wire breaks (R259, R260) -/

/-- From a state to one in which an edge has been accepted with its stamp, and its input judged. -/
structure EdgeAccepted (n stamp : Nat) (level : Bool) (s t : State) : Prop where
  shown : t.get (It.diLevel n) = b2n (level != (s.getAt stamp (It.diInvert n) == 1))
  edges : t.get (It.diEdges n) = sat32 (s.get (It.diEdges n) + 1)
  io : t.io = { s.io with dis := upd s.io.dis n fun d => { d with
    level := level, pend := none, last := some stamp, times := (d.times.filter fun x => decide (s.now < x + 100000000)) ++ [stamp]
    win := (nth t.io.dis n).win } }
  only : IoOnly [It.diLevel n, It.diEdges n, It.diRate n, It.diGuard n, It.diBreaks n] s t

theorem State.acceptEdge_accepted {s : State} {n : Nat} (stamp : Nat) (level : Bool) (hn : n < s.io.dis.length) :
    EdgeAccepted n stamp level s (s.acceptEdge n stamp level) := by
  obtain ⟨u, hu⟩ : ∃ u, ((s.modDi n fun d => { d with
      level := level, pend := none, last := some stamp
      times := (d.times.filter fun t => decide (s.now < t + 100000000)) ++ [stamp] }).showDi n stamp).bump (It.diEdges n) = u :=
    ⟨_, rfl⟩
  have hlevel : u.get (It.diLevel n) = b2n (level != (s.getAt stamp (It.diInvert n) == 1)) := by
    rw [← hu, State.get_bump_of_ne _ (itemKey_ne_of_field (by decide)), State.showDi, State.get_set, if_pos rfl, State.modDi,
      State.modIo_io]
    dsimp only
    rw [nth_upd, if_pos ⟨rfl, hn⟩]
    rfl
  have hedges : u.get (It.diEdges n) = sat32 (s.get (It.diEdges n) + 1) := by
    rw [← hu, State.get_bump, if_pos rfl, State.showDi, State.get_set_of_field _ (by decide)]
    rfl
  have hio : u.io = { s.io with dis := upd s.io.dis n fun d => { d with
      level := level, pend := none, last := some stamp
      times := (d.times.filter fun t => decide (s.now < t + 100000000)) ++ [stamp] } } := by rw [← hu]; rfl
  have honly : IoOnly [It.diLevel n, It.diEdges n, It.diRate n, It.diGuard n, It.diBreaks n] s u :=
    hu ▸ (((IoOnly.refl _ s).modIo _).set _ (by simp)).bump (by simp)
  have heq : s.acceptEdge n stamp level = u.judgeDiAt n stamp := by rw [← hu]; rfl
  have h := u.judgeDiAt_judged n stamp
  rw [← heq] at h
  refine ⟨?shown, ?edges, ?io, honly.trans (h.only.mono (by simp))⟩
  case shown => exact (h.only.get_of_not_mem (by simp [itemKey]) (by decide)).trans hlevel
  case edges => exact (h.only.get_of_not_mem (by simp [itemKey]) (by decide)).trans hedges
  case io =>
    refine h.io.trans ?_
    rw [hio]
    dsimp only
    rw [upd_upd]

theorem State.acceptDue_of_due {s : State} {n at_ stamp : Nat} {level : Bool} (hpend : (nth s.io.dis n).pend = some (stamp, level))
    (hdue : stamp + s.getAt stamp (It.diFilterUs n) * 1000 ≤ at_) : s.acceptDue n at_ = s.acceptEdge n stamp level := by
  unfold State.acceptDue
  rw [hpend]
  exact if_pos hdue

/-- From a state to one in which the wire of an input that was whole is broken. -/
structure WireBroken (n : Nat) (s t : State) : Prop where
  guard : t.get (It.diGuard n) = gBroken
  breaks : t.get (It.diBreaks n) = sat32 (s.get (It.diBreaks n) + 1)
  io : t.io = { s.io with dis := upd s.io.dis n fun d => { d with brk := true, win := (nth t.io.dis n).win } }
  only : IoOnly [It.diRate n, It.diGuard n, It.diBreaks n] s t

theorem State.wireBreak_broken {s : State} {n : Nat} (hn : n < s.io.dis.length) (hwhole : (nth s.io.dis n).brk = false)
    (hdetect : s.getAt s.now (It.diBreakDetect n) = 1) (hguard : s.get (It.diGuard n) ≠ gBroken) :
    WireBroken n s (s.wireBreak n true) := by
  have heq : s.wireBreak n true = (s.modDi n fun d => { d with brk := true }).judgeDi n := if_neg (by simp [hwhole])
  have h := (s.modDi n fun d => { d with brk := true }).judgeDiAt_judged n s.now
  have hbroken : (s.wireBreak n true).get (It.diGuard n) = gBroken := by
    obtain ⟨w, hw⟩ := h.guard
    have hbrk : (nth (s.modDi n fun d => { d with brk := true }).io.dis n).brk = true := by
      rw [State.modDi, State.modIo_io]
      dsimp only
      rw [nth_upd, if_pos ⟨rfl, hn⟩]
    have hon : ((s.modDi n fun d => { d with brk := true }).getAt s.now (It.diBreakDetect n) == 1) = true := by
      rw [beq_iff_eq]
      exact hdetect
    rw [heq]
    refine hw.trans ?_
    rw [State.diGuardOf, hbrk, hon]
    rfl
  rw [heq] at hbroken ⊢
  refine ⟨hbroken, ?breaks, ?io, ?only⟩
  case breaks =>
    refine h.breaks.trans (if_pos ⟨hbroken, ?_⟩)
    exact hguard
  case io =>
    refine h.io.trans ?_
    exact congrArg (fun l => { s.io with dis := l }) (upd_upd _ _ _ _)
  case only => exact ((IoOnly.refl _ s).modIo _).trans (h.only.mono (by simp))

/-! ## Shunts of analog inputs (R264) -/

/-- From a state to one in which the shunt of an analog input has just opened; the guard is BROKEN once the lane knows the mode. -/
structure ShuntOpened (n : Nat) (s t : State) : Prop where
  guard : nth s.io.modes n ≠ 2 ∨ t.get (It.aiGuard n) = gBroken
  overloads : t.get (It.aiOverloads n) = sat32 (s.get (It.aiOverloads n) + 1)
  io : t.io = { s.io with ais := upd s.io.ais n fun a => { a with shunt := some s.up, win := (nth t.io.ais n).win } }
  only : IoOnly [It.aiGuard n, It.aiOverloads n, It.aiBreaks n] s t

theorem State.shuntTrip_opened {s : State} {n : Nat} (hn : n < s.io.ais.length) (hmode : s.io.sec.aiMode n = 2)
    (hclosed : (nth s.io.ais n).shunt = none) : ShuntOpened n s (s.shuntTrip n) := by
  obtain ⟨u, hu⟩ : ∃ u, (s.modAi n fun a => { a with shunt := some s.up }).bump (It.aiOverloads n) = u := ⟨_, rfl⟩
  have heq : s.shuntTrip n = u.judgeAi n := by rw [← hu]; exact if_pos ⟨hmode, hclosed⟩
  have hio : u.io = { s.io with ais := upd s.io.ais n fun a => { a with shunt := some s.up } } := by rw [← hu]; rfl
  have hover : u.get (It.aiOverloads n) = sat32 (s.get (It.aiOverloads n) + 1) := by
    rw [← hu, State.get_bump, if_pos rfl]
    rfl
  have honly : IoOnly [It.aiGuard n, It.aiOverloads n, It.aiBreaks n] s u := hu ▸ ((IoOnly.refl _ s).modIo _).bump (by simp)
  have h := u.judgeAi_judged n
  rw [heq]
  refine ⟨?guard, ?overloads, ?io, honly.trans (h.only.mono (by simp))⟩
  case guard =>
    by_cases hknown : nth s.io.modes n = 2
    case neg => exact .inl hknown
    refine .inr ?_
    obtain ⟨w, hw⟩ := h.guard
    have hopen : (nth u.io.ais n).shunt = some s.up := by
      rw [hio]
      dsimp only
      rw [nth_upd, if_pos ⟨rfl, hn⟩]
    have hmodes : nth u.io.modes n = 2 := by rw [hio]; exact hknown
    rw [hw, State.aiGuardOf, hopen, hmodes]
    simp [guardState]
  case overloads => exact (h.only.get_of_not_mem (by simp [itemKey]) (by decide)).trans hover
  case io =>
    refine h.io.trans ?_
    rw [hio]
    dsimp only
    rw [upd_upd]

theorem State.shuntReclose_of_due {s : State} {n t0 : Nat} (hopen : (nth s.io.ais n).shunt = some t0)
    (hdue : t0 + 100000000 ≤ s.up) : s.shuntReclose n = (s.modAi n fun a => { a with shunt := none }).judgeAi n := by
  unfold State.shuntReclose
  rw [hopen]
  exact if_pos hdue

/-! ## The obligation -/

/-- Settles O28: each event of the inputs through the rule of its operation, the channel judged at its end. -/
theorem inputsAreWatched : Obligations.InputsAreWatched := by
  unfold Obligations.InputsAreWatched
  refine ⟨?frame, ?silent, ?edge, ?diStale, ?wire, ?aiStale, ?trip, ?reclose⟩
  case frame =>
    intro s dt lane sense low q hlive htest hdue hnoise hlatch hup hseq
    obtain ⟨u, hu⟩ : ∃ u, ((s.advance dt).secSends sense).modLink lane (fun x => { x with got := s.io.sec.made + 1 }) = u :=
      ⟨_, rfl⟩
    have hseq' : (nth u.io.links lane).inSeq = some q := by
      rw [← hu, State.modLink, State.modIo_io]
      dsimp only
      rw [nth_upd]
      split <;> exact hseq
    have hup' : u.get (linkItem lane) = 1 := by rw [← hu]; exact hup
    have hlatch' : lane.val ≠ u.lanes.latch := by rw [← hu]; exact hlatch
    refine timedRun_eq dt _ s _ (State.runs_of_live hlive) ?_ rfl rfl
    rw [State.inputRx_of_due (s := s.advance dt) _ htest hdue hnoise]
    refine (congrArg (State.inputBytes lane _ _) hu).trans ?_
    rw [State.inputBytes_of_standby _ ((s.advance dt).secFrame_inputFrame sense) hup' hlatch' hseq', ← hu]
    simp only [State.modLink, State.modIo, State.bumpBy_io, upd_upd]
    rfl
  case silent =>
    intro s dt t0 lane hlive hlast hdue hup
    obtain ⟨u, hlost, heq⟩ := State.isoStale_of_due (s := s.advance dt) hlast hdue hup
    obtain ⟨hjudged, hguards⟩ := u.judgeInputs_judged
    have hio : u.io = s.io := by rw [hlost.frame]; rfl
    have hlanes : u.judgeInputs.lanes = u.lanes := by rw [hjudged.frame]
    have hframe : u.judgeInputs = { s with
        clk := s.clk.advance dt, items := u.judgeInputs.items, mail := u.judgeInputs.mail, lanes := u.judgeInputs.lanes
        io := u.judgeInputs.io } := by
      rw [hlanes]
      exact hjudged.frame.trans (congrArg (fun v : State => { v with
        items := u.judgeInputs.items, mail := u.judgeInputs.mail, io := u.judgeInputs.io }) hlost.frame)
    refine ⟨u.judgeInputs, ?exec, ?link, hlanes.trans hlost.lanes, ?guards, ?owner, ?dis, ?ais, ?lss, ?frame⟩
    case exec =>
      exact timedRun_eq dt (State.isoStale lane) s _ (State.runs_of_live hlive) heq (by rw [hframe]) (by rw [hframe])
    case link => exact (hjudged.link lane).trans hlost.link
    case guards =>
      intro hlatch
      have hlatch' : u.lanes.latch = lane := by
        rw [hlost.lanes]
        split <;> exact hlatch.symm
      have hdown : u.isoDown = true := by
        rw [State.isoDown_eq, hlatch', hlost.link]
        rfl
      exact ⟨fun n hn => hguards hdown _ (.inl ⟨n, hn, rfl⟩), fun n hn => hguards hdown _ (.inr (.inl ⟨n, hn, rfl⟩)),
        fun n hn => hguards hdown _ (.inr (.inr ⟨n, hn, rfl⟩))⟩
    case owner => exact sameOwner_trans (s := s.advance dt) hlost.owner hjudged.owner
    case dis => exact fun n _ => by rw [← hio]; exact hjudged.dis n
    case ais => exact fun n _ => by rw [← hio]; exact hjudged.ais n
    case lss => exact fun n _ => by rw [← hio]; exact hjudged.lss n
    case frame =>
      rw [← hio, ← hjudged.io]
      exact hframe
  case edge =>
    intro s dt stamp n level hlive hn hpend hdue
    have h := State.acceptEdge_accepted (s := s.advance dt) stamp level hn
    rw [← State.acceptDue_of_due (s := s.advance dt) hpend hdue] at h
    exact ⟨_, timedRun_ioOnly (f := fun a => a.acceptDue n a.now) hlive h.only, h.shown, h.edges, h.io, h.only.of_advance⟩
  case diStale =>
    intro s dt l n hlive hlast hms hdue hwhole
    have h := (s.advance dt).judgeDiAt_judged n (s.advance dt).now
    have hstale := h.guard_of_stale (by
      rw [State.advance_io, hlast]
      exact silentFor_of_due hms hdue) hwhole
    have hbreaks := h.breaks
    rw [hstale, if_neg (fun hfalls => absurd hfalls.1 (by decide))] at hbreaks
    exact ⟨_, timedRun_ioOnly (f := State.judgeDi n) hlive h.only, hstale, h.rate, (h.only.drop hbreaks).of_advance_io h.io⟩
  case wire =>
    intro s dt n hlive hn hwhole hdetect hguard
    have h := State.wireBreak_broken (s := s.advance dt) hn hwhole hdetect hguard
    exact ⟨_, timedRun_ioOnly (f := State.wireBreak n true) hlive h.only, h.guard, h.breaks, h.io, h.only.of_advance⟩
  case aiStale =>
    intro s dt l n hlive hlast hms hdue hgood hclosed
    have h := (s.advance dt).judgeAi_judged n
    have hstale := h.guard_of_stale (by
      rw [State.advance_io, hlast]
      exact silentFor_of_due hms hdue) hgood hclosed
    have hbreaks := h.breaks
    rw [hstale, if_neg (fun hfalls => absurd hfalls.1 (by decide))] at hbreaks
    exact ⟨_, timedRun_ioOnly (f := State.judgeAi n) hlive h.only, hstale, (h.only.drop hbreaks).of_advance_io h.io⟩
  case trip =>
    intro s dt n hlive hn hmode hclosed
    have h := State.shuntTrip_opened (s := s.advance dt) hn hmode hclosed
    exact ⟨_, timedRun_ioOnly (f := State.shuntTrip n) hlive h.only, h.guard, h.overloads, h.io, h.only.of_advance⟩
  case reclose =>
    intro s dt t0 n hlive hopen hdue
    have heq := State.shuntReclose_of_due (s := s.advance dt) hopen hdue
    have h := ((s.advance dt).modAi n fun a => { a with shunt := none }).judgeAi_judged n
    have honly : IoOnly [It.aiGuard n, It.aiBreaks n] (s.advance dt) ((s.advance dt).shuntReclose n) :=
      heq ▸ ((IoOnly.refl _ _).modIo _).trans (h.only.mono (by simp))
    refine ⟨_, timedRun_ioOnly (f := State.shuntReclose n) hlive honly, ?_, honly.of_advance⟩
    rw [heq]
    exact h.io.trans (congrArg (fun l => { s.io with ais := l }) (upd_upd _ _ _ _))

end Sys2Proof.Machine
end

section
/-! SUPPORT. Impacts, silence, the test and the histogram windows of loss inputs (R265 to R268). -/

namespace Sys2Proof.Machine

open Sys2Proof.Safety

/-! ## Impacts and silence (R256, R265) -/

/-- An impact on an enabled input, outside its dead time and the blanking of a test, at or above the trigger level. -/
structure Detectable (n peak : Nat) (s : State) : Prop where
  enabled : bit (nth s.io.sec.words 2) n = true
  live : (nth s.io.lss n).hit = none ∨ (nth s.io.lss n).hit.getD 0 + nth s.io.sec.words (13 + n) * 1000 ≤ s.up
  unblanked : s.io.sec.blank ≤ s.up
  strong : nth s.io.sec.words (5 + n) ≤ min 65535 (peak * s.io.sec.lsGain n)

theorem State.lsImpact_of_detectable {s : State} {n peak : Nat} (h : Detectable n peak s) :
    s.lsImpact n peak = (s.modLs n fun a => { a with count := (a.count + 1) % 65536, hit := some s.up }).modSec fun c => { c with
      impacts := c.impacts ++ [{ ch := n, amplitude := min 65535 (peak * s.io.sec.lsGain n), at_ := s.up }] } := by
  have hfree : (match (nth s.io.lss n).hit with
      | some t => decide (t + nth s.io.sec.words (13 + n) * 1000 ≤ s.up)
      | none => true) = true := by
    have hlive := h.live
    cases hhit : (nth s.io.lss n).hit with
    | none => rfl
    | some t =>
      rw [hhit] at hlive
      exact decide_eq_true (hlive.resolve_left (Option.some_ne_none t))
  unfold State.lsImpact
  refine if_pos ?_
  rw [h.enabled, decide_eq_true h.unblanked, decide_eq_true h.strong, Bool.and_true, Bool.and_true, Bool.true_and]
  exact hfree

theorem LsJudged.guard_of_stale {n m : Nat} {s t : State} (h : LsJudged n m s t)
    (hstale : silentFor s.now (s.getAt m (It.lsStaleMs n)) (nth s.io.lss n).last = true) (hgood : (nth s.io.lss n).bad = false) :
    t.get (It.lsGuard n) = gStale := by
  obtain ⟨w, hw⟩ := h.guard
  rw [hw, State.lsGuardOf, hstale, hgood, Bool.or_true]
  rfl

/-! ## The test (R267) -/

/-- The section with impact detection blanked for 50 µs (log entry 119). -/
def State.lsBlanked (s : State) : State := s.modSec fun c => { c with blank := s.up + 50000 }

/-- A failed test counted and noted at a loss input. -/
def State.lsFailed (n : Nat) (s : State) : State := (s.bump (It.lsTestsFailed n)).modLs n fun a => { a with bad := true }

theorem filter_bit_two_pow (n : Fin 8) : (List.range 8).filter (fun i => bit (2 ^ n.val) i) = [n.val] := by
  revert n
  decide

theorem State.lsTest_of_failed {s : State} {passed : List Bool} {n : Fin 8} (hwords : nth s.io.sec.words 2 = 2 ^ n.val)
    (hfailed : passed.getD n true = false) : s.lsTest passed = (s.lsBlanked.lsFailed n).judgeLs n := by
  have hnamed : (List.range 8).filter (fun i => bit (nth s.lsBlanked.io.sec.words 2) i) = [n.val] := by
    rw [← filter_bit_two_pow n, ← hwords]
    rfl
  unfold State.lsTest
  dsimp only
  rw [← State.lsBlanked, hnamed, State.each, List.foldl_cons, List.foldl_nil, hfailed]
  rfl

/-- From a state to one in which the only enabled loss input has failed its test. -/
structure LsTestFailed (n : Nat) (s t : State) : Prop where
  guard : t.get (It.lsGuard n) = gBroken
  failed : t.get (It.lsTestsFailed n) = sat32 (s.get (It.lsTestsFailed n) + 1)
  bad : (nth t.io.lss n).bad = true
  io : t.io = { s.io with sec := { s.io.sec with blank := s.up + 50000 }, lss := t.io.lss }
  only : IoOnly [It.lsRate n, It.lsGuard n, It.lsTestsFailed n] s t

theorem State.lsTest_failed {s : State} {passed : List Bool} {n : Fin 8} (hn : n.val < s.io.lss.length)
    (hwords : nth s.io.sec.words 2 = 2 ^ n.val) (hfailed : passed.getD n true = false) : LsTestFailed n s (s.lsTest passed) := by
  have h : LsJudged n s.now (s.lsBlanked.lsFailed n) ((s.lsBlanked.lsFailed n).judgeLs n) :=
    (s.lsBlanked.lsFailed n).judgeLsAt_judged n s.now
  have honly : IoOnly [It.lsRate n, It.lsGuard n, It.lsTestsFailed n] s (s.lsBlanked.lsFailed n) := by
    unfold State.lsFailed State.lsBlanked
    exact (((IoOnly.refl _ s).modIo _).bump (by simp)).modIo _
  have hbad : (nth (s.lsBlanked.lsFailed n).io.lss n).bad = true := by
    rw [State.lsFailed, State.modLs, State.modIo_io]
    dsimp only
    rw [nth_upd, if_pos ⟨rfl, hn⟩]
  have hcount : (s.lsBlanked.lsFailed n).get (It.lsTestsFailed n) = sat32 (s.get (It.lsTestsFailed n) + 1) := by
    rw [State.lsFailed, State.modLs, State.modIo_get, State.get_bump, if_pos rfl, State.lsBlanked, State.modSec, State.modIo_get]
  rw [State.lsTest_of_failed hwords hfailed]
  refine ⟨?guard, ?failed, ?bad, ?io, honly.trans (h.only.mono (by simp))⟩
  case guard =>
    obtain ⟨w, hw⟩ := h.guard
    rw [hw, State.lsGuardOf, hbad]
    rfl
  case failed => exact (h.only.get_of_not_mem (by simp [itemKey]) (by decide)).trans hcount
  case bad =>
    rw [h.io]
    dsimp only
    rw [nth_upd]
    split <;> exact hbad
  case io =>
    rw [h.io]
    rfl

/-! ## Histogram windows (R268) -/

/-- The record of a window of a loss input that ends at an mtime (Table 9.10). -/
def LsWin.record (n fin : Nat) (w : LsWin) : List Byte :=
  toLE 1 n ++ toLE 1 (b2n w.unlisted + 2 * b2n w.notOk) ++ toLE 2 0 ++ toLE 4 w.carry ++ toLE 8 w.start ++ toLE 8 fin ++
    toLE 4 (sat32 w.hw) ++ toLE 4 (sat32 w.n) ++ w.bins.flatMap fun b => toLE 4 (sat32 b)

/-- The window that a loss input opens at an mtime. -/
def State.lsWinAt (n start : Nat) (s : State) : LsWin :=
  { start := start, carry := s.get It.carryNumber, notOk := s.get (It.lsGuard n) != gOk }

/-- A window that is not recorded leaves its record at its input when it ends, and the next one opens. -/
theorem State.lsWindow_of_due {s : State} {n : Nat} {w : LsWin} (hwin : (nth s.io.lss n).win = some w)
    (hdue : w.start + s.get (It.lsHistMs n) * 1000000 ≤ s.now) (hunrecorded : bit (s.get It.recLsMask) n = false) :
    s.lsWindow n = s.modLs n fun a => { a with
      win := some (s.lsWinAt n (w.start + s.get (It.lsHistMs n) * 1000000))
      done := some (w.record n (w.start + s.get (It.lsHistMs n) * 1000000)) } := by
  have hclose : ∀ fin, s.lsClose n fin = s.modLs n fun a => { a with win := none, done := some (w.record n fin) } := by
    intro fin
    unfold State.lsClose
    rw [hwin]
    exact if_neg (Bool.eq_false_iff.1 hunrecorded)
  unfold State.lsWindow
  rw [hwin]
  dsimp only
  rw [if_pos hdue, hclose]
  exact congrArg (fun l => { s with io := { s.io with lss := l } }) (upd_upd _ _ _ _)

theorem opLsHistRead_of_kept (m : Nat) (f : Frame) (s : State) {r : List Byte} (hinput : u8At f.p 0 ≤ 7)
    (hz : zeroAt f.p 1 3 = true) (hkept : (nth s.io.lss (u8At f.p 0)).done = some r) : opLsHistRead m f s = reply r s := by
  have hform : ¬ (7 < u8At f.p 0 ∨ (!zeroAt f.p 1 3) = true) := by simp [hinput, hz]
  unfold opLsHistRead
  dsimp only
  rw [if_neg hform, hkept]

/-! ## The obligation -/

/-- Settles O29: an impact at the section, the judgement that silence and a failed test lead to, and the record of a window. -/
theorem lossInputsCountAndTest : Obligations.LossInputsCountAndTest := by
  unfold Obligations.LossInputsCountAndTest
  refine ⟨?impact, ?stale, ?test, ?window, ?read⟩
  case impact =>
    intro s dt amplitude n hpowered henabled hlive hblank hlevel
    exact timedDie_eq dt (State.lsImpact n amplitude) s _ hpowered
      (State.lsImpact_of_detectable (s := s.advance dt) ⟨henabled, hlive, hblank, hlevel⟩) rfl rfl
  case stale =>
    intro s dt l n hlive hlast hms hdue hgood
    have h := (s.advance dt).judgeLsAt_judged n (s.advance dt).now
    have hstale := h.guard_of_stale (by
      rw [State.advance_io, hlast]
      exact silentFor_of_due hms hdue) hgood
    have hio := h.io
    rw [hstale] at hio
    exact ⟨_, timedRun_ioOnly (f := State.judgeLs n) hlive h.only, hstale, hio, h.only.of_advance⟩
  case test =>
    intro s dt passed n hlive hn hwords hfailed
    have h := State.lsTest_failed (s := s.advance dt) hn hwords hfailed
    exact ⟨_, timedRun_ioOnly (f := State.lsTest passed) hlive h.only, h.guard, h.failed, h.bad, h.io, h.only.of_advance⟩
  case window =>
    intro s dt n x hlive hwin hdue hunrecorded
    exact timedRun_eq dt (State.lsWindow n) s _ (State.runs_of_live hlive)
      (State.lsWindow_of_due (s := s.advance dt) hwin hdue hunrecorded) rfl rfl
  case read =>
    intro s dt m h p r ha hinput hz hkept
    exact cmdRow_replied opLsHistRead _ dt m h p s id _ ha (opLsHistRead_of_kept m _ _ hinput hz hkept) rfl rfl

end Sys2Proof.Machine
end

section
/-! SUPPORT. Output frames, trips, pulses, the output timeout and FS+ (R254, R269 to R274). -/

namespace Sys2Proof.Machine

open Sys2Proof.Safety

/-! ## Operations on items, mailboxes and the digital outputs alone -/

/-- As `IoOnly`, where of the field I/O only the digital outputs differ. -/
structure DosOnly (ks : List Nat) (s t : State) : Prop where
  only : IoOnly ks s t
  io : t.io = { s.io with dos := t.io.dos }

theorem DosOnly.refl (ks : List Nat) (s : State) : DosOnly ks s s := ⟨.refl ks s, rfl⟩

theorem DosOnly.trans {ks : List Nat} {s t u : State} (h : DosOnly ks s t) (h' : DosOnly ks t u) : DosOnly ks s u :=
  ⟨h.only.trans h'.only, by rw [h'.io, h.io]⟩

theorem DosOnly.mono {ks ks' : List Nat} {s t : State} (h : DosOnly ks s t) (hsub : ks ⊆ ks') : DosOnly ks' s t :=
  ⟨h.only.mono hsub, h.io⟩

theorem DosOnly.modDo {ks : List Nat} {s t : State} (h : DosOnly ks s t) (n : Nat) (f : Do → Do) : DosOnly ks s (t.modDo n f) :=
  h.trans ⟨(IoOnly.refl ks t).modIo _, rfl⟩

theorem DosOnly.each {ks l : List Nat} {f : Nat → State → State} (s : State) (h : ∀ n ∈ l, ∀ t, DosOnly ks t (f n t)) :
    DosOnly ks s (s.each l f) :=
  List.foldlRecOn (motive := DosOnly ks s) _ _ (.refl ks s) fun t ht n hn => ht.trans (h n hn t)

theorem DosOnly.sec {ks : List Nat} {s t : State} (h : DosOnly ks s t) : t.io.sec = s.io.sec := by rw [h.io]

/-! ## An output judged (R269) -/

/-- A pulse that has run its width ends. -/
def State.pulseEnded (n : Nat) (s : State) : State :=
  match (nth s.io.dos n).busy with
  | some e => if e ≤ s.up then s.modDo n fun d => { d with busy := none } else s
  | none => s

/-- The do_state of an output. -/
def State.doStateOf (n : Nat) (s : State) : Nat :=
  if (nth s.io.dos n).latched then 4 else if (nth s.io.dos n).retry then 3 else if (nth s.io.dos n).busy.isSome then 5
  else if s.io.sec.safe n then 2 else if bit s.io.sec.levels n then 1 else 0

/-- The do_fault of an output. -/
def State.doFaultOf (n : Nat) (s : State) : Nat :=
  if s.io.sec.fsOff then 4 else if (nth s.io.dos n).retry || (nth s.io.dos n).latched then 1
  else if !s.doDriven n && (nth s.io.dos n).readback then 3
  else if s.doDriven n && (nth s.io.dos n).low && s.get (It.doOpenDetect n) == 1 then 2 else 0

/-- do_state and do_fault of an output shown, a change of do_fault with its event. -/
def State.showDo (n : Nat) (s : State) : State :=
  (s.set (It.doState n) (s.doStateOf n)).setGuard (It.doFault n) (s.doFaultOf n) 0x0a81
    (toLE 1 n ++ toLE 1 (s.doFaultOf n) ++ toLE 2 (s.doStateOf n) ++
      toLE 4 ((s.set (It.doState n) (s.doStateOf n)).get (It.doTrips n)) ++ toLE 8 s.now)

theorem State.judgeDo_eq (n : Nat) (s : State) : s.judgeDo n = (s.pulseEnded n).showDo n := rfl

theorem State.showDo_io (n : Nat) (s : State) : (s.showDo n).io = s.io := by
  rw [State.showDo, State.setGuard_io, State.set_io]

theorem State.showDo_ioOnly (n : Nat) (s : State) : IoOnly [It.doState n, It.doFault n] s (s.showDo n) :=
  ((IoOnly.refl _ s).set _ (by simp)).setGuard _ _ _ (by simp)

theorem State.get_doFault_showDo (n : Nat) (s : State) : (s.showDo n).get (It.doFault n) = s.doFaultOf n :=
  State.get_setGuard _ _ _ _ (by decide)

theorem State.get_doState_showDo (n : Nat) (s : State) : (s.showDo n).get (It.doState n) = s.doStateOf n := by
  rw [State.showDo, ((IoOnly.refl [It.doFault n] _).setGuard _ _ _ (by simp)).get_of_not_mem (by simp [itemKey]) (by decide),
    State.get_set, if_pos rfl]

theorem State.pulseEnded_eq (n : Nat) (s : State) :
    s.pulseEnded n = s ∨ s.pulseEnded n = s.modDo n fun d => { d with busy := none } := by
  unfold State.pulseEnded
  cases (nth s.io.dos n).busy with
  | none => exact .inl rfl
  | some e =>
    dsimp only
    split
    · exact .inr rfl
    · exact .inl rfl

/-- A pulse that still runs, or none, stays as it is. -/
theorem State.pulseEnded_of_running {s : State} {n : Nat} (h : ∀ e, (nth s.io.dos n).busy = some e → s.up < e) :
    s.pulseEnded n = s := by
  unfold State.pulseEnded
  cases hbusy : (nth s.io.dos n).busy with
  | none => rfl
  | some e => exact if_neg (Nat.not_le.2 (h e hbusy))

theorem State.judgeDo_of_running {s : State} {n : Nat} (h : ∀ e, (nth s.io.dos n).busy = some e → s.up < e) :
    s.judgeDo n = s.showDo n := by
  rw [State.judgeDo_eq, State.pulseEnded_of_running h]

theorem State.judgeDo_dosOnly (n : Nat) (s : State) : DosOnly [It.doState n, It.doFault n] s (s.judgeDo n) := by
  have hended : DosOnly [It.doState n, It.doFault n] s (s.pulseEnded n) := by
    obtain h | h := s.pulseEnded_eq n
    · rw [h]
      exact .refl _ s
    · rw [h]
      exact (DosOnly.refl _ s).modDo n _
  rw [State.judgeDo_eq]
  exact hended.trans ⟨State.showDo_ioOnly n _, by rw [State.showDo_io]⟩

/-- Judging an output discards no pending pulse and accepts none. -/
theorem State.pend_judgeDo (n i : Nat) (s : State) : (nth (s.judgeDo n).io.dos i).pend = (nth s.io.dos i).pend := by
  rw [State.judgeDo_eq, State.showDo_io]
  obtain h | h := s.pulseEnded_eq n
  · rw [h]
  · rw [h, State.modDo, State.modIo_io]
    dsimp only
    rw [nth_upd]
    split <;> rfl

/-- While FS+ keeps the outputs off, every output judged shows fault 4 (R272). -/
theorem State.get_doFault_judgeDo_of_off {s : State} {n : Nat} (h : s.io.sec.fsOff = true) :
    (s.judgeDo n).get (It.doFault n) = 4 := by
  have hoff : (s.pulseEnded n).io.sec.fsOff = true := by
    obtain heq | heq := s.pulseEnded_eq n
    · rw [heq, h]
    · rw [heq]
      exact h
  rw [State.judgeDo_eq, State.get_doFault_showDo, State.doFaultOf, hoff]
  rfl

/-! ## All outputs judged -/

/-- The items that judging the outputs writes. -/
@[reducible] def doItems : List Nat := (List.range 16).flatMap fun n => [It.doState n, It.doFault n]

theorem doItems_sub {n : Nat} (hn : n ∈ List.range 16) : [It.doState n, It.doFault n] ⊆ doItems :=
  fun _ hk => List.mem_flatMap.2 ⟨n, hn, hk⟩

theorem not_mem_doItems {c i f : Nat} (hstate : f % 256 ≠ 0x20) (hfault : f % 256 ≠ 0x21) : itemKey c i f ∉ doItems := by
  intro h
  obtain ⟨n, -, hk⟩ := List.mem_flatMap.1 h
  obtain hk | hk : itemKey c i f = It.doState n ∨ itemKey c i f = It.doFault n := by simpa using hk
  · exact itemKey_ne_of_field hstate hk
  · exact itemKey_ne_of_field hfault hk

theorem State.judgeDos_dosOnly (s : State) : DosOnly doItems s s.judgeDos :=
  DosOnly.each s fun n hn t => (t.judgeDo_dosOnly n).mono (doItems_sub hn)

theorem State.pend_judgeDos (s : State) (i : Nat) : (nth s.judgeDos.io.dos i).pend = (nth s.io.dos i).pend := by
  unfold State.judgeDos
  exact State.each_keeps (fun t => (nth t.io.dos i).pend) (fun n t => t.pend_judgeDo n i) (List.range 16) s

theorem State.get_doFault_judgeDos_of_off {s : State} (h : s.io.sec.fsOff = true) {n : Nat} (hn : n < 16) :
    s.judgeDos.get (It.doFault n) = 4 := by
  refine (State.each_brings (I := fun t => t.io.sec.fsOff = true) (P := fun m t => t.get (It.doFault m) = 4) (g := fun m => m)
    ?kept ?own s h).2.2 n (List.mem_range.2 hn)
  case kept =>
    refine fun i _ t ht => ⟨(congrArg Section.fsOff (t.judgeDo_dosOnly i).sec).trans ht, fun m hm => ?_⟩
    by_cases hown : m = i
    · exact hown ▸ State.get_doFault_judgeDo_of_off ht
    · have hother : It.doFault m ∉ [It.doState i, It.doFault i] := by
        simp only [List.mem_cons, List.not_mem_nil, or_false, not_or, It.doFault, It.doState, itemKey]
        omega
      exact ((t.judgeDo_dosOnly i).only.get_of_not_mem hother (by decide)).trans hm
  case own => exact fun i _ t ht => State.get_doFault_judgeDo_of_off ht

/-! ## Trips and pulses (R269, R271) -/

/-- From a state to one in which a driven output has tripped for the first time. -/
structure Tripped (n : Nat) (s t : State) : Prop where
  state : t.get (It.doState n) = 3
  fault : t.get (It.doFault n) = 1
  trips : t.get (It.doTrips n) = sat32 (s.get (It.doTrips n) + 1)
  io : t.io = { s.io with
    sec := { s.io.sec with opened := s.io.sec.opened ||| 2 ^ n }
    dos := upd s.io.dos n fun d => { d with busy := none, trips := 1, tripAt := s.up, retry := true } }
  only : IoOnly [It.doState n, It.doFault n, It.doTrips n] s t

/-- The section opens an output, and the pulse that runs on it ends. -/
def State.doOpened (n : Nat) (s : State) : State :=
  (s.modSec fun c => { c with opened := c.opened ||| 2 ^ n }).modDo n fun d => { d with busy := none }

/-- The first trip of an output counted and noted: RETRY_WAIT. -/
def State.firstTrip (n : Nat) (s : State) : State :=
  (s.bump (It.doTrips n)).modDo n fun d => { d with trips := 1, tripAt := s.up, retry := true, latched := false }

theorem State.nth_modDo {s : State} {n : Nat} (f : Do → Do) (hn : n < s.io.dos.length) :
    nth (s.modDo n f).io.dos n = f (nth s.io.dos n) := by
  rw [State.modDo, State.modIo_io]
  dsimp only
  rw [nth_upd, if_pos ⟨rfl, hn⟩]

theorem State.doTripped_of_first {s : State} {n : Nat} (hretry : (nth s.io.dos n).retry = false)
    (hlatched : (nth s.io.dos n).latched = false) (htrips : (nth s.io.dos n).trips = 0) (hn : 0 < s.get (It.doRetryN n)) :
    s.doTripped n = (s.firstTrip n).judgeDo n := by
  have hwaits : decide (0 + 1 ≤ s.get (It.doRetryN n)) = true := decide_eq_true hn
  have hfree : decide (s.get (It.doRetryN n) < 0 + 1) = false := decide_eq_false (Nat.not_lt.2 hn)
  unfold State.doTripped
  dsimp only
  rw [hretry, hlatched, Bool.or_self, if_neg Bool.false_ne_true, htrips, if_neg (fun h => h.1 rfl), hwaits, hfree]
  rfl

theorem State.fsOff_of_driven {s : State} {n : Nat} (h : s.doDriven n = true) : s.io.sec.fsOff = false := by
  cases hoff : s.io.sec.fsOff with
  | false => rfl
  | true =>
    unfold State.doDriven at h
    dsimp only at h
    rw [hoff, Bool.or_true, Bool.true_or, if_pos rfl] at h
    exact absurd h Bool.false_ne_true

theorem State.nth_doOpened {s : State} {n : Nat} (hn : n < s.io.dos.length) :
    nth (s.doOpened n).io.dos n = { nth s.io.dos n with busy := none } :=
  State.nth_modDo _ hn

theorem State.nth_firstTrip {s : State} {n : Nat} (hn : n < s.io.dos.length) : nth ((s.doOpened n).firstTrip n).io.dos n =
    { nth s.io.dos n with busy := none, trips := 1, tripAt := s.up, retry := true, latched := false } := by
  rw [State.firstTrip, State.nth_modDo]
  · rw [State.bump_io, State.nth_doOpened hn]
    rfl
  · rw [State.bump_io, State.doOpened, State.modDo, State.modIo_io, length_upd]
    exact hn

theorem State.firstTrip_io {s : State} {n : Nat} (hlatched : (nth s.io.dos n).latched = false) :
    ((s.doOpened n).firstTrip n).io = { s.io with
      sec := { s.io.sec with opened := s.io.sec.opened ||| 2 ^ n }
      dos := upd s.io.dos n fun d => { d with busy := none, trips := 1, tripAt := s.up, retry := true } } := by
  refine congrArg (fun l => { s.io with sec := { s.io.sec with opened := s.io.sec.opened ||| 2 ^ n }, dos := l })
    ((upd_upd _ _ _ _).trans (upd_congr _ _ _ _ fun x hx => ?_))
  rw [← nth_of_getElem? hx, ← hlatched]
  rfl

theorem State.firstTrip_ioOnly (n : Nat) (s : State) :
    IoOnly [It.doState n, It.doFault n, It.doTrips n] s ((s.doOpened n).firstTrip n) := by
  unfold State.firstTrip State.doOpened
  exact ((((IoOnly.refl _ s).modIo _).modIo _).bump (by simp)).modIo _

theorem State.doTrip_of_first {s : State} {n : Nat} (hn : n < s.io.dos.length) (hdriven : s.doDriven n = true)
    (hretry : (nth s.io.dos n).retry = false) (hlatched : (nth s.io.dos n).latched = false) (htrips : (nth s.io.dos n).trips = 0)
    (hretries : 0 < s.get (It.doRetryN n)) : s.doTrip n = ((s.doOpened n).firstTrip n).showDo n := by
  have hopened := State.nth_doOpened hn
  have hidle : ∀ e, (nth ((s.doOpened n).firstTrip n).io.dos n).busy = some e → ((s.doOpened n).firstTrip n).up < e := by
    intro e he
    rw [State.nth_firstTrip hn] at he
    exact absurd he (Option.some_ne_none e).symm
  rw [← State.judgeDo_of_running hidle, ← State.doTripped_of_first (s := s.doOpened n) _ _ _ hretries]
  · exact if_pos hdriven
  · rw [hopened, hretry]
  · rw [hopened, hlatched]
  · rw [hopened, htrips]

theorem State.doTrip_tripped {s : State} {n : Nat} (hn : n < s.io.dos.length) (hdriven : s.doDriven n = true)
    (hretry : (nth s.io.dos n).retry = false) (hlatched : (nth s.io.dos n).latched = false) (htrips : (nth s.io.dos n).trips = 0)
    (hretries : 0 < s.get (It.doRetryN n)) : Tripped n s (s.doTrip n) := by
  have hio := State.firstTrip_io hlatched
  have htripped := State.nth_firstTrip hn
  rw [State.doTrip_of_first hn hdriven hretry hlatched htrips hretries]
  refine ⟨?state, ?fault, ?trips, (State.showDo_io n _).trans hio,
    (s.firstTrip_ioOnly n).trans ((State.showDo_ioOnly n _).mono (by simp))⟩
  case state =>
    rw [State.get_doState_showDo, State.doStateOf, htripped]
    rfl
  case fault =>
    have hon : ((s.doOpened n).firstTrip n).io.sec.fsOff = false := by
      rw [hio]
      exact State.fsOff_of_driven hdriven
    rw [State.get_doFault_showDo, State.doFaultOf, hon, htripped]
    rfl
  case trips =>
    rw [(State.showDo_ioOnly n _).get_of_not_mem (by simp [itemKey]) (by decide), State.firstTrip, State.modDo, State.modIo_get,
      State.get_bump, if_pos rfl]
    rfl

/-- From a state to one in which an output has started a pulse of so many µs, the rest of its pulses still pending. -/
structure PulseStarted (n width : Nat) (r : List (Nat × Nat)) (s t : State) : Prop where
  state : t.get (It.doState n) = 5
  pulses : t.get (It.doPulses n) = sat32 (s.get (It.doPulses n) + 1)
  io : t.io = { s.io with dos := upd s.io.dos n fun d => { d with pend := r, busy := some (s.up + width * 1000) } }
  only : IoOnly [It.doState n, It.doFault n, It.doPulses n] s t

theorem State.pulseStart_started {s : State} {n start width : Nat} {r : List (Nat × Nat)} (hn : n < s.io.dos.length)
    (hpend : (nth s.io.dos n).pend = (start, width) :: r) (hdue : 0 ≤ signedOf 32 ((s.secCounter + 2 ^ 32 - start) % 2 ^ 32))
    (hwidth : 0 < width) (hon : s.io.sec.fsOff = false) (hretry : (nth s.io.dos n).retry = false)
    (hlatched : (nth s.io.dos n).latched = false) : PulseStarted n width r s (s.pulseStart n) := by
  obtain ⟨u, hu⟩ : ∃ u, (s.modDo n fun d => { d with pend := r, busy := some (s.up + width * 1000) }).bump (It.doPulses n) = u :=
    ⟨_, rfl⟩
  have hpulse : nth u.io.dos n = { nth s.io.dos n with pend := r, busy := some (s.up + width * 1000) } := by
    rw [← hu, State.bump_io]
    exact State.nth_modDo _ hn
  have honly : IoOnly [It.doState n, It.doFault n, It.doPulses n] s u := hu ▸ ((IoOnly.refl _ s).modIo _).bump (by simp)
  have hcount : u.get (It.doPulses n) = sat32 (s.get (It.doPulses n) + 1) := by
    rw [← hu, State.get_bump, if_pos rfl]
    rfl
  have heq : s.pulseStart n = u.showDo n := by
    have hruns : ∀ e, (nth u.io.dos n).busy = some e → u.up < e := by
      intro e he
      have hup : u.up = s.up := congrArg Clock.wall honly.clk
      rw [hpulse] at he
      cases he
      omega
    rw [← State.judgeDo_of_running hruns, ← hu]
    unfold State.pulseStart
    rw [hpend]
    dsimp only
    rw [if_pos hdue, hon]
    rfl
  rw [heq]
  refine ⟨?state, ?pulses, ?io, honly.trans ((State.showDo_ioOnly n u).mono (by simp))⟩
  case state =>
    rw [State.get_doState_showDo, State.doStateOf, hpulse, hretry, hlatched]
    rfl
  case pulses => exact ((State.showDo_ioOnly n u).get_of_not_mem (by simp [itemKey]) (by decide)).trans hcount
  case io =>
    rw [State.showDo_io, ← hu]
    rfl

theorem State.doRetry_of_due {s : State} {n : Nat} (hretry : (nth s.io.dos n).retry = true)
    (hdue : (nth s.io.dos n).tripAt + s.get (It.doRetryMs n) * 1000000 ≤ s.up) :
    s.doRetry n = s.modIo fun b => { b with clear := b.clear ||| 2 ^ n } :=
  if_pos ⟨hretry, hdue⟩

/-! ## The output timeout and FS+ (R272) -/

/-- From a state to one in which the section has timed out its outputs: safe, and no pulse pending. -/
structure TimedOut (s t : State) : Prop where
  timeouts : t.get It.isoOutTimeouts = sat32 (s.get It.isoOutTimeouts + 1)
  sec : t.io.sec = { s.io.sec with timedout := true }
  pend : ∀ n < 16, (nth t.io.dos n).pend = []
  io : t.io = { s.io with sec := t.io.sec, dos := t.io.dos }
  only : IoOnly (It.isoOutTimeouts :: doItems) s t

/-- The pending pulses of every output discarded. -/
def State.pendingDropped (s : State) : State := s.each (List.range 16) fun n s => s.modDo n fun d => { d with pend := [] }

theorem State.pendingDropped_dosOnly (ks : List Nat) (s : State) : DosOnly ks s s.pendingDropped :=
  DosOnly.each s fun n _ t => (DosOnly.refl ks t).modDo n _

theorem State.pend_pendingDropped {s : State} (hlen : s.io.dos.length = 16) {n : Nat} (hn : n < 16) :
    (nth s.pendingDropped.io.dos n).pend = [] := by
  refine (State.each_brings (I := fun t => t.io.dos.length = 16) (P := fun m t => (nth t.io.dos m).pend = []) (g := fun m => m)
    ?kept ?own s hlen).2.2 n (List.mem_range.2 hn)
  case kept =>
    refine fun i _ t ht => ⟨(length_upd _ _ _).trans ht, fun m hm => ?_⟩
    rw [State.modDo, State.modIo_io]
    dsimp only
    rw [nth_upd]
    split
    · rfl
    · exact hm
  case own =>
    intro i hi t ht
    rw [State.nth_modDo]
    exact ht ▸ List.mem_range.1 hi

theorem State.doTimeout_timedOut {s : State} (hhave : s.io.sec.have_ = true) (hfirst : s.io.sec.timedout = false)
    (hdue : s.io.sec.lastFrame + 2000000 ≤ s.up) (hlen : s.io.dos.length = 16) : TimedOut s s.doTimeout := by
  obtain ⟨u, hu⟩ : ∃ u, (s.modSec fun c => { c with timedout := true }).pendingDropped = u := ⟨_, rfl⟩
  have heq : s.doTimeout = (u.bump It.isoOutTimeouts).judgeDos := by
    rw [← hu]
    exact if_pos ⟨hhave, by rw [hfirst]; rfl, hdue⟩
  have hdropped : DosOnly (It.isoOutTimeouts :: doItems) (s.modSec fun c => { c with timedout := true }) u :=
    hu ▸ State.pendingDropped_dosOnly _ _
  have hjudged := (u.bump It.isoOutTimeouts).judgeDos_dosOnly
  have hio : s.doTimeout.io = { u.io with dos := s.doTimeout.io.dos } := by rw [heq]; exact hjudged.io
  have hsec : s.doTimeout.io.sec = { s.io.sec with timedout := true } := by
    rw [heq]
    exact hjudged.sec.trans hdropped.sec
  refine ⟨?timeouts, hsec, ?pend, ?io, ?only⟩
  case timeouts =>
    have hkept : u.get It.isoOutTimeouts = s.get It.isoOutTimeouts :=
      hu ▸ (State.pendingDropped_dosOnly [] _).only.get_of_not_mem List.not_mem_nil (by decide)
    rw [heq, hjudged.only.get_of_not_mem (not_mem_doItems (by decide) (by decide)) (by decide), State.get_bump, if_pos rfl, hkept]
  case pend =>
    intro n hn
    rw [heq, State.pend_judgeDos, State.bump_io, ← hu]
    exact State.pend_pendingDropped hlen hn
  case io =>
    rw [hsec]
    refine hio.trans ?_
    rw [hdropped.io]
    rfl
  case only =>
    rw [heq]
    exact ((((IoOnly.refl _ s).modIo _).trans hdropped.only).bump (by simp)).trans (hjudged.only.mono (by simp))

/-- From a state to one in which FS+ has just fallen below its threshold: every output is off. -/
structure FieldLow (volts : Nat) (s t : State) : Prop where
  volts : t.get It.fieldSupplyV = volts
  lows : t.get It.fieldLowCount = sat32 (s.get It.fieldLowCount + 1)
  faults : ∀ n < 16, t.get (It.doFault n) = 4
  sec : t.io.sec = { s.io.sec with fsLow := true, fsOff := true }
  io : t.io = { s.io with sec := t.io.sec, dos := t.io.dos }
  only : IoOnly ([It.fieldSupplyV, It.fieldLowCount] ++ doItems) s t

/-- The pulses that run on every output ended. -/
def State.pulsesEnded (s : State) : State := s.each (List.range 16) fun n s => s.modDo n fun d => { d with busy := none }

theorem State.pulsesEnded_dosOnly (ks : List Nat) (s : State) : DosOnly ks s s.pulsesEnded :=
  DosOnly.each s fun n _ t => (DosOnly.refl ks t).modDo n _

/-- A measured supply voltage below the threshold, shown and counted, with the outputs off. -/
def State.supplyLost (volts : Nat) (s : State) : State :=
  ((s.set It.fieldSupplyV volts).modSec fun c => { c with fsLow := true, fsOff := true }).bump It.fieldLowCount

theorem State.fieldSupply_of_low {s : State} {volts : Nat} (hup : s.io.sec.fsLow = false) (hlow : volts < 1114112) :
    ∃ b, s.fieldSupply volts = ((s.supplyLost volts).pulsesEnded.judgeDos).emit 0x0a83 b := by
  have hup' : (s.set It.fieldSupplyV volts).io.sec.fsLow = false := hup
  unfold State.fieldSupply
  dsimp only
  rw [hup', if_neg Bool.false_ne_true, decide_eq_true hlow, if_neg (show ¬ true = false by decide), if_pos rfl]
  simp only [Bool.or_true]
  exact ⟨_, rfl⟩

theorem State.fieldSupply_fieldLow {s : State} {volts : Nat} (hup : s.io.sec.fsLow = false) (hlow : volts < 1114112) :
    FieldLow volts s (s.fieldSupply volts) := by
  obtain ⟨b, heq⟩ := State.fieldSupply_of_low hup hlow
  obtain ⟨u, hu⟩ : ∃ u, (s.supplyLost volts).pulsesEnded = u := ⟨_, rfl⟩
  have hended : ∀ ks, DosOnly ks (s.supplyLost volts) u := fun ks => hu ▸ State.pulsesEnded_dosOnly ks _
  have hjudged := u.judgeDos_dosOnly
  have hsec : u.io.sec = { s.io.sec with fsLow := true, fsOff := true } := (hended []).sec
  have hlost : IoOnly ([It.fieldSupplyV, It.fieldLowCount] ++ doItems) s (s.supplyLost volts) :=
    (((IoOnly.refl _ s).set _ (by simp)).modIo _).bump (by simp)
  have hkeys : ∀ m < 16, It.fieldLowCount ≠ It.eventsLost m := by
    intro m hm
    simp only [It.fieldLowCount, It.eventsLost, itemKey]
    omega
  rw [heq, hu]
  refine ⟨?volts, ?lows, ?faults, ?sec, ?io, ?only⟩
  case volts =>
    rw [State.emit_get _ _ _ _ (ne_eventsLost_of_field (by decide)),
      hjudged.only.get_of_not_mem (not_mem_doItems (by decide) (by decide)) (by decide),
      (hended []).only.get_of_not_mem List.not_mem_nil (by decide), State.supplyLost, State.get_bump_of_ne _ (by decide)]
    exact (State.get_set _ _ _ _).trans (if_pos rfl)
  case lows =>
    rw [State.emit_get _ _ _ _ hkeys, hjudged.only.items _ (not_mem_doItems (by decide) (by decide)) hkeys,
      (hended []).only.items _ List.not_mem_nil hkeys, State.supplyLost, State.get_bump, if_pos rfl]
    exact congrArg (fun v => sat32 (v + 1)) (State.get_set_of_ne s volts (by decide))
  case faults =>
    intro n hn
    rw [State.emit_get _ _ _ _ (ne_eventsLost_of_field (by decide))]
    exact State.get_doFault_judgeDos_of_off (by rw [hsec]) hn
  case sec => rw [State.emit_io, hjudged.sec, hsec]
  case io =>
    rw [State.emit_io, hjudged.sec, hsec]
    refine hjudged.io.trans ?_
    rw [(hended []).io]
    rfl
  case only => exact (((hlost.trans (hended _).only).trans (hjudged.only.mono (by simp))).emit _ _)

end Sys2Proof.Machine
end

section
/-! SUPPORT. Output frames as the lanes send them and as the section takes them (R254, R270 to R275), and DO_CLEAR. -/

namespace Sys2Proof.Machine

open Sys2Proof.Safety

/-! ## Sending output frames (R254) -/

/-- A lane whose link is neither under test nor injected, with no frame held, and whose frame of this instant is still to go. -/
structure MaySend (lane : Nat) (s : State) : Prop where
  untested : (nth s.ring.tests (4 + lane)).isSome = false
  uninjected : nth s.ring.injects (4 + lane) = none
  unheld : nth s.ring.holding (4 + lane) = []
  onTime : s.now % 25000 = 0
  first : (nth s.io.links lane).outAt ≠ some s.up

theorem MaySend.starts {lane : Nat} {s : State} (h : MaySend lane s) : (s.underTest (4 + lane) || !s.frameStarts lane) = false := by
  simp [State.underTest, State.frameStarts, h.untested, h.onTime, h.first]

/-- A frame on a link without injection and without held frames goes out alone. -/
theorem State.sendOutput_of_clear {s : State} {lane : Nat} (f : List Byte) (hinject : nth s.ring.injects (4 + lane) = none)
    (hholding : nth s.ring.holding (4 + lane) = []) :
    s.sendOutput lane f =
      s.modLink lane fun x => { x with outSeq := (x.outSeq + 1) % 65536, outAt := some s.up, frames := [f] } := by
  have hheld : upd s.ring.holding (4 + lane) (fun _ => []) = s.ring.holding :=
    upd_of_fixed _ _ _ fun x hx => by rw [← nth_of_getElem? hx, hholding]
  have hpass : s.transmit (4 + lane) (u8At f 0) f = ([f], s) := by
    unfold State.transmit State.passOut
    rw [hinject]
    dsimp only
    rw [hholding]
    exact congrArg (fun l => ([f], { s with ring := { s.ring with holding := l } })) hheld
  unfold State.sendOutput
  rw [hpass]

theorem State.outputTick_of_active {s : State} {lane : Nat} (h : MaySend lane s) (hactive : s.get (It.laneState lane) = 4) :
    s.outputTick lane = (s.pulsesInTime.outputSent lane s.pulsesInTime.outFrame).sendOutput lane
      (s.pulsesInTime.commandFrame lane s.pulsesInTime.outFrame) := by
  unfold State.outputTick
  rw [h.starts, if_neg Bool.false_ne_true, hactive]
  rfl

theorem State.outputTick_of_standby {s : State} {lane : Nat} (h : MaySend lane s) (hstandby : s.get (It.laneState lane) = 3) :
    s.outputTick lane =
      s.sendOutput lane (withCrc16 (toLE 1 3 ++ toLE 1 lane ++ toLE 2 (nth s.io.links lane).outSeq ++ List.replicate 58 0)) := by
  unfold State.outputTick
  rw [h.starts, if_neg Bool.false_ne_true, hstandby]
  rfl

/-- Pulse commands that all lie the trigger lead ahead stay as they are (R146). -/
theorem State.pulsesInTime_of_all {s : State} (h : (s.cam.pulses.all fun p => decide (s.now + 100000 ≤ p.start)) = true) :
    s.pulsesInTime = s := by
  have htime : ∀ p ∈ s.cam.pulses, decide (p.start < s.now + 100000) = false := fun p hp =>
    decide_eq_false (Nat.not_lt.2 (of_decide_eq_true (List.all_eq_true.1 h p hp)))
  have hnone : s.cam.pulses.filter (fun p => decide (p.start < s.now + 100000)) = [] :=
    List.filter_eq_nil_iff.2 fun p hp => Bool.eq_false_iff.1 (htime p hp)
  have hall : s.cam.pulses.filter (fun p => !decide (p.start < s.now + 100000)) = s.cam.pulses :=
    List.filter_eq_self.2 fun p hp => by rw [htime p hp]; rfl
  unfold State.pulsesInTime
  dsimp only
  rw [hnone, hall]
  rfl

/-- What an output frame has carried is not sent again. -/
theorem State.outputSent_eq (lane : Nat) (o : OutContent) (s : State) : s.outputSent lane o = { s with
    cam := { s.cam with pulses := o.pulses.foldl List.erase s.cam.pulses }
    io := { s.io with
      clear := s.io.clear &&& (65535 - o.clear)
      sent := s.io.sent ++ o.pulses.map fun p => { cmd := p, seq := (nth s.io.links lane).outSeq }
      slice := (if s.io.slice < 4 ∧ o.gen = s.io.gen ∧ o.slice = s.io.slice then s.io.slice + 1 else s.io.slice)
      awaited := (if s.io.slice < 4 ∧ o.gen = s.io.gen ∧ o.slice = s.io.slice then 0 else s.io.awaited) } } := by
  have hsliced : ∀ x y : Nat, (if (decide (s.io.slice < 4) && o.gen == s.io.gen && o.slice == s.io.slice) = true then x else y) =
      if s.io.slice < 4 ∧ o.gen = s.io.gen ∧ o.slice = s.io.slice then x else y :=
    fun _ _ => ite_congr (by simp only [Bool.and_eq_true, decide_eq_true_eq, beq_iff_eq, and_assoc]) (fun _ => rfl) fun _ => rfl
  rw [← hsliced, ← hsliced]
  rfl

/-! ## An output frame at the section (R254, R271 to R275) -/

/-- A valid kind 2 frame without settings, clear bits and pulses. -/
structure PlainCommand (l : List Byte) : Prop where
  length : l.length = 64
  crc : crc16 (l.take 62) = u16At l 62
  kind : u8At l 0 = 2
  unset : bit (u8At l 1) 1 = false
  unclear : u16At l 12 = 0
  pulse0 : bit (u8At l 16) 7 = false
  pulse1 : bit (u8At l 24) 7 = false

/-- The section with the levels and force-safe bits of a plain command frame in use. -/
def State.commanded (l : List Byte) (s : State) : State := s.modSec fun c => { c with
  have_ := true, levels := u16At l 8, force := u16At l 10, opened := c.opened &&& 65535, timedout := false, lastFrame := s.up
  fsOff := c.fsLow, part := none }

theorem State.commanded_ioOnly (ks : List Nat) (l : List Byte) (s : State) : IoOnly ks s (s.commanded l) := by
  unfold State.commanded
  exact (IoOnly.refl ks s).modIo _

theorem State.takeOutput_of_plain {l : List Byte} (h : PlainCommand l) (s : State) : s.takeOutput l = (s.commanded l).judgeDos := by
  have hnone : (List.range 16).filter (bit 0) = [] := by decide
  have hpulses : ∀ t : State, (t.each [16, 24] fun o s => if bit (u8At l o) 7 then s.secPulse l o else s) = t := by
    intro t
    refine State.each_eq_self fun o ho => if_neg ?_
    obtain rfl | rfl : o = 16 ∨ o = 24 := by simpa using ho
    · rw [h.pulse0]
      exact Bool.false_ne_true
    · rw [h.pulse1]
      exact Bool.false_ne_true
  have hsettings : ∀ t : State, t.secSettings l = t.modSec fun c => { c with part := none } := by
    intro t
    unfold State.secSettings
    dsimp only
    rw [h.unset]
    rfl
  unfold State.takeOutput
  dsimp only
  rw [h.unclear, hnone, hpulses, hsettings]
  rfl

theorem State.outputRx_of_plain {s : State} {lane : Nat} {l : List Byte} (h : PlainCommand l) (haccepts : s.accepts lane = true) :
    s.outputRx lane l = (s.commanded l).judgeDos := by
  have hform : ¬ (l.length ≠ 64 ∨ crc16 (l.take 62) ≠ u16At l 62) := by simp [h.length, h.crc]
  have hcommand : ¬ u8At l 0 = 3 := by rw [h.kind]; decide
  unfold State.outputRx
  rw [if_neg hform, if_neg hcommand, if_neg (not_not_intro h.kind), haccepts, Bool.not_true, if_neg Bool.false_ne_true,
    State.takeOutput_of_plain h]

/-! ## DO_CLEAR (Table 9.7) -/

/-- DO_CLEAR of one output that is LATCHED waits for the K after the latest one. -/
theorem opDoClear_of_latched (m : Nat) (f : Frame) (s : State) (houtput : u8At f.p 0 ≤ 15) (hz : zeroAt f.p 1 3 = true)
    (hlatched : (nth s.io.dos (u8At f.p 0)).latched = true) :
    opDoClear m f s = reply [] (s.modIo fun b => { b with clears := b.clears ++ [(u8At f.p 0, s.clk.kLast)] }) := by
  have hone : ¬ u8At f.p 0 = 0xff := by omega
  have hform : ¬ ((15 < u8At f.p 0 ∧ u8At f.p 0 ≠ 0xff) ∨ (!zeroAt f.p 1 3) = true) := by
    simp [Nat.not_lt.2 houtput, hz]
  unfold opDoClear
  dsimp only
  rw [if_neg hform, if_neg hone]
  simp [hlatched]

/-! ## The obligation -/

/-- Settles O30: each event of the outputs through the rule of its operation, the outputs judged at its end. -/
theorem outputsAreDriven : Obligations.OutputsAreDriven := by
  unfold Obligations.OutputsAreDriven
  refine ⟨?active, ?standby, ?command, ?trip, ?retry, ?pulse, ?timeout, ?supply, ?clear⟩
  case active =>
    intro s dt lane o hlive htest hinject hholding hstart hfirst hpulses hactive ho
    have hsend : MaySend lane (s.advance dt) := ⟨htest, hinject, hholding, hstart, hfirst⟩
    refine timedRun_eq dt _ s _ (State.runs_of_live hlive) ?_ rfl rfl
    rw [State.outputTick_of_active hsend hactive, State.pulsesInTime_of_all (s := s.advance dt) hpulses, ← ho, State.outputSent_eq,
      State.sendOutput_of_clear]
    · rfl
    · exact hinject
    · exact hholding
  case standby =>
    intro s dt lane hlive htest hinject hholding hstart hfirst hstandby
    have hsend : MaySend lane (s.advance dt) := ⟨htest, hinject, hholding, hstart, hfirst⟩
    refine timedRun_eq dt _ s _ (State.runs_of_live hlive) ?_ rfl rfl
    rw [State.outputTick_of_standby hsend hstandby, State.sendOutput_of_clear (s := s.advance dt) _ hinject hholding]
    rfl
  case command =>
    intro s dt lane bytes hpowered haccepts hlength hcrc hkind hunset hunclear hpulse0 hpulse1
    have heq := State.outputRx_of_plain (s := s.advance dt) ⟨hlength, hcrc, hkind, hunset, hunclear, hpulse0, hpulse1⟩ haccepts
    have hjudged := ((s.advance dt).commanded bytes).judgeDos_dosOnly
    have honly : IoOnly doItems (s.advance dt) ((s.advance dt).outputRx lane bytes) :=
      heq ▸ ((s.advance dt).commanded_ioOnly _ bytes).trans hjudged.only
    have hsec : ((s.advance dt).outputRx lane bytes).io.sec = _ := heq ▸ hjudged.sec
    refine ⟨_, timedDie_ioOnly (f := State.outputRx lane bytes) hpowered honly, hsec, honly.of_advance_io ?_⟩
    rw [hsec, heq]
    exact hjudged.io
  case trip =>
    intro s dt n hpowered hn hdriven hretry hlatched htrips hretries
    have h := State.doTrip_tripped (s := s.advance dt) hn hdriven hretry hlatched htrips hretries
    exact ⟨_, timedDie_ioOnly (f := State.doTrip n) hpowered h.only, h.state, h.fault, h.trips, h.io, h.only.of_advance⟩
  case retry =>
    intro s dt n hlive hretry hdue
    exact timedRun_eq dt (State.doRetry n) s _ (State.runs_of_live hlive)
      (State.doRetry_of_due (s := s.advance dt) hretry hdue) rfl rfl
  case pulse =>
    intro s dt start width n r hpowered hn hpend hdue hwidth hon hretry hlatched
    have h := State.pulseStart_started (s := s.advance dt) hn hpend hdue hwidth hon hretry hlatched
    exact ⟨_, timedDie_ioOnly (f := State.pulseStart n) hpowered h.only, h.state, h.pulses, h.io, h.only.of_advance⟩
  case timeout =>
    intro s dt hpowered hhave hfirst hdue hlen
    have h := State.doTimeout_timedOut (s := s.advance dt) hhave hfirst hdue hlen
    exact ⟨_, timedDie_ioOnly (f := State.doTimeout) hpowered h.only, h.timeouts, h.sec, h.pend, h.only.of_advance_io h.io⟩
  case supply =>
    intro s dt volts hpowered hup hlow
    have h := State.fieldSupply_fieldLow (s := s.advance dt) hup hlow
    exact ⟨_, timedDie_ioOnly (f := State.fieldSupply volts) hpowered h.only, h.volts, h.lows, h.faults, h.sec,
      h.only.of_advance_io h.io⟩
  case clear =>
    intro s dt m h p ha houtput hz hlatched
    exact cmdRow_replied opDoClear _ dt m h p s _ _ ha (opDoClear_of_latched m _ _ houtput hz hlatched) rfl rfl

end Sys2Proof.Machine
end

section
/-! SUPPORT. Buffers, error states and reception of the CAN channels (R285 to R299). -/

namespace Sys2Proof.Machine

open Sys2Proof.Safety

/-! ## Operations on items, mailboxes and the CAN channels alone -/

/-- From a state to one that differs in its items, its mailboxes and the CAN channels. -/
def CanOnly (s t : State) : Prop := t = { s with items := t.items, mail := t.mail, can := t.can }

theorem CanOnly.refl (s : State) : CanOnly s s := rfl

theorem CanOnly.trans {s t u : State} (h : CanOnly s t) (h' : CanOnly t u) : CanOnly s u := by
  rw [CanOnly, h', h]

theorem CanOnly.clk {s t : State} (h : CanOnly s t) : t.clk = s.clk := by rw [h]

theorem CanOnly.pending {s t : State} (h : CanOnly s t) : t.pending = s.pending := by rw [h]

theorem State.modCan_canOnly (ch : Nat) (f : CanCh → CanCh) (s : State) : CanOnly s (s.modCan ch f) := rfl

theorem State.modMaster_canOnly (m : Nat) (f : Master → Master) (s : State) : CanOnly s (s.modMaster m f) := rfl

theorem State.bump_canOnly (k : Nat) (s : State) : CanOnly s (s.bump k) := rfl

theorem State.flush_canOnly (m : Nat) (s : State) : CanOnly s (s.flush m) := by
  obtain ⟨ms, h⟩ := State.flush_shape m s
  rw [h]
  rfl

theorem State.emitMasters_canOnly (ms : List Nat) (code : Nat) (p : List Byte) (s : State) :
    CanOnly s (s.emitMasters ms code p) := by
  obtain ⟨ms', it, h, -⟩ := State.emitFold_shape code p (ms.filter (s.wants code)) s
  rw [State.emitMasters, State.each, h]
  rfl

theorem State.canStart_canOnly (ch : Nat) (s : State) : CanOnly s (s.canStart ch) := by
  unfold State.canStart
  dsimp only
  split
  · split
    · exact .refl s
    · exact s.modCan_canOnly ch _
  · split
    · exact s.bump_canOnly _
    · exact .refl s

theorem State.canFill_canOnly (ch : Nat) (b : TxBuf) (s : State) : CanOnly s (s.canFill ch b) := by
  unfold State.canFill
  split
  · exact .refl s
  · exact (s.modCan_canOnly ch _).trans (State.canStart_canOnly ch _)

theorem State.gatewaySend_canOnly (m : Nat) (s : State) : CanOnly s (s.gatewaySend m) := by
  unfold State.gatewaySend
  dsimp only
  split
  · exact .refl s
  · split
    · exact s.modMaster_canOnly m _
    · exact ((s.modMaster_canOnly m _).trans (State.modMaster_canOnly m _ _)).trans (State.canFill_canOnly _ _ _)

theorem State.gatewayPump_canOnly (m : Nat) (s : State) : CanOnly s (s.gatewayPump m) :=
  ((s.gatewaySend_canOnly m).trans (State.gatewaySend_canOnly m _)).trans (State.flush_canOnly m _)

theorem State.gateways_canOnly (s : State) : CanOnly s s.gateways :=
  (s.gatewayPump_canOnly 12).trans (State.gatewayPump_canOnly 13 _)

/-! ## Channels and their buffers (R290 to R293) -/

theorem State.modCan_congr {s : State} {ch : Nat} {f g : CanCh → CanCh} (h : f (s.canCh ch) = g (s.canCh ch)) :
    s.modCan ch f = s.modCan ch g := by
  have hchs : upd s.can.chs ch f = upd s.can.chs ch g :=
    upd_congr _ _ _ _ fun x hx => by
      rwa [State.canCh, nth_of_getElem? hx] at h
  rw [State.modCan, hchs]
  rfl

theorem State.modCan_modCan (ch : Nat) (f g : CanCh → CanCh) (s : State) :
    (s.modCan ch f).modCan ch g = s.modCan ch fun c => g (f c) := by
  simp only [State.modCan, upd_upd]

theorem State.canCh_modCan {s : State} {ch : Nat} (f : CanCh → CanCh) (h : ch < s.can.chs.length) :
    (s.modCan ch f).canCh ch = f (s.canCh ch) := by
  rw [State.canCh, State.modCan, nth_upd, if_pos ⟨rfl, h⟩]
  rfl

/-- A channel with a buffer in use is one of the module's channels. -/
theorem State.channel_lt_of_bufs {s : State} {ch : Nat} (h : (s.canCh ch).bufs ≠ []) : ch < s.can.chs.length := by
  refine Nat.lt_of_not_le fun hout => h ?_
  rw [State.canCh, nth, List.getD_eq_getElem?_getD, List.getElem?_eq_none hout]
  rfl

/-- Without a buffer in use there is nothing to start. -/
theorem State.canStart_of_empty {s : State} {ch : Nat} (h : (s.canCh ch).bufs = []) : s.canStart ch = s := by
  unfold State.canStart
  simp only [h, List.filter_nil, List.any_nil, Bool.and_false, Bool.false_eq_true, if_false, ite_self]

/-- CAN_TX_DONE of a master's buffer (Table 10.7). -/
theorem State.txDone_of_master {b : TxBuf} (ch outcome flags : Nat) (s : State) (h : b.src ≤ 15) :
    s.txDone ch b outcome flags = s.emit 0x0b81 (toLE 1 ch ++ toLE 1 outcome ++ toLE 1 flags ++ toLE 1 0 ++ toLE 4 b.tag ++
      toLE 4 b.handle ++ toLE 4 b.attempts ++ toLE 8 b.sofAt) :=
  if_pos h

@[simp] theorem State.txDone_can (ch : Nat) (b : TxBuf) (outcome flags : Nat) (s : State) :
    (s.txDone ch b outcome flags).can = s.can := by
  unfold State.txDone
  split
  · exact State.emit_can _ _ s
  · rfl

/-- A buffer freed while no attempt is in progress. -/
theorem State.canFree_of_no_attempt {s : State} {ch : Nat} (b : TxBuf) (outcome flags : Nat) (h : (s.canCh ch).attempt = none) :
    s.canFree ch b outcome flags =
      (s.modCan ch fun c => { c with bufs := c.bufs.filter fun x => x.idx != b.idx }).txDone ch b outcome flags :=
  congrArg (State.txDone ch b outcome flags) (State.modCan_congr (by simp [h]))

/-- An error ends the attempt of a one-shot buffer, the only one of its channel: the buffer is freed with outcome 3 (R293). -/
theorem State.attemptEnd_error_of_oneShot {s : State} {ch : Nat} {b : TxBuf} (hattempt : (s.canCh ch).attempt = some b.idx)
    (hbufs : (s.canCh ch).bufs = [b]) (hcancel : b.cancel = false) (honeShot : b.oneShot = true) :
    s.attemptEnd ch .error = (s.modCan ch fun c => { c with attempt := none, bufs := [] }).txDone ch b 3 0 := by
  have hch : ch < s.can.chs.length := State.channel_lt_of_bufs (by simp [hbufs])
  have hfreed : (s.modCan ch fun c => { c with attempt := none }).canFree ch b 3 0 =
      (s.modCan ch fun c => { c with attempt := none, bufs := [] }).txDone ch b 3 0 := by
    rw [State.canFree_of_no_attempt b 3 0 (by rw [State.canCh_modCan _ hch]), State.modCan_modCan]
    exact congrArg (State.txDone ch b 3 0) (State.modCan_congr (by simp [hbufs]))
  have hempty : (((s.modCan ch fun c => { c with attempt := none, bufs := [] }).txDone ch b 3 0).canCh ch).bufs = [] := by
    rw [State.canCh, State.txDone_can, ← State.canCh, State.canCh_modCan _ hch]
  unfold State.attemptEnd
  simp only [hattempt, hbufs, List.find?_cons, beq_self_eq_true, hcancel, honeShot, Bool.false_eq_true, if_false, if_true, hfreed]
  exact State.canStart_of_empty hempty

/-! ## Error states (R295, R296, R299) -/

theorem errState_active {tec rec : Nat} (htec : tec < 128) (hrec : rec < 128) : errState tec rec = 2 := by
  unfold errState
  rw [if_neg (by omega), if_neg (by omega)]

/-- CAN_STATE as a channel enters a state (R295). -/
theorem State.canEvent_set (ch st cause : Nat) (s : State) : (s.set (It.canState ch) st).canEvent ch cause =
    (s.set (It.canState ch) st).emit 0x0b82 (toLE 1 ch ++ toLE 1 st ++ toLE 2 cause ++ toLE 1 (min (s.get (It.canTec ch)) 255) ++
      toLE 1 (s.get (It.canRec ch)) ++ toLE 2 0 ++ toLE 8 s.now) := by
  rw [State.canEvent, State.get_set, if_pos rfl, State.get_set_of_field s (by decide), State.get_set_of_field s (by decide)]
  rfl

/-- Counters that stay below the warning leave an ERROR_ACTIVE channel as it is, without an event (R295). -/
theorem State.canCounters_of_low {s : State} {ch tec rec : Nat} (hstate : s.get (It.canState ch) = 2) (htec : tec < 96)
    (hrec : rec < 96) : s.canCounters ch tec rec = (s.set (It.canTec ch) tec).set (It.canRec ch) rec := by
  unfold State.canCounters
  simp only [hstate, errState_active (Nat.lt_trans htec (by decide)) (Nat.lt_trans hrec (by decide)),
    Nat.min_eq_left (Nat.le_trans (Nat.le_of_lt htec) (by decide : 96 ≤ 256)),
    Nat.min_eq_left (Nat.le_trans (Nat.le_of_lt hrec) (by decide : 96 ≤ 128)), true_or, if_true]
  exact if_neg (by omega)

/-- A transmit error counted, with the transmit error counter raised by 8 (R295). -/
def State.txErrorCounted (ch : Nat) (s : State) : State :=
  ((s.bump (It.canErrors ch)).set (It.canTec ch) (s.get (It.canTec ch) + 8)).set (It.canRec ch) (s.get (It.canRec ch))

theorem State.get_txErrorCounted (ch : Nat) (s : State) :
    (s.txErrorCounted ch).get (It.canErrors ch) = sat32 (s.get (It.canErrors ch) + 1) ∧
      (s.txErrorCounted ch).get (It.canTec ch) = s.get (It.canTec ch) + 8 := by
  simp [State.txErrorCounted, itemKey]

theorem State.txErrorCounted_itemsBut (ch : Nat) (s : State) :
    ItemsBut [It.canErrors ch, It.canTec ch] s (s.txErrorCounted ch) := by
  intro k hk _
  obtain ⟨herrors, htec⟩ : k ≠ It.canErrors ch ∧ k ≠ It.canTec ch := by simpa using hk
  rw [State.txErrorCounted, State.get_set]
  split
  next hrec => rw [hrec]
  next => rw [State.get_set_of_ne _ _ htec, State.get_bump_of_ne _ herrors]

theorem State.canError_transmit_of_low {s : State} {ch : Nat} (hmode : s.get (It.canMode ch) = 1)
    (hstate : s.get (It.canState ch) = 2) (htec : s.get (It.canTec ch) + 8 < 96) (hrec : s.get (It.canRec ch) < 96) :
    s.canError ch .transmit = s.txErrorCounted ch := by
  have hget : ∀ {f}, f % 256 ≠ 0x28 → (s.bump (It.canErrors ch)).get (itemKey 0x80 ch f) = s.get (itemKey 0x80 ch f) :=
    fun hf => State.get_bump_of_ne s (itemKey_ne_of_field hf)
  unfold State.canError
  simp only [hget (f := 0x00) (by decide), hget (f := 0x21) (by decide), hget (f := 0x22) (by decide), hmode, ne_eq,
    not_true_eq_false, if_false]
  exact State.canCounters_of_low (by rwa [hget (by decide)]) htec hrec

/-- The state of a channel that has recovered from BUS_OFF, before it sends from its buffers (R296). -/
def State.canRecovered (ch : Nat) (s : State) : State :=
  (((s.set (It.canTec ch) 0).set (It.canRec ch) 0).set (It.canState ch) 2).canEvent ch 3

theorem State.busoffRecovered_of_empty {s : State} {ch : Nat} (hstate : s.get (It.canState ch) = 5)
    (hbufs : (s.canCh ch).bufs = []) : s.busoffRecovered ch = s.canRecovered ch := by
  unfold State.busoffRecovered
  rw [if_pos hstate]
  refine State.canStart_of_empty ?_
  rw [State.canCh, State.canEvent, State.emit_can]
  exact hbufs

theorem State.canRecovered_only (ch : Nat) (s : State) :
    IoOnly [It.canState ch, It.canTec ch, It.canRec ch] s (s.canRecovered ch) :=
  ((((IoOnly.refl _ s).set 0 (by simp)).set 0 (by simp)).set 2 (by simp)).emit _ _

theorem State.get_canRecovered (ch : Nat) (s : State) : (s.canRecovered ch).get (It.canState ch) = 2 ∧
    (s.canRecovered ch).get (It.canTec ch) = 0 ∧ (s.canRecovered ch).get (It.canRec ch) = 0 := by
  simp only [State.canRecovered, State.canEvent]
  refine ⟨?_, ?_, ?_⟩ <;> rw [State.emit_get _ _ _ _ (ne_eventsLost_of_field (by decide))] <;> simp [itemKey]

/-- Bus idle takes an integrating controller without errors and without buffers to ERROR_ACTIVE (R299). -/
theorem State.busIdle_of_integrating {s : State} {ch : Nat} (hmode : s.get (It.canMode ch) = 1)
    (hstate : s.get (It.canState ch) = 1) (hretime : (s.canCh ch).retime = false) (hbufs : (s.canCh ch).bufs = [])
    (htec : s.get (It.canTec ch) = 0) (hrec : s.get (It.canRec ch) = 0) :
    s.busIdle ch = (s.set (It.canState ch) 2).canEvent ch 4 := by
  unfold State.busIdle
  simp only [hmode, hretime, hstate, htec, hrec, errState_active (tec := 0) (rec := 0) (by decide) (by decide), Nat.reduceEqDiff,
    Bool.false_eq_true, if_false, if_true, Nat.one_ne_zero]
  refine State.canStart_of_empty ?_
  rw [State.canCh, State.canEvent, State.emit_can]
  exact hbufs

theorem State.protocolException_of_pex {s : State} {ch : Nat} (hmode : s.get (It.canMode ch) ≠ 0)
    (hpex : s.get (It.canPex ch) ≠ 0) : s.protocolException ch = s.integrate ch := by
  rw [State.protocolException, if_neg hmode, if_neg hpex]

/-! ## Reception (R285 to R289) -/

/-- A frame counted on a channel whose receive error counter is 0. -/
def State.canCounted (ch : Nat) (s : State) : State :=
  (s.set (It.canRxSeq ch) ((s.get (It.canRxSeq ch) + 1) % 4294967296)).bump (It.canRxFrames ch)

theorem State.get_canCounted_of_field (s : State) {ch c i f : Nat} (hseq : f % 256 ≠ 0x24) (hframes : f % 256 ≠ 0x25) :
    (s.canCounted ch).get (itemKey c i f) = s.get (itemKey c i f) := by
  rw [State.canCounted, State.get_bump_of_ne _ (itemKey_ne_of_field hframes), State.get_set_of_field s hseq]

theorem State.getAt_canCounted_of_field (s : State) {ch c i f : Nat} (g : Nat) (hseq : f % 256 ≠ 0x24)
    (hframes : f % 256 ≠ 0x25) : (s.canCounted ch).getAt g (itemKey c i f) = s.getAt g (itemKey c i f) := by
  rw [State.canCounted, State.bump, State.bumpBy, State.getAt_set_of_ne _ _ _ (itemKey_ne_of_field hframes),
    State.getAt_set_of_ne _ _ _ (itemKey_ne_of_field hseq)]

theorem State.canCounted_rxSeq (ch : Nat) (s : State) :
    (s.canCounted ch).get (It.canRxSeq ch) = (s.get (It.canRxSeq ch) + 1) % 4294967296 := by
  rw [State.canCounted, State.get_bump_of_ne _ (itemKey_ne_of_field (by decide)), State.get_set, if_pos rfl]

theorem State.filterMatches_canCounted (s : State) (g ch i : Nat) (f : CanFrame) :
    (s.canCounted ch).filterMatches g ch i f = s.filterMatches g ch i f := by
  unfold State.filterMatches
  simp (disch := decide) only [State.getAt_canCounted_of_field]

theorem State.canCount_of_zero {s : State} {ch : Nat} (f : CanFrame) (hrec : s.get (It.canRec ch) = 0) :
    s.canCount ch f = s.canCounted ch := by
  have hzero : (s.canCounted ch).get (It.canRec ch) = 0 := by
    rw [State.get_canCounted_of_field s (by decide) (by decide), hrec]
  unfold State.canCount
  dsimp only
  rw [← State.canCounted]
  exact if_pos (.inr (.inl hzero))

/-- A channel whose frames no gateway, latency monitor or stream takes, and on which no exposure delivery waits for its frame. -/
structure Untapped (ch : Nat) (s : State) : Prop where
  gateway12 : s.get (It.gwCanChannel 12) ≠ ch
  gateway13 : s.get (It.gwCanChannel 13) ≠ ch
  monitors : ∀ n < 32, s.get (It.lmSource n) ≠ 5 + ch
  streams : ∀ n < 32, s.useK (It.stSource n) ≠ 33 + ch
  deliveries : ∀ c < 8, (s.ctx c).deliv = []

theorem Untapped.canCounted {ch : Nat} {s : State} (h : Untapped ch s) : Untapped ch (s.canCounted ch) where
  gateway12 := by rw [s.get_canCounted_of_field (by decide) (by decide)]; exact h.gateway12
  gateway13 := by rw [s.get_canCounted_of_field (by decide) (by decide)]; exact h.gateway13
  monitors n hn := by rw [s.get_canCounted_of_field (by decide) (by decide)]; exact (h.monitors n hn)
  streams := h.streams
  deliveries := h.deliveries

theorem Untapped.no_gateway {ch : Nat} {s : State} (h : Untapped ch s) (p : Nat → Bool) :
    [12, 13].find? (fun m => s.get (It.gwCanChannel m) == ch && p m) = none := by
  simp [h.gateway12, h.gateway13]

theorem Untapped.lmFeed {ch : Nat} {s : State} (h : Untapped ch s) (p : State → Nat → Bool) (g : Nat) (data : List Byte) :
    s.lmFeed (fun s n => s.get (It.lmSource n) == 5 + ch && p s n) g data = s := by
  have hnone : (List.range 32).filter (fun n => s.get (It.lmSource n) == 5 + ch && p s n) = [] :=
    List.filter_eq_nil_iff.2 fun n hn => by simp [h.monitors n (List.mem_range.1 hn)]
  rw [State.lmFeed, hnone]
  rfl

theorem Untapped.feedCan {ch : Nat} {s : State} (h : Untapped ch s) (g : Nat) (f : CanFrame) : s.feedCan ch g f = s := by
  have hnone : (List.range 32).filter (fun n => s.useK (It.stSource n) == 33 + ch && CanFrame.isId f (s.useK (It.stCanId n))) =
      [] :=
    List.filter_eq_nil_iff.2 fun n hn => by simp [h.streams n (List.mem_range.1 hn)]
  rw [State.feedCan, hnone]
  rfl

theorem Untapped.confirmCan {ch : Nat} {s : State} (h : Untapped ch s) (f : CanFrame) : s.confirmCan ch f = s := by
  refine State.each_eq_self fun c hc => ?_
  rw [State.modCtx, upd_of_fixed]
  intro x hx
  have hdeliv : x.deliv = [] := by
    rw [← nth_of_getElem? hx]
    exact h.deliveries c (List.mem_range.1 hc)
  rw [hdeliv, List.map_nil, ← hdeliv]

/-- A frame that filter 0 decides for delivery and no high-priority buffer takes is counted for the filter, kept until the next copy
and sent to the masters of the filter (R286). -/
theorem State.canOffer_of_filter {s : State} {ch g : Nat} {f : CanFrame} (hhp : ∀ i < 8, s.getAt g (It.hpEnable ch i) ≠ 1)
    (hmatch : s.filterMatches g ch 0 f = true) (hdeliver : s.getAt g (It.fltAction ch 0) = 1) :
    s.canOffer ch g f =
      let record := canRecord ch 0 f (s.get (It.canRxSeq ch)) g (s.posAt g)
      let masters := maskMasters (s.getAt g (It.fltMasters ch 0))
      ((s.bump (It.fltHits ch 0)).modCan ch fun c => { c with recent :=
        c.recent ++ [{ cycle := s.cycle, frame := f, record := record, masters := masters }] }).emitMasters masters 0x0b80
          record := by
  have hfilter : (List.range 16).find? (fun i => s.filterMatches g ch i f) = some 0 :=
    List.find?_cons_of_pos (l := (List.range 15).map Nat.succ) hmatch
  have hbuffer : (List.range 8).find? (fun h => s.hpMatches g ch h f) = none :=
    List.find?_eq_none.2 fun i hi => by simp [State.hpMatches, hhp i (List.mem_range.1 hi)]
  unfold State.canOffer
  simp only [hfilter, hbuffer, hdeliver, if_true]
  rfl

/-- A frame on a channel that nothing else taps goes to the masters of the filter that decides it. -/
theorem State.canFrame_of_untapped {s : State} {ch : Nat} (sof : Nat) {f : CanFrame} (hmode : s.get (It.canMode ch) ≠ 0)
    (hcarries : s.canCarries ch f = true) (hrec : s.get (It.canRec ch) = 0) (h : Untapped ch s) :
    s.canFrame ch sof f = (s.canCounted ch).canOffer ch (s.now - sof) f := by
  have hc := h.canCounted
  unfold State.canFrame
  simp only [if_neg hmode, hcarries, Bool.not_true, Bool.false_eq_true, if_false, State.canCount_of_zero f hrec, hc.no_gateway,
    Bool.and_assoc, hc.lmFeed, hc.feedCan, hc.confirmCan]

/-! ## The obligation -/

/-- Settles O31: each event of a channel through the rule of its operation; a channel without buffers starts nothing. -/
theorem canFramesAndErrors : Obligations.CanFramesAndErrors := by
  unfold Obligations.CanFramesAndErrors
  refine ⟨?frame, ?irqWord, ?error, ?attempt, ?recovered, ?integrated, ?exception⟩
  case frame =>
    intro s dt ch got hlive hmode hcarries hrec hgw12 hgw13 hmonitors hstreams hdeliveries hhp hmatch hdeliver
    have huntapped : Untapped ch (s.advance dt) := ⟨hgw12, hgw13, hmonitors, hstreams, hdeliveries⟩
    refine timedRun_eq dt (State.canFrame ch got.sof got.frame) s _ (State.runs_of_live hlive) ?_
      (State.emitMasters_canOnly _ _ _ _).clk (State.emitMasters_canOnly _ _ _ _).pending
    rw [State.canFrame_of_untapped (s := s.advance dt) got.sof hmode hcarries hrec huntapped, State.canOffer_of_filter]
    · rw [State.canCounted_rxSeq, State.getAt_canCounted_of_field _ _ (by decide) (by decide)]
      rfl
    · intro i hi
      rw [State.getAt_canCounted_of_field _ _ (by decide) (by decide)]
      exact hhp i hi
    · rw [State.filterMatches_canCounted]
      exact hmatch
    · rw [State.getAt_canCounted_of_field _ _ (by decide) (by decide)]
      exact hdeliver
  case irqWord =>
    intro s dt part hlive
    exact timed_eq dt _ s _ hlive rfl rfl rfl
  case error =>
    intro s dt ch hlive hmode hstate htec hrec
    have hmode' : (s.advance dt).get (It.canMode ch) ≠ 0 := by rw [State.advance_get, hmode]; decide
    obtain ⟨herrors, htec'⟩ := State.get_txErrorCounted ch (s.advance dt)
    refine ⟨_, timedRun_eq dt (fun a => if a.get (It.canMode ch) = 0 then a else a.canError ch .transmit) s
      ((s.advance dt).txErrorCounted ch) (State.runs_of_live hlive) ?_ rfl rfl, herrors, htec',
      State.txErrorCounted_itemsBut ch (s.advance dt), rfl⟩
    rw [if_neg hmode']
    exact State.canError_transmit_of_low (s := s.advance dt) hmode hstate htec hrec
  case attempt =>
    intro s dt ch b hlive hattempt hbufs hcancel honeShot hsrc
    refine timedRun_eq dt (fun a => (a.attemptEnd ch .error).gateways) s _ (State.runs_of_live hlive) ?_
      (by rw [(State.gateways_canOnly _).clk, State.emit_clk]; rfl) (by rw [(State.gateways_canOnly _).pending, State.emit_pending]; rfl)
    rw [State.attemptEnd_error_of_oneShot (s := s.advance dt) hattempt hbufs hcancel honeShot, State.txDone_of_master _ _ _ _ hsrc]
    rfl
  case recovered =>
    intro s dt ch hlive hstate hbufs
    obtain ⟨hactive, htec, hrec⟩ := State.get_canRecovered ch (s.advance dt)
    have honly := State.canRecovered_only ch (s.advance dt)
    exact ⟨_, timedRun_eq dt _ s _ (State.runs_of_live hlive) (State.busoffRecovered_of_empty (s := s.advance dt) hstate hbufs)
      honly.clk honly.pending, hactive, htec, hrec, honly.of_advance_io (State.emit_io _ _ _)⟩
  case integrated =>
    intro s dt ch hlive hmode hstate hretime hbufs htec hrec
    refine timedRun_eq dt _ s _ (State.runs_of_live hlive) ?_ (by rw [State.emit_clk]; rfl) (by rw [State.emit_pending]; rfl)
    rw [State.busIdle_of_integrating (s := s.advance dt) hmode hstate hretime hbufs htec hrec, State.canEvent_set,
      State.advance_get, State.advance_get, htec, hrec]
    rfl
  case exception =>
    intro s dt ch hlive hmode hpex
    refine timedRun_eq dt _ s _ (State.runs_of_live hlive) ?_ (by rw [State.emit_clk]; rfl) (by rw [State.emit_pending]; rfl)
    rw [State.protocolException_of_pex, State.integrate, State.canEvent_set]
    · rfl
    · rw [State.advance_get, hmode]; decide
    · rw [State.advance_get, hpex]; decide

end Sys2Proof.Machine
end

section
/-! SUPPORT. The opcodes of Table 10.7 (R287 to R296). -/

namespace Sys2Proof.Machine

open Sys2Proof.Safety

/-! ## CAN_TX (R290, R291) -/

/-- A CAN_TX payload that asks for a classic data frame with a standard identifier, sent until it succeeds. -/
structure ClassicRequest (p : List Byte) : Prop where
  channel : u8At p 0 ≤ 5
  flags : u8At p 1 = 0
  length : u8At p 2 ≤ 8
  reserved : zeroAt p 3 1 = true
  id : u32At p 4 ≤ 2047

/-- The buffer that a classic request of a master fills in a cycle, waiting for the copy of that cycle. -/
def classicBuf (m i handle cyc : Nat) (p : List Byte) : TxBuf where
  idx := i
  src := m
  handle := handle
  tag := u32At p 8
  oneShot := false
  el := none
  cyc := cyc
  frame := { id := BitVec.ofNat 29 (u32At p 4), ext := false, fd := false, brs := false, remote := false
             dlc := Fin.ofNat 16 (u8At p 2), data := p.drop 12 }

theorem opCanTx_of_classic (m : Nat) (f : Frame) (s : State) {i : Nat} (hp : ClassicRequest f.p)
    (hmaster : bit (s.get (It.canTxMasters (u8At f.p 0))) m = true) (hmode : s.get (It.canMode (u8At f.p 0)) = 1)
    (hheld : (s.canCh (u8At f.p 0)).held = false) (hfree : (s.canCh (u8At f.p 0)).freeIdx = some i)
    (hroom : ((s.canCh (u8At f.p 0)).bufs.filter fun b => decide (b.src ≤ 15)).length < 32 - reservedBufs s.get (u8At f.p 0)) :
    opCanTx m f s =
      (s.modCan (u8At f.p 0) fun c => { c with
        bufs := c.bufs ++ [classicBuf m i (s.canCh (u8At f.p 0)).nextHandle s.cycle f.p]
        nextHandle := c.nextHandle % 4294967295 + 1 },
      { payload := toLE 1 i ++ toLE 3 0 ++ toLE 4 (s.canCh (u8At f.p 0)).nextHandle, wait := .copy s.cycle }) := by
  obtain ⟨hchannel, hflags, hlength, hreserved, hid⟩ := hp
  have hclear : ∀ n, bit 0 n = false := fun n => by simp [bit]
  have hform : ¬ (5 < u8At f.p 0 ∨ 31 < 0 ∨ 15 < u8At f.p 2 ∨ (8 < u8At f.p 2 ∧ (!false) = true) ∨ (false = true ∧ false = true) ∨
      (!zeroAt f.p 3 1) = true ∨ 2 ^ 29 ≤ u32At f.p 4 ∨ ((!false) = true ∧ 2047 < u32At f.p 4)) := by
    simp only [hreserved, Bool.not_true, Bool.not_false, Bool.false_eq_true, and_self, and_true, true_and, false_or, not_or]
    omega
  have hopen : ¬ (s.get (It.canMode (u8At f.p 0)) ≠ 1 ∨ (s.canCh (u8At f.p 0)).held = true ∨
      (false = true ∧ s.get (It.canFd (u8At f.p 0)) = 0)) := by simp [hmode, hheld]
  unfold opCanTx
  simp only [hflags, hclear]
  rw [if_neg hform, if_neg (by simp [hmaster]), if_neg hopen]
  simp only [hfree, if_pos hroom]
  rfl

/-- The buffers kept for the module's own frames are a matter of settings. -/
theorem reservedBufs_taking (m : Nat) (f : Frame) (a : State) (ch : Nat) :
    reservedBufs (taking m f a).get ch = reservedBufs a.get ch := by
  unfold reservedBufs
  simp (disch := decide) only [get_taking_of_field]

/-! ## CAN_TX_CANCEL (R293) -/

theorem opCanTxCancel_of_waiting (m : Nat) (f : Frame) (s : State) {b : TxBuf} (hchannel : u8At f.p 0 ≤ 5)
    (hz : zeroAt f.p 1 3 = true) (hfind : (s.canCh (u8At f.p 0)).bufs.find? (fun x => x.handle == u32At f.p 4) = some b)
    (hsrc : b.src = m) (hattempt : (s.canCh (u8At f.p 0)).attempt = none) :
    opCanTxCancel m f s = reply [] ((s.modCan (u8At f.p 0) fun c => { c with
      bufs := c.bufs.filter fun x => x.idx != b.idx }).txDone (u8At f.p 0) b 1 0) := by
  have hform : ¬ (5 < u8At f.p 0 ∨ (!zeroAt f.p 1 3) = true) := by simp [hchannel, hz]
  unfold opCanTxCancel
  simp only [if_neg hform, hfind, hattempt]
  rw [if_neg (by simp [hsrc]), if_neg (by simp), State.canFree_of_no_attempt b 1 0 hattempt]

theorem opCanTxCancel_of_attempt (m : Nat) (f : Frame) (s : State) {b : TxBuf} (hchannel : u8At f.p 0 ≤ 5)
    (hz : zeroAt f.p 1 3 = true) (hfind : (s.canCh (u8At f.p 0)).bufs.find? (fun x => x.handle == u32At f.p 4) = some b)
    (hsrc : b.src = m) (hattempt : (s.canCh (u8At f.p 0)).attempt = some b.idx) :
    opCanTxCancel m f s =
      (s.modCan (u8At f.p 0) fun c => { c with bufs := c.bufs.map fun x => if x.idx = b.idx then { x with cancel := true } else x },
      { wait := .canCancel (u8At f.p 0) b.idx }) := by
  have hform : ¬ (5 < u8At f.p 0 ∨ (!zeroAt f.p 1 3) = true) := by simp [hchannel, hz]
  unfold opCanTxCancel
  simp only [if_neg hform, hfind, hattempt, if_true]
  exact if_neg (by simp [hsrc])

/-! ## CAN_TX_LIST, CAN_RECOVER and CAN_HP_READ (R287, R296) -/

theorem opCanTxList_formed (m : Nat) (f : Frame) (s : State) (hchannel : u8At f.p 0 ≤ 5) (hz : zeroAt f.p 1 3 = true) :
    opCanTxList m f s = reply (toLE 2 (s.canCh (u8At f.p 0)).bufs.length ++ toLE 2 0 ++
      (List.range 32).flatMap (txEntry (s.canCh (u8At f.p 0)))) s :=
  if_neg (by simp [hchannel, hz])

theorem opCanRecover_of_busOff (m : Nat) (f : Frame) (s : State) (hchannel : u8At f.p 0 ≤ 5) (hz : zeroAt f.p 1 3 = true)
    (hstate : s.get (It.canState (u8At f.p 0)) = 4) :
    opCanRecover m f s = reply [] (s.set (It.canState (u8At f.p 0)) 5) := by
  have hform : ¬ (5 < u8At f.p 0 ∨ (!zeroAt f.p 1 3) = true) := by simp [hchannel, hz]
  unfold opCanRecover
  dsimp only
  rw [if_neg hform, if_neg (not_not_intro hstate)]

/-- CAN_HP_READ of an enabled high-priority buffer that has taken a frame (R287). -/
theorem opCanHpRead_of_record (m : Nat) (f : Frame) (s : State) {b : HpBuf} (hchannel : u8At f.p 0 ≤ 5) (hbuf : u8At f.p 1 ≤ 7)
    (hz : zeroAt f.p 2 2 = true) (hb : nth (s.canCh (u8At f.p 0)).hp (u8At f.p 1) = b)
    (henable : s.get (It.hpEnable (u8At f.p 0) (u8At f.p 1)) = 1) (hseq : b.seq ≠ 0) :
    opCanHpRead m f s = reply (toLE 4 b.seq ++ toLE 4 0 ++ b.record ++ List.replicate (96 - b.record.length) 0)
      (s.modCan (u8At f.p 0) fun c => { c with hp := upd c.hp (u8At f.p 1) fun b => { b with unread := false } }) := by
  have hform : ¬ (5 < u8At f.p 0 ∨ 7 < u8At f.p 1 ∨ (!zeroAt f.p 2 2) = true) := by simp [hchannel, hbuf, hz]
  unfold opCanHpRead
  simp only [hb]
  rw [if_neg hform, if_neg (by simp [henable, hseq])]

/-! ## The obligation -/

/-- Settles O32: on the state in which a taken frame executes, each opcode has the effect and the answer named. -/
theorem canCommandsAnswer : Obligations.CanCommandsAnswer := by
  unfold Obligations.CanCommandsAnswer
  refine ⟨?transmit, ?waiting, ?attempt, ?list, ?recover, ?read⟩
  case transmit =>
    intro s dt m h p i ha hchannel hflags hlength hz hid hmaster hmode hheld hfree hroom
    refine cmdRow_replied opCanTx _ dt m h p s _ _ ha
      (opCanTx_of_classic m _ _ ⟨hchannel, hflags, hlength, hz, hid⟩ ?_ ?_ hheld hfree ?_) rfl rfl
    · rwa [get_taking_of_field _ _ _ (by decide)]
    · rwa [get_taking_of_field _ _ _ (by decide)]
    · rwa [reservedBufs_taking]
  case waiting =>
    intro s dt m h p b ha hchannel hz hfind hsrc hattempt
    refine cmdRow_replied opCanTxCancel _ dt m h p s _ _ ha ?_ (by rw [State.emit_clk]; rfl) (by rw [State.emit_pending]; rfl)
    rw [opCanTxCancel_of_waiting m _ _ hchannel hz hfind hsrc hattempt,
      State.txDone_of_master _ _ _ _ (hsrc ▸ Nat.le_of_lt_succ m.isLt)]
    rfl
  case attempt =>
    intro s dt m h p b ha hchannel hz hfind hsrc hattempt
    exact cmdRow_replied opCanTxCancel _ dt m h p s _ _ ha (opCanTxCancel_of_attempt m _ _ hchannel hz hfind hsrc hattempt) rfl rfl
  case list =>
    intro s dt m h p ha hchannel hz
    exact cmdRow_replied opCanTxList _ dt m h p s id _ ha (opCanTxList_formed m _ _ hchannel hz) rfl rfl
  case recover =>
    intro s dt m h p ha hchannel hz hstate
    exact cmdRow_replied opCanRecover _ dt m h p s _ _ ha
      (opCanRecover_of_busOff m _ _ hchannel hz (by rwa [get_taking_of_field _ _ _ (by decide)])) rfl rfl
  case read =>
    intro s dt m h p ha hchannel hbuf hz henable hseq
    exact cmdRow_replied opCanHpRead _ dt m h p s _ _ ha
      (opCanHpRead_of_record m _ _ hchannel hbuf hz rfl (by rwa [get_taking_of_field _ _ _ (by decide)]) hseq) rfl rfl

end Sys2Proof.Machine
end

section
/-! SUPPORT. The step takes the front of the queue (log entry 12), and what a module without power does (R314, R349 to R355). -/

namespace Sys2Proof.Machine

open Sys2Proof.Safety

/-- Settles O47: the two branches of `step`. -/
theorem stepTakesTheFront : Obligations.StepTakesTheFront := by
  unfold Obligations.StepTakesTheFront
  refine ⟨fun s c rest => rfl, fun s hempty => ?_⟩
  rw [step, hempty]

/-! ## Commands that only let time pass -/

/-- The outcome is the state before at another clock. -/
def TimePasses (s : State) (o : Host.Outcome State Fault Refusal) : Prop := ∃ t, o = .next t ∧ t = { s with clk := t.clk }

theorem timedAny_passes {dt : Nat} {f : State → State} {s : State} (h : f (s.advance dt) = s.advance dt) :
    timedAny dt f s = .next (s.advance dt) :=
  timedAny_eq dt f s _ h rfl rfl

/-- A command whose effect stands behind a condition that does not hold. -/
theorem timedAny_gated {dt : Nat} {g : State → Bool} {f : State → State} {s : State} (h : g (s.advance dt) = false) :
    timedAny dt (fun a => if g a = true then f a else a) s = .next (s.advance dt) :=
  timedAny_passes (if_neg (Bool.eq_false_iff.1 h))

theorem timePasses_of_next {s : State} {dt : Nat} {o : Host.Outcome State Fault Refusal} (h : o = .next (s.advance dt)) :
    TimePasses s o := ⟨_, h, rfl⟩

/-- The module is OFF or in PARK. -/
@[reducible] def Unpowered (s : State) : Prop := s.phase = .off ∨ s.phase = .park

theorem Unpowered.advance {s : State} (h : Unpowered s) (dt : Nat) : Unpowered (s.advance dt) := h

theorem Unpowered.live {s : State} (h : Unpowered s) : s.live = false := by
  rcases h with h | h <;> simp [State.live, h]

theorem Unpowered.speaks {s : State} (h : Unpowered s) : s.speaks = false := by
  rcases h with h | h <;> simp [State.speaks, State.live, h]

theorem Unpowered.runs {s : State} (h : Unpowered s) : s.runs = false := by
  rcases h with h | h <;> simp [State.runs, State.live, h]

theorem Unpowered.powered {s : State} (h : Unpowered s) : s.powered = false := by
  rcases h with h | h <;> simp [State.powered, h]

theorem timedRom_silent (dt : Nat) (f : State → State) {s : State} (h : s.speaks = false) :
    timedRom dt f s = .next (s.advance dt) := timedAny_gated h

/-- A command frame for a module that serves no mailbox. -/
theorem exec_opRow_silent {i : Instr} {c : OpCmd} {s : State} (hrow : opRow i = some c) (h : s.speaks = false) :
    exec i s = .next (s.advance c.dt) := by
  rw [(opRow_exec i c s hrow).1]
  exact timedRom_silent _ _ h

theorem timedLines_unpowered (dt : Nat) (f dies : State → State) {s : State} (h : Unpowered s) :
    timedLines dt f dies s = .next (s.advance dt) :=
  timedAny_passes (by rw [(h.advance dt).runs, (h.advance dt).powered]; rfl)

theorem execInternalTallyTick_unpowered {s : State} (h : Unpowered s) :
    execInternalTallyTick s = .next { s with clk := s.clk.toTick } := by
  have htick : Unpowered { s with clk := s.clk.toTick } := h
  have hidle : (if ({ s with clk := s.clk.toTick } : State).runs = true then
      ({ s with clk := s.clk.toTick } : State).tallyEdge 12 true 0x3f
      else if ({ s with clk := s.clk.toTick } : State).powered = true then
        ({ s with clk := s.clk.toTick } : State).dieEdge 12 true 0x3f else { s with clk := s.clk.toTick }) =
      { s with clk := s.clk.toTick } := by
    rw [htick.runs, htick.powered]
    rfl
  exact congrArg (fun a : State => Host.Outcome.next { a with clk := s.clk.toTick, pending := s.pending }) hidle

/-- A command in which a lane may claim, and none does. -/
theorem timedStart_unpowered {dt : Nat} {f : State → State} {s : State} (h : Unpowered s) (hf : f (s.advance dt) = s.advance dt) :
    timedStart dt f s = .next (s.advance dt) := by
  have hstays : ((s.advance dt).phase == .starting) = false := by rcases h with h | h <;> simp [h]
  have hgap : ((s.advance dt).lanes.gap.isSome && (s.advance dt).lanes.gap.isNone) = false := by
    cases (s.advance dt).lanes.gap <;> rfl
  unfold timedStart
  simp only [hf, hstays, hgap, Bool.false_and, Bool.false_eq_true, if_false]

theorem State.claim_unpowered {s : State} (x : Nat) (h : Unpowered s) : s.claim x = s := by
  unfold State.claim
  rcases h with h | h <;> rw [h]

theorem State.selfTest_unpowered {s : State} (x : Nat) (passed : Bool) (h : Unpowered s) : s.selfTest x passed = s := by
  unfold State.selfTest
  rcases h with h | h <;> rw [h]

theorem Unpowered.not_starting {s : State} (h : Unpowered s) : s.phase ≠ .starting := by
  rcases h with h | h <;> simp [h]

theorem State.faultIn_unpowered {s : State} (x : Nat) (f : State → State) (h : Unpowered s) : s.faultIn x f = s := by
  have hlive := h.live
  unfold State.faultIn
  rcases h with hp | hp <;> simp [hp, hlive]

theorem State.mayShut_unpowered {s : State} (h : Unpowered s) : s.mayShut = false := by
  rcases h with h | h <;> simp [State.mayShut, State.railsUp, h]

theorem State.holdupDecision_unpowered {s : State} (h : Unpowered s) : s.holdupDecision = s :=
  if_neg (by simp [State.mayShut_unpowered h])

theorem State.shutEnd_unpowered {s : State} (h : Unpowered s) : s.shutEnd = s := by
  unfold State.shutEnd
  rcases h with h | h <;> rw [h]

theorem execOrderlyParkComplete_unpowered {s : State} (dt : Nat) (h : Unpowered s) :
    execOrderlyParkComplete dt s = .next (s.advance dt) := by
  refine timedAny_passes ?_
  rcases h with h | h <;> simp [h]

/-- The rows of a running module, of its engines and of the ROM recovery stand behind conditions that power fulfils. -/
theorem Unpowered.timed_passes {s : State} (h : Unpowered s) (dt : Nat) (f : State → State) : TimePasses s (timed dt f s) :=
  timePasses_of_next (timed_idle dt f s h.live)

theorem Unpowered.timedRun_passes {s : State} (h : Unpowered s) (dt : Nat) (f : State → State) : TimePasses s (timedRun dt f s) :=
  timePasses_of_next (timedAny_gated h.runs)

theorem Unpowered.timedRom_passes {s : State} (h : Unpowered s) (dt : Nat) (f : State → State) : TimePasses s (timedRom dt f s) :=
  timePasses_of_next (timedRom_silent dt f h.speaks)

theorem Unpowered.timedDie_passes {s : State} (h : Unpowered s) (dt : Nat) (f : State → State) : TimePasses s (timedDie dt f s) :=
  timePasses_of_next (timedAny_gated h.powered)

theorem Unpowered.timedLines_passes {s : State} (h : Unpowered s) (dt : Nat) (f dies : State → State) :
    TimePasses s (timedLines dt f dies s) := timePasses_of_next (timedLines_unpowered dt f dies h)

/-- Every command but a frame and those of the supplies, the wakes and the bypass contacts is a matter of the clock. -/
theorem exec_event_unpowered {s : State} (i : Instr) (h : Unpowered s) (hrow : supplyRow i = false) (hop : opRow i = none) :
    TimePasses s (exec i s) := by
  cases i
  case baseCycleBoundary meas eq =>
    exact ⟨_, execBaseCycleBoundary_idle meas eq h.live (by rcases h with h | h <;> simp [h]) (by rcases h with h | h <;> simp [h]), rfl⟩
  case internalTallyTick => exact ⟨_, execInternalTallyTick_unpowered h, rfl⟩
  case moduleStart | startWaitExpiry =>
    exact timePasses_of_next (timedStart_unpowered h (if_neg (h.advance _).not_starting))
  case laneClaim dt lane => exact timePasses_of_next (timedStart_unpowered h (State.claim_unpowered _ (h.advance dt)))
  case selfTestDone dt lane passed => exact timePasses_of_next (timedStart_unpowered h (State.selfTest_unpowered _ _ (h.advance dt)))
  case laneGiveUp | vitalTimeout => exact timePasses_of_next (timedAny_passes (State.faultIn_unpowered _ _ (h.advance _)))
  case holdupDecision dt => exact timePasses_of_next (timedAny_passes (State.holdupDecision_unpowered (h.advance dt)))
  case shutdownComplete dt => exact timePasses_of_next (timedAny_passes (State.shutEnd_unpowered (h.advance dt)))
  case orderlyParkComplete dt => exact timePasses_of_next (execOrderlyParkComplete_unpowered dt h)
  case powerTierChange | holdupRechargeEnd | kaSupplyChange | mainStartDwell | wakeInput | canWakePattern | parkTimerExpiry |
      wakeWaitExpiry | bypassCloseDone | supplyAboveOperatingMax => cases hrow
  -- Where a row's own definition branches, it is opened to show its form.
  case doorbellWrite => unfold exec execDoorbellWrite; exact h.timed_passes _ _
  case electionWindowEnd => unfold exec execElectionWindowEnd; exact h.timed_passes _ _
  case mailboxWindowWrite => unfold exec execMailboxWindowWrite; exact h.timed_passes _ _
  case reckonerResume => unfold exec execReckonerResume; exact h.timed_passes _ _
  case panelUpdateStart => unfold exec execPanelUpdateStart; exact h.timed_passes _ _
  case panelTempRead => unfold exec execPanelTempRead; exact h.timed_passes _ _
  case cameraClockReturn => unfold exec execCameraClockReturn; exact h.timed_passes _ _
  case pinLifetimeExpiry => unfold exec execPinLifetimeExpiry; exact h.timed_passes _ _
  case runDeadline => unfold exec execRunDeadline; exact h.timedRun_passes _ _
  case canBusError => unfold exec execCanBusError; exact h.timedRun_passes _ _
  case canTxAttemptEnd => unfold exec execCanTxAttemptEnd; exact h.timedRun_passes _ _
  case ringPortDown => unfold exec execRingPortDown; exact h.timedRom_passes _ _
  case status => unfold exec execStatus; exact h.timedRom_passes _ _
  case statusPeriod => unfold exec execStatusPeriod; exact h.timedRom_passes _ _
  case ringMemberTimeout => unfold exec execRingMemberTimeout; exact h.timedRom_passes _ _
  case laneLinkKMessage => unfold exec execLaneLinkKMessage laneRow; exact h.timed_passes _ _
  case cameraLineStart => unfold exec execCameraLineStart; exact h.timedLines_passes _ _ _
  case encoderEdge | tallyStall => exact h.timedLines_passes _ _ _
  case mailboxIrqClear | gatewaySlotGap | ownershipGrantAtK | ownershipSwitch | offerExpiry | ownerlessGraceExpiry |
      reckonerWatchdogExpiry | reckonerRestartTimeout | slateCancelEffect | decisionDeadlineExpiry | carry |
      cameraFrameStart | cameraClockLoss | cameraStale | statisticsFinal | cameraTrigger | canHpIrqWordRead |
      linkTestExpiry | faultInjectExpiry | memoryScrub | stateChangeEffect | moduleResetEffect | confirmationWindowEnd |
      canaryMeasure | panelFrame | panelUpdateEnd | edgeLoopCheck | checkerLock | checkerSyncLoss | tenantCoreRestart |
      quietTimeEnd | laneYield | plannedSwitchAtK | handoverBoundExpiry | copyReceived | copyAck | copyFailed |
      laneLinkDown | laneRestartDelayEnd | fullSyncDone | laneLinkUp => exact h.timed_passes _ _
  case encoderStale | followerCorrection | latencyMonitorSilent | storeTransactionDone | detectionEmit | horizonRelease |
      memberWatermarkTimeout | batchClose | solveDone | solveLate | trackExpired | loopRelease | rodResetEffect |
      valveClearEffect | inputFrameRx | outputFrameTick | isoLinkStale | diEdgeAccept | diStale | diWireBreak | aiStale |
      aiShuntTrip | aiShuntReclose | lsStale | lsTest | lsHistWindow | doRetryExpiry | canFrameValid |
      canBusoffRecovered | canBusIdleIntegration | recorderWindowClose | recordWritten | ageTrendTick | streamStale |
      canProtocolException | coilMeasureDone => exact h.timedRun_passes _ _
  case cycleStartMessage | driveDieCarry | beadArrival | beadDue | boostEnd | boostTimeout | peakDwellEnd | beadEnd |
      quenchEnd | currentLoopPeriod | ditherSetpoint | channelShortTrip | highSideShortTrip | channelRetryExpiry |
      boostRailReady | boostLowTimeout | driveTierChange | sagRecoveryReady | driveOutputTimeout | outputFrameRx |
      lsImpact | doTrip | doPulseStart | doOutputTimeout | fieldSupplyChange => exact h.timedDie_passes _ _
  case ownershipLapse | sessionIdleExpiry | ringPortUp | ringFrameRx | mbxSlots | mbxIndex | ringResendExpiry |
      ringJoinWaitEnd | ringBypassSettled | componentHashDone | bankWriteDone | updateSessionIdle => exact h.timedRom_passes _ _
  -- What is left is the command frames.
  all_goals cases hop

theorem exec_unpowered {s : State} (i : Instr) (h : Unpowered s) (hrow : supplyRow i = false) : TimePasses s (exec i s) := by
  cases hop : opRow i
  case none => exact exec_event_unpowered i h hrow hop
  case some c => exact timePasses_of_next (exec_opRow_silent hop h.speaks)

/-! ## OFF is left by the start dwell alone (R351) -/

theorem timedAny_phase {dt : Nat} {f : State → State} {s : State} (h : (f (s.advance dt)).phase = .off) :
    ∃ t, timedAny dt f s = .next t ∧ t.phase = .off := ⟨_, rfl, h⟩

theorem State.setBypass_phase (st : Nat) (s : State) : (s.setBypass st).phase = s.phase := by
  unfold State.setBypass State.setGuard
  split
  · rfl
  · rw [State.emit_phase]; rfl

theorem State.shutStore_of_phase {s : State} (h : s.phase ≠ .shuttingDown) : s.shutStore = s := if_neg fun hs => h hs.1

theorem State.powerEvent_phase (kind : Nat) (s : State) : (s.powerEvent kind).phase = s.phase := State.emit_phase _ _ _

theorem State.recharged_phase (s : State) : s.recharged.phase = s.phase := by
  unfold State.recharged
  split
  · split <;> rfl
  · rfl

theorem State.wakeFrom_off {s : State} (src : Nat) (enabled : Bool) (h : s.phase = .off) : s.wakeFrom src enabled = s := by
  unfold State.wakeFrom
  rw [h]

theorem State.wakeWaitEnd_off {s : State} (h : s.phase = .off) : s.wakeWaitEnd = s := by
  unfold State.wakeWaitEnd
  rw [h]

theorem State.mainTo_off {s : State} (v : Nat) (h : s.phase = .off) : s.mainTo v = s.modPower fun p => { p with main := v } := by
  unfold State.mainTo State.modPower
  simp only [h]

theorem State.kaTo_phase_off {s : State} (v : Nat) (h : s.phase = .off) : (s.kaTo v).phase = .off := by
  unfold State.kaTo
  simp only [State.railsUp, State.modPower, h, Bool.false_eq_true, reduceCtorEq, false_and, if_false]
  split
  · rw [State.powerEvent_phase]
  · split
    · rw [State.powerEvent_phase]
    · rfl

theorem exec_supplyRow_off {s : State} (i : Instr) (h : s.phase = .off) (hrow : supplyRow i = true) :
    ∃ t, exec i s = .next t ∧ (t.phase = .off ∨ ∃ dt, i = .mainStartDwell dt) := by
  have hstays : ∀ {dt : Nat} {f : State → State} {i : Instr}, (f (s.advance dt)).phase = .off →
      ∃ t, timedAny dt f s = .next t ∧ (t.phase = .off ∨ ∃ dt, i = .mainStartDwell dt) := fun hf =>
    (timedAny_phase hf).imp fun _ ht => ⟨ht.1, .inl ht.2⟩
  cases i <;> try cases hrow
  case mainStartDwell dt =>
    obtain ⟨t, ht⟩ := timedAny_next dt (fun a => if a.railsUp then a else a.startDwell) s
    exact ⟨t, ht, .inr ⟨dt, rfl⟩⟩
  case powerTierChange dt v => exact hstays (by rw [State.mainTo_off v (s := s.advance dt) h]; exact h)
  case supplyAboveOperatingMax dt v => exact hstays (by rw [State.mainTo_off v (s := s.advance dt) h]; exact h)
  case holdupRechargeEnd dt => exact hstays (by rw [State.recharged_phase]; exact h)
  case kaSupplyChange dt v => exact hstays (State.kaTo_phase_off v (s := s.advance dt) h)
  case wakeInput dt => exact hstays (by rw [State.wakeFrom_off _ _ (s := s.advance dt) h]; exact h)
  case canWakePattern dt ch => exact hstays (by rw [State.wakeFrom_off _ _ (s := s.advance dt) h]; exact h)
  case parkTimerExpiry dt =>
    exact hstays (by
      rw [State.parkTimer, if_neg (by simp [h])]
      exact h)
  case wakeWaitExpiry dt => exact hstays (by rw [State.wakeWaitEnd_off (s := s.advance dt) h]; exact h)
  case bypassCloseDone dt =>
    have hshut : (s.advance dt).shutStore = s.advance dt := State.shutStore_of_phase (by simp [h])
    refine hstays (f := fun a => if a.get It.bypassState = 3 then a.shutStore.setBypass 0 else a) ?_
    split
    · rw [State.setBypass_phase, hshut]
      exact h
    · exact h

/-- Settles O50: the rows of an unpowered module by their forms, and in OFF those of its supplies by their effects. -/
theorem nothingRunsWithoutPower : Obligations.NothingRunsWithoutPower := by
  unfold Obligations.NothingRunsWithoutPower
  refine ⟨fun s i h hrow => exec_unpowered i h hrow, fun s i h => ?off, fun s i c hrow h => exec_opRow_silent hrow h⟩
  case off =>
    cases hrow : supplyRow i
    · obtain ⟨t, ht, hsame⟩ := exec_unpowered (s := s) i (.inl h) hrow
      exact ⟨t, ht, .inl (by rw [hsame]; exact h)⟩
    · obtain ⟨t, ht, hoff | ⟨dt, rfl⟩⟩ := exec_supplyRow_off i h hrow
      · exact ⟨t, ht, .inl hoff⟩
      · exact ⟨t, ht, .inr rfl⟩

end Sys2Proof.Machine
end

section
/-! SUPPORT. States that differ in items and mailboxes alone, under the changes of one component; and the clock under what
events, link tests, update sessions and lane restarts do. -/

namespace Sys2Proof.Machine

open Sys2Proof.Safety

/-! ## Items and mailboxes alone -/

/-- From a state to one that differs in the items listed, the counters of lost events and the frames in its mailboxes. -/
structure ItemsOnly (ks : List Nat) (s t : State) : Prop where
  items : ItemsBut ks s t
  owner : SameOwner s t
  frame : t = { s with items := t.items, mail := t.mail }

section
variable {ks : List Nat} {s t u : State}

theorem ItemsOnly.refl (ks : List Nat) (s : State) : ItemsOnly ks s s := ⟨fun _ _ _ => rfl, rfl, rfl⟩

theorem ItemsOnly.trans (h : ItemsOnly ks s t) (h' : ItemsOnly ks t u) : ItemsOnly ks s u where
  items k hk hlost := (h'.items k hk hlost).trans (h.items k hk hlost)
  owner := sameOwner_trans h.owner h'.owner
  frame := by rw [h'.frame, h.frame]

theorem ItemsOnly.mono {ks' : List Nat} (h : ItemsOnly ks s t) (hsub : ks ⊆ ks') : ItemsOnly ks' s t :=
  ⟨fun k hk => h.items k fun hmem => hk (hsub hmem), h.owner, h.frame⟩

theorem ItemsOnly.clk (h : ItemsOnly ks s t) : t.clk = s.clk := by rw [h.frame]

theorem ItemsOnly.pending (h : ItemsOnly ks s t) : t.pending = s.pending := by rw [h.frame]

theorem ItemsOnly.panel (h : ItemsOnly ks s t) : t.panel = s.panel := by rw [h.frame]

theorem ItemsOnly.ring (h : ItemsOnly ks s t) : t.ring = s.ring := by rw [h.frame]

theorem ItemsOnly.lanes (h : ItemsOnly ks s t) : t.lanes = s.lanes := by rw [h.frame]

theorem ItemsOnly.power (h : ItemsOnly ks s t) : t.power = s.power := by rw [h.frame]

theorem ItemsOnly.fw (h : ItemsOnly ks s t) : t.fw = s.fw := by rw [h.frame]

/-- Beside items and mailboxes, one component differs. -/
theorem ItemsOnly.frame_panel {p : PanelBank} (h : ItemsOnly ks { s with panel := p } t) :
    t = { s with items := t.items, mail := t.mail, panel := t.panel } := h.frame.trans (by rw [h.panel])

theorem ItemsOnly.frame_ring {r : RingBank} (h : ItemsOnly ks { s with ring := r } t) :
    t = { s with items := t.items, mail := t.mail, ring := t.ring } := h.frame.trans (by rw [h.ring])

theorem ItemsOnly.frame_lanes {l : LaneBank} (h : ItemsOnly ks { s with lanes := l } t) :
    t = { s with items := t.items, mail := t.mail, lanes := t.lanes } := h.frame.trans (by rw [h.lanes])

theorem ItemsOnly.frame_power {p : PowerBank} (h : ItemsOnly ks { s with power := p } t) :
    t = { s with items := t.items, mail := t.mail, power := t.power } := h.frame.trans (by rw [h.power])

theorem ItemsOnly.get (h : ItemsOnly ks s t) {c i f : Nat} (hk : itemKey c i f ∉ ks) (hf : f % 256 ≠ 0x0a) :
    t.get (itemKey c i f) = s.get (itemKey c i f) :=
  h.items _ hk (ne_eventsLost_of_field hf)

theorem ItemsOnly.set (h : ItemsOnly ks s t) {k : Nat} (v : Nat) (hk : k ∈ ks) : ItemsOnly ks s (t.set k v) :=
  h.trans ⟨fun _ hj _ => State.get_set_of_ne t v fun heq => hj (heq ▸ hk), rfl, rfl⟩

theorem ItemsOnly.bump (h : ItemsOnly ks s t) {k : Nat} (hk : k ∈ ks) : ItemsOnly ks s (t.bump k) := h.set _ hk

theorem ItemsOnly.bumpBy (h : ItemsOnly ks s t) {k : Nat} (n : Nat) (hk : k ∈ ks) : ItemsOnly ks s (t.bumpBy k n) := h.set _ hk

theorem ItemsOnly.emit (h : ItemsOnly ks s t) (code : Nat) (p : List Byte) : ItemsOnly ks s (t.emit code p) := by
  obtain ⟨ms, it, heq, hget⟩ := State.emit_shape code p t
  rw [heq]
  exact h.trans ⟨fun k _ hk => hget k hk, rfl, rfl⟩

theorem ItemsOnly.setGuard (h : ItemsOnly ks s t) {k : Nat} (g code : Nat) (p : List Byte) (hk : k ∈ ks) :
    ItemsOnly ks s (t.setGuard k g code p) := by
  unfold State.setGuard
  split
  · exact h
  · exact (h.set g hk).emit code p

/-- A component changed on both sides alike. -/
theorem ItemsOnly.modRing (h : ItemsOnly ks s t) (f : RingBank → RingBank) : ItemsOnly ks (s.modRing f) (t.modRing f) :=
  ⟨h.items, h.owner, congrArg (State.modRing f) h.frame⟩

theorem ItemsOnly.modLanes (h : ItemsOnly ks s t) (f : LaneBank → LaneBank) : ItemsOnly ks (s.modLanes f) (t.modLanes f) :=
  ⟨h.items, h.owner, congrArg (State.modLanes f) h.frame⟩

theorem ItemsOnly.modPower (h : ItemsOnly ks s t) (f : PowerBank → PowerBank) : ItemsOnly ks (s.modPower f) (t.modPower f) :=
  ⟨h.items, h.owner, congrArg (State.modPower f) h.frame⟩

end

/-! ## Reading an item that another one's change leaves -/

theorem State.get_emit_of_field (code : Nat) (p : List Byte) (s : State) {c i f : Nat} (h : f % 256 ≠ 0x0a) :
    (s.emit code p).get (itemKey c i f) = s.get (itemKey c i f) := State.emit_get _ _ _ _ (ne_eventsLost_of_field h)

theorem State.get_bump_of_field (s : State) {c i f c' i' f' : Nat} (h : f' % 256 ≠ f % 256) :
    (s.bump (itemKey c i f)).get (itemKey c' i' f') = s.get (itemKey c' i' f') :=
  s.get_bump_of_ne (itemKey_ne_of_field h)

/-! ## The clock and the queue -/

/-- Neither the clock nor the queue of commands differs. -/
structure KeepsClock (s t : State) : Prop where
  clk : t.clk = s.clk
  pending : t.pending = s.pending

theorem KeepsClock.refl (s : State) : KeepsClock s s := ⟨rfl, rfl⟩

theorem KeepsClock.trans {s t u : State} (h : KeepsClock s t) (h' : KeepsClock t u) : KeepsClock s u :=
  ⟨h'.clk.trans h.clk, h'.pending.trans h.pending⟩

section
variable {s t u : State}

theorem KeepsClock.set (h : KeepsClock s t) (k v : Nat) : KeepsClock s (t.set k v) := ⟨h.clk, h.pending⟩

theorem KeepsClock.bump (h : KeepsClock s t) (k : Nat) : KeepsClock s (t.bump k) := h.set _ _

theorem KeepsClock.emit (h : KeepsClock s t) (code : Nat) (p : List Byte) : KeepsClock s (t.emit code p) :=
  ⟨(State.emit_clk _ _ _).trans h.clk, (State.emit_pending _ _ _).trans h.pending⟩

theorem KeepsClock.modRing (h : KeepsClock s t) (f : RingBank → RingBank) : KeepsClock s (t.modRing f) := ⟨h.clk, h.pending⟩

theorem KeepsClock.modLanes (h : KeepsClock s t) (f : LaneBank → LaneBank) : KeepsClock s (t.modLanes f) := ⟨h.clk, h.pending⟩

theorem KeepsClock.modFw (h : KeepsClock s t) (f : UpdBank → UpdBank) : KeepsClock s (t.modFw f) := ⟨h.clk, h.pending⟩

theorem KeepsClock.ite {c : Prop} [Decidable c] (h : KeepsClock s t) (h' : KeepsClock s u) : KeepsClock s (if c then t else u) := by
  split
  · exact h
  · exact h'

theorem KeepsClock.each {f : Nat → State → State} (l : List Nat) (h : KeepsClock s t) (hf : ∀ n u, KeepsClock u (f n u)) :
    KeepsClock s (t.each l f) :=
  List.foldlRecOn (motive := KeepsClock s) _ _ h fun u hu n _ => hu.trans (hf n u)

end

theorem State.ringJudge_keepsClock (s : State) : KeepsClock s s.ringJudge := by
  have hset := (KeepsClock.refl s).set It.ringMembers (s.ringPeers.length + 1)
  unfold State.ringJudge
  exact .ite hset (.emit (.ite ((hset.set _ _).bump _) (hset.set _ _)) _ _)

theorem State.endTest_keepsClock (link : Nat) (s : State) : KeepsClock s (s.endTest link) := by
  unfold State.endTest
  split
  · exact .refl s
  · have hset := ((((KeepsClock.refl s).modRing fun r => { r with tests := upd r.tests link fun _ => none }).set (It.ltState link) 0).set
      (It.ltPattern link) 0)
    exact .emit (.ite ((hset.set _ _).trans (State.ringJudge_keepsClock _)) hset) _ _

theorem State.endInject_keepsClock (link : Nat) (s : State) : KeepsClock s (s.endInject link) := by
  unfold State.endInject
  split
  · exact .refl s
  · exact (((KeepsClock.refl s).modRing _).set _ _).emit _ _

theorem State.endTests_keepsClock (s : State) : KeepsClock s s.endTests :=
  (KeepsClock.each _ (.refl s) State.endTest_keepsClock).each _ State.endInject_keepsClock

theorem State.setUpd_keepsClock (st cause : Nat) (s : State) : KeepsClock s (s.setUpd st cause) :=
  ((KeepsClock.refl s).set _ _).emit _ _

theorem State.endSession_keepsClock (outcome cause : Nat) (s : State) : KeepsClock s (s.endSession outcome cause) := by
  unfold State.endSession
  split
  · exact .refl s
  · exact ((((State.setUpd_keepsClock 0 cause s).modFw fun w => { w with ses := none }).set _ _).set _ _).emit _ _

theorem State.updDiscard_keepsClock (outcome : Nat) (s : State) : KeepsClock s (s.updDiscard outcome) := by
  unfold State.updDiscard
  split
  · exact .refl s
  · refine .ite (.refl s) (.trans ?_ (State.endSession_keepsClock _ _ _))
    exact List.foldlRecOn (motive := KeepsClock s) _ _ (.refl s) fun t ht x _ => .ite ⟨ht.clk, ht.pending⟩ ht

theorem State.countRestart_keepsClock (x : Nat) (s : State) : KeepsClock s (s.countRestart x) :=
  (((KeepsClock.refl s).modLanes _).set _ _).bump _

theorem State.setLane_keepsClock (x st cause : Nat) (s : State) : KeepsClock s (s.setLane x st cause) := by
  have hset := (KeepsClock.refl s).set (It.laneState x) st
  exact .emit (.ite hset (hset.set _ _)) _ _

theorem State.restartLane_keepsClock (x cause : Nat) (s : State) : KeepsClock s (s.restartLane x cause) :=
  ((((State.endTests_keepsClock s).trans (State.updDiscard_keepsClock 3 _)).trans (State.countRestart_keepsClock x _)).modLanes _).trans
    (State.setLane_keepsClock _ _ _ _)

end Sys2Proof.Machine
end

section
/-! SUPPORT. The opcodes of redundancy and of power (spec 12 and 13, Tables 12.8 and 13.11). -/

namespace Sys2Proof.Machine

open Sys2Proof.Safety

theorem State.activating_of_lt {s : State} (h : s.get It.updState < 4) : s.activating = false := by
  simpa [State.activating] using h

theorem get_updState_taking (m : Nat) (f : Frame) (a : State) : (taking m f a).get It.updState = a.get It.updState :=
  get_taking_of_field m f a (by decide)

theorem get_laneState_taking (m : Nat) (f : Frame) (a : State) (x : Nat) :
    (taking m f a).get (It.laneState x) = a.get (It.laneState x) := get_taking_of_field m f a (by decide)

/-! ## The opcodes on the state in which they execute -/

theorem opStateSet_of_other (m : Nat) (f : Frame) (s : State) (hv : u8At f.p 0 ≤ 1) (hz : zeroAt f.p 1 3 = true)
    (hst : s.get It.opState = 2 - u8At f.p 0) (hpend : s.power.pend = none) (hupd : s.get It.updState < 4) :
    opStateSet m f s = reply [] (s.setPending (u8At f.p 0)) := by
  have hform : ¬ (2 < u8At f.p 0 ∨ (!zeroAt f.p 1 3) = true) := by simp [hz]; omega
  have hadmitted : ¬ (s.get It.opState = u8At f.p 0 + 1 ∨ s.power.pend.isSome = true ∨ s.get It.opState = 0 ∨ s.get It.opState = 3 ∨
      (u8At f.p 0 = 2 ∧ s.power.ka < volts 9) ∨ s.activating = true) := by
    simp only [hpend, State.activating_of_lt hupd, hst, Option.isSome_none, Bool.false_eq_true, false_or, or_false]
    omega
  unfold opStateSet
  simp only
  rw [if_neg hform, if_neg hadmitted]

theorem opModuleReset_of_mode0 (m : Nat) (f : Frame) (s : State) (hmode : u8At f.p 0 = 0) (hz : zeroAt f.p 1 3 = true)
    (hupd : s.get It.updState < 4) : opModuleReset m f s = reply [] (s.setPending 3) := by
  unfold opModuleReset
  rw [if_neg (by simp [hmode, hz]), if_neg (by simp [State.activating_of_lt hupd])]

theorem opLaneSwitch_of_standby (m : Nat) (f : Frame) (s : State) (hx : u8At f.p 0 ≤ 1) (hz : zeroAt f.p 1 3 = true)
    (hstandby : s.get (It.laneState (u8At f.p 0)) = 3) (hsw : s.lanes.sw = none) (hupd : s.get It.updState < 4) :
    opLaneSwitch m f s = reply [] (s.startSwitch (u8At f.p 0) 0) := by
  have hlane : s.lane (u8At f.p 0) = 3 := hstandby
  unfold opLaneSwitch
  simp only
  rw [if_neg (by simp [hx, hz]), if_neg (by simp [hlane, hsw, State.activating_of_lt hupd])]

theorem opLaneRestart_of_idle (m : Nat) (f : Frame) (s : State) (hx : u8At f.p 0 ≤ 1) (hz : zeroAt f.p 1 3 = true)
    (hstate : s.get (It.laneState (u8At f.p 0)) = 3 ∨ s.get (It.laneState (u8At f.p 0)) = 5 ∨ s.get (It.laneState (u8At f.p 0)) = 6)
    (hupd : s.get It.updState < 4) :
    opLaneRestart m f s =
      reply [] ((s.modLanes fun l => { l with starts := upd l.starts (u8At f.p 0) fun _ => [] }).restartLane (u8At f.p 0) 15) := by
  have hadmitted : ¬ (s.lane (u8At f.p 0) = 4 ∨ s.lane (u8At f.p 0) = 1 ∨ s.lane (u8At f.p 0) = 2 ∨ s.activating = true) := by
    simp only [State.lane, State.activating_of_lt hupd, Bool.false_eq_true, or_false]
    omega
  unfold opLaneRestart
  simp only
  rw [if_neg (by simp [hx, hz]), if_neg hadmitted]

/-! ## The obligations -/

/-- Settles O42: on the state in which a taken frame executes, each opcode has the effect and the answer named. -/
theorem powerCommandsAnswer : Obligations.PowerCommandsAnswer := by
  unfold Obligations.PowerCommandsAnswer
  refine ⟨?read, ?stateSet, ?reset⟩
  case read =>
    intro s dt m h p ha
    exact cmdRow_replied opPowerRead _ dt m h p s id _ ha rfl rfl rfl
  case stateSet =>
    intro s dt m h p ha hv hz hst hpend hupd
    refine cmdRow_replied opStateSet _ dt m h p s _ _ ha (opStateSet_of_other m _ _ hv hz ?_ hpend ?_) rfl rfl
    · rwa [get_taking_of_field _ _ _ (by decide)]
    · rwa [get_updState_taking]
  case reset =>
    intro s dt m h p ha hmode hz hupd
    refine cmdRow_replied opModuleReset _ dt m h p s _ _ ha (opModuleReset_of_mode0 m _ _ hmode hz ?_) rfl rfl
    rwa [get_updState_taking]

/-- Settles O39: on the state in which a taken frame executes, each opcode has the effect and the answer named. -/
theorem redundancyCommandsAnswer : Obligations.RedundancyCommandsAnswer := by
  unfold Obligations.RedundancyCommandsAnswer
  refine ⟨?read, ?switch, ?restart⟩
  case read =>
    intro s dt m h p ha
    exact cmdRow_replied opRedRead _ dt m h p s id _ ha rfl rfl rfl
  case switch =>
    intro s dt m h p ha hx hz hstandby hsw hupd
    refine cmdRow_replied opLaneSwitch _ dt m h p s _ _ ha (opLaneSwitch_of_standby m _ _ hx hz ?_ hsw ?_) rfl rfl
    · rwa [get_laneState_taking]
    · rwa [get_updState_taking]
  case restart =>
    intro s dt m h p ha hx hz hstate hupd
    have hclock := State.restartLane_keepsClock (u8At p 0) 15
      ((taking m (rowFrame 0x0d02 h p) (s.advance dt)).modLanes fun l => { l with starts := upd l.starts (u8At p 0) fun _ => [] })
    refine cmdRow_replied opLaneRestart _ dt m h p s _ _ ha (opLaneRestart_of_idle m _ _ hx hz ?_ ?_) hclock.clk hclock.pending
    · rwa [get_laneState_taking]
    · rwa [get_updState_taking]

end Sys2Proof.Machine
end

section
/-! SUPPORT. A link test of an inter-die link while the other lane is STANDBY (Table 11.4). -/

namespace Sys2Proof.Machine

open Sys2Proof.Safety

/-- Lane A holds the role, lane B is STANDBY, test_access is open, and master 0 is the owner. -/
def standbyUnderTestAccess : State :=
  let r : State := { State.reset with
    phase := .up, lanes := { State.reset.lanes with consuming := true }, mail := { State.reset.mail with owner := some 0 } }
  ((r.set (It.sessionState 0) 2).set It.testAccess 1).set (It.laneState 1) 3

/-- The payload of LINK_TEST_START of link 2 with pattern 1 for 1 ms. -/
def startLink2 : List Byte := [2, 1, 0, 0, 1, 0, 0, 0]

/-- The header of master 0 for it. -/
def startLink2Hdr : Hdr :=
  let h : Hdr := { mfield := 0, ring := 0, flags := 0, seq := 0, slate := 0xff, rsv := 0, status := 0, check := 0 }
  { h with check := BitVec.ofNat 32 (expectedCheck (rowFrame 0x1300 h startLink2)) }

theorem standbyUnderTestAccess_accepts : Accepts 0 (rowFrame 0x1300 startLink2Hdr startLink2) (standbyUnderTestAccess.advance 0) := by
  decide +kernel

/-- Refutes O35: clause (e) reads `if link < 4 then the other lane is not STANDBY else … → exec …`, and the arrow belongs to the
`else`. For link 2 or 3 the clause therefore has no premise about the other lane: it claims that a taken frame finds it other than
STANDBY. In `standbyUnderTestAccess` it is STANDBY, and the model refuses the test (Table 11.4). -/
theorem not_linkTestsAndInjectionsRun : ¬ Obligations.LinkTestsAndInjectionsRun := by
  unfold Obligations.LinkTestsAndInjectionsRun
  rintro ⟨-, -, -, -, hstart, -⟩
  have hclause := hstart standbyUnderTestAccess 0 0 startLink2Hdr startLink2 standbyUnderTestAccess_accepts (by decide) (by decide)
    (.inl (by decide)) (by decide) (by decide) (by decide) (by decide +kernel) (by decide) (by decide)
  rw [if_pos (by decide)] at hclause
  exact absurd (show standbyUnderTestAccess.get (It.laneState (1 - standbyUnderTestAccess.lanes.latch)) = 3 by decide +kernel) hclause

end Sys2Proof.Machine
end

section
/-! SUPPORT. Block frames of an update session that carry a flag (R72, R371). -/

namespace Sys2Proof.Machine

open Sys2Proof.Safety

/-- The one block of a component of one byte. -/
def oneByteBlock : List Byte := toLE 4 0 ++ toLE 4 0 ++ toLE 4 1 ++ toLE 4 (crc32c [7]) ++ [7]

/-- A session of one component of one byte. -/
def oneByteSession : UpdSession := { id := 1, mode := 0, man := {}, comps := [{ kind := 2, size := 1 }] }

/-- The session with the block stored. -/
def oneByteStored : UpdSession := { oneByteSession with blocks := [(0, 0, [7])] }

/-- An update session is RECEIVING, and the BLK frame that carries the block of its component bears a flag. -/
def receivingFlagged : State :=
  let r : State := { State.reset with
    phase := .up, lanes := { State.reset.lanes with consuming := true }, mail := { State.reset.mail with owner := some 0 }
    fw := { State.reset.fw with ses := some oneByteSession } }
  ((r.set (It.sessionState 0) 2).set It.updState 1).modMaster 0 fun ma => { ma with
    blks := [{ seq := 0, payload := oneByteBlock, at_ := 0, flagged := true }] }

/-- The payload of UPD_BLOCKS of the one frame of sequence 0. -/
def blocksPayload : List Byte := [0, 0, 1, 0, 0, 0, 0, 0]

/-- The header of master 0 for it. -/
def blocksHdr : Hdr :=
  let h : Hdr := { mfield := 0, ring := 0, flags := 0, seq := 0, slate := 0xff, rsv := 0, status := 0, check := 0 }
  { h with check := BitVec.ofNat 32 (expectedCheck (rowFrame 0x0f01 h blocksPayload)) }

theorem receivingFlagged_accepts : Accepts 0 (rowFrame 0x0f01 blocksHdr blocksPayload) (receivingFlagged.advance 0) := by
  decide +kernel

/-- How many blocks the update session holds in the state that a step answers. -/
def blocksHeld : Host.Outcome State Fault Refusal → Nat
  | .next t => (t.fw.ses.map fun u => u.blocks.length).getD 0
  | _ => 0

/-- Refutes O44: clause (b) has no premise that the frames of the transfer are without flags. UPD_BLOCKS refuses a frame that carries
one (R72) before it looks at its block, so in `receivingFlagged` the model stores nothing, where the clause stores the block. -/
theorem not_updateCommandsAnswer : ¬ Obligations.UpdateCommandsAnswer := by
  unfold Obligations.UpdateCommandsAnswer
  rintro ⟨-, hblocks, -⟩
  have hclause := hblocks receivingFlagged 0 0 blocksHdr blocksPayload oneByteSession oneByteStored
    [{ seq := 0, payload := oneByteBlock, at_ := 0, flagged := true }] receivingFlagged_accepts (by decide) (by decide) (by decide)
    rfl (by decide +kernel) (by decide +kernel) (by decide +kernel)
  have hmodel : blocksHeld (exec (.updBlocks 0 0 blocksHdr blocksPayload) receivingFlagged) = 0 := by decide +kernel
  rw [hclause] at hmodel
  exact absurd hmodel (by decide +kernel)

end Sys2Proof.Machine
end

section
/-! SUPPORT. The status panel: updates, readings, the edge loop and the opcodes (spec 16, R404 to R413, Table 16.5). -/

namespace Sys2Proof.Machine

open Sys2Proof.Safety

section
variable {ks : List Nat} {s t : State}

theorem ItemsOnly.setPanel (h : ItemsOnly ks s t) (st : Nat) (hk : It.panelState ∈ ks) : ItemsOnly ks s (t.setPanel st) :=
  h.setGuard st _ _ hk

theorem State.get_setPanel (st : Nat) (s : State) : (s.setPanel st).get It.panelState = st :=
  s.get_setGuard st _ _ (by decide)

theorem State.get_setPanel_of_field (st : Nat) (s : State) {c i f : Nat} (hstate : f % 256 ≠ 0x20) (hlost : f % 256 ≠ 0x0a) :
    (s.setPanel st).get (itemKey c i f) = s.get (itemKey c i f) :=
  ((ItemsOnly.refl [It.panelState] s).setPanel st (by simp)).get (by simpa using itemKey_ne_of_field hstate) hlost

/-- Between updates and outside FAULT the band alone decides the state (R406). -/
theorem State.panelRest_of_idle (hstate : s.get It.panelState ≠ 3) (hupd : s.panel.upd = none) :
    s.panelRest = s.setPanel (if s.get It.panelBand = 0 then 2 else 0) := if_neg (by simp [hstate, hupd])

theorem State.panelStop_of_idle (hupd : s.panel.upd = none) : s.panelStop = s := by
  unfold State.panelStop
  rw [hupd]

/-! ## An update starts (R405, R406, R409) -/

theorem State.edgeLoop_of_whole {ohms : Nat} (h : ohms ≤ 2000 * 65536) :
    s.edgeLoop ohms = s.set It.panelCrackOhm (min ohms 2147418112) := if_neg (Nat.not_lt.2 h)

/-- What an update of a page latches, and what the in-progress record holds. -/
def State.panelLatch (s : State) (target : Nat) (clr : Bool) : PanelBank :=
  let clearing := clr || s.panel.glass.isNone || decide (s.get It.panelClearEvery ≤ s.panel.since + 1)
  { s.panel.served with
    upd := some { target := target, image := s.page target, clearing := clearing, prev := s.panel.glass, band := s.get It.panelBand
                  total := updFrames clearing (s.get It.panelBand) s.panel.glass (s.page target), start := s.now }
    rec_ := some (target, clearing, s.get It.panelShown) }

theorem PanelBank.served_keeps (p : PanelBank) : p.served.pages = p.pages ∧ p.served.glass = p.glass := by
  unfold PanelBank.served
  split
  · exact ⟨rfl, rfl⟩
  · split <;> exact ⟨rfl, rfl⟩

theorem State.get_set_crackOhm (v : Nat) (s : State) {c i f : Nat} (h : f % 256 ≠ 0x24) :
    (s.set It.panelCrackOhm v).get (itemKey c i f) = s.get (itemKey c i f) := s.get_set_of_field h

theorem State.panelStart_of_free {ohms target : Nat} {clr : Bool} (hnext : s.panelNext = some (target, clr)) (hfree : s.panelFree = true)
    (hreserve : 2 * 65536 ≤ s.get It.holdupReserveMs) (hohms : ohms ≤ 2000 * 65536) :
    s.panelStart ohms =
      (({ s with panel := s.panelLatch target clr } : State).set It.panelCrackOhm (min ohms 2147418112)).setPanel 1 := by
  have hready : s.get It.panelState = 0 := by
    simp only [State.panelFree, Bool.and_eq_true, beq_iff_eq] at hfree
    exact hfree.1.1.1.1.1.1
  have hcrack : ∀ {c i f : Nat}, f % 256 ≠ 0x24 →
      (s.set It.panelCrackOhm (min ohms 2147418112)).get (itemKey c i f) = s.get (itemKey c i f) := s.get_set_crackOhm _
  unfold State.panelStart
  simp only [hnext, hfree, Bool.not_true, Bool.false_eq_true, if_false, Nat.not_lt.2 hreserve, State.edgeLoop_of_whole hohms]
  rw [if_neg (by rw [hcrack (by decide), hready]; decide)]
  rw [hcrack (f := 0x02) (by decide), hcrack (f := 0x21) (by decide), hcrack (f := 0x23) (by decide)]
  rfl

/-! ## Frames, the end of an update, readings and the edge loop (R408, R413) -/

theorem State.panelFrame_of_driven {u : PanelUpd} (temp : Int) (hupd : s.panel.upd = some u) (hframe : u.frame < u.total) :
    s.panelFrame temp = { s.set It.panelTempC (twos 32 (clampInt (-3276800) 6553600 temp)) with
      panel := { s.panel with upd := some { u with frame := u.frame + 1, suspect := (u.suspect || decide (2 < (bandOf temp - u.band) + (u.band - bandOf temp))) } } } := by
  unfold State.panelFrame
  simp only [hupd, if_pos hframe]
  rfl

/-- What a completed update leaves of the panel. -/
def State.panelDone (s : State) (u : PanelUpd) : PanelBank :=
  { s.panel with upd := none, glass := some u.image, rec_ := none, lastEnd := s.now, since := (if u.clearing then 0 else s.panel.since + 1) }

/-- The items of a completed update before its event. -/
def State.panelCounted (s : State) (u : PanelUpd) : State :=
  ((({ s with panel := s.panelDone u } : State).set It.panelShown u.target).bump It.panelUpdates).set It.panelBand
    (bandFollow (s.get It.panelBand) (s.geti It.panelTempC))

theorem State.panelEnd_of_sound {u : PanelUpd} (hupd : s.panel.upd = some u) (hframe : u.total ≤ u.frame) (hsound : u.suspect = false) :
    s.panelEnd = ((s.panelCounted u).panelEvent u 0).panelRest := by
  have hband : ∀ {c i f : Nat} (q : State), f % 256 ≠ 0x23 → f % 256 ≠ 0x25 →
      ((q.set It.panelShown u.target).bump It.panelUpdates).get (itemKey c i f) = q.get (itemKey c i f) := fun q hshown hcount =>
    (State.get_bump_of_field _ hcount).trans (State.get_set_of_field _ hshown)
  unfold State.panelEnd
  simp only [hupd, if_neg (Nat.not_lt.2 hframe), hsound, Bool.false_eq_true, if_false, State.geti]
  rw [hband (f := 0x21) _ (by decide) (by decide), hband (f := 0x22) _ (by decide) (by decide)]
  rfl

theorem State.panelCounted_itemsOnly (u : PanelUpd) (s : State) :
    ItemsOnly [It.panelShown, It.panelUpdates, It.panelBand, It.panelState] { s with panel := s.panelDone u } (s.panelCounted u) :=
  (((ItemsOnly.refl _ _).set _ (by simp)).bump (by simp)).set _ (by simp)

theorem State.get_panelEvent_of_field (u : PanelUpd) (outcome : Nat) (s : State) {c i f : Nat} (h : f % 256 ≠ 0x0a) :
    (s.panelEvent u outcome).get (itemKey c i f) = s.get (itemKey c i f) := s.get_emit_of_field _ _ h

/-- After a completed update that is not suspect the panel rests as the new band says. -/
theorem State.panelEnd_of_rest {u : PanelUpd} (hupd : s.panel.upd = some u) (hframe : u.total ≤ u.frame) (hsound : u.suspect = false)
    (hstate : s.get It.panelState ≠ 3) :
    s.panelEnd = ((s.panelCounted u).panelEvent u 0).setPanel
      (if bandFollow (s.get It.panelBand) (s.geti It.panelTempC) = 0 then 2 else 0) := by
  have hband : ((s.panelCounted u).panelEvent u 0).get It.panelBand = bandFollow (s.get It.panelBand) (s.geti It.panelTempC) := by
    rw [State.get_panelEvent_of_field _ _ _ (by decide), State.panelCounted, State.get_set, if_pos rfl]
  have hkept : ((s.panelCounted u).panelEvent u 0).get It.panelState = s.get It.panelState := by
    rw [State.get_panelEvent_of_field _ _ _ (by decide), State.panelCounted, State.get_set_of_field _ (by decide),
      State.get_bump_of_field _ (by decide), State.get_set_of_field _ (by decide)]
    rfl
  have hnone : ((s.panelCounted u).panelEvent u 0).panel.upd = none := by
    rw [State.panelEvent, ((State.panelCounted_itemsOnly u s).emit _ _).panel]
    rfl
  rw [State.panelEnd_of_sound hupd hframe hsound, State.panelRest_of_idle (by rwa [hkept]) hnone, hband]

theorem State.panelTemp_of_idle (temp : Int) (hupd : s.panel.upd = none) (hread : s.panel.read = true) (hstate : s.get It.panelState ≠ 3) :
    s.panelTemp temp =
      ((s.set It.panelTempC (twos 32 (clampInt (-3276800) 6553600 temp))).set It.panelBand (bandFollow (s.get It.panelBand) temp)).setPanel
        (if bandFollow (s.get It.panelBand) temp = 0 then 2 else 0) := by
  obtain ⟨q, hq⟩ : ∃ q, q = (s.set It.panelTempC (twos 32 (clampInt (-3276800) 6553600 temp))).set It.panelBand
    (bandFollow (s.get It.panelBand) temp) := ⟨_, rfl⟩
  have hqstate : q.get It.panelState ≠ 3 := by
    rwa [hq, State.get_set_of_field _ (by decide), State.get_set_of_field _ (by decide)]
  have hqband : q.get It.panelBand = bandFollow (s.get It.panelBand) temp := by rw [hq, State.get_set, if_pos rfl]
  have hqpanel : q.panel = s.panel := by rw [hq]; rfl
  have hstep : s.panelTemp temp = (q.modPanel fun p => { p with read := true }).panelRest := by
    unfold State.panelTemp State.seti
    dsimp only
    rw [show (s.set It.panelTempC (twos 32 (clampInt (-3276800) 6553600 temp))).panel = s.panel from rfl, hupd, hread, hq,
      State.get_set_of_field _ (by decide)]
    rfl
  have hkept : (q.modPanel fun p => { p with read := true }) = q :=
    congrArg (fun p : PanelBank => { q with panel := p }) (show { q.panel with read := true } = q.panel by rw [hqpanel, ← hread])
  rw [hstep, hkept, State.panelRest_of_idle hqstate (by rw [hqpanel, hupd]), hqband, hq]

theorem State.edgeLoop_of_cracked {ohms : Nat} (hupd : s.panel.upd = none) (h : 2000 * 65536 < ohms) :
    s.edgeLoop ohms = (s.set It.panelCrackOhm (min ohms 2147418112)).setPanel 3 := by
  have honly := (ItemsOnly.refl [It.panelState] (s.set It.panelCrackOhm (min ohms 2147418112))).setPanel 3 (by simp)
  unfold State.edgeLoop
  rw [if_pos h, State.panelStop_of_idle (by rw [honly.frame]; exact hupd)]

/-! ## The opcodes -/

theorem opPanelPageLoad_of_hidden (m : Nat) (f : Frame) (s : State) {img : List Byte} (hpage : u8At f.p 0 ≤ 15) (hz : zeroAt f.p 1 1 = true)
    (hn : 0 < u16At f.p 4) (hz' : zeroAt f.p 6 2 = true)
    (himg : s.blkImage m (u16At f.p 2) (u16At f.p 4) (u32At f.p 8) (u32At f.p 12) = .ok img) (hok : pageOk img = true)
    (hupd : s.panel.upd = none) (hshown : s.get It.panelShown ≠ u8At f.p 0) :
    opPanelPageLoad m f s =
      reply [] ((s.modPanel fun p => { p with pages := upd p.pages (u8At f.p 0) fun _ => img.drop 16 }).blkConsume m (u16At f.p 2)
        (u16At f.p 4)) := by
  have hform : ¬ (15 < u8At f.p 0 ∨ (!zeroAt f.p 1 1) = true ∨ u16At f.p 4 = 0 ∨ (!zeroAt f.p 6 2) = true) := by
    simp [hpage, hz, hz', Nat.ne_of_gt hn]
  unfold opPanelPageLoad
  simp only [if_neg hform, himg, hok, hupd, Option.any_none, Bool.not_true, Bool.false_eq_true, if_false]
  exact congrArg (fun q : State => reply [] (q.blkConsume m (u16At f.p 2) (u16At f.p 4))) (if_neg hshown)

end

/-! ## The obligation -/

/-- Settles O46: what an update latches and leaves, then the opcodes on the state in which a taken frame executes. -/
theorem panelUpdatesAndRests : Obligations.PanelUpdatesAndRests := by
  unfold Obligations.PanelUpdatesAndRests
  refine ⟨?start, ?frame, ?done, ?reading, ?crack, ?load, ?read, ?refresh⟩
  case start =>
    intro s dt ohms target clr hlive hupd hnext hfree hreserve hohms
    have hstart : (s.advance dt).panelStart ohms = _ := State.panelStart_of_free hnext hfree hreserve hohms
    have honly : ItemsOnly [It.panelState, It.panelCrackOhm] { s.advance dt with panel := (s.advance dt).panelLatch target clr }
        ((s.advance dt).panelStart ohms) := hstart ▸ ((ItemsOnly.refl _ _).set _ (by simp)).setPanel 1 (by simp)
    have hidle : ¬ s.panel.upd.isSome = true := by simp [hupd]
    obtain ⟨hpages, hglass⟩ := s.panel.served_keeps
    refine ⟨_, timed_eq dt (fun a => if a.panel.upd.isSome then a else a.panelStart ohms) s _ hlive (if_neg hidle) honly.clk
      honly.pending, ?_, ?_, ?_, ?_, ?_, honly.items, honly.owner, honly.frame_panel⟩
    · rw [hstart, State.get_setPanel]
    · rw [hstart, State.get_setPanel_of_field _ _ (by decide) (by decide), State.get_set, if_pos rfl]
    · rw [honly.panel]
      exact ⟨rfl, rfl⟩
    · rw [honly.panel]
      exact hpages
    · rw [honly.panel]
      exact hglass
  case frame =>
    intro s dt temp u hlive hupd hframe
    exact timed_eq dt _ s _ hlive (State.panelFrame_of_driven (s := s.advance dt) temp hupd hframe) rfl rfl
  case done =>
    intro s dt u hlive hupd hframe hsound hstate
    have hend := State.panelEnd_of_rest (s := s.advance dt) hupd hframe hsound hstate
    have honly : ItemsOnly [It.panelShown, It.panelUpdates, It.panelBand, It.panelState]
        { s.advance dt with panel := (s.advance dt).panelDone u } (s.advance dt).panelEnd :=
      hend ▸ ((State.panelCounted_itemsOnly u _).emit _ _).setPanel _ (by simp)
    have hget : ∀ {c i f : Nat}, f % 256 ≠ 0x20 → f % 256 ≠ 0x0a →
        (s.advance dt).panelEnd.get (itemKey c i f) = ((s.advance dt).panelCounted u).get (itemKey c i f) := fun hf hlost => by
      rw [hend, State.get_setPanel_of_field _ _ hf hlost, State.get_panelEvent_of_field _ _ _ hlost]
    refine ⟨_, timed_eq dt _ s _ hlive rfl honly.clk honly.pending, ?_, ?_, ?_, ?_, ?_, honly.items, honly.owner,
      honly.frame_panel⟩
    · rw [hget (by decide) (by decide), State.panelCounted, State.get_set_of_field _ (by decide), State.get_bump_of_field _ (by decide),
        State.get_set, if_pos rfl]
    · rw [hget (by decide) (by decide), State.panelCounted, State.get_set_of_field _ (by decide), State.get_bump, if_pos rfl,
        State.get_set_of_field _ (by decide)]
      rfl
    · rw [hget (by decide) (by decide), State.panelCounted, State.get_set, if_pos rfl]
      rfl
    · rw [hend, State.get_setPanel]
      rfl
    · rw [honly.panel]
      rfl
  case reading =>
    intro s dt temp hlive hupd hread hstate
    have hidle : ¬ s.panel.upd.isSome = true := by simp [hupd]
    have htemp := State.panelTemp_of_idle (s := s.advance dt) temp hupd hread hstate
    have honly : ItemsOnly [It.panelTempC, It.panelBand, It.panelState] (s.advance dt) ((s.advance dt).panelTemp temp) :=
      htemp ▸ (((ItemsOnly.refl _ _).set _ (by simp)).set _ (by simp)).setPanel _ (by simp)
    refine ⟨_, timed_eq dt (fun a => if a.panel.upd.isSome then a else a.panelTemp temp) s _ hlive (if_neg hidle) honly.clk
      honly.pending, ?_, ?_, ?_, honly.items, honly.owner, honly.frame⟩
    · rw [htemp, State.get_setPanel_of_field _ _ (by decide) (by decide), State.get_set_of_field _ (by decide), State.get_set, if_pos rfl]
    · rw [htemp, State.get_setPanel_of_field _ _ (by decide) (by decide), State.get_set, if_pos rfl]
      rfl
    · rw [htemp, State.get_setPanel]
      rfl
  case crack =>
    intro s dt ohms hlive hupd hohms
    have hcrack := State.edgeLoop_of_cracked (s := s.advance dt) hupd hohms
    have honly : ItemsOnly [It.panelState, It.panelCrackOhm] (s.advance dt) ((s.advance dt).edgeLoop ohms) :=
      hcrack ▸ ((ItemsOnly.refl _ _).set _ (by simp)).setPanel _ (by simp)
    refine ⟨_, timed_eq dt _ s _ hlive rfl honly.clk honly.pending, ?_, ?_, honly.items, honly.owner, honly.frame⟩
    · rw [hcrack, State.get_setPanel]
    · rw [hcrack, State.get_setPanel_of_field _ _ (by decide) (by decide), State.get_set, if_pos rfl]
  case load =>
    intro s dt m h p img ha hpage hz hn hz' himg hok hupd hshown
    refine cmdRow_replied opPanelPageLoad _ dt m h p s _ _ ha
      (opPanelPageLoad_of_hidden m _ _ hpage hz hn hz' (eq_ok_of_toOption himg) hok hupd ?_) rfl rfl
    rwa [get_taking_of_field _ _ _ (by decide)]
  case read =>
    intro s dt m h p ha
    exact cmdRow_replied opPanelRead _ dt m h p s id _ ha rfl rfl rfl
  case refresh =>
    intro s dt m h p ha hstate
    refine cmdRow_replied opPanelRefresh _ dt m h p s _ _ ha (if_neg ?_) rfl rfl
    rwa [get_taking_of_field _ _ _ (by decide)]

end Sys2Proof.Machine
end

section
/-! SUPPORT. A recorder window whose record finds the record queue full (R391). -/

namespace Sys2Proof.Machine

open Sys2Proof.Safety

theorem timedRun_hist {dt : Nat} {f : State → State} {s t : State} (hruns : s.runs = true) (h : timedRun dt f s = .next t) :
    t.hist = (f (s.advance dt)).hist := by
  injection h with h
  rw [← h]
  change (if (s.advance dt).runs = true then f (s.advance dt) else s.advance dt).hist = _
  rw [if_pos (show (s.advance dt).runs = true from hruns)]

theorem RecWin.length_histBody (w : RecWin) (low width : Nat) : (w.histBody low width).length = 20 + 4 * w.bins.length := by
  have hbins : (w.bins.flatMap fun b => toLE 4 (sat32 b)).length = w.bins.length * 4 := by
    simp [List.length_flatMap]
  unfold RecWin.histBody
  simp only [List.length_append, length_toLE, hbins]
  omega

/-- A record that finds the queue full is dropped (R391). -/
theorem State.record_queue_of_full {s : State} {r : Record} (h : 1048576 < queueBytes s.hist.queue + r.size) :
    (s.record r).hist.queue = s.hist.queue := by
  unfold State.record
  rw [if_pos h]
  exact congrArg HistBank.queue (State.emit_hist _ _ _)

theorem State.openWindow_queue (ch start : Nat) (part : Bool) (s : State) : (s.openWindow ch start part).hist.queue = s.hist.queue := by
  unfold State.openWindow
  dsimp only
  split <;> rfl

/-- The window of a histogram channel closes at an instant, and its record does not fit the queue. -/
theorem State.closeNow_queue_of_full {s : State} {ch fin : Nat} {w : RecWin} (hw : nth s.hist.wins ch = some w)
    (hkind : s.get (It.recKind ch) = 1) (hfull : 1048576 < queueBytes s.hist.queue + (20 + 4 * w.bins.length)) :
    (s.closeNow ch fin 0).hist.queue = s.hist.queue := by
  have hlarge : ∀ (q : State) (fl low width : Nat),
      20 + 4 * w.bins.length ≤ (q.newRecord 1 w.carry w.start fin fl ch (w.histBody low width)).size := fun q fl low width => by
    have hsize : (q.newRecord 1 w.carry w.start fin fl ch (w.histBody low width)).size =
        (48 + (w.histBody low width).length + 4 + 7) / 8 * 8 := rfl
    rw [hsize, RecWin.length_histBody]
    omega
  unfold State.closeNow State.closeWindow
  rw [hkind]
  simp only [hw, true_or, if_true, OfNat.one_ne_ofNat, or_self, if_false]
  exact State.record_queue_of_full (Nat.lt_of_lt_of_le hfull (Nat.add_le_add_left (hlarge _ _ _ _) _))

theorem State.recorderClose_queue_of_full {s : State} {ch : Nat} {w : RecWin} (hw : nth s.hist.wins ch = some w)
    (hkind : s.get (It.recKind ch) = 1) (hfull : 1048576 < queueBytes s.hist.queue + (20 + 4 * w.bins.length)) :
    (s.recorderClose ch).hist.queue = s.hist.queue := by
  unfold State.recorderClose
  rw [hw]
  dsimp only
  split
  · rw [State.openWindow_queue, State.closeNow_queue_of_full hw hkind hfull]
  · rfl

/-- A window of 262144 bins: its record is larger than the record queue. -/
def wideWindow : RecWin := { start := 0, carry := 0, part := false, bins := List.replicate 262144 0 }

/-- Channel 0 keeps histograms, and its window is `wideWindow`. -/
def wideRecorder : State :=
  let r : State := { State.reset with phase := .up, hist := { State.reset.hist with wins := [some wideWindow] } }
  r.set (It.recKind 0) 1

theorem wideRecorder_recKind : wideRecorder.get (It.recKind 0) = 1 := by
  rw [wideRecorder, State.get_set, if_pos rfl]

theorem wideRecorder_close_queue (dt : Nat) : ((wideRecorder.advance dt).recorderClose (0 : Fin 32).val).hist.queue = [] := by
  refine State.recorderClose_queue_of_full (w := wideWindow) rfl wideRecorder_recKind ?_
  rw [show wideWindow.bins.length = 262144 from List.length_replicate]
  omega

/-- Refutes O45: clause (a) has no premise that the window has the 32 bins of a recorder channel. It takes the record to be 200
bytes long; that of `wideWindow` is larger than the record queue, which is empty, so the model drops it (R391), where the clause
finds it in the queue. -/
theorem not_recordsAreKeptAndRead : ¬ Obligations.RecordsAreKeptAndRead := by
  unfold Obligations.RecordsAreKeptAndRead
  rintro ⟨hclose, -⟩
  have hend : ∀ e, e ≤ wideRecorder.now + e := fun e => Nat.le_add_left e _
  obtain ⟨t, ht, -, hhist, -⟩ := hclose wideRecorder _ 0 wideWindow rfl (by decide) rfl
    (hend _) wideRecorder_recKind (by decide)
  have hmodel : t.hist.queue = [] := by
    rw [timedRun_hist (f := State.recorderClose (0 : Fin 32).val) rfl ht]
    exact wideRecorder_close_queue _
  rw [hhist] at hmodel
  exact List.append_ne_nil_of_right_ne_nil _ (List.cons_ne_nil _ _) hmodel

end Sys2Proof.Machine
end

section
/-! SUPPORT. Claims and resets in states that the statements of spec 12 and 13 do not exclude. -/

namespace Sys2Proof.Machine

open Sys2Proof.Safety

/-! ## A claim of the lane that the latch already names -/

/-- Lane A is STANDBY and named by the latch, while the departed lane of the gap is lane B; the standby's mtime is 5 ns behind. -/
def latchedClaim : State :=
  let r : State := { State.reset with
    phase := .up, time := { State.reset.time with standbyOff := -5 }
    lanes := { State.reset.lanes with gap := some { lane := 1, cause := 1, detect := 0, at_ := 0, quiet := true } } }
  r.set (It.laneState 0) 3

/-- Module time in the state that a step answers. -/
def mtimeAfter : Host.Outcome State Fault Refusal → Nat
  | .next t => t.clk.mtime
  | _ => 0

/-- Refutes O37: clause (c) has no premise that the latch names another lane than the one that claims. Module time goes over to the
claiming lane's own only with a change of the latch; in `latchedClaim` the latch names the claiming lane already, so the model keeps
the clock, where the clause shifts it by the standby's offset. -/
theorem not_lanesTakeTheRole : ¬ Obligations.LanesTakeTheRole := by
  unfold Obligations.LanesTakeTheRole
  rintro ⟨-, -, hclaim, -⟩
  obtain ⟨t, ht, -, -, -, -, -, -, hclk, -⟩ := hclaim latchedClaim 1000 0 { lane := 1, cause := 1, detect := 0, at_ := 0, quiet := true }
    rfl rfl rfl (by decide) rfl rfl (by decide +kernel) rfl (by decide) rfl (by decide) rfl rfl rfl (by decide +kernel) (by decide +kernel)
  have hmodel : mtimeAfter (exec (.laneClaim 1000 0) latchedClaim) = 1000 := by decide +kernel
  rw [ht, mtimeAfter, hclk] at hmodel
  exact absurd hmodel (by decide +kernel)

/-! ## A reset while a store transaction is open -/

/-- A MODULE_RESET whose response was released at K 0 waits for its K, and a store transaction is open. -/
def resetInTransaction : State :=
  let r : State := { State.reset with
    phase := .up, clk := { mtime := 100000, wall := 100000, kLast := 1, tickNext := 101 }
    power := { State.reset.power with pend := some { what := 3, cycle := 0, released := some 0 } }
    sb := { State.reset.sb with txnOpen := [[]] } }
  r.set It.persistPending 1

/-- persist_pending in the state that a step answers. -/
def persistPendingAfter : Host.Outcome State Fault Refusal → Nat
  | .next t => t.get It.persistPending
  | _ => 0

/-- Refutes O41: clause (g) has no premise that no store transaction is open. The reset completes the open ones (R116), so that
persist_pending goes to 0 in `resetInTransaction`, where the clause does not list it among the items that change. -/
theorem not_wakesStartsAndStates : ¬ Obligations.WakesStartsAndStates := by
  unfold Obligations.WakesStartsAndStates
  rintro ⟨-, -, -, -, -, -, hreset, -⟩
  obtain ⟨t, ht, -, -, -, -, -, -, -, -, -, hitems, -⟩ := hreset resetInTransaction 0 0 0 rfl rfl (by decide) (by decide +kernel) rfl
    (by decide)
  have hkept : t.get It.persistPending = 1 :=
    (hitems It.persistPending (by decide) (by decide)).trans (by decide +kernel)
  have hmodel : persistPendingAfter (exec (.moduleResetEffect 0) resetInTransaction) = 0 := by decide +kernel
  rw [ht, persistPendingAfter, hkept] at hmodel
  exact absurd hmodel (by decide)

end Sys2Proof.Machine
end

section
/-! SUPPORT. An update session makes progress: hashes, banks, the confirmation window, an idle session (spec 14, R371 to R379). -/

namespace Sys2Proof.Machine

open Sys2Proof.Safety

section
variable {s : State} {u : UpdSession}

/-! ## Component hashes (R371) -/

/-- With every component verified the banks are written (R372). -/
theorem State.updWriting_of_complete (hses : s.fw.ses = some u) (hup : s.phase = .up) (hst : s.get It.updState = 1)
    (hcomplete : u.complete = true) : s.updWriting = s.setUpd 2 0 := by
  unfold State.updWriting
  simp only [hses, hst, hcomplete, hup, reduceCtorEq, and_self, if_true, if_false]

theorem State.setUpd_of_session (st cause : Nat) (hses : s.fw.ses = some u) : s.setUpd st cause =
    (s.set It.updState st).emit 0x0f80 (toLE 1 st ++ toLE 1 cause ++ toLE 2 0 ++ toLE 4 u.id ++ toLE 8 (s.now / 100000)) := by
  unfold State.setUpd
  rw [hses]
  rfl

theorem State.modSes_of_session (f : UpdSession → UpdSession) (hses : s.fw.ses = some u) :
    s.modSes f = { s with fw := { s.fw with ses := some (f u) } } :=
  congrArg (fun o => ({ s with fw := { s.fw with ses := o } } : State)) (show s.fw.ses.map f = some (f u) by rw [hses]; rfl)

theorem State.componentHash_of_match {i : Nat} {data : List Byte} {x : Comp} (hses : s.fw.ses = some u) (hup : s.phase = .up)
    (hst : s.get It.updState = 1)
    (hfind : (List.range u.comps.length).find? (fun j => !(u.verified.contains j) && (u.dataOf j).isSome) = some i)
    (hdata : u.dataOf i = some data) (hcomp : u.comps[i]? = some x)
    (hcomplete : ({ u with verified := u.verified ++ [i] } : UpdSession).complete = true) (hhash : Config.sha384 data = x.hash) :
    s.componentHash = ({ s with fw := { s.fw with ses := some { u with verified := u.verified ++ [i] } } } : State).setUpd 2 0 := by
  unfold State.componentHash
  simp only [hses, hst, hfind, hdata, hcomp, hhash, Option.map_some, Option.getD_some, ne_eq, not_true_eq_false, if_false, if_true]
  rw [State.modSes_of_session _ hses]
  exact State.updWriting_of_complete rfl hup hst hcomplete

theorem State.componentHash_of_mismatch {i : Nat} {data : List Byte} {x : Comp} (hses : s.fw.ses = some u) (hst : s.get It.updState = 1)
    (hfind : (List.range u.comps.length).find? (fun j => !(u.verified.contains j) && (u.dataOf j).isSome) = some i)
    (hdata : u.dataOf i = some data) (hcomp : u.comps[i]? = some x) (hhash : Config.sha384 data ≠ x.hash) :
    s.componentHash = (({ s with fw := { s.fw with ses := some { u with blocks := u.blocks.filter fun b => b.1 != i } } } : State).set
      It.updBlocksMissing ({ u with blocks := u.blocks.filter fun b => b.1 != i } : UpdSession).missing).setUpd 1 1 := by
  unfold State.componentHash
  simp only [hses, hst, hfind, hdata, hcomp, hhash, Option.map_some, Option.getD_some, ne_eq, not_true_eq_false, if_false]
  rw [State.modSes_of_session _ hses]
  rfl

/-! ## Banks (R372) -/

theorem State.newBank_of_up (x st : Nat) (u : UpdSession) (hup : s.phase = .up) : s.newBank x u st =
    { st := st, seq := (s.laneFw x).running.seq + 1,
      comps := resulting (u.comps.mapIdx fun i c => { c with data := (u.dataOf i).getD [] }) (s.laneFw x).running } := by
  have hserving : ¬ s.phase = .recovery := by simp [hup]
  unfold State.newBank State.baseBank
  simp only [if_neg hserving]

theorem State.writeAt_of_up (x : Nat) (hup : s.phase = .up) : s.writeAt x = 1 - (s.laneFw x).boot := if_neg (by simp [hup])

/-- The first of two lanes has written its bank: the other one's is still to come. -/
theorem State.bankWritten_of_first {x : Nat} (hup : s.phase = .up) (hses : s.fw.ses = some u) (hst : s.get It.updState = 2)
    (hlag : u.lag = none) (hfresh : nth u.written x = false) (hother : nth u.written (1 - x) = false) :
    s.bankWritten x true = { s with fw := { s.fw with
      ses := some { u with written := upd u.written x fun _ => true }
      lanes := upd s.fw.lanes x fun l => { l with banks := upd l.banks (1 - (s.laneFw x).boot) fun _ =>
        { st := 2, seq := (s.laneFw x).running.seq + 1,
          comps := resulting (u.comps.mapIdx fun i c => { c with data := (u.dataOf i).getD [] }) (s.laneFw x).running } } } } := by
  have hcond : ¬ (s.get It.updState ≠ 2 ∨ nth u.written x = true ∨ u.lag.any (fun y => y != x) = true) := by
    simp [hst, hfresh, hlag]
  have hserving : ¬ s.phase = .recovery := by simp [hup]
  have hmod : ∀ (i : Nat) (f : FwBank → FwBank), (s.modBank x i f).fw.ses = some u := fun _ _ => hses
  unfold State.bankWritten
  rw [hses]
  dsimp only
  rw [if_neg hcond, if_pos rfl, if_neg hserving, State.modSes_of_session _ (hmod _ _), State.newBank_of_up x 2 u hup,
    State.writeAt_of_up x hup, hlag, hother]
  rfl

/-! ## The confirmation window (R375) and an idle session (Table 14.7) -/

theorem State.windowOver_of_lost (hses : s.fw.ses = some u) (hst : s.get It.updState = 6) (hmode : u.mode = 0) (hback : u.back = false)
    (hover : u.until_ ≤ s.up) (hlost : s.holdsTrial u = false) :
    s.windowOver = { s with fw := { s.fw with ses := some { u with back := true } } } := by
  have hdue : ¬ (s.get It.updState ≠ 6 ∨ u.back = true ∨ s.up < u.until_) := by simp [hst, hback, hover]
  have hmanual : ¬ u.mode = 1 := by simp [hmode]
  unfold State.windowOver State.revert
  simp only [hses, if_neg hdue, hlost, if_neg hmanual, Bool.false_eq_true, false_and, if_false]
  exact State.modSes_of_session _ hses

/-- A session that is still receiving ends without touching a bank. -/
theorem State.updDiscard_of_receiving (outcome : Nat) (hses : s.fw.ses = some u) (hst : s.get It.updState = 1) :
    s.updDiscard outcome = s.endSession outcome 0 := by
  unfold State.updDiscard
  simp only [hses, hst]
  rfl

theorem State.updIdle_of_due (hses : s.fw.ses = some u) (hst : s.get It.updState = 1) (hidle : u.lastBlk + 60000000000 ≤ s.up) :
    s.updIdle = s.updDiscard 3 := by
  unfold State.updIdle
  rw [hses]
  exact if_pos ⟨hst, hidle⟩

theorem State.endSession_of_session (outcome cause : Nat) (hses : s.fw.ses = some u) :
    s.endSession outcome cause =
      ((({ s.setUpd 0 cause with fw := { s.fw with ses := none } } : State).set It.updSession 0).set It.updBlocksMissing 0).updEnd u.id
        outcome u.lane := by
  have hfw : (s.setUpd 0 cause).fw = s.fw := by
    unfold State.setUpd
    exact State.emit_fw _ _ _
  unfold State.endSession
  rw [hses]
  dsimp only
  rw [hfw]

/-- The state after the event that upd_state is IDLE, the session gone. -/
def State.sessionGone (s : State) (u : UpdSession) : State :=
  ((({ (s.set It.updState 0).emit 0x0f80 (toLE 1 0 ++ toLE 1 0 ++ toLE 2 0 ++ toLE 4 u.id ++ toLE 8 (s.now / 100000)) with
    fw := { s.fw with ses := none } } : State).set It.updSession 0).set It.updBlocksMissing 0)

theorem State.sessionGone_keepsClock (s : State) (u : UpdSession) : KeepsClock s (s.sessionGone u) :=
  ⟨State.emit_clk _ _ _, State.emit_pending _ _ _⟩

theorem State.updIdle_eq (hses : s.fw.ses = some u) (hst : s.get It.updState = 1) (hidle : u.lastBlk + 60000000000 ≤ s.up) :
    s.updIdle = (s.sessionGone u).emit 0x0f81 (toLE 4 u.id ++ toLE 1 3 ++ toLE 1 u.lane ++ toLE 2 0 ++ toLE 8 (s.now / 100000)) := by
  have hcycle : (s.sessionGone u).cycle = s.now / 100000 :=
    congrArg (fun c : Clock => c.mtime / 100000) (s.sessionGone_keepsClock u).clk
  rw [State.updIdle_of_due hses hst hidle, State.updDiscard_of_receiving 3 hses hst, State.endSession_of_session _ _ hses,
    State.setUpd_of_session _ _ hses]
  change (s.sessionGone u).updEnd u.id 3 u.lane = _
  rw [State.updEnd, hcycle]

end

/-! ## The obligation -/

/-- Settles O43: each command of an open session by the effect of its row. -/
theorem updateSessionsProgress : Obligations.UpdateSessionsProgress := by
  unfold Obligations.UpdateSessionsProgress
  refine ⟨?hash, ?bank, ?window, ?idle⟩
  case hash =>
    intro s dt i u data x hup hses hst hfind hdata hcomp hcomplete
    have hspeaks : s.speaks = true := by simp [State.speaks, State.live, hup]
    split
    case isTrue hhash =>
      have heq := State.componentHash_of_match (s := s.advance dt) hses hup hst hfind hdata hcomp hcomplete hhash
      rw [State.setUpd_of_session 2 0 (u := { u with verified := u.verified ++ [i] }) rfl] at heq
      exact timedRom_eq dt _ s _ hspeaks heq (State.emit_clk _ _ _) (State.emit_pending _ _ _)
    case isFalse hhash =>
      have heq := State.componentHash_of_mismatch (s := s.advance dt) hses hst hfind hdata hcomp hhash
      rw [State.setUpd_of_session 1 1 (u := { u with blocks := u.blocks.filter fun b => b.1 != i }) rfl] at heq
      exact timedRom_eq dt _ s _ hspeaks heq (State.emit_clk _ _ _) (State.emit_pending _ _ _)
  case bank =>
    intro s dt lane u hup hses hst hlag hfresh hother
    have hspeaks : s.speaks = true := by simp [State.speaks, State.live, hup]
    have hwritten : nth u.written (1 - lane.val) = false := by
      rwa [nth_upd, if_neg (by omega)] at hother
    exact timedRom_eq dt _ s _ hspeaks (State.bankWritten_of_first (s := s.advance dt) hup hses hst hlag hfresh hwritten) rfl rfl
  case window =>
    intro s dt u hlive hses hst hmode hback hover hlost
    exact timed_eq dt _ s _ hlive (State.windowOver_of_lost (s := s.advance dt) hses hst hmode hback hover hlost) rfl rfl
  case idle =>
    intro s dt u hspeaks hses hst hidle
    have hclock := ((s.advance dt).sessionGone_keepsClock u).emit 0x0f81
      (toLE 4 u.id ++ toLE 1 3 ++ toLE 1 u.lane ++ toLE 2 0 ++ toLE 8 ((s.advance dt).now / 100000))
    exact timedRom_eq dt _ s _ hspeaks (State.updIdle_eq (s := s.advance dt) hses hst hidle) hclock.clk hclock.pending

end Sys2Proof.Machine
end

section
/-! SUPPORT. Lanes that give up and what a scrub, a partition restart and the quiet time do (spec 12, R325 to R329). -/

namespace Sys2Proof.Machine

open Sys2Proof.Safety

section
variable {ks : List Nat} {s t : State}

/-! ## Lane states and the latch -/

theorem ItemsOnly.cfgK (h : ItemsOnly ks s t) : t.cfgK = s.cfgK := by rw [h.frame]

theorem ItemsOnly.variant (h : ItemsOnly ks s t) : t.variant = s.variant := by rw [h.frame]

theorem ItemsOnly.setLane (h : ItemsOnly ks s t) {x : Nat} (st cause : Nat) (hstate : It.laneState x ∈ ks)
    (hcause : cause = 0 ∨ It.laneCause x ∈ ks) : ItemsOnly ks s (t.setLane x st cause) := by
  unfold State.setLane
  refine ItemsOnly.emit ?_ _ _
  split
  · exact h.set st hstate
  · exact (h.set st hstate).set cause (hcause.resolve_left ‹_›)

theorem State.get_setLane_state (x st cause : Nat) (s : State) : (s.setLane x st cause).get (It.laneState x) = st := by
  unfold State.setLane
  rw [State.get_emit_of_field _ _ _ (by decide)]
  split
  · rw [State.get_set, if_pos rfl]
  · rw [State.get_set_of_field _ (by decide), State.get_set, if_pos rfl]

theorem State.get_setLane_cause {x st cause : Nat} (s : State) (h : cause ≠ 0) :
    (s.setLane x st cause).get (It.laneCause x) = cause := by
  unfold State.setLane
  rw [State.get_emit_of_field _ _ _ (by decide), if_neg h, State.get_set, if_pos rfl]

theorem State.get_setLane_of_field (x st cause : Nat) (s : State) {c i f : Nat} (hstate : f % 256 ≠ 0x00) (hcause : f % 256 ≠ 0x01)
    (hlost : f % 256 ≠ 0x0a) : (s.setLane x st cause).get (itemKey c i f) = s.get (itemKey c i f) :=
  ((ItemsOnly.refl [It.laneState x, It.laneCause x] s).setLane st cause (by simp) (.inr (by simp))).get
    (by simpa using ⟨itemKey_ne_of_field hstate, itemKey_ne_of_field hcause⟩) hlost

theorem State.updDiscard_of_idle (outcome : Nat) (h : s.fw.ses = none) : s.updDiscard outcome = s := by
  unfold State.updDiscard
  rw [h]

/-- With no update session the lanes mean nothing to one. -/
theorem State.updLanes_of_idle (before : State) (h : s.fw.ses = none) : s.updLanes before = s := by
  unfold State.updLanes
  rw [State.updDiscard_of_idle 3 h]
  dsimp only
  rw [ite_self, State.updFollow, h]

theorem laneRow_eq {dt : Nat} {f : State → State} (hlive : s.live = true) (hf : f (s.advance dt) = t) (hses : t.fw.ses = none)
    (hclk : t.clk = s.clk.advance dt) (hpending : t.pending = s.pending) : laneRow dt f s = .next t := by
  have hidle := State.updLanes_of_idle (s.advance dt) hses
  exact timed_eq dt _ s _ hlive (by rw [hf, hidle]) hclk hpending

/-! ## Giving up (R327) -/

/-- What the bank of the lanes holds once a lane has given up. -/
def State.givenUp (s : State) (x : Nat) : LaneBank :=
  { s.lanes with
    found := s.lanes.found.filter (fun f => f.1 != x), flight := none
    due := upd s.lanes.due x fun _ => some (s.up + s.useK It.redRestartDelayMs * 1000000) }

/-- A lane in GAVE_UP, counted, its restart due. -/
def State.gaveUp (x cause : Nat) (s : State) : State :=
  { (s.bump (It.laneFaults x)).setLane x 5 cause with lanes := s.givenUp x }

theorem State.gaveUp_itemsOnly (x cause : Nat) (s : State) :
    ItemsOnly [It.laneFaults x, It.laneState x, It.laneCause x] { s with lanes := s.givenUp x } (s.gaveUp x cause) :=
  (((ItemsOnly.refl _ s).bump (by simp)).setLane 5 cause (by simp) (.inr (by simp))).modLanes fun _ => s.givenUp x

/-- A lane without a planned switch gives up. -/
theorem State.giveUp_of_no_switch {x cause : Nat} (detect : Nat) (hstate : s.get (It.laneState x) = 3 ∨ s.get (It.laneState x) = 4)
    (hsw : s.lanes.sw = none) : s.giveUp x cause detect =
      (if s.activeLane == some x then
        let r := if (s.gaveUp x cause).readyLane (1 - x) then (s.gaveUp x cause).fromCopy else s.gaveUp x cause
        ((r.set It.lastCause cause).set It.lastDetectNs (sat32 detect)).holdLatch { lane := x, cause := cause, detect := detect, at_ := r.up }
      else s.gaveUp x cause) := by
  have hgoing : ¬ (s.lane x ≠ 3 ∧ s.lane x ≠ 4) := by simp only [State.lane]; omega
  have honly : ItemsOnly [It.laneFaults x, It.laneState x, It.laneCause x] s ((s.bump (It.laneFaults x)).setLane x 5 cause) :=
    ((ItemsOnly.refl _ s).bump (by simp)).setLane 5 cause (by simp) (.inr (by simp))
  have hlanes : ((s.bump (It.laneFaults x)).setLane x 5 cause).modLanes (fun l => { l with
      found := l.found.filter (fun f => f.1 != x), flight := none
      due := upd l.due x fun _ => some (((s.bump (It.laneFaults x)).setLane x 5 cause).up +
        ((s.bump (It.laneFaults x)).setLane x 5 cause).useK It.redRestartDelayMs * 1000000) }) = s.gaveUp x cause := by
    have hup : ((s.bump (It.laneFaults x)).setLane x 5 cause).up = s.up := congrArg Clock.wall honly.clk
    have huse : ((s.bump (It.laneFaults x)).setLane x 5 cause).useK It.redRestartDelayMs = s.useK It.redRestartDelayMs := by
      unfold State.useK
      rw [honly.cfgK, honly.variant]
    unfold State.modLanes State.gaveUp State.givenUp
    rw [huse, hup, honly.lanes]
  have hnone : ¬ ((s.gaveUp x cause).lanes.sw.isSome = true ∧ (s.gaveUp x cause).lanes.gap.isNone = true) := by
    have hsw' : (s.gaveUp x cause).lanes.sw = none := hsw
    simp [hsw']
  unfold State.giveUp
  rw [if_neg hgoing]
  dsimp only
  rw [hlanes, if_neg hnone]

theorem State.giveUp_of_standby {x cause : Nat} (detect : Nat) (hstate : s.get (It.laneState x) = 3) (hlatch : s.lanes.latch ≠ x)
    (hsw : s.lanes.sw = none) : s.giveUp x cause detect = s.gaveUp x cause := by
  have hstandby : ¬ (s.activeLane == some x) = true := by
    unfold State.activeLane
    split <;> simp [hlatch]
  rw [State.giveUp_of_no_switch detect (.inl hstate) hsw, if_neg hstandby]

theorem State.gaveUp_eq {x cause : Nat} (hcause : cause ≠ 0) : s.gaveUp x cause =
    { (((s.bump (It.laneFaults x)).set (It.laneState x) 5).set (It.laneCause x) cause).emit 0x0d80
        (toLE 1 x ++ toLE 1 5 ++ toLE 2 cause ++ toLE 4 (s.get (It.laneRestarts x)) ++ toLE 8 (s.now / 100000)) with
      lanes := s.givenUp x } := by
  have hrestarts : (((s.bump (It.laneFaults x)).set (It.laneState x) 5).set (It.laneCause x) cause).get (It.laneRestarts x) =
      s.get (It.laneRestarts x) := by
    rw [State.get_set_of_field _ (by decide), State.get_set_of_field _ (by decide), State.get_bump_of_field _ (by decide)]
  unfold State.gaveUp State.setLane
  dsimp only
  rw [if_neg hcause, hrestarts]
  rfl

/-- The latch goes HOLDING while no panel update runs (R325). -/
theorem State.holdLatch_of_idle (g : Gap) (hupd : s.panel.upd = none) : s.holdLatch g =
    { (s.set It.role s.lanes.latch).set It.roleAccept 0 with
      lanes := { s.lanes with accepting := false, consuming := false, flight := none, gap := some g,
                              marks := upd s.lanes.marks g.lane fun _ => if g.yielded then 2 else 1 }
      can := { s.can with chs := s.can.chs.map fun c => { c with attempt := none } } } :=
  State.panelStop_of_idle (s := ((s.setLatch s.lanes.latch false).modLanes fun l => { l with
    consuming := false, flight := none, gap := some g, marks := upd l.marks g.lane fun _ => if g.yielded then 2 else 1 }).canCut) hupd

/-- The active lane gives up without a lane that could take over at once: the latch is HOLDING (R327). -/
theorem State.giveUp_of_alone {x cause : Nat} (detect : Nat) (hlatch : s.lanes.latch = x) (haccepting : s.lanes.accepting = true)
    (hstate : s.get (It.laneState x) = 4) (hsw : s.lanes.sw = none) (halone : (s.gaveUp x cause).lane (1 - x) ≠ 3) :
    s.giveUp x cause detect = (((s.gaveUp x cause).set It.lastCause cause).set It.lastDetectNs (sat32 detect)).holdLatch
      { lane := x, cause := cause, detect := detect, at_ := (s.gaveUp x cause).up } := by
  have hactive : (s.activeLane == some x) = true := by
    unfold State.activeLane
    rw [if_pos haccepting, hlatch]
    exact beq_self_eq_true _
  have hready : ¬ (s.gaveUp x cause).readyLane (1 - x) = true := by simp [State.readyLane, halone]
  rw [State.giveUp_of_no_switch detect (.inr hstate) hsw, if_pos hactive]
  dsimp only
  rw [if_neg hready]

/-! ## The departure of a lane that stands alone -/

theorem ItemsOnly.can (h : ItemsOnly ks s t) : t.can = s.can := by rw [h.frame]

theorem ItemsOnly.withLanesCan (h : ItemsOnly ks s t) (l : LaneBank) (c : CanBank) :
    ItemsOnly ks { s with lanes := l, can := c } { t with lanes := l, can := c } :=
  ⟨h.items, h.owner, congrArg (fun q : State => { q with lanes := l, can := c }) h.frame⟩

theorem State.faultIn_of_live {x : Nat} {f : State → State} (hlive : s.live = true) (hf : f s = t) (hses : t.fw.ses = none) :
    s.faultIn x f = t := by
  have hserving : s.phase = .up ∨ s.phase = .parking := by
    unfold State.live at hlive
    split at hlive <;> simp_all
  unfold State.faultIn
  rcases hserving with hp | hp <;> simp only [hp, hlive, if_true, hf] <;> exact State.updLanes_of_idle s hses

/-- The items that change when the lane of the latch departs. -/
def departItems (x : Nat) : List Nat :=
  [It.laneState x, It.laneCause x, It.laneFaults x, It.lastCause, It.lastDetectNs, It.role, It.roleAccept]

/-- The state after the active lane has given up for a cause, without a lane that could take over. -/
def State.departed (x cause detect : Nat) (s : State) : State :=
  { ((((s.gaveUp x cause).set It.lastCause cause).set It.lastDetectNs (sat32 detect)).set It.role x).set It.roleAccept 0 with
    lanes := { s.givenUp x with accepting := false, consuming := false, marks := upd s.lanes.marks x fun _ => 1
                                gap := some { lane := x, cause := cause, detect := detect, at_ := s.up } }
    can := { s.can with chs := s.can.chs.map fun c => { c with attempt := none } } }

theorem State.giveUp_departed {x cause : Nat} (detect : Nat) (hlatch : s.lanes.latch = x) (haccepting : s.lanes.accepting = true)
    (hstate : s.get (It.laneState x) = 4) (hsw : s.lanes.sw = none) (hother : s.get (It.laneState (1 - x)) ≠ 3) (hx : x < 2)
    (hupd : s.panel.upd = none) : s.giveUp x cause detect = s.departed x cause detect := by
  have honly := s.gaveUp_itemsOnly x cause
  have hne : It.laneState (1 - x) ∉ [It.laneFaults x, It.laneState x, It.laneCause x] := by
    simp only [itemKey, List.mem_cons, List.not_mem_nil, or_false]
    omega
  have halone : (s.gaveUp x cause).lane (1 - x) ≠ 3 := by
    rw [State.lane, honly.get hne (by decide)]
    exact hother
  have hidle : (((s.gaveUp x cause).set It.lastCause cause).set It.lastDetectNs (sat32 detect)).panel.upd = none :=
    (congrArg PanelBank.upd honly.panel).trans hupd
  have hup : (s.gaveUp x cause).up = s.up := congrArg Clock.wall honly.clk
  have hcan : (((s.gaveUp x cause).set It.lastCause cause).set It.lastDetectNs (sat32 detect)).can = s.can := honly.can
  have hnamed : (((s.gaveUp x cause).set It.lastCause cause).set It.lastDetectNs (sat32 detect)).lanes.latch = x := hlatch
  rw [State.giveUp_of_alone detect hlatch haccepting hstate hsw halone, hup, State.holdLatch_of_idle _ hidle, hcan, hnamed]
  rfl

theorem State.departed_itemsOnly (x cause detect : Nat) (s : State) :
    ItemsOnly (departItems x)
      { s with
        lanes := { s.givenUp x with accepting := false, consuming := false, marks := upd s.lanes.marks x fun _ => 1
                                    gap := some { lane := x, cause := cause, detect := detect, at_ := s.up } }
        can := { s.can with chs := s.can.chs.map fun c => { c with attempt := none } } } (s.departed x cause detect) := by
  have hgave : ItemsOnly (departItems x) { s with lanes := s.givenUp x } (s.gaveUp x cause) :=
    (s.gaveUp_itemsOnly x cause).mono (by simp [departItems])
  exact ((((hgave.set _ (by simp [departItems])).set _ (by simp [departItems])).set _ (by simp [departItems])).set _
    (by simp [departItems])).withLanesCan _ _

theorem State.get_departed_lane (x cause detect : Nat) (s : State) {i f : Nat} (hlow : f % 256 < 0x20) :
    (s.departed x cause detect).get (itemKey 0x90 i f) = ((s.bump (It.laneFaults x)).setLane x 5 cause).get (itemKey 0x90 i f) := by
  change ((((((s.gaveUp x cause).set It.lastCause cause).set It.lastDetectNs (sat32 detect)).set It.role x).set It.roleAccept 0).get
    (itemKey 0x90 i f)) = _
  rw [State.get_set_of_field _ (by omega), State.get_set_of_field _ (by omega), State.get_set_of_field _ (by omega),
    State.get_set_of_field _ (by omega)]
  rfl

theorem State.get_departed_latch (x cause detect : Nat) (s : State) : (s.departed x cause detect).get It.lastCause = cause ∧
    (s.departed x cause detect).get It.lastDetectNs = sat32 detect ∧ (s.departed x cause detect).get It.roleAccept = 0 := by
  change ((((((s.gaveUp x cause).set It.lastCause cause).set It.lastDetectNs (sat32 detect)).set It.role x).set It.roleAccept 0).get _ = _) ∧
    ((((((s.gaveUp x cause).set It.lastCause cause).set It.lastDetectNs (sat32 detect)).set It.role x).set It.roleAccept 0).get _ = _) ∧
    ((((((s.gaveUp x cause).set It.lastCause cause).set It.lastDetectNs (sat32 detect)).set It.role x).set It.roleAccept 0).get _ = _)
  refine ⟨?_, ?_, ?_⟩
  · rw [State.get_set_of_field _ (by decide), State.get_set_of_field _ (by decide), State.get_set_of_field _ (by decide), State.get_set,
      if_pos rfl]
  · rw [State.get_set_of_field _ (by decide), State.get_set_of_field _ (by decide), State.get_set, if_pos rfl]
  · rw [State.get_set, if_pos rfl]

end

/-! ## The obligation -/

/-- Settles O36: each command by the effect of its row, with no update session to follow the lanes. -/
theorem lanesLeaveService : Obligations.LanesLeaveService := by
  unfold Obligations.LanesLeaveService
  refine ⟨?standby, ?vital, ?tenant, ?corrected, ?uncorrectable, ?quiet⟩
  case standby =>
    intro s dt detect lane cause hlive hses hstate hlatch hsw hpos hlow
    have hcause : ¬ (cause.val = 0 ∨ 10 < cause.val) := by omega
    have hlink : ¬ (cause.val = 8 ∧ ((s.advance dt).underTest (4 + lane.val) = true ∨
        (!(((s.advance dt).lane (1 - lane.val) == 3 || (s.advance dt).lane (1 - lane.val) == 4) &&
          (s.advance dt).get (linkItem (1 - lane.val)) == 1)) = true)) := by omega
    have heffect : (s.advance dt).monitor lane cause detect = (s.advance dt).gaveUp lane cause := by
      unfold State.monitor
      rw [if_neg hcause, if_neg hlink]
      exact State.giveUp_of_standby detect hstate hlatch hsw
    have honly := (s.advance dt).gaveUp_itemsOnly lane cause
    have hfault : (s.advance dt).faultIn lane (State.monitor lane cause detect) = (s.advance dt).gaveUp lane cause :=
      State.faultIn_of_live hlive heffect (by rw [honly.fw]; exact hses)
    exact timedAny_eq dt _ s _ (hfault.trans (State.gaveUp_eq (by omega))) (State.emit_clk _ _ _) (State.emit_pending _ _ _)
  case vital =>
    intro s dt hlive hses haccepting hlatch hstate hother hsw hupd
    have honly := (s.advance dt).departed_itemsOnly s.lanes.latch 11 20000
    obtain ⟨hcause, hdetect, haccept⟩ := (s.advance dt).get_departed_latch s.lanes.latch 11 20000
    have hactive : (s.advance dt).activeLane = some s.lanes.latch := if_pos haccepting
    have heffect : (match (s.advance dt).activeLane with
        | some x => (s.advance dt).giveUp x 11 20000
        | none => s.advance dt) = (s.advance dt).departed s.lanes.latch 11 20000 := by
      rw [hactive]
      exact State.giveUp_departed (s := s.advance dt) 20000 rfl haccepting hstate hsw hother hlatch hupd
    have hfault : (s.advance dt).faultIn s.lanes.latch (fun s => match s.activeLane with
        | some x => s.giveUp x 11 20000
        | none => s) = (s.advance dt).departed s.lanes.latch 11 20000 :=
      State.faultIn_of_live hlive heffect (by rw [honly.fw]; exact hses)
    refine ⟨_, timedAny_eq dt _ s _ hfault honly.clk honly.pending, ?_, ?_, ?_, ?_, ?_, rfl, honly.items, honly.owner, ?_⟩
    · rw [State.get_departed_lane _ _ _ _ (by decide), State.get_setLane_state]
    · rw [State.get_departed_lane _ _ _ _ (by decide), State.get_setLane_cause _ (by decide)]
    · exact hcause
    · exact hdetect
    · exact haccept
    · exact honly.frame
  case tenant =>
    intro s dt lane part hlive hses hcritical hlatch
    have hother : ¬ (s.activeLane = some lane.val) := by
      unfold State.activeLane
      split <;> simp [hlatch]
    refine laneRow_eq hlive ?_ hses rfl rfl
    unfold State.tenantRestart
    rw [if_neg (by rw [show (s.advance dt).useK It.redTenantCritical = s.useK It.redTenantCritical from rfl, hcritical]; decide)]
    exact if_neg hother
  case corrected =>
    intro s dt lane hlive
    exact timed_eq dt _ s _ hlive rfl rfl rfl
  case uncorrectable =>
    intro s dt lane lpddr hlive
    exact timed_eq dt _ s _ hlive rfl rfl rfl
  case quiet =>
    intro s dt g hlive hses hgap hdue
    refine laneRow_eq hlive ?_ hses rfl rfl
    unfold State.quietEnd
    rw [show (s.advance dt).lanes.gap = some g from hgap]
    exact if_pos hdue

end Sys2Proof.Machine
end

section
/-! SUPPORT. The state copy, the lane link, restarts and self-tests of a lane (spec 12, R330 to R340). -/

namespace Sys2Proof.Machine

open Sys2Proof.Safety

section
variable {s t : State}

/-! ## The state copy (R330 to R333) -/

theorem State.copyApplied_of_equal {x : Copy} (hflight : s.lanes.flight = some x) (hspoiled : s.lanes.spoiled = false)
    (hstate : s.get (It.laneState (1 - s.lanes.latch)) = 3) (hdiv : s.lanes.div = 0) :
    s.copyApplied true = s.set (It.divergeCycles (1 - s.lanes.latch)) 0 := by
  have hserves : ¬ (s.lane (1 - s.lanes.latch) ≠ 3 ∨ s.lanes.spoiled = true) := by simp [State.lane, hstate, hspoiled]
  have hsame : s.divergence (1 - s.lanes.latch) = s.set (It.divergeCycles (1 - s.lanes.latch)) 0 := if_pos hdiv
  unfold State.copyApplied
  simp only [hflight, if_neg hserves, if_true, hsame]
  exact congrArg (fun d => { s.set (It.divergeCycles (1 - s.lanes.latch)) 0 with lanes := { s.lanes with div := d } }) hdiv.symm

theorem State.copyAckedThen_of_standby {x : Copy} (hflight : s.lanes.flight = some x) (hspoiled : s.lanes.spoiled = false)
    (hstate : s.get (It.laneState (1 - s.lanes.latch)) = 3) :
    s.copyAckedThen x.cycle = ({ s.set It.copyCycle x.cycle with
      lanes := { s.lanes with flight := none, copied := some x, fails := 0 } } : State).releaseCycle x.cycle := by
  have hcopied : ¬ (x.cycle ≠ x.cycle ∨ s.lanes.spoiled = true) := by simp [hspoiled]
  have hkept : ¬ (({ s.set It.copyCycle x.cycle with
      lanes := { s.lanes with flight := none, copied := some x, fails := 0 } } : State).lane (1 - s.lanes.latch) = 2) := by
    change ¬ (s.set It.copyCycle x.cycle).get (It.laneState (1 - s.lanes.latch)) = 2
    rw [State.get_set_of_field _ (by decide), hstate]
    decide
  have hacked : s.copyAcked x.cycle = ({ s.set It.copyCycle x.cycle with
      lanes := { s.lanes with flight := none, copied := some x, fails := 0 } } : State).releaseCycle x.cycle := by
    unfold State.copyAcked
    simp only [hflight, if_neg hcopied]
    exact congrArg (State.releaseCycle x.cycle) (if_neg hkept)
  have hserved : ¬ (s.lane (1 - s.lanes.latch) = 2 ∧ (s.copyAcked x.cycle).lane (1 - s.lanes.latch) = 3) := by
    simp [State.lane, hstate]
  exact (if_neg hserved).trans hacked

theorem State.rewait_canOnly (m : Nat) (f : Resp → Resp) (s : State) : CanOnly s (s.rewait m f) :=
  (s.modMaster_canOnly m _).trans (State.flush_canOnly m _)

theorem State.releaseCopies_canOnly (c : Nat) (s : State) : CanOnly s (s.releaseCopies c) :=
  List.foldlRecOn (motive := CanOnly s) _ _ (.refl s) fun u hu m _ => hu.trans (u.rewait_canOnly m _)

theorem State.canEligible_canOnly (c : Nat) (s : State) : CanOnly s (s.canEligible c) :=
  List.foldlRecOn (motive := CanOnly s) _ _ (.refl s) fun u hu ch _ => by
    dsimp only
    split
    · exact hu
    · exact hu.trans ((u.modCan_canOnly ch _).trans (State.canStart_canOnly ch _))

theorem CanOnly.fw (h : CanOnly s t) : t.fw = s.fw := by rw [h]

/-! The release of a cycle concerns mailboxes, CAN buffers and beads alone. -/

theorem State.releaseCycle_fw (c : Nat) (s : State) : (s.releaseCycle c).fw = s.fw := by
  have honly := (s.releaseCopies_canOnly c).trans (State.canEligible_canOnly c _)
  unfold State.releaseCycle
  dsimp only [State.modMail, State.modLanes, State.modPower, State.releaseBeads, State.copyBeads, State.modValve]
  exact honly.fw

theorem State.releaseCycle_clk (c : Nat) (s : State) : (s.releaseCycle c).clk = s.clk := by
  have honly := (s.releaseCopies_canOnly c).trans (State.canEligible_canOnly c _)
  unfold State.releaseCycle
  dsimp only [State.modMail, State.modLanes, State.modPower, State.releaseBeads, State.copyBeads, State.modValve]
  exact honly.clk

theorem State.releaseCycle_pending (c : Nat) (s : State) : (s.releaseCycle c).pending = s.pending := by
  have honly := (s.releaseCopies_canOnly c).trans (State.canEligible_canOnly c _)
  unfold State.releaseCycle
  dsimp only [State.modMail, State.modLanes, State.modPower, State.releaseBeads, State.copyBeads, State.modValve]
  exact honly.pending

theorem State.copyLost_of_few {x : Copy} (hflight : s.lanes.flight = some x) (hfew : s.lanes.fails + 1 < 3) :
    s.copyLost = { s.bump It.copyFailures with lanes := { s.lanes with flight := none, fails := s.lanes.fails + 1 } } := by
  unfold State.copyLost
  rw [hflight]
  exact if_pos hfew

/-! ## The lane link (R334) -/

theorem State.linkDown_of_no_standby (hstate : s.get (It.laneState (1 - s.lanes.latch)) ≠ 3) :
    s.linkDown = { s.set It.laneLink 0 with lanes := { s.lanes with flight := none, synced := [false, false] } } := by
  have hother : (s.set It.laneLink 0).get (It.laneState (1 - s.lanes.latch)) ≠ 3 := by
    rw [State.get_set_of_field _ (by decide)]
    exact hstate
  exact if_neg hother

theorem State.linkComesUp_of_no_sync (hstate : s.get (It.laneState (1 - s.lanes.latch)) ≠ 2) :
    s.linkComesUp = s.set It.laneLink 1 := by
  have hother : (s.set It.laneLink 1).get (It.laneState (1 - s.lanes.latch)) ≠ 2 := by
    rw [State.get_set_of_field _ (by decide)]
    exact hstate
  exact if_neg hother

/-! ## Restarts (R340, Table 12.6 step 1) -/

theorem State.endTest_of_none {link : Nat} (h : (nth s.ring.tests link).isSome = false) : s.endTest link = s := by
  have hnone : nth s.ring.tests link = none := by simpa using h
  unfold State.endTest
  rw [hnone]

theorem State.endInject_of_none {link : Nat} (h : nth s.ring.injects link = none) : s.endInject link = s := by
  unfold State.endInject
  rw [h]

theorem State.endTests_of_none (h : ∀ l < 6, nth s.ring.injects l = none ∧ (nth s.ring.tests l).isSome = false) : s.endTests = s := by
  have htests : s.each (List.range 6) State.endTest = s :=
    State.each_eq_self fun l hl => State.endTest_of_none (h l (List.mem_range.1 hl)).2
  unfold State.endTests
  rw [htests]
  exact State.each_eq_self fun l hl => State.endInject_of_none (h l (List.mem_range.1 hl)).1

/-- What a restart of a lane does to the bank of the lanes; the items are those of the restart. -/
def LaneBank.restarted (items : Store) (x : Nat) (b : LaneBank) : LaneBank :=
  { b with
    yielded := upd b.yielded x fun _ => false
    passed := upd b.passed x fun _ => none, synced := upd b.synced x fun _ => false
    restartCfg := upd b.restartCfg x fun _ => items, booted := upd b.booted x fun _ => false
    parts := if x = b.latch then b.parts else List.replicate 4 {}
    found := b.found.filter fun f => f.1 != x }

/-- A lane restarted without anything else that would end with it. -/
def State.restarted (x cause : Nat) (s : State) : State :=
  ((s.countRestart x).modLanes (LaneBank.restarted (s.countRestart x).items x)).setLane x 1 cause

/-- Without tests, injections and an update session a restart concerns the lanes alone. -/
theorem State.restartLane_of_quiet {x : Nat} (cause : Nat) (hses : s.fw.ses = none)
    (hquiet : ∀ l < 6, nth s.ring.injects l = none ∧ (nth s.ring.tests l).isSome = false) :
    s.restartLane x cause = s.restarted x cause := by
  unfold State.restartLane
  rw [State.endTests_of_none hquiet, State.updDiscard_of_idle 3 hses]
  rfl

theorem nth_eq_default {α : Type} [Inhabited α] {l : List α} {i : Nat} (h : ¬ i < l.length) : nth l i = default := by
  simp [nth, List.getD_eq_getElem?_getD, List.getElem?_eq_none (Nat.le_of_not_lt h)]

/-- The restart of a lane is no longer due. -/
def LaneBank.undue (x : Nat) (b : LaneBank) : LaneBank := { b with due := upd b.due x fun _ => none }

theorem State.restartDue_of_allowed {x t0 : Nat} (hdue : nth s.lanes.due x = some t0) (ht : t0 ≤ s.up) (hstate : s.get (It.laneState x) = 5)
    (hgap : s.lanes.gap = none) (hmay : s.mayRestart x = true) :
    s.restartDue x = (s.modLanes (LaneBank.undue x)).restartLane x (s.get (It.laneCause x)) := by
  have htime : ¬ (s.up < t0 ∨ s.lane x ≠ 5) := by
    simp only [State.lane]
    omega
  have hmay' : (s.modLanes fun l => { l with due := upd l.due x fun _ => none }).mayRestart x = true := hmay
  have hgap' : ¬ (s.lanes.gap.any (·.late)) = true := by simp [hgap]
  unfold State.restartDue
  rw [hdue]
  dsimp only
  rw [if_neg htime, if_pos hmay']
  exact if_neg hgap'

/-- The items that a restart of a lane changes. -/
def restartItems (x : Nat) : List Nat := [It.laneState x, It.laneCause x, It.laneRestarts x, It.laneRestartsWindow x]

/-- The bank of the lanes after a restart of one of them. -/
def State.restartedLanes (x : Nat) (s : State) : LaneBank :=
  LaneBank.restarted (s.countRestart x).items x
    { s.lanes with starts := upd s.lanes.starts x fun _ => s.recentStarts x ++ [s.up], due := upd s.lanes.due x fun _ => none }

theorem State.restarted_itemsOnly (x cause : Nat) (s : State) :
    ItemsOnly (restartItems x) { s with lanes := s.restartedLanes x } (s.restarted x cause) := by
  have hcounted : ItemsOnly (restartItems x) (s.modLanes fun b => { b with
      starts := upd b.starts x fun _ => s.recentStarts x ++ [s.up], due := upd b.due x fun _ => none }) (s.countRestart x) :=
    ((ItemsOnly.refl _ _).set _ (by simp [restartItems])).bump (by simp [restartItems])
  exact (hcounted.modLanes _).setLane 1 cause (by simp [restartItems]) (.inr (by simp [restartItems]))

theorem State.get_modLanes (f : LaneBank → LaneBank) (s : State) (k : Nat) : (s.modLanes f).get k = s.get k := rfl

theorem State.get_countRestart_restarts (x : Nat) (s : State) :
    (s.countRestart x).get (It.laneRestarts x) = sat32 (s.get (It.laneRestarts x) + 1) := by
  unfold State.countRestart
  dsimp only
  rw [State.bump, State.bumpBy, State.get_set, if_pos rfl, State.get_set_of_field _ (by decide), State.get_modLanes]

theorem State.get_countRestart_window (x : Nat) (s : State) :
    (s.countRestart x).get (It.laneRestartsWindow x) = min (s.recentStarts x ++ [s.up]).length 10 := by
  unfold State.countRestart
  dsimp only
  rw [State.get_bump_of_field _ (by decide), State.get_set, if_pos rfl]

theorem State.get_restarted_restarts (x cause : Nat) (s : State) :
    (s.restarted x cause).get (It.laneRestarts x) = sat32 (s.get (It.laneRestarts x) + 1) := by
  rw [State.restarted, State.get_setLane_of_field _ _ _ _ (by decide) (by decide) (by decide), State.get_modLanes,
    State.get_countRestart_restarts]

theorem State.get_restarted_window (x cause : Nat) (s : State) :
    (s.restarted x cause).get (It.laneRestartsWindow x) = min (s.recentStarts x ++ [s.up]).length 10 := by
  rw [State.restarted, State.get_setLane_of_field _ _ _ _ (by decide) (by decide) (by decide), State.get_modLanes,
    State.get_countRestart_window]

/-! ## Self-tests (Table 12.6 steps 2 and 3) -/

theorem timedStart_keepsClock {dt : Nat} {f : State → State} (hphase : s.phase ≠ .starting)
    (hclock : KeepsClock (s.advance dt) (f (s.advance dt))) (hlatch : (f (s.advance dt)).lanes.latch = s.lanes.latch) :
    timedStart dt f s = .next (f (s.advance dt)) := by
  have hclaimed : ¬ (((s.advance dt).phase == .starting) && ((f (s.advance dt)).phase == .up || (f (s.advance dt)).phase == .recovery)) = true := by
    intro h
    simp only [Bool.and_eq_true, beq_iff_eq] at h
    exact hphase h.1
  have htook : ¬ ((s.advance dt).lanes.gap.isSome && (f (s.advance dt)).lanes.gap.isNone &&
      (s.advance dt).lanes.latch != (f (s.advance dt)).lanes.latch) = true := by
    rw [hlatch]
    simp [State.advance]
  unfold timedStart
  dsimp only
  rw [if_neg hclaimed, if_neg htook, ← hclock.clk, ← hclock.pending]

/-- The item that shows the engines of a lane. -/
def engineItem (x : Nat) : Nat := if x = 1 then It.engineOkB else It.engineOkA

theorem engineItem_eq (x : Nat) : engineItem x = itemKey 0x10 0x01 (if x = 1 then 0x03 else 0x02) := by
  unfold engineItem
  split <;> rfl

/-- What a passed self-test does to the bank of the lanes. -/
def LaneBank.passedTest (now x : Nat) (b : LaneBank) : LaneBank :=
  { b with booted := upd b.booted x fun _ => true, passed := upd b.passed x fun _ => some now, synced := upd b.synced x fun _ => false }

/-- A lane that has passed its self-test begins its full sync. -/
def State.passedTest (x : Nat) (s : State) : State :=
  (((s.set (engineItem x) 0x3ffffff).modLanes (LaneBank.passedTest s.up x)).set It.laneLink 1).setLane x 2 0

/-- A restarting lane that has booted passes its self-test. -/
theorem State.restartTested_of_passed {x : Nat} (hstate : s.get (It.laneState x) = 1) (hlatch : s.lanes.latch ≠ x)
    (hbooted : nth s.lanes.booted x = true) : s.restartTested x true = s.passedTest x := by
  have htested : ¬ (s.lane x ≠ 1 ∨ s.activeLane = some x) := by
    simp only [State.lane, State.activeLane, hstate]
    split <;> simp [hlatch]
  have hboot : nth (s.enginesTested x true).lanes.booted x = true := hbooted
  unfold State.restartTested
  rw [if_neg htested]
  dsimp only
  rw [if_pos hboot]
  rfl

theorem State.passedTest_itemsOnly (x : Nat) (s : State) :
    ItemsOnly [It.laneState x, It.laneLink, engineItem x] { s with lanes := s.lanes.passedTest s.up x } (s.passedTest x) :=
  ((((ItemsOnly.refl _ s).set _ (by simp)).modLanes (LaneBank.passedTest s.up x)).set _ (by simp)).setLane 2 0 (by simp) (.inl rfl)

theorem State.get_passedTest (x : Nat) (s : State) :
    (s.passedTest x).get It.laneLink = 1 ∧ (s.passedTest x).get (engineItem x) = 0x3ffffff := by
  unfold State.passedTest
  constructor
  · rw [State.get_setLane_of_field _ _ _ _ (by decide) (by decide) (by decide), State.get_set, if_pos rfl]
  · rw [engineItem_eq, State.get_setLane_of_field _ _ _ _ (by split <;> decide) (by split <;> decide) (by split <;> decide),
      State.get_set_of_field _ (by split <;> decide), State.get_modLanes, State.get_set, if_pos rfl]

end

theorem State.fullSync_of_syncing {s : State} {x : Nat} (hstate : s.get (It.laneState x) = 2) (haccepting : s.lanes.accepting = true)
    (hlatch : s.lanes.latch ≠ x) (hlink : s.linkCarries = true) :
    s.fullSync x = { s with
      lanes := { s.lanes with
        synced := upd s.lanes.synced x fun _ => true
        parts := s.lanes.parts.mapIdx fun m p =>
          if p.cmds.isEmpty && p.blks.isEmpty then
            { p with cmdProd := (s.master m).cmd.cons, cmdWord := (s.master m).cmd.cons
                     blkProd := (s.master m).blk.cons, blkWord := (s.master m).blk.cons }
          else p }
      time := { s.time with standby := s.time.lane, standbyOff := 0 } } := by
  have hsyncs : s.lane x = 2 ∧ s.lanes.accepting = true ∧ x ≠ s.lanes.latch ∧ s.linkCarries = true :=
    ⟨hstate, haccepting, Ne.symm hlatch, hlink⟩
  exact if_pos hsyncs

/-! ## The obligation -/

/-- Settles O38: each command by the effect of its row, with no update session to follow the lanes. -/
theorem copiesKeepTheStandby : Obligations.CopiesKeepTheStandby := by
  unfold Obligations.CopiesKeepTheStandby
  refine ⟨?received, ?acked, ?failed, ?down, ?up, ?restart, ?tested, ?synced⟩
  case received =>
    intro s dt x hlive hses hflight hspoiled hstate hdiv
    exact laneRow_eq hlive (State.copyApplied_of_equal (s := s.advance dt) hflight hspoiled hstate hdiv) hses rfl rfl
  case acked =>
    intro s dt x hlive hses hflight hspoiled hstate
    exact laneRow_eq hlive (State.copyAckedThen_of_standby (s := s.advance dt) hflight hspoiled hstate)
      (by rw [State.releaseCycle_fw]; exact hses) (State.releaseCycle_clk _ _) (State.releaseCycle_pending _ _)
  case failed =>
    intro s dt x hlive hses hflight hfew
    exact laneRow_eq hlive (State.copyLost_of_few (s := s.advance dt) hflight hfew) hses rfl rfl
  case down =>
    intro s dt hlive hses hstate
    exact laneRow_eq hlive (State.linkDown_of_no_standby (s := s.advance dt) hstate) hses rfl rfl
  case up =>
    intro s dt hlive hses hstate
    exact laneRow_eq hlive (State.linkComesUp_of_no_sync (s := s.advance dt) hstate) hses rfl rfl
  case restart =>
    intro s dt t0 lane hlive hses hdue ht hstate hgap hmay hlane hquiet
    have honly := ((s.advance dt).modLanes (LaneBank.undue lane)).restarted_itemsOnly lane (s.get (It.laneCause lane))
    have heffect : (s.advance dt).restartDue lane = ((s.advance dt).modLanes (LaneBank.undue lane)).restarted lane (s.get (It.laneCause lane)) :=
      (State.restartDue_of_allowed (s := s.advance dt) hdue ht hstate hgap hmay).trans (State.restartLane_of_quiet _ hses hquiet)
    refine ⟨_, laneRow_eq hlive heffect (by rw [honly.fw]; exact hses) honly.clk honly.pending, State.get_setLane_state _ _ _ _,
      State.get_restarted_restarts _ _ _, ?_, ?_, State.get_restarted_window _ _ _, honly.items, honly.owner, honly.frame_lanes⟩
    · rw [honly.lanes]
      change nth (upd (upd s.lanes.due lane fun _ => none) lane fun _ => none) lane = none
      rw [upd_upd, nth_upd]
      split
      · rfl
      · rename_i hshort
        exact nth_eq_default fun h => hshort ⟨rfl, h⟩
    · rw [honly.lanes]
      change nth (upd s.lanes.starts lane fun _ => _) lane = _
      rw [nth_upd, if_pos ⟨rfl, hlane⟩]
      rfl
  case tested =>
    intro s dt lane hup hses hstate hlatch hbooted
    have honly := (s.advance dt).passedTest_itemsOnly lane
    obtain ⟨hlink, hengine⟩ := (s.advance dt).get_passedTest lane
    have hphase : (s.advance dt).phase = .up := hup
    have heffect : (s.advance dt).selfTest lane true = (s.advance dt).passedTest lane := by
      unfold State.selfTest
      rw [hphase]
      dsimp only
      rw [State.restartTested_of_passed (s := s.advance dt) hstate hlatch hbooted]
      exact State.updLanes_of_idle _ (by rw [honly.fw]; exact hses)
    have hrow : exec (.selfTestDone dt lane true) s = .next ((s.advance dt).passedTest lane) := by
      rw [← heffect]
      exact timedStart_keepsClock (by simp [hup]) (by rw [heffect]; exact ⟨honly.clk, honly.pending⟩) (by rw [heffect, honly.lanes]; rfl)
    exact ⟨_, hrow, State.get_setLane_state _ _ _ _, hlink, hengine, honly.lanes, honly.items, honly.owner, honly.frame_lanes⟩
  case synced =>
    intro s dt lane hlive hses hstate haccepting hlatch hlink hleft hright
    have hcarries : (s.advance dt).linkCarries = true := by
      have hlink' : (s.advance dt).get It.laneLink = 1 := hlink
      have hleft' : (s.advance dt).underTest 2 = false := hleft
      have hright' : (s.advance dt).underTest 3 = false := hright
      simp [State.linkCarries, hlink', hleft', hright']
    exact laneRow_eq hlive (State.fullSync_of_syncing (s := s.advance dt) hstate haccepting hlatch hcarries) hses rfl rfl

end Sys2Proof.Machine
end

section
/-! SUPPORT. Supplies, sag tiers, the power-fail shut-down and the entry into PARK (spec 13, R344 to R355). -/

namespace Sys2Proof.Machine

open Sys2Proof.Safety

section
variable {s t u : State}

/-! ## The measurement of MAIN+ (R344, R347) -/

theorem State.tierAtTest_of_none (h : s.power.test = none) : s.tierAtTest = s := by
  have hsame : s.power.test.map (fun t => if t.from_ ≤ s.up then { t with tier := some (t.tier.getD (s.get It.sagTier)) } else t) =
      s.power.test := by rw [h]; rfl
  exact congrArg (fun o => ({ s with power := { s.power with test := o } } : State)) hsame

theorem State.supplyOver_of_below {v : Nat} (hv : ¬ volts 80 < v) (hovers : s.power.overs = false) : s.supplyOver v = s :=
  (if_neg hv).trans (congrArg (fun b => ({ s with power := { s.power with overs := b } } : State)) hovers.symm)

theorem State.supplyOver_of_above {v : Nat} (hv : volts 80 < v) (hovers : s.power.overs = false) :
    s.supplyOver v = (({ s with power := { s.power with overs := true } } : State).bump It.supplyOver).powerEvent 1 := by
  unfold State.supplyOver
  rw [if_pos hv, hovers]
  rfl

theorem sagTier_zero_of_tier_two {v : Nat} (hlow : 26 * 65536 ≤ v) (hhigh : v < 30 * 65536) : sagTier 0 v = 2 := by
  have h26 : decide (26 * 65536 ≤ v) = true := by simpa using hlow
  have h30 : decide (30 * 65536 ≤ v) = false := by simpa using hhigh
  simp [sagTier, h26, h30]

theorem sagTier_zero_of_full {v : Nat} (h : 34 * 65536 ≤ v) : sagTier 0 v = 0 := by
  have h26 : decide (26 * 65536 ≤ v) = true := decide_eq_true (by omega)
  have h30 : decide (30 * 65536 ≤ v) = true := decide_eq_true (by omega)
  have h34 : decide (34 * 65536 ≤ v) = true := decide_eq_true h
  simp [sagTier, h26, h30, h34]

/-- A value set that the item has already. -/
theorem ItemsOnly.set_same {ks : List Nat} (h : ItemsOnly ks s t) {k v : Nat} (hv : t.get k = v) : ItemsOnly ks s (t.set k v) :=
  h.trans ⟨fun j _ _ => by
    rw [State.get_set]
    split
    · rw [‹j = k›, hv]
    · rfl, rfl, rfl⟩

/-- MAIN+ measured as `v` in a tier. -/
def State.mainMeasured (v tier : Nat) (s : State) : State :=
  ((s.modPower fun p => { p with main := v }).set It.mainV (min v (volts 110))).set It.sagTier tier

/-- A measurement in the running module that leads from tier 0 to none of the tiers 3. -/
theorem State.mainTo_of_tier_zero {v tier : Nat} (hup : s.phase = .up) (hold : s.get It.sagTier = 0) (htest : s.power.test = none)
    (hnew : sagTier 0 v = tier) (htier : tier ≠ 3) :
    s.mainTo v =
      (if 0 = tier then ((s.mainMeasured v tier).supplyOver v).bumpBy It.sagEvents (tierEntries 0 tier)
      else (((s.mainMeasured v tier).supplyOver v).bumpBy It.sagEvents (tierEntries 0 tier)).powerEvent 0) := by
  have hphase : (s.modPower fun p => { p with main := v }).phase = .up := hup
  have hold' : (s.modPower fun p => { p with main := v }).get It.sagTier = 0 := hold
  have htest' : (s.modPower fun p => { p with main := v }).power.test = none := htest
  have htimer : ∀ u : State, u.tierTimer 0 tier = u := fun u => by
    unfold State.tierTimer
    rw [if_neg (by simp [htier]), if_neg (by simp)]
  unfold State.mainTo
  dsimp only
  rw [hphase]
  dsimp only
  rw [hold', hnew, State.tierAtTest_of_none htest', htimer, if_neg (by simp [htier])]
  rfl

/-! ## The holdup decision (R346, R349) -/

theorem State.bypassClose_of_closed (h : s.get It.bypassState = 0) : s.bypassClose = { s with ring := { s.ring with join := none } } := by
  have hclosed : (s.modRing fun r => { r with join := none }).get It.bypassState = 0 ∨
      (s.modRing fun r => { r with join := none }).get It.bypassState = 3 := .inl h
  exact if_pos hclosed

/-- The module in its power-fail shut-down, its bypass closed and no panel update running. -/
def State.shutting (s : State) : State :=
  let r := (s.set It.opState 3).powerEvent 4
  { r.set (It.laneState (1 - s.lanes.latch)) 0 with
    power := { s.power with below := true, pend := none, replan := none, test := none }
    lanes := { s.lanes with flight := none, sw := none }
    ring := { s.ring with join := none }, phase := .shuttingDown }

theorem State.powerEvent_itemsOnly (ks : List Nat) (kind : Nat) (s : State) : ItemsOnly ks s (s.powerEvent kind) :=
  (ItemsOnly.refl ks s).emit _ _

theorem State.shutting_itemsOnly (s : State) : ItemsOnly [It.opState, It.laneState (1 - s.lanes.latch)]
    { s with power := { s.power with below := true, pend := none, replan := none, test := none }
             lanes := { s.lanes with flight := none, sw := none }
             ring := { s.ring with join := none }, phase := .shuttingDown } s.shutting := by
  have hset : ItemsOnly [It.opState, It.laneState (1 - s.lanes.latch)] s
      (((s.set It.opState 3).powerEvent 4).set (It.laneState (1 - s.lanes.latch)) 0) :=
    ((((ItemsOnly.refl _ s).set 3 (by simp)).emit _ _).set 0 (by simp))
  exact ⟨hset.items, hset.owner, congrArg (fun q : State => { q with
    power := { s.power with below := true, pend := none, replan := none, test := none }
    lanes := { s.lanes with flight := none, sw := none }
    ring := { s.ring with join := none }, phase := .shuttingDown }) hset.frame⟩

theorem State.get_shutting (s : State) : s.shutting.get It.opState = 3 ∧ s.shutting.get (It.laneState (1 - s.lanes.latch)) = 0 := by
  have hevent := (s.set It.opState 3).powerEvent_itemsOnly [] 4
  constructor
  · change (((s.set It.opState 3).powerEvent 4).set (It.laneState (1 - s.lanes.latch)) 0).get It.opState = 3
    rw [State.get_set_of_field _ (by decide), hevent.get (by simp) (by decide), State.get_set, if_pos rfl]
  · change (((s.set It.opState 3).powerEvent 4).set (It.laneState (1 - s.lanes.latch)) 0).get (It.laneState (1 - s.lanes.latch)) = 0
    rw [State.get_set, if_pos rfl]

/-- The holdup decision in a running module whose bypass is closed and whose panel is at rest. -/
theorem State.shutDown_of_idle (hup : s.phase = .up) (hpanel : s.panel.upd = none) (hbypass : s.get It.bypassState = 0) :
    s.shutDown = s.shutting := by
  have hbypass' : s.shutting.get It.bypassState = 0 := by
    rw [s.shutting_itemsOnly.get (by simp [itemKey]; omega) (by decide)]
    exact hbypass
  have hrunning : ¬ s.phase = .parking := by simp [hup]
  obtain ⟨it, ml, hevent⟩ : ∃ it ml, (s.set It.opState 3).powerEvent 4 = { s with items := it, mail := ml } :=
    ⟨_, _, ((s.set It.opState 3).powerEvent_itemsOnly [] 4).frame⟩
  unfold State.shutting at hbypass' ⊢
  unfold State.shutDown
  rw [if_neg hrunning]
  dsimp only
  rw [hevent] at hbypass' ⊢
  refine (congrArg State.bypassClose (State.panelStop_of_idle ?_)).trans (State.bypassClose_of_closed ?_)
  · exact hpanel
  · exact hbypass'

theorem State.holdupDecision_of_due {t0 : Nat} (hup : s.phase = .up) (hrunning : s.power.running = some t0)
    (hdue : s.get It.holdupDecisionMs * 1000000 / 65536 ≤ s.power.counted + (s.up - t0)) : s.holdupDecision = s.shutDown := by
  have hshuts : s.mayShut = true := by simp [State.mayShut, State.railsUp, hup]
  have htimer : s.decisionNs ≤ s.holdupTimer := by
    unfold State.holdupTimer
    rw [hrunning]
    exact hdue
  exact if_pos ⟨hshuts, by rw [hrunning]; rfl, htimer⟩

/-! ## KA+ (R355) -/

theorem State.kaTo_of_loss {v : Nat} (hup : s.phase = .up) (hv : v < volts 8) (hlost : s.power.kaLost = false) :
    s.kaTo v = ({ s.set It.kaV v with power := { s.power with ka := v, kaLost := true } } : State).emit 0x0e80
      (toLE 1 2 ++ toLE 1 (s.get It.sagTier) ++ toLE 2 0 ++ toLE 4 s.power.main ++ toLE 4 v ++ toLE 8 s.now) := by
  have hshown : min v (volts 40) = v := Nat.min_eq_left (by simp only [volts] at hv ⊢; omega)
  have hrails : (s.modPower fun p => { p with ka := v }).railsUp = true := by simp [State.railsUp, State.modPower, hup]
  have hpark : ¬ (((s.modPower fun p => { p with ka := v }).set It.kaV v).phase = .park ∧ decide (v < volts 8) = true) := by
    rintro ⟨h, -⟩
    exact absurd (hup.symm.trans h) (by decide)
  have hlost' : decide (v < volts 8) = true ∧ (!((s.modPower fun p => { p with ka := v }).set It.kaV v).power.kaLost) = true :=
    ⟨decide_eq_true hv, congrArg not hlost⟩
  have htier : (({ s.set It.kaV v with power := { s.power with ka := v, kaLost := true } } : State)).get It.sagTier = s.get It.sagTier :=
    State.get_set_of_field _ (by decide)
  unfold State.kaTo
  dsimp only
  rw [if_pos hrails, hshown, if_neg hpark, if_pos hlost', State.powerEvent, ← htier]
  rfl

/-! ## The store and the recorder on the way to PARK (R116, R388) -/

/-- What the recorder and the store do to items: those of the recorder and the open store transaction; clock, phase and supplies
are as before. -/
structure StoreWork (s t : State) : Prop where
  clk : t.clk = s.clk
  pending : t.pending = s.pending
  phase : t.phase = s.phase
  power : t.power = s.power
  items : ∀ k, k / 65536 ≠ 0xa8 → k ≠ It.persistPending → (∀ m < 16, k ≠ It.eventsLost m) → t.get k = s.get k

theorem StoreWork.refl (s : State) : StoreWork s s := ⟨rfl, rfl, rfl, rfl, fun _ _ _ _ => rfl⟩

theorem StoreWork.trans (h : StoreWork s t) (h' : StoreWork t u) : StoreWork s u where
  clk := h'.clk.trans h.clk
  pending := h'.pending.trans h.pending
  phase := h'.phase.trans h.phase
  power := h'.power.trans h.power
  items k hrec htxn hlost := (h'.items k hrec htxn hlost).trans (h.items k hrec htxn hlost)

theorem StoreWork.setRec (h : StoreWork s t) {k : Nat} (v : Nat) (hk : k / 65536 = 0xa8) : StoreWork s (t.set k v) :=
  h.trans ⟨rfl, rfl, rfl, rfl, fun _ hj _ _ => State.get_set_of_ne t v fun heq => hj (heq ▸ hk)⟩

theorem StoreWork.setTxn (h : StoreWork s t) (v : Nat) : StoreWork s (t.set It.persistPending v) :=
  h.trans ⟨rfl, rfl, rfl, rfl, fun _ _ hj _ => State.get_set_of_ne t v hj⟩

theorem StoreWork.emit (h : StoreWork s t) (code : Nat) (p : List Byte) : StoreWork s (t.emit code p) :=
  h.trans ⟨State.emit_clk _ _ _, State.emit_pending _ _ _, State.emit_phase _ _ _, State.emit_power _ _ _,
    fun k _ _ hlost => State.emit_get code p t k hlost⟩

theorem StoreWork.modHist (h : StoreWork s t) (f : HistBank → HistBank) : StoreWork s (t.modHist f) :=
  ⟨h.clk, h.pending, h.phase, h.power, h.items⟩

theorem StoreWork.modSb (h : StoreWork s t) (f : SlateBank → SlateBank) : StoreWork s (t.modSb f) :=
  ⟨h.clk, h.pending, h.phase, h.power, h.items⟩

theorem StoreWork.useFree (h : StoreWork s t) (n : Nat) : StoreWork s (t.useFree n) :=
  ⟨h.clk, h.pending, h.phase, h.power, h.items⟩

theorem StoreWork.ite {c : Prop} [Decidable c] (h : StoreWork s t) (h' : StoreWork s u) : StoreWork s (if c then t else u) := by
  split
  · exact h
  · exact h'

theorem StoreWork.record (h : StoreWork s t) (r : Record) : StoreWork s (t.record r) := by
  unfold State.record
  dsimp only
  split
  · exact (h.setRec _ (by decide)).emit _ _
  · exact (h.modHist _).setRec _ (by decide)

theorem StoreWork.closeNow (h : StoreWork s t) (ch fin flags : Nat) : StoreWork s (t.closeNow ch fin flags) := by
  unfold State.closeNow State.closeWindow
  split
  · exact h
  · have hhist := h.modHist fun h => { h with wins := upd h.wins ch fun _ => none, late := upd h.late ch fun _ => none }
    exact .ite (((StoreWork.ite (hhist.record _) hhist).record _).useFree 5) (.ite (hhist.record _) hhist)

theorem State.recorderEnd_storeWork (flags : Nat) (s : State) : StoreWork s (s.recorderEnd flags) :=
  List.foldlRecOn (motive := StoreWork s) _ _ (.refl s) fun _ hu _ _ => hu.closeNow _ _ _

theorem StoreWork.storeRecord (h : StoreWork s t) (r : Record) : StoreWork s (t.storeRecord r) := by
  unfold State.storeRecord
  dsimp only
  exact (((h.modHist _).setRec _ (by split <;> decide)).setRec _ (by split <;> decide)).setRec _ (by decide)

theorem State.storeQueue_storeWork (s : State) : StoreWork s s.storeQueue :=
  List.foldlRecOn (motive := StoreWork s) _ _ ((StoreWork.refl s).modHist _) fun _ hu r _ => hu.storeRecord r

theorem StoreWork.txnDone (h : StoreWork s t) : StoreWork s t.txnDone := by
  unfold State.txnDone
  split
  · exact h
  · exact (h.modSb _).setTxn _

theorem State.storeDone_storeWork (s : State) : StoreWork s s.storeDone :=
  List.foldlRecOn (motive := StoreWork s) _ _ (.refl s) fun _ hu _ _ => hu.txnDone

theorem State.storeClose_storeWork (s : State) : StoreWork s s.storeClose := s.storeDone_storeWork.modSb _

/-- Windows closed, records stored and store transactions completed. -/
def State.recordsStored (s : State) : State := ((s.recorderEnd 2).storeQueue).storeDone

theorem State.recordsStored_storeWork (s : State) : StoreWork s s.recordsStored :=
  ((s.recorderEnd_storeWork 2).trans (State.storeQueue_storeWork _)).trans (State.storeDone_storeWork _)

/-- The first completion of step 2 of Table 13.4: what is open is stored, and the shut-down is counted. -/
theorem State.shutStore_of_first (hphase : s.phase = .shuttingDown) (hfirst : s.power.stepTwo = false) : ∃ u, StoreWork s u ∧
    s.shutStore = ((u.bump It.powerFails).set It.lastShutdown 1).modPower fun p => { p with stepTwo := true } :=
  ⟨s.recordsStored, s.recordsStored_storeWork, if_pos ⟨hphase, by simp [hfirst]⟩⟩

theorem State.shutStore_of_other (h : ¬ (s.phase = .shuttingDown ∧ s.power.stepTwo = false)) : s.shutStore = s :=
  if_neg (by simpa using h)

theorem State.shutStore_keepsClock (s : State) : KeepsClock s s.shutStore := by
  by_cases h : s.phase = .shuttingDown ∧ s.power.stepTwo = false
  · obtain ⟨u, hwork, heq⟩ := State.shutStore_of_first h.1 h.2
    rw [heq]
    exact ⟨hwork.clk, hwork.pending⟩
  · rw [State.shutStore_of_other h]
    exact .refl s

theorem State.shutStore_ka (s : State) : s.shutStore.power.ka = s.power.ka := by
  by_cases h : s.phase = .shuttingDown ∧ s.power.stepTwo = false
  · obtain ⟨u, hwork, heq⟩ := State.shutStore_of_first h.1 h.2
    rw [heq]
    exact (congrArg PowerBank.ka hwork.power : u.power.ka = s.power.ka)
  · rw [State.shutStore_of_other h]

/-- A shut-down is counted once, and the reason kept. -/
theorem State.shutStore_counts (hphase : s.phase = .shuttingDown) : s.power.stepTwo = true ∨
    (s.shutStore.get It.lastShutdown = 1 ∧ s.shutStore.get It.powerFails = sat32 (s.get It.powerFails + 1)) := by
  cases hfirst : s.power.stepTwo
  case true => exact .inl rfl
  case false =>
    obtain ⟨u, hwork, heq⟩ := State.shutStore_of_first hphase hfirst
    have hfails := hwork.items It.powerFails (by decide) (by decide) (ne_eventsLost_of_field (by decide))
    have hget : ∀ k, s.shutStore.get k = ((u.bump It.powerFails).set It.lastShutdown 1).get k := fun k => by
      rw [heq]
      rfl
    refine .inr ⟨?_, ?_⟩
    · rw [hget, State.get_set, if_pos rfl]
    · rw [hget, State.get_set_of_field _ (by decide), State.bump, State.bumpBy, State.get_set, if_pos rfl, hfails]

/-! ## The entry into PARK (R12, R353) -/

theorem Store.find_filter_keep (keep : Nat → Bool) (k : Nat) (hk : keep k = true) (st : Store) :
    Store.find (st.filter fun e => keep e.1) k = Store.find st k := by
  induction st with
  | nil => rfl
  | cons e r ih =>
    obtain ⟨a, v⟩ := e
    rw [List.filter_cons]
    by_cases ha : a = k
    · rw [if_pos (by rw [ha]; exact hk), Store.find, Store.find, if_pos ha, if_pos ha]
    · rw [Store.find, if_neg ha, ← ih]
      split
      · rw [Store.find, if_neg ha]
      · rfl

theorem State.get_unpower {k : Nat} (hk : unpoweredItem k = false) (s : State) : s.unpower.get k = s.get k := by
  unfold State.get Store.read
  exact congrArg (fun o : Option Nat => o.getD (itemDefault s.variant k))
    (Store.find_filter_keep (fun k => !unpoweredItem k) k (by simp [hk]) s.items)

/-- Slates are freed, and reported at the next start: nothing but the switchboard changes, and the store stays closed. -/
theorem State.slatesParked_frame (s : State) :
    s.slatesParked = { s with sb := { s.sb with atStart := s.slatesParked.sb.atStart, slates := s.slatesParked.sb.slates } } :=
  List.foldlRecOn (motive := fun t : State => t = { s with sb := { s.sb with atStart := t.sb.atStart, slates := t.sb.slates } }) _ _ rfl
    fun t ht i _ => by rw [ht]; rfl

/-- The entry into PARK: what is kept, what loses its power. -/
structure Parks (s t : State) : Prop where
  clk : t.clk = s.clk
  pending : t.pending = s.pending
  phase : t.phase = .park
  closed : t.sb.closed = s.sb.closed
  valve : t.valve = {}
  io : t.io = {}
  stepTwo : t.power.stepTwo = false
  parkAt : t.power.parkAt = s.up
  running : t.power.running = none
  counted : t.power.counted = 0
  items : ∀ k, unpoweredItem k = false → t.get k = s.get k

theorem State.enterPark_parks (hka : volts 8 ≤ s.power.ka) : Parks s s.enterPark := by
  obtain ⟨a, l, hslates⟩ : ∃ a l, ({ s with cfgPark := s.items } : State).slatesParked =
      { s with cfgPark := s.items, sb := { s.sb with atStart := a, slates := l } } := ⟨_, _, State.slatesParked_frame _⟩
  have hkept : ¬ s.power.ka < volts 8 := Nat.not_lt.2 hka
  unfold State.enterPark
  rw [hslates]
  dsimp only
  rw [if_neg]
  · exact ⟨rfl, rfl, rfl, rfl, rfl, rfl, rfl, rfl, rfl, rfl, fun k hk => State.get_unpower hk _⟩
  · exact hkept

end

/-! ## The obligation -/

/-- Settles O40: each supply command by its effect on the module; the last one by the store that closes before PARK. -/
theorem suppliesDecidePower : Obligations.SuppliesDecidePower := by
  unfold Obligations.SuppliesDecidePower
  refine ⟨?tier, ?above, ?decision, ?recharge, ?complete, ?ka, ?dwell⟩
  case tier =>
    intro s dt v hup hold htest hlow hhigh hovers
    have hrow := State.mainTo_of_tier_zero (s := s.advance dt) hup hold htest (sagTier_zero_of_tier_two hlow hhigh) (by decide)
    have hshown : min v (volts 110) = v := Nat.min_eq_left (by simp only [volts]; omega)
    have hbelow : ¬ volts 80 < v := by
      simp only [volts]
      omega
    rw [if_neg (by decide), State.supplyOver_of_below (s := (s.advance dt).mainMeasured v 2) hbelow hovers,
      show tierEntries 0 2 = 1 from by decide] at hrow
    have honly : ItemsOnly [It.mainV, It.sagTier, It.sagEvents] { s.advance dt with power := { s.power with main := v } }
        ((((s.advance dt).mainMeasured v 2).bumpBy It.sagEvents 1).powerEvent 0) :=
      ((((ItemsOnly.refl _ _).set _ (by simp)).set _ (by simp)).bumpBy _ (by simp)).emit _ _
    refine ⟨_, timedAny_eq dt _ s _ hrow honly.clk honly.pending, ?_, ?_, ?_, honly.power, honly.items, honly.owner, honly.frame_power⟩
    · rw [State.powerEvent, State.get_emit_of_field _ _ _ (by decide), State.bumpBy, State.get_set_of_field _ (by decide), State.mainMeasured,
        State.get_set_of_field _ (by decide), State.get_set, if_pos rfl, hshown]
    · rw [State.powerEvent, State.get_emit_of_field _ _ _ (by decide), State.bumpBy, State.get_set_of_field _ (by decide), State.mainMeasured,
        State.get_set, if_pos rfl]
    · rw [State.powerEvent, State.get_emit_of_field _ _ _ (by decide), State.bumpBy, State.get_set, if_pos rfl, State.mainMeasured,
        State.get_set_of_field _ (by decide), State.get_set_of_field _ (by decide)]
      rfl
  case above =>
    intro s dt v hup hold htest habove hovers
    have hrow := State.mainTo_of_tier_zero (s := s.advance dt) hup hold htest (sagTier_zero_of_full (v := v) (by omega)) (by decide)
    rw [if_pos rfl, State.supplyOver_of_above (s := (s.advance dt).mainMeasured v 0) habove hovers, show tierEntries 0 0 = 0 from rfl] at hrow
    have hmeasured : ItemsOnly [It.mainV, It.supplyOver, It.sagEvents] ((s.advance dt).modPower fun p => { p with main := v })
        ((s.advance dt).mainMeasured v 0) :=
      ((ItemsOnly.refl _ _).set _ (by simp)).set_same ((State.get_set_of_field _ (by decide)).trans hold)
    have hover : ItemsOnly [It.mainV, It.supplyOver, It.sagEvents] { s.advance dt with power := { s.power with main := v, overs := true } }
        ({ (s.advance dt).mainMeasured v 0 with power := { ((s.advance dt).mainMeasured v 0).power with overs := true } } : State) :=
      hmeasured.modPower fun p => { p with overs := true }
    have honly := ((hover.bump (k := It.supplyOver) (by simp)).trans (State.powerEvent_itemsOnly _ 1 _)).bumpBy (k := It.sagEvents) 0 (by simp)
    refine ⟨_, timedAny_eq dt _ s _ hrow honly.clk honly.pending, ?_, ?_, honly.power, honly.items, honly.owner, honly.frame_power⟩
    · rw [State.bumpBy, State.get_set_of_field _ (by decide), State.powerEvent, State.get_emit_of_field _ _ _ (by decide),
        State.get_bump_of_field _ (by decide)]
      change ((s.advance dt).mainMeasured v 0).get It.mainV = _
      rw [State.mainMeasured, State.get_set_of_field _ (by decide), State.get_set, if_pos rfl]
      rfl
    · rw [State.bumpBy, State.get_set_of_field _ (by decide), State.powerEvent, State.get_emit_of_field _ _ _ (by decide),
        State.bump, State.bumpBy, State.get_set, if_pos rfl]
      change sat32 (((s.advance dt).mainMeasured v 0).get It.supplyOver + 1) = _
      rw [State.mainMeasured, State.get_set_of_field _ (by decide), State.get_set_of_field _ (by decide)]
      rfl
  case decision =>
    intro s dt t0 hup hrunning hdue hpanel hbypass
    have hrow : (s.advance dt).holdupDecision = (s.advance dt).shutting :=
      (State.holdupDecision_of_due (s := s.advance dt) hup hrunning hdue).trans (State.shutDown_of_idle (s := s.advance dt) hup hpanel hbypass)
    have honly := (s.advance dt).shutting_itemsOnly
    obtain ⟨hstate, hlane⟩ := (s.advance dt).get_shutting
    exact ⟨_, timedAny_eq dt _ s _ hrow honly.clk honly.pending, rfl, hstate, hlane, rfl, rfl, honly.items, honly.owner, honly.frame⟩
  case recharge =>
    intro s dt t0 hout hrunning hdue
    have hdue' : t0 + 50000000 ≤ (s.advance dt).up ∧ (s.advance dt).power.running.isNone = true := ⟨hdue, by
      rw [show (s.advance dt).power.running = none from hrunning]; rfl⟩
    have hrow : (s.advance dt).recharged = { s.advance dt with power := { s.power with counted := 0, outside := none } } := by
      unfold State.recharged
      rw [show (s.advance dt).power.outside = some t0 from hout]
      exact if_pos hdue'
    exact timedAny_eq dt _ s _ hrow rfl rfl
  case complete =>
    intro s dt hphase hwins hqueue hka
    have hclosed := (s.advance dt).shutStore.storeClose_storeWork
    have hclock := (s.advance dt).shutStore_keepsClock
    have hdone := State.shutStore_counts (s := s.advance dt) hphase
    have hparks : Parks (s.advance dt).shutStore.storeClose (s.advance dt).shutStore.storeClose.enterPark :=
      State.enterPark_parks (by rw [hclosed.power, State.shutStore_ka]; exact hka)
    have hrow : (s.advance dt).shutEnd = (s.advance dt).shutStore.storeClose.enterPark := by
      unfold State.shutEnd
      rw [show (s.advance dt).phase = .shuttingDown from hphase]
    have hclk := hparks.clk.trans (hclosed.clk.trans hclock.clk)
    refine ⟨_, timedAny_eq dt _ s _ hrow hclk (hparks.pending.trans (hclosed.pending.trans hclock.pending)), hparks.phase, ?_,
      hparks.stepTwo, hparks.closed, hparks.valve, hparks.io, ?_, hparks.running, hparks.counted⟩
    · refine hdone.imp_right fun ⟨hshut, hfails⟩ => ⟨?_, ?_⟩
      · rw [hparks.items _ (by decide), hclosed.items _ (by decide) (by decide) (ne_eventsLost_of_field (by decide)), hshut]
      · rw [hparks.items _ (by decide), hclosed.items _ (by decide) (by decide) (ne_eventsLost_of_field (by decide)), hfails]
        rfl
    · exact hparks.parkAt.trans (congrArg Clock.wall (hclosed.clk.trans hclock.clk))
  case ka =>
    intro s dt v hup hlow hlost
    have hrow := State.kaTo_of_loss (s := s.advance dt) hup hlow hlost
    exact timedAny_eq dt _ s _ hrow (State.emit_clk _ _ _) (State.emit_pending _ _ _)
  case dwell =>
    intro s dt hoff
    have hrails : ¬ (s.advance dt).railsUp = true := by
      rw [State.railsUp, show (s.advance dt).phase = .off from hoff]
      decide
    have hphase : ((s.advance dt).modPower fun p => { p with main := max p.main (volts 35) }).phase = .off := hoff
    have hrow : (s.advance dt).startDwell =
        ((s.advance dt).modPower fun p => { p with main := max p.main (volts 35) }).beginStart 0 1 := by
      unfold State.startDwell
      dsimp only
      rw [hphase]
    exact timedAny_eq dt (fun s => if s.railsUp then s else s.startDwell) s _ (by rw [if_neg hrails, hrow]; rfl) rfl rfl

end Sys2Proof.Machine
end

section
/-! SUPPORT. The Wavilo ring: members, ports, frames inserted, the bypass (spec 11, R305 to R315). -/

namespace Sys2Proof.Machine

open Sys2Proof.Safety

section
variable {ks : List Nat} {s t : State}

/-! ## The ring judged (R308, R309) -/

/-- The items that a judgement of the ring changes. -/
def judgeItems : List Nat := [It.ringState, It.ringMembers, It.ringBreaks]

theorem State.ringJudge_itemsOnly (s : State) : ItemsOnly judgeItems s s.ringJudge := by
  have hmembers : ItemsOnly judgeItems s (s.set It.ringMembers (s.ringPeers.length + 1)) := (ItemsOnly.refl _ s).set _ (by simp [judgeItems])
  have hstate := hmembers.set (s.set It.ringMembers (s.ringPeers.length + 1)).ringStateNow (k := It.ringState) (by simp [judgeItems])
  unfold State.ringJudge
  dsimp only
  split
  · exact hmembers
  · refine ItemsOnly.emit ?_ _ _
    split
    · exact hstate.bump (by simp [judgeItems])
    · exact hstate

theorem ItemsOnly.ringPeers (h : ItemsOnly ks s t) : t.ringPeers = s.ringPeers := by rw [h.frame]; rfl

theorem ItemsOnly.portUp (h : ItemsOnly ks s t) {p : Nat} (hp : It.portState p ∉ ks) : t.portUp p = s.portUp p :=
  congrArg (· == 1) (h.get hp (by decide))

theorem ItemsOnly.portsUp (h : ItemsOnly ks s t) (heast : It.portState 0 ∉ ks) (hwest : It.portState 1 ∉ ks) : t.portsUp = s.portsUp := by
  unfold State.portsUp
  rw [h.portUp heast, h.portUp hwest]

/-- ring_state depends on the nodes heard, ring_expected and the ports alone. -/
theorem ItemsOnly.ringStateNow (h : ItemsOnly ks s t) (hexpected : It.ringExpected ∉ ks) (heast : It.portState 0 ∉ ks)
    (hwest : It.portState 1 ∉ ks) : t.ringStateNow = s.ringStateNow := by
  have hnow : t.now = s.now := congrArg Clock.mtime h.clk
  unfold State.ringStateNow
  rw [h.ringPeers, h.get hexpected (by decide), h.portsUp heast hwest, hnow]

theorem State.get_ringJudge_members (s : State) : s.ringJudge.get It.ringMembers = s.ringPeers.length + 1 := by
  unfold State.ringJudge
  dsimp only
  split
  · rw [State.get_set, if_pos rfl]
  · rw [State.get_emit_of_field _ _ _ (by decide)]
    split
    · rw [State.get_bump_of_field _ (by decide), State.get_set_of_field _ (by decide), State.get_set, if_pos rfl]
    · rw [State.get_set_of_field _ (by decide), State.get_set, if_pos rfl]

theorem State.get_ringJudge_state (s : State) : s.ringJudge.get It.ringState = s.ringStateNow := by
  have hnow : (s.set It.ringMembers (s.ringPeers.length + 1)).ringStateNow = s.ringStateNow :=
    ItemsOnly.ringStateNow (ks := [It.ringMembers]) ((ItemsOnly.refl _ s).set _ (by simp)) (by decide) (by decide) (by decide)
  unfold State.ringJudge
  dsimp only
  rw [hnow]
  split
  · assumption
  · rw [State.get_emit_of_field _ _ _ (by decide)]
    split
    · rw [State.get_bump_of_field _ (by decide), State.get_set, if_pos rfl]
    · rw [State.get_set, if_pos rfl]

theorem State.get_ringJudge_of_field (s : State) {c i f : Nat} (hstate : f % 256 ≠ 0x20) (hmembers : f % 256 ≠ 0x21)
    (hbreaks : f % 256 ≠ 0x24) (hlost : f % 256 ≠ 0x0a) : s.ringJudge.get (itemKey c i f) = s.get (itemKey c i f) :=
  s.ringJudge_itemsOnly.get
    (by simpa [judgeItems] using ⟨itemKey_ne_of_field hstate, itemKey_ne_of_field hmembers, itemKey_ne_of_field hbreaks⟩) hlost

/-! ## Frames inserted (R307, R310) -/

theorem State.transmit_of_plain {link : Nat} (kind : Nat) (f : List Byte) (hinject : nth s.ring.injects link = none)
    (hholding : nth s.ring.holding link = []) : s.transmit link kind f = ([f], s) := by
  have hkept : upd s.ring.holding link (fun _ => []) = s.ring.holding := upd_of_fixed _ _ _ fun x hx => by
    rw [← hholding, nth_of_getElem? hx]
  have hring : (s.modRing fun r => { r with holding := upd r.holding link fun _ => [] }) = s :=
    congrArg (fun h => ({ s with ring := { s.ring with holding := h } } : State)) hkept
  unfold State.transmit State.passOut
  rw [hinject, hholding]
  exact congrArg (Prod.mk [f]) hring

/-- A frame goes out of a port that is UP, without an injection at its transmitter. -/
theorem State.putPort_of_plain {p : Nat} (kind : Nat) (f : List Byte) (hup : s.get (It.portState p) = 1)
    (hinject : nth s.ring.injects p = none) (hholding : nth s.ring.holding p = []) :
    s.putPort p kind f = ({ s with ring := { s.ring with sent := s.ring.sent ++ [(p, f)] } } : State).bumpBy (It.portFramesTx p) 1 := by
  have hport : s.portUp p = true := beq_iff_eq.2 hup
  unfold State.putPort
  rw [if_pos hport, State.transmit_of_plain kind f hinject hholding]
  rfl

theorem State.putPort_of_down {p : Nat} (kind : Nat) (f : List Byte) (hdown : s.get (It.portState p) ≠ 1) : s.putPort p kind f = s :=
  if_neg (by simpa [State.portUp] using hdown)

/-- A frame of this module leaves eastward where only WE is UP. -/
theorem State.ringInsert_east (kind dst : Nat) (body : List Byte) (hbypass : s.get It.bypassState = 2) (hinserts : s.inserts = true)
    (heast : s.get (It.portState 0) = 1) (hwest : s.get (It.portState 1) = 0) (hinject : nth s.ring.injects 0 = none)
    (hholding : nth s.ring.holding 0 = []) :
    s.ringInsert kind dst body = ({ s.set It.ringTxSeq ((s.get It.ringTxSeq + 1) % 65536) with
      ring := { s.ring with sent := s.ring.sent ++ [(0, ringBytes kind ((if dst = 0xff then 2 else 0) + 4 * s.lanes.latch) 68 dst
        (s.useRestart It.ringNode) (s.get It.ringTxSeq) body)] } } : State).bumpBy (It.portFramesTx 0) 1 := by
  have hports : s.portsUp = 1 := by simp [State.portsUp, State.portUp, heast, hwest, b2n]
  have heast' : (s.set It.ringTxSeq ((s.get It.ringTxSeq + 1) % 65536)).get (It.portState 0) = 1 := by
    rw [State.get_set_of_field _ (by decide), heast]
  unfold State.ringInsert
  rw [if_pos ⟨hbypass, hinserts, by rw [hports]; decide⟩]
  dsimp only
  rw [State.putPort_of_plain (s := s.set It.ringTxSeq ((s.get It.ringTxSeq + 1) % 65536)) _ _ heast' hinject hholding,
    State.putPort_of_down]
  · rfl
  · rw [State.bumpBy, State.get_set_of_field _ (by decide)]
    change (s.set It.ringTxSeq ((s.get It.ringTxSeq + 1) % 65536)).get (It.portState 1) ≠ 1
    rw [State.get_set_of_field _ (by decide), hwest]
    decide

/-- Without a port that is UP nothing is inserted. -/
theorem State.ringInsert_of_no_port (kind dst : Nat) (body : List Byte) (hports : s.portsUp = 0) : s.ringInsert kind dst body = s := by
  unfold State.ringInsert
  rw [if_neg fun h => h.2.2 hports, if_neg fun h => h.2 hports]

/-! ## The bypass (R314, R315) -/

theorem State.setBypass_of_change {st : Nat} (h : s.get It.bypassState ≠ st) : s.setBypass st =
    (s.set It.bypassState st).emit 0x0c81 (toLE 1 st ++ toLE 3 0 ++ toLE 4 (s.get It.bypassCycles) ++ toLE 8 s.now) := if_neg h

/-- The items of the ring module, but none of the counters of lost events, are as before the store closed. -/
theorem State.get_shutStore_of_ring {f : Nat} (hlost : f % 256 ≠ 0x0a) (hf : f < 256) (s : State) :
    s.shutStore.get (itemKey 0x88 0 f) = s.get (itemKey 0x88 0 f) := by
  by_cases h : s.phase = .shuttingDown ∧ s.power.stepTwo = false
  · obtain ⟨u, hwork, heq⟩ := State.shutStore_of_first h.1 h.2
    have hkept := hwork.items (itemKey 0x88 0 f) (by simp only [itemKey]; omega) (by simp only [itemKey]; omega) (ne_eventsLost_of_field hlost)
    rw [heq]
    change ((u.bump It.powerFails).set It.lastShutdown 1).get (itemKey 0x88 0 f) = _
    rw [State.get_set_of_ne _ _ (by simp only [itemKey]; omega), State.get_bump_of_ne _ (by simp only [itemKey]; omega), hkept]
  · rw [State.shutStore_of_other h]

theorem State.joinWaitEnd_of_due {t0 : Nat} (hjoin : s.ring.join = some t0) (hdue : t0 ≤ s.now) (hbypass : s.get It.bypassState = 0) :
    s.joinWaitEnd = ({ s.set It.bypassState 1 with ring := { s.ring with join := none } } : State).emit 0x0c81
      (toLE 1 1 ++ toLE 3 0 ++ toLE 4 (s.get It.bypassCycles) ++ toLE 8 s.now) := by
  have hclosed : (s.modRing fun r => { r with join := none }).get It.bypassState = 0 := hbypass
  unfold State.joinWaitEnd
  rw [hjoin]
  dsimp only
  rw [if_pos hdue, if_pos hclosed, State.setBypass_of_change (by rw [hclosed]; decide)]
  rfl

/-! ## Ports and nodes (R305, R308) -/

theorem State.portComesUp_of_down {p : Nat} (hport : s.get (It.portState p) = 0) (hbypass : s.get It.bypassState = 2) :
    s.portComesUp p = (s.set (It.portState p) 1).ringJudge := if_pos ⟨hport, .inr hbypass⟩

theorem State.portGoesDown_of_up {p : Nat} (hport : s.get (It.portState p) = 1) :
    s.portGoesDown p = (s.set (It.portState p) 0).bump (It.portDowns p) := if_pos (beq_iff_eq.2 hport)

/-- The nodes known after a STATUS of one of them has arrived on a port. -/
def RingBank.heardOn (src port now : Nat) (r : RingBank) : RingBank :=
  { r with nodes := r.nodes.map fun n => if n.node = src then
      (if port = 0 then { n with east := some now } else { n with west := some now }) else n }

theorem State.statusSeen_of_known {src : Nat} (port : Nat) (hother : src ≠ s.useRestart It.ringNode)
    (hknown : s.ring.nodes.any (fun n => n.node == src) = true) : s.statusSeen src port = s.modRing (RingBank.heardOn src port s.now) := by
  unfold State.statusSeen
  rw [if_neg hother]
  exact congrArg (fun r => ({ s with ring := r } : State)) (if_pos hknown)

/-- A port that is UP goes DOWN with its code errors, and the ring is judged. -/
def State.portDropped (p codeErrors : Nat) (s : State) : State :=
  (((s.bumpBy (It.portCodeErrors p) codeErrors).set (It.portState p) 0).bump (It.portDowns p)).ringJudge

theorem State.portGoesDown_judged {p : Nat} (codeErrors : Nat) (hport : s.get (It.portState p) = 1) :
    ((s.bumpBy (It.portCodeErrors p) codeErrors).portGoesDown p).ringJudge = s.portDropped p codeErrors := by
  have hstill : (s.bumpBy (It.portCodeErrors p) codeErrors).get (It.portState p) = 1 := by
    rw [State.bumpBy, State.get_set_of_field _ (by decide), hport]
  rw [State.portGoesDown_of_up hstill]
  rfl

theorem State.portDropped_itemsOnly (p codeErrors : Nat) (s : State) :
    ItemsOnly [It.portState p, It.portDowns p, It.portCodeErrors p, It.ringState, It.ringMembers, It.ringBreaks] s (s.portDropped p codeErrors) :=
  ((((ItemsOnly.refl _ s).bumpBy codeErrors (by simp)).set 0 (by simp)).bump (by simp)).trans
    ((State.ringJudge_itemsOnly _).mono (by simp [judgeItems]))

theorem State.get_portDropped (p codeErrors : Nat) (s : State) : (s.portDropped p codeErrors).get (It.portState p) = 0 ∧
    (s.portDropped p codeErrors).get (It.portDowns p) = sat32 (s.get (It.portDowns p) + 1) ∧
    (s.portDropped p codeErrors).get (It.portCodeErrors p) = sat32 (s.get (It.portCodeErrors p) + codeErrors) := by
  unfold State.portDropped
  refine ⟨?_, ?_, ?_⟩
  · rw [State.get_ringJudge_of_field _ (by decide) (by decide) (by decide) (by decide), State.get_bump_of_field _ (by decide), State.get_set,
      if_pos rfl]
  · rw [State.get_ringJudge_of_field _ (by decide) (by decide) (by decide) (by decide), State.bump, State.bumpBy, State.get_set, if_pos rfl,
      State.get_set_of_field _ (by decide), State.bumpBy, State.get_set_of_field _ (by decide)]
  · rw [State.get_ringJudge_of_field _ (by decide) (by decide) (by decide) (by decide), State.get_bump_of_field _ (by decide),
      State.get_set_of_field _ (by decide), State.bumpBy, State.get_set, if_pos rfl]

/-- ring_state is judged by the port's new state, whatever its counters. -/
theorem State.get_portDropped_ringState (p codeErrors : Nat) (s : State) :
    (s.portDropped p codeErrors).get It.ringState = (s.set (It.portState p) 0).ringStateNow := by
  have hcounted : ItemsOnly [It.portDowns p, It.portCodeErrors p] (s.set (It.portState p) 0)
      (((s.bumpBy (It.portCodeErrors p) codeErrors).set (It.portState p) 0).bump (It.portDowns p)) := by
    refine ⟨fun k hk _ => ?_, rfl, rfl⟩
    simp only [List.mem_cons, List.not_mem_nil, or_false, not_or] at hk
    rw [State.get_bump_of_ne _ hk.1, State.get_set, State.get_set, State.bumpBy, State.get_set_of_ne _ _ hk.2]
  unfold State.portDropped
  rw [State.get_ringJudge_state]
  refine hcounted.ringStateNow ?_ ?_ ?_ <;>
    simpa using ⟨itemKey_ne_of_field (by decide), itemKey_ne_of_field (by decide)⟩

/-! ## A STATUS of this module -/

theorem ItemsOnly.useRestart (h : ItemsOnly ks s t) : t.useRestart = s.useRestart := by
  rw [h.frame]
  rfl

theorem ItemsOnly.inserts (h : ItemsOnly ks s t) : t.inserts = s.inserts := by
  rw [h.frame]
  rfl

/-- The ring once a STATUS has left eastward. -/
def State.statusSent (s : State) : RingBank :=
  { s.ring with sent := s.ring.sent ++ [(0, ringBytes 3 (2 + 4 * s.lanes.latch + 0) 68 0xff (s.useRestart It.ringNode) (s.get It.ringTxSeq)
      (toLE 2 (s.useRestart It.ringNode) ++ toLE 1 2 ++ toLE 1 1 ++ toLE 2 (s.ringPeers.length + 1) ++ toLE 2 0))] }

/-- A judged ring whose STATUS leaves eastward. -/
theorem State.sendStatus_east (hbypass : s.get It.bypassState = 2) (hinserts : s.inserts = true)
    (heast : s.get (It.portState 0) = 1) (hwest : s.get (It.portState 1) = 0) (hinject : nth s.ring.injects 0 = none)
    (hholding : nth s.ring.holding 0 = []) :
    s.ringJudge.sendStatus = ({ s.ringJudge.set It.ringTxSeq ((s.get It.ringTxSeq + 1) % 65536) with
      ring := s.statusSent } : State).bumpBy (It.portFramesTx 0) 1 := by
  have honly := s.ringJudge_itemsOnly
  have hget : ∀ {c i f : Nat}, f % 256 ≠ 0x20 → f % 256 ≠ 0x21 → f % 256 ≠ 0x24 → f % 256 ≠ 0x0a →
    s.ringJudge.get (itemKey c i f) = s.get (itemKey c i f) := fun h1 h2 h3 h4 => s.get_ringJudge_of_field h1 h2 h3 h4
  have hbypass' : s.ringJudge.get It.bypassState = 2 := (hget (by decide) (by decide) (by decide) (by decide)).trans hbypass
  have heast' : s.ringJudge.get (It.portState 0) = 1 := (hget (by decide) (by decide) (by decide) (by decide)).trans heast
  have hwest' : s.ringJudge.get (It.portState 1) = 0 := (hget (by decide) (by decide) (by decide) (by decide)).trans hwest
  have hseq : s.ringJudge.get It.ringTxSeq = s.get It.ringTxSeq := hget (by decide) (by decide) (by decide) (by decide)
  have hports : s.ringJudge.portsUp = 1 := by simp [State.portsUp, State.portUp, heast', hwest', b2n]
  unfold State.sendStatus
  rw [State.ringInsert_east 3 0xff _ hbypass' (honly.inserts.trans hinserts) heast' hwest' (by rw [honly.ring]; exact hinject)
    (by rw [honly.ring]; exact hholding), hbypass', hports, hseq, State.get_ringJudge_members, honly.useRestart, honly.ring, honly.lanes]
  rfl

/-- The items that a STATUS eastward after a judgement changes. -/
def statusItems : List Nat := [It.ringState, It.ringMembers, It.ringBreaks, It.ringTxSeq, It.portFramesTx 0]

theorem State.sendStatus_itemsOnly (s : State) : ItemsOnly statusItems { s with ring := s.statusSent }
    (({ s.ringJudge.set It.ringTxSeq ((s.get It.ringTxSeq + 1) % 65536) with ring := s.statusSent } : State).bumpBy (It.portFramesTx 0) 1) :=
  (((s.ringJudge_itemsOnly.mono (by simp [judgeItems, statusItems])).set _ (by simp [statusItems])).modRing fun _ => s.statusSent).bumpBy 1
    (by simp [statusItems])

/-- The bypass relays have settled without a port UP. -/
theorem State.bypassSettled_of_no_port (hbypass : s.get It.bypassState = 1) (heast : s.get (It.portState 0) = 0)
    (hwest : s.get (It.portState 1) = 0) : s.bypassSettled false = (s.setBypass 2).ringJudge := by
  have honly : ItemsOnly (It.bypassState :: judgeItems) s (s.setBypass 2).ringJudge :=
    ((ItemsOnly.refl _ s).setGuard _ _ _ (by simp)).trans ((State.ringJudge_itemsOnly _).mono (by simp))
  have hports : (s.setBypass 2).ringJudge.portsUp = 0 := by
    rw [honly.portsUp (by decide) (by decide)]
    simp [State.portsUp, State.portUp, heast, hwest, b2n]
  unfold State.bypassSettled
  rw [if_pos hbypass]
  exact State.ringInsert_of_no_port _ _ _ hports

end

/-! ## The obligation -/

/-- Settles O33: each command by its effect on the ring, and the ring judged after it. -/
theorem ringPortsAndMembers : Obligations.RingPortsAndMembers := by
  unfold Obligations.RingPortsAndMembers
  refine ⟨?portUp, ?portDown, ?status, ?period, ?timeout, ?join, ?settled, ?closed⟩
  case portUp =>
    intro s dt port hspeaks hport hbypass
    have hrow : (s.advance dt).portComesUp port = ((s.advance dt).set (It.portState port) 1).ringJudge :=
      State.portComesUp_of_down (s := s.advance dt) hport hbypass
    have honly : ItemsOnly [It.portState port, It.ringState, It.ringMembers, It.ringBreaks] (s.advance dt)
        ((s.advance dt).set (It.portState port) 1).ringJudge :=
      ((ItemsOnly.refl _ _).set 1 (by simp)).trans ((State.ringJudge_itemsOnly _).mono (by simp [judgeItems]))
    refine ⟨_, timedRom_eq dt _ s _ hspeaks hrow honly.clk honly.pending, ?_, State.get_ringJudge_state _, State.get_ringJudge_members _,
      honly.items, honly.owner, honly.frame⟩
    rw [State.get_ringJudge_of_field _ (by decide) (by decide) (by decide) (by decide), State.get_set, if_pos rfl]
  case portDown =>
    intro s dt codeErrors port hspeaks hport
    have hrow := State.portGoesDown_judged (s := s.advance dt) codeErrors hport
    have honly := (s.advance dt).portDropped_itemsOnly port codeErrors
    obtain ⟨hstate, hdowns, hcode⟩ := (s.advance dt).get_portDropped port codeErrors
    exact ⟨_, timedRom_eq dt (fun s => ((s.bumpBy (It.portCodeErrors port) codeErrors).portGoesDown port).ringJudge) s _ hspeaks hrow honly.clk
      honly.pending, hstate, hdowns, hcode, State.get_portDropped_ringState _ _ _,
      State.get_ringJudge_members _, honly.items, honly.owner, honly.frame⟩
  case status =>
    intro s dt src port body hspeaks hother hknown
    have hrow : ((s.advance dt).statusSeen src.toNat port).ringJudge =
        ((s.advance dt).modRing (RingBank.heardOn src.toNat port (s.now + dt))).ringJudge := by
      rw [State.statusSeen_of_known (s := s.advance dt) port hother hknown]
      rfl
    have honly := ((s.advance dt).modRing (RingBank.heardOn src.toNat port (s.now + dt))).ringJudge_itemsOnly
    refine ⟨_, timedRom_eq dt (fun s => (s.statusSeen src.toNat port).ringJudge) s _ hspeaks hrow honly.clk honly.pending, honly.ring,
      ?_, ?_, honly.items, honly.owner, honly.frame_ring⟩
    · rw [State.get_ringJudge_members, honly.ringPeers]
    · rw [State.get_ringJudge_state, honly.ringStateNow (by decide) (by decide) (by decide)]
  case period =>
    intro s dt hspeaks hbypass hinserts heast hwest hinject hholding
    have hrow := State.sendStatus_east (s := s.advance dt) hbypass hinserts heast hwest hinject hholding
    have honly := (s.advance dt).sendStatus_itemsOnly
    refine ⟨_, timedRom_eq dt (fun s => s.ringJudge.sendStatus) s _ hspeaks hrow honly.clk honly.pending, ?_, honly.ring, honly.items,
      honly.owner, honly.frame_ring⟩
    rw [State.bumpBy, State.get_set_of_field _ (by decide)]
    change ((s.advance dt).ringJudge.set It.ringTxSeq _).get It.ringTxSeq = _
    rw [State.get_set, if_pos rfl]
    rfl
  case timeout =>
    intro s dt node hspeaks hgone
    have hrow : (if (s.advance dt).ringPeers.any (fun n => n.node == node.toNat) then s.advance dt else (s.advance dt).ringJudge) =
        (s.advance dt).ringJudge := by
      rw [hgone]
      rfl
    have honly := (s.advance dt).ringJudge_itemsOnly
    exact ⟨_, timedRom_eq dt (fun s => if s.ringPeers.any fun n => n.node == node.toNat then s else s.ringJudge) s _ hspeaks hrow honly.clk
      honly.pending, State.get_ringJudge_members _, State.get_ringJudge_state _,
      honly.items, honly.owner, honly.frame⟩
  case join =>
    intro s dt t0 hspeaks hjoin hdue hbypass
    exact timedRom_eq dt _ s _ hspeaks (State.joinWaitEnd_of_due (s := s.advance dt) hjoin hdue hbypass) (State.emit_clk _ _ _)
      (State.emit_pending _ _ _)
  case settled =>
    intro s dt hspeaks hbypass heast hwest
    have hclosed : (s.advance dt).get It.bypassState = 1 := hbypass
    have hrow := State.bypassSettled_of_no_port (s := s.advance dt) hbypass heast hwest
    have hset : ItemsOnly [It.bypassState, It.ringState, It.ringMembers, It.ringBreaks] (s.advance dt) ((s.advance dt).setBypass 2) :=
      (ItemsOnly.refl _ _).setGuard _ _ _ (by simp)
    have honly := hset.trans ((State.ringJudge_itemsOnly _).mono (by simp [judgeItems]))
    refine ⟨_, timedRom_eq dt _ s _ hspeaks hrow honly.clk honly.pending, ?_, ?_, ?_, honly.items, honly.owner, honly.frame⟩
    · rw [State.get_ringJudge_of_field _ (by decide) (by decide) (by decide) (by decide),
        State.setBypass_of_change (by rw [hclosed]; decide), State.get_emit_of_field _ _ _ (by decide), State.get_set, if_pos rfl]
    · rw [State.get_ringJudge_state, hset.ringStateNow (by decide) (by decide) (by decide)]
      have heast' : (s.advance dt).get (It.portState 0) = 0 := heast
      have hwest' : (s.advance dt).get (It.portState 1) = 0 := hwest
      exact if_pos (by simp [State.portsUp, State.portUp, heast', hwest', b2n])
    · rw [State.get_ringJudge_members, hset.ringPeers]
  case closed =>
    intro s dt hbypass
    have hclock := (s.advance dt).shutStore_keepsClock
    have hstate : (s.advance dt).shutStore.get It.bypassState = 3 :=
      (State.get_shutStore_of_ring (by decide) (by decide) (s.advance dt)).trans hbypass
    have hcycles : (s.advance dt).shutStore.get It.bypassCycles = s.get It.bypassCycles :=
      State.get_shutStore_of_ring (by decide) (by decide) (s.advance dt)
    have hnow : (s.advance dt).shutStore.now = s.now + dt := congrArg Clock.mtime hclock.clk
    have hrow : (if (s.advance dt).get It.bypassState = 3 then (s.advance dt).shutStore.setBypass 0 else s.advance dt) =
        ((s.advance dt).shutStore.set It.bypassState 0).emit 0x0c81
          (toLE 1 0 ++ toLE 3 0 ++ toLE 4 (s.get It.bypassCycles) ++ toLE 8 (s.now + dt)) := by
      rw [if_pos (show (s.advance dt).get It.bypassState = 3 from hbypass), State.setBypass_of_change (by rw [hstate]; decide), hcycles, hnow]
    have hafter := (hclock.set It.bypassState 0).emit 0x0c81 (toLE 1 0 ++ toLE 3 0 ++ toLE 4 (s.get It.bypassCycles) ++ toLE 8 (s.now + dt))
    exact timedAny_eq dt (fun s => if s.get It.bypassState = 3 then s.shutStore.setBypass 0 else s) s _ hrow hafter.clk hafter.pending

end Sys2Proof.Machine
end

section
/-! SUPPORT. The clock and the queue of commands under the operations of which opcodes are made: mailboxes, sessions and ownership,
slates, the ring, lanes, updates and the panel. Only the passing of time and a start move them. -/

namespace Sys2Proof.Machine

/-- Clock and queue of a state. -/
def State.timing (s : State) : Clock × List Instr := (s.clk, s.pending)

theorem KeepsClock.timing {s t : State} (h : KeepsClock s t) : t.timing = s.timing := by
  unfold State.timing
  rw [h.clk, h.pending]

theorem KeepsClock.of_timing {s t : State} (h : t.timing = s.timing) : KeepsClock s t :=
  ⟨congrArg Prod.fst h, congrArg Prod.snd h⟩

theorem State.foldl_timing {α : Type} (f : State → α → State) (hf : ∀ s a, (f s a).timing = s.timing) (l : List α) (s : State) :
    (l.foldl f s).timing = s.timing :=
  List.foldlRecOn (motive := fun t => t.timing = s.timing) _ _ rfl fun t ht a _ => (hf t a).trans ht

theorem State.each_timing (l : List Nat) (f : Nat → State → State) (hf : ∀ n s, (f n s).timing = s.timing) (s : State) :
    (s.each l f).timing = s.timing := State.foldl_timing _ (fun s n => hf n s) l s

section
variable (s : State)

/-! ## Changes of one component -/

@[simp] theorem State.set_timing (k v : Nat) : (s.set k v).timing = s.timing := rfl
@[simp] theorem State.bump_timing (k : Nat) : (s.bump k).timing = s.timing := rfl
@[simp] theorem State.useFree_timing (n : Nat) : (s.useFree n).timing = s.timing := rfl
@[simp] theorem State.fresh_timing : s.fresh.2.timing = s.timing := rfl
@[simp] theorem State.modMail_timing (f : Mail → Mail) : (s.modMail f).timing = s.timing := rfl
@[simp] theorem State.modMaster_timing (m : Nat) (f : Master → Master) : (s.modMaster m f).timing = s.timing := rfl
@[simp] theorem State.modTime_timing (f : TimeState → TimeState) : (s.modTime f).timing = s.timing := rfl
@[simp] theorem State.modSb_timing (f : SlateBank → SlateBank) : (s.modSb f).timing = s.timing := rfl
@[simp] theorem State.modPanel_timing (f : PanelBank → PanelBank) : (s.modPanel f).timing = s.timing := rfl
@[simp] theorem State.modValve_timing (f : ValveBank → ValveBank) : (s.modValve f).timing = s.timing := rfl
@[simp] theorem State.modPort_timing (p : Nat) (f : CamPort → CamPort) : (s.modPort p f).timing = s.timing := rfl
@[simp] theorem State.modFus_timing (f : FuBank → FuBank) : (s.modFus f).timing = s.timing := rfl
@[simp] theorem State.modRods_timing (f : RodBank → RodBank) : (s.modRods f).timing = s.timing := rfl
@[simp] theorem State.modIo_timing (f : IoBank → IoBank) : (s.modIo f).timing = s.timing := rfl
@[simp] theorem State.modCan_timing (ch : Nat) (f : CanCh → CanCh) : (s.modCan ch f).timing = s.timing := rfl
@[simp] theorem State.modRing_timing (f : RingBank → RingBank) : (s.modRing f).timing = s.timing := rfl
@[simp] theorem State.modLanes_timing (f : LaneBank → LaneBank) : (s.modLanes f).timing = s.timing := rfl
@[simp] theorem State.modPower_timing (f : PowerBank → PowerBank) : (s.modPower f).timing = s.timing := rfl
@[simp] theorem State.modFw_timing (f : UpdBank → UpdBank) : (s.modFw f).timing = s.timing := rfl
@[simp] theorem State.modHist_timing (f : HistBank → HistBank) : (s.modHist f).timing = s.timing := rfl

/-! ## Items and components by number -/

@[simp] theorem State.modSlate_timing (i : Nat) (f : Slate → Slate) : (s.modSlate i f).timing = s.timing := rfl
@[simp] theorem State.stageDies_timing (i : Nat) : (s.stageDies i).timing = s.timing := rfl
@[simp] theorem State.unpin_timing (h : Nat) : (s.unpin h).timing = s.timing := rfl
@[simp] theorem State.modRod_timing (l : Nat) (f : Rod → Rod) : (s.modRod l f).timing = s.timing := rfl
@[simp] theorem State.modVc_timing (c : Nat) (f : Chan → Chan) : (s.modVc c f).timing = s.timing := rfl
@[simp] theorem State.dropBead_timing (b outcome late : Nat) (x : Bead) : (s.dropBead b outcome late x).timing = s.timing := rfl
@[simp] theorem State.startSwitch_timing (target initiator : Nat) : (s.startSwitch target initiator).timing = s.timing := rfl
@[simp] theorem State.setPending_timing (what : Nat) : (s.setPending what).timing = s.timing := rfl
@[simp] theorem State.modSes_timing (f : UpdSession → UpdSession) : (s.modSes f).timing = s.timing := rfl
@[simp] theorem State.modSpare_timing (x : Nat) (f : FwBank → FwBank) : (s.modSpare x f).timing = s.timing := rfl
@[simp] theorem State.modBank_timing (x i : Nat) (f : FwBank → FwBank) : (s.modBank x i f).timing = s.timing := rfl
@[simp] theorem State.endTrials_timing : s.endTrials.timing = s.timing := rfl
@[simp] theorem State.setSession_timing (m st : Nat) : (s.setSession m st).timing = s.timing := rfl
@[simp] theorem State.accepted_timing (m : Nat) : (s.accepted m).timing = s.timing := rfl
@[simp] theorem State.blkConsume_timing (m first n : Nat) : (s.blkConsume m first n).timing = s.timing := rfl

/-! ## Events and responses -/

@[simp] theorem State.emit_timing (code : Nat) (p : List Byte) : (s.emit code p).timing = s.timing :=
  ((KeepsClock.refl s).emit code p).timing

@[simp] theorem State.respond_timing (m : Nat) (r : Resp) : (s.respond m r).timing = s.timing := by
  obtain ⟨ms, h⟩ := State.respond_shape m r s
  rw [h]
  rfl

@[simp] theorem State.answer_timing (m : Nat) (w : Wait) (st : Nat) (p : List Byte) : (s.answer m w st p).timing = s.timing := by
  obtain ⟨ms, h⟩ := State.answer_shape m w st p s
  rw [h]
  rfl

@[simp] theorem State.answerNow_timing (m : Nat) (w : Wait) (st : Nat) : (s.answerNow m w st).timing = s.timing := by
  obtain ⟨ms, h⟩ := State.answerNow_shape m w st s
  rw [h]
  rfl

@[simp] theorem State.flush_timing (m : Nat) : (s.flush m).timing = s.timing := by
  obtain ⟨ms, h⟩ := State.flush_shape m s
  rw [h]
  rfl

@[simp] theorem State.setGuard_timing (k g code : Nat) (p : List Byte) : (s.setGuard k g code p).timing = s.timing := by
  unfold State.setGuard
  split <;> simp

@[simp] theorem State.cancelAnswer_timing (i st : Nat) : (s.cancelAnswer i st).timing = s.timing :=
  State.each_timing _ _ (fun m u => u.answerNow_timing m _ st) s

@[simp] theorem State.useBudget_timing (op : Nat) : (s.useBudget op).timing = s.timing :=
  KeepsClock.timing ⟨State.useBudget_clk op s, State.useBudget_pending op s⟩

@[simp] theorem State.answerCmd_timing (m : Nat) (f : Frame) (r : Reply) : (s.answerCmd m f r).timing = s.timing := by
  unfold State.answerCmd
  exact State.respond_timing _ m _

/-! ## Update sessions, link tests and lanes -/

@[simp] theorem State.setUpd_timing (st cause : Nat) : (s.setUpd st cause).timing = s.timing := (s.setUpd_keepsClock st cause).timing

@[simp] theorem State.endSession_timing (outcome cause : Nat) : (s.endSession outcome cause).timing = s.timing :=
  (State.endSession_keepsClock outcome cause s).timing

@[simp] theorem State.updDiscard_timing (outcome : Nat) : (s.updDiscard outcome).timing = s.timing :=
  (State.updDiscard_keepsClock outcome s).timing

@[simp] theorem State.ringJudge_timing : s.ringJudge.timing = s.timing := s.ringJudge_keepsClock.timing

@[simp] theorem State.endTest_timing (link : Nat) : (s.endTest link).timing = s.timing := (State.endTest_keepsClock link s).timing

@[simp] theorem State.endInject_timing (link : Nat) : (s.endInject link).timing = s.timing := (State.endInject_keepsClock link s).timing

@[simp] theorem State.endTests_timing : s.endTests.timing = s.timing := s.endTests_keepsClock.timing

@[simp] theorem State.restartLane_timing (x cause : Nat) : (s.restartLane x cause).timing = s.timing :=
  (State.restartLane_keepsClock x cause s).timing

@[simp] theorem State.endSwitch_timing (outcome gap : Nat) : (s.endSwitch outcome gap).timing = s.timing := by
  unfold State.endSwitch
  split <;> simp

/-! ## Sessions and ownership -/

@[simp] theorem State.handoverEvent_timing (target phase : Nat) : (s.handoverEvent target phase).timing = s.timing := s.emit_timing _ _

@[simp] theorem State.ownerChanged_timing (old new cause : Nat) : (s.ownerChanged old new cause).timing = s.timing := s.emit_timing _ _

@[simp] theorem State.endOffer_timing (phase : Nat) : (s.endOffer phase).timing = s.timing := by
  unfold State.endOffer
  split
  · rfl
  · split <;> simp

@[simp] theorem State.targetGone_timing (m : Nat) : (s.targetGone m).timing = s.timing := by
  unfold State.targetGone
  split
  · split <;> simp
  · rfl

@[simp] theorem State.dropClaim_timing (m : Nat) : (s.dropClaim m).timing = s.timing := by
  unfold State.dropClaim
  simp

@[simp] theorem State.discardSlate_timing (i cause : Nat) : (s.discardSlate i cause).timing = s.timing := by
  unfold State.discardSlate
  dsimp only
  split <;> simp

@[simp] theorem State.openElection_timing (former : Nat) : (s.openElection former).timing = s.timing := by
  unfold State.openElection
  simp

@[simp] theorem State.vacate_timing (cause st : Nat) : (s.vacate cause st).timing = s.timing := by
  unfold State.vacate
  split
  · rfl
  · have hslates : ∀ (l : List Nat) (u : State), (u.each l fun i s => s.discardSlate i 1).timing = u.timing := fun l u =>
      State.each_timing l _ (fun i v => v.discardSlate_timing i 1) u
    split <;> simp [hslates]

@[simp] theorem State.closeSession_timing (m cause : Nat) : (s.closeSession m cause).timing = s.timing := by
  have htrace : ∀ (u : State) (r : RodBank), ({ u with rods := r } : State).timing = u.timing := fun _ _ => rfl
  unfold State.closeSession
  dsimp only
  split <;> simp [htrace]

@[simp] theorem State.grant_timing (w : Nat) : (s.grant w).timing = s.timing := by
  have hothers : ∀ (l : List Nat) (u : State), (u.each l fun m s => s.answer m .claim stConflict (toLE 4 w)).timing = u.timing := fun l u =>
    State.each_timing l _ (fun m v => v.answer_timing m _ _ _) u
  unfold State.grant
  simp [hothers]

/-! ## Items, pages and CAN buffers -/

@[simp] theorem State.panelRelease_timing (keys : List Nat) : (s.panelRelease keys).timing = s.timing := by
  unfold State.panelRelease
  split <;> simp

@[simp] theorem State.openTxn_timing (es : List (Nat × Nat)) : (s.openTxn es).timing = s.timing := by
  unfold State.openTxn
  split <;> simp

@[simp] theorem State.writeDirect_timing (es : List (Nat × Nat)) : (s.writeDirect es).timing = s.timing := by
  unfold State.writeDirect
  simp only [State.openTxn_timing, State.panelRelease_timing]
  rfl

@[simp] theorem State.canFree_timing (ch : Nat) (b : TxBuf) (outcome flags : Nat) : (s.canFree ch b outcome flags).timing = s.timing := by
  unfold State.canFree State.txDone
  split <;> simp

/-! ## The bypass and the panel -/

@[simp] theorem State.setBypass_timing (st : Nat) : (s.setBypass st).timing = s.timing := s.setGuard_timing _ _ _ _

@[simp] theorem State.portGoesDown_timing (p : Nat) : (s.portGoesDown p).timing = s.timing := by
  unfold State.portGoesDown
  split <;> simp

@[simp] theorem State.bypassClose_timing : s.bypassClose.timing = s.timing := by
  unfold State.bypassClose
  dsimp only
  split <;> simp

@[simp] theorem State.ringJoin_timing : s.ringJoin.timing = s.timing := by
  unfold State.ringJoin
  split <;> simp

@[simp] theorem State.panelRest_timing : s.panelRest.timing = s.timing := by
  unfold State.panelRest State.setPanel
  split <;> simp

@[simp] theorem State.panelEvent_timing (u : PanelUpd) (outcome : Nat) : (s.panelEvent u outcome).timing = s.timing := s.emit_timing _ _

@[simp] theorem State.panelStop_timing : s.panelStop.timing = s.timing := by
  unfold State.panelStop
  split <;> simp

/-! ## Resets and fall-backs -/

@[simp] theorem State.storeClose_timing : s.storeClose.timing = s.timing :=
  KeepsClock.timing ⟨s.storeClose_storeWork.clk, s.storeClose_storeWork.pending⟩

@[simp] theorem State.setLatch_timing (lane : Nat) (accepting : Bool) : (s.setLatch lane accepting).timing = s.timing := by
  cases accepting <;> rfl

@[simp] theorem State.resetDies_timing (kind : Nat) : (s.resetDies kind).timing = s.timing := by
  have hstarting : ∀ u : State, ({ u with phase := .starting } : State).timing = u.timing := fun _ => rfl
  have hlanes : ∀ u : State, (u.each [0, 1] fun x s => s.set (It.laneState x) 0).timing = u.timing := fun u =>
    State.each_timing _ _ (fun x v => v.set_timing (It.laneState x) 0) u
  unfold State.resetDies
  simp only [hstarting, hlanes, State.modPower_timing, State.set_timing, State.modLanes_timing, State.setLatch_timing,
    State.panelStop_timing, State.bypassClose_timing, State.endTests_timing]

@[simp] theorem State.fallBackReset_timing : s.fallBackReset.timing = s.timing := by
  unfold State.fallBackReset
  split <;> simp

@[simp] theorem State.revert_timing : s.revert.timing = s.timing := by
  unfold State.revert
  split
  · rfl
  · split <;> simp

@[simp] theorem State.dropTrial_timing (x : Nat) : (s.dropTrial x).timing = s.timing := by
  unfold State.dropTrial
  dsimp only
  split <;> split <;> simp

@[simp] theorem State.fallBack_timing : s.fallBack.timing = s.timing := by
  unfold State.fallBack
  split <;> simp

@[simp] theorem State.completing_timing : s.completing.timing = s.timing := by
  unfold State.completing
  split
  · rfl
  · dsimp only
    split <;> simp

end

end Sys2Proof.Machine
end

section
/-! SUPPORT. No opcode moves the clock or the queue of commands, and so neither does the service of the rings (R79). -/

namespace Sys2Proof.Machine

@[simp] theorem reply_timing (p : List Byte) (s : State) : (reply p s).1.timing = s.timing := rfl
@[simp] theorem refuse_timing (st : Nat) (s : State) : (refuse st s).1.timing = s.timing := rfl
@[simp] theorem report_timing (st : Nat) (r : Report) (s : State) : (report st r s).1.timing = s.timing := rfl
@[simp] theorem refuseWrite_timing (st : Nat) (s : State) : (refuseWrite st s).1.timing = s.timing := rfl
@[simp] theorem refuseOpen_timing (st : Nat) (s : State) : (refuseOpen st s).1.timing = s.timing := rfl

@[simp] theorem State.withCam_timing (b : CamBank) (s : State) : ({ s with cam := b } : State).timing = s.timing := rfl

@[simp] theorem State.setLm_timing (n st : Nat) (s : State) : (s.setLm n st).timing = s.timing := s.setGuard_timing _ _ _ _

@[simp] theorem State.openSession_timing (b : List Byte) (mode : Nat) (s : State) : (s.openSession b mode).1.timing = s.timing := by
  unfold State.openSession
  simp

/-! ## Time (spec 2) -/

@[simp] theorem opTimeRead_timing (m : Nat) (f : Frame) (s : State) : (opTimeRead m f s).1.timing = s.timing := rfl

@[simp] theorem opCalendarSet_timing (m : Nat) (f : Frame) (s : State) : (opCalendarSet m f s).1.timing = s.timing := by
  unfold opCalendarSet
  dsimp only
  split_ifs <;> simp

@[simp] theorem opTallyForecast_timing (m : Nat) (f : Frame) (s : State) : (opTallyForecast m f s).1.timing = s.timing := by
  unfold opTallyForecast
  extract_lets t d rate reached
  clear_value t d rate reached
  split_ifs <;> simp

@[simp] theorem opLatencyRelearn_timing (m : Nat) (f : Frame) (s : State) : (opLatencyRelearn m f s).1.timing = s.timing := by
  unfold opLatencyRelearn
  dsimp only
  split_ifs <;> simp

/-! ## Sessions and ownership (spec 3) -/

@[simp] theorem opSessionOpen_timing (m : Nat) (f : Frame) (s : State) : (opSessionOpen m f s).1.timing = s.timing := by
  unfold opSessionOpen
  dsimp only
  split_ifs <;> simp

@[simp] theorem opSessionClose_timing (m : Nat) (f : Frame) (s : State) : (opSessionClose m f s).1.timing = s.timing := by
  unfold opSessionClose
  simp

@[simp] theorem opHeartbeat_timing (m : Nat) (f : Frame) (s : State) : (opHeartbeat m f s).1.timing = s.timing := rfl

@[simp] theorem opOwnClaim_timing (m : Nat) (f : Frame) (s : State) : (opOwnClaim m f s).1.timing = s.timing := by
  unfold opOwnClaim
  split_ifs <;> simp

@[simp] theorem opOwnRelease_timing (m : Nat) (f : Frame) (s : State) : (opOwnRelease m f s).1.timing = s.timing := by
  unfold opOwnRelease
  simp

@[simp] theorem opOwnOffer_timing (m : Nat) (f : Frame) (s : State) : (opOwnOffer m f s).1.timing = s.timing := by
  unfold opOwnOffer
  dsimp only
  split_ifs <;> simp

@[simp] theorem opOwnAccept_timing (m : Nat) (f : Frame) (s : State) : (opOwnAccept m f s).1.timing = s.timing := by
  unfold opOwnAccept
  dsimp only
  repeat' split
  all_goals simp

@[simp] theorem opOutputsResume_timing (m : Nat) (f : Frame) (s : State) : (opOutputsResume m f s).1.timing = s.timing := by
  unfold opOutputsResume
  split_ifs <;> simp

@[simp] theorem opSessionList_timing (m : Nat) (f : Frame) (s : State) : (opSessionList m f s).1.timing = s.timing := rfl

@[simp] theorem opEvtMaskSet_timing (m : Nat) (f : Frame) (s : State) : (opEvtMaskSet m f s).1.timing = s.timing := by
  unfold opEvtMaskSet
  split_ifs <;> simp

/-! ## Items, slates and snapshots (spec 4) -/

@[simp] theorem opItemRead_timing (m : Nat) (f : Frame) (s : State) : (opItemRead m f s).1.timing = s.timing := by
  unfold opItemRead
  dsimp only
  split_ifs <;> simp

@[simp] theorem opItemWrite_timing (m : Nat) (f : Frame) (s : State) : (opItemWrite m f s).1.timing = s.timing := by
  unfold opItemWrite
  dsimp only
  repeat' split
  all_goals simp

@[simp] theorem opSlateOpen_timing (m : Nat) (f : Frame) (s : State) : (opSlateOpen m f s).1.timing = s.timing := by
  unfold opSlateOpen
  dsimp only
  repeat' split
  all_goals simp

@[simp] theorem opSlateLoad_timing (m : Nat) (f : Frame) (s : State) : (opSlateLoad m f s).1.timing = s.timing := by
  unfold opSlateLoad
  dsimp only
  repeat' split
  all_goals simp

@[simp] theorem opSlateCheck_timing (m : Nat) (f : Frame) (s : State) : (opSlateCheck m f s).1.timing = s.timing := by
  unfold opSlateCheck
  dsimp only
  repeat' split
  all_goals simp

@[simp] theorem opSlateCommit_timing (m : Nat) (f : Frame) (s : State) : (opSlateCommit m f s).1.timing = s.timing := by
  unfold opSlateCommit
  dsimp only
  repeat' split
  all_goals simp

@[simp] theorem opSlateCancel_timing (m : Nat) (f : Frame) (s : State) : (opSlateCancel m f s).1.timing = s.timing := by
  unfold opSlateCancel
  dsimp only
  repeat' split
  all_goals simp

@[simp] theorem opSlateList_timing (m : Nat) (f : Frame) (s : State) : (opSlateList m f s).1.timing = s.timing := by
  unfold opSlateList
  dsimp only
  split_ifs <;> simp

@[simp] theorem opSlateEntries_timing (m : Nat) (f : Frame) (s : State) : (opSlateEntries m f s).1.timing = s.timing := by
  unfold opSlateEntries
  dsimp only
  split_ifs <;> simp

@[simp] theorem opRingPrepare_timing (m : Nat) (f : Frame) (s : State) : (opRingPrepare m f s).1.timing = s.timing := by
  unfold opRingPrepare
  dsimp only
  repeat' split
  all_goals simp

@[simp] theorem opRingDecide_timing (m : Nat) (f : Frame) (s : State) : (opRingDecide m f s).1.timing = s.timing := by
  unfold opRingDecide
  dsimp only
  split_ifs <;> simp

@[simp] theorem opSnapshotPin_timing (m : Nat) (f : Frame) (s : State) : (opSnapshotPin m f s).1.timing = s.timing := by
  unfold opSnapshotPin
  dsimp only
  split_ifs <;> simp

@[simp] theorem opSnapshotRead_timing (m : Nat) (f : Frame) (s : State) : (opSnapshotRead m f s).1.timing = s.timing := by
  unfold opSnapshotRead
  dsimp only
  repeat' split
  all_goals simp

@[simp] theorem opSnapshotRelease_timing (m : Nat) (f : Frame) (s : State) : (opSnapshotRelease m f s).1.timing = s.timing := by
  unfold opSnapshotRelease
  dsimp only
  split_ifs <;> simp

/-! ## Cameras and fusion (spec 5 and 6) -/

@[simp] theorem opCamStatsRead_timing (m : Nat) (f : Frame) (s : State) : (opCamStatsRead m f s).1.timing = s.timing := by
  unfold opCamStatsRead
  dsimp only
  repeat' split
  all_goals simp

@[simp] theorem opCamFrameGrab_timing (m : Nat) (f : Frame) (s : State) : (opCamFrameGrab m f s).1.timing = s.timing := by
  unfold opCamFrameGrab
  dsimp only
  repeat' split
  all_goals simp

@[simp] theorem opCamTableLoad_timing (m : Nat) (f : Frame) (s : State) : (opCamTableLoad m f s).1.timing = s.timing := by
  unfold opCamTableLoad
  dsimp only
  repeat' split
  all_goals simp

@[simp] theorem opTrackRead_timing (m : Nat) (f : Frame) (s : State) : (opTrackRead m f s).1.timing = s.timing := by
  unfold opTrackRead
  dsimp only
  repeat' split
  all_goals simp

@[simp] theorem opSolveRead_timing (m : Nat) (f : Frame) (s : State) : (opSolveRead m f s).1.timing = s.timing := by
  unfold opSolveRead
  dsimp only
  repeat' split
  all_goals simp

@[simp] theorem opFuTableLoad_timing (m : Nat) (f : Frame) (s : State) : (opFuTableLoad m f s).1.timing = s.timing := by
  unfold opFuTableLoad
  dsimp only
  repeat' split
  all_goals simp

@[simp] theorem opCellRead_timing (m : Nat) (f : Frame) (s : State) : (opCellRead m f s).1.timing = s.timing := by
  unfold opCellRead
  dsimp only
  repeat' split
  all_goals simp

/-! ## Rods (spec 7) -/

@[simp] theorem opRodRead_timing (m : Nat) (f : Frame) (s : State) : (opRodRead m f s).1.timing = s.timing := by
  unfold opRodRead
  dsimp only
  split_ifs <;> simp

@[simp] theorem opRodReset_timing (m : Nat) (f : Frame) (s : State) : (opRodReset m f s).1.timing = s.timing := by
  unfold opRodReset
  dsimp only
  split_ifs <;> simp

@[simp] theorem opBeamRead_timing (m : Nat) (f : Frame) (s : State) : (opBeamRead m f s).1.timing = s.timing := by
  unfold opBeamRead
  dsimp only
  split_ifs <;> simp

@[simp] theorem opRodTraceArm_timing (m : Nat) (f : Frame) (s : State) : (opRodTraceArm m f s).1.timing = s.timing := by
  unfold opRodTraceArm
  dsimp only
  split_ifs <;> simp

@[simp] theorem opRodTraceRead_timing (m : Nat) (f : Frame) (s : State) : (opRodTraceRead m f s).1.timing = s.timing := by
  unfold opRodTraceRead
  dsimp only
  repeat' split
  all_goals simp

/-! ## Valves, light sensors and digital outputs (spec 8 and 9) -/

@[simp] theorem opValveBead_timing (m : Nat) (f : Frame) (s : State) : (opValveBead m f s).1.timing = s.timing := by
  unfold opValveBead
  dsimp only
  repeat' split
  all_goals simp

@[simp] theorem opBeadCancel_timing (m : Nat) (f : Frame) (s : State) : (opBeadCancel m f s).1.timing = s.timing := by
  have hlanes : ∀ (u : State) (l : LaneBank), ({ u with lanes := l } : State).timing = u.timing := fun _ _ => rfl
  unfold opBeadCancel
  dsimp only
  split
  · simp
  · exact (State.foldl_timing _ (fun u x => u.dropBead_timing _ _ _ x) _ _).trans (hlanes _ _)

@[simp] theorem opQueueRead_timing (m : Nat) (f : Frame) (s : State) : (opQueueRead m f s).1.timing = s.timing := by
  unfold opQueueRead
  dsimp only
  split_ifs <;> simp

@[simp] theorem opBeadLogRead_timing (m : Nat) (f : Frame) (s : State) : (opBeadLogRead m f s).1.timing = s.timing := by
  unfold opBeadLogRead
  dsimp only
  split_ifs <;> simp

@[simp] theorem opValveClear_timing (m : Nat) (f : Frame) (s : State) : (opValveClear m f s).1.timing = s.timing := by
  unfold opValveClear
  dsimp only
  split_ifs <;> simp

@[simp] theorem opCoilMeasure_timing (m : Nat) (f : Frame) (s : State) : (opCoilMeasure m f s).1.timing = s.timing := by
  unfold opCoilMeasure
  dsimp only
  split_ifs <;> simp

@[simp] theorem opLsHistRead_timing (m : Nat) (f : Frame) (s : State) : (opLsHistRead m f s).1.timing = s.timing := by
  unfold opLsHistRead
  dsimp only
  repeat' split
  all_goals simp

@[simp] theorem opDoClear_timing (m : Nat) (f : Frame) (s : State) : (opDoClear m f s).1.timing = s.timing := by
  unfold opDoClear
  dsimp only
  split_ifs <;> simp

/-! ## CAN (spec 10) -/

@[simp] theorem opCanTx_timing (m : Nat) (f : Frame) (s : State) : (opCanTx m f s).1.timing = s.timing := by
  unfold opCanTx
  dsimp only
  repeat' split
  all_goals simp

@[simp] theorem opCanTxCancel_timing (m : Nat) (f : Frame) (s : State) : (opCanTxCancel m f s).1.timing = s.timing := by
  unfold opCanTxCancel
  dsimp only
  repeat' split
  all_goals simp

@[simp] theorem opCanTxList_timing (m : Nat) (f : Frame) (s : State) : (opCanTxList m f s).1.timing = s.timing := by
  unfold opCanTxList
  dsimp only
  split_ifs <;> simp

@[simp] theorem opCanRecover_timing (m : Nat) (f : Frame) (s : State) : (opCanRecover m f s).1.timing = s.timing := by
  unfold opCanRecover
  dsimp only
  split_ifs <;> simp

@[simp] theorem opCanHpRead_timing (m : Nat) (f : Frame) (s : State) : (opCanHpRead m f s).1.timing = s.timing := by
  unfold opCanHpRead
  dsimp only
  split_ifs <;> simp

/-! ## The ring (spec 11) -/

@[simp] theorem opRingRead_timing (m : Nat) (f : Frame) (s : State) : (opRingRead m f s).1.timing = s.timing := rfl

@[simp] theorem opRingBypass_timing (m : Nat) (f : Frame) (s : State) : (opRingBypass m f s).1.timing = s.timing := by
  unfold opRingBypass
  split_ifs <;> simp

@[simp] theorem opLinkTestStart_timing (m : Nat) (f : Frame) (s : State) : (opLinkTestStart m f s).1.timing = s.timing := by
  unfold opLinkTestStart
  dsimp only
  split_ifs <;> simp

@[simp] theorem opLinkTestStop_timing (m : Nat) (f : Frame) (s : State) : (opLinkTestStop m f s).1.timing = s.timing := by
  unfold opLinkTestStop
  dsimp only
  split_ifs <;> simp

@[simp] theorem opLinkTestRead_timing (m : Nat) (f : Frame) (s : State) : (opLinkTestRead m f s).1.timing = s.timing := by
  unfold opLinkTestRead
  dsimp only
  split_ifs <;> simp

@[simp] theorem opFaultInject_timing (m : Nat) (f : Frame) (s : State) : (opFaultInject m f s).1.timing = s.timing := by
  unfold opFaultInject
  dsimp only
  split_ifs <;> simp

/-! ## Redundancy and power (spec 12 and 13) -/

@[simp] theorem opRedRead_timing (m : Nat) (f : Frame) (s : State) : (opRedRead m f s).1.timing = s.timing := rfl

@[simp] theorem opLaneSwitch_timing (m : Nat) (f : Frame) (s : State) : (opLaneSwitch m f s).1.timing = s.timing := by
  unfold opLaneSwitch
  dsimp only
  split_ifs <;> simp

@[simp] theorem opLaneRestart_timing (m : Nat) (f : Frame) (s : State) : (opLaneRestart m f s).1.timing = s.timing := by
  unfold opLaneRestart
  dsimp only
  split_ifs <;> simp

@[simp] theorem opPowerRead_timing (m : Nat) (f : Frame) (s : State) : (opPowerRead m f s).1.timing = s.timing := rfl

@[simp] theorem opStateSet_timing (m : Nat) (f : Frame) (s : State) : (opStateSet m f s).1.timing = s.timing := by
  unfold opStateSet
  dsimp only
  split_ifs <;> simp

@[simp] theorem opModuleReset_timing (m : Nat) (f : Frame) (s : State) : (opModuleReset m f s).1.timing = s.timing := by
  unfold opModuleReset
  split_ifs <;> simp

/-! ## Firmware update (spec 14) -/

@[simp] theorem opUpdOpen_timing (m : Nat) (f : Frame) (s : State) : (opUpdOpen m f s).1.timing = s.timing := by
  unfold opUpdOpen
  dsimp only
  repeat' split
  all_goals simp

@[simp] theorem opUpdBlocks_timing (m : Nat) (f : Frame) (s : State) : (opUpdBlocks m f s).1.timing = s.timing := by
  unfold opUpdBlocks
  dsimp only
  repeat' split
  all_goals simp

@[simp] theorem opUpdActivate_timing (m : Nat) (f : Frame) (s : State) : (opUpdActivate m f s).1.timing = s.timing := by
  unfold opUpdActivate
  dsimp only
  repeat' split
  all_goals simp

@[simp] theorem opUpdConfirm_timing (m : Nat) (f : Frame) (s : State) : (opUpdConfirm m f s).1.timing = s.timing := by
  unfold opUpdConfirm
  split_ifs <;> simp

@[simp] theorem opUpdAbort_timing (m : Nat) (f : Frame) (s : State) : (opUpdAbort m f s).1.timing = s.timing := by
  unfold opUpdAbort
  dsimp only
  repeat' split
  all_goals simp

@[simp] theorem opUpdInventory_timing (m : Nat) (f : Frame) (s : State) : (opUpdInventory m f s).1.timing = s.timing := by
  unfold opUpdInventory
  dsimp only
  split_ifs <;> simp

@[simp] theorem opUpdRecovery_timing (m : Nat) (f : Frame) (s : State) : (opUpdRecovery m f s).1.timing = s.timing := by
  unfold opUpdRecovery
  split_ifs <;> simp

@[simp] theorem opUpdRecoveryExit_timing (m : Nat) (f : Frame) (s : State) : (opUpdRecoveryExit m f s).1.timing = s.timing := by
  unfold opUpdRecoveryExit
  split_ifs <;> simp

/-! ## History, ageing and the panel (spec 15 and 16) -/

@[simp] theorem opHistRead_timing (m : Nat) (f : Frame) (s : State) : (opHistRead m f s).1.timing = s.timing := by
  unfold opHistRead
  dsimp only
  split_ifs <;> simp

@[simp] theorem opHistClear_timing (m : Nat) (f : Frame) (s : State) : (opHistClear m f s).1.timing = s.timing := by
  unfold opHistClear
  split_ifs <;> simp

@[simp] theorem opAgeRead_timing (m : Nat) (f : Frame) (s : State) : (opAgeRead m f s).1.timing = s.timing := by
  unfold opAgeRead
  repeat' split
  all_goals simp

@[simp] theorem opAgeMonitorRead_timing (m : Nat) (f : Frame) (s : State) : (opAgeMonitorRead m f s).1.timing = s.timing := by
  unfold opAgeMonitorRead
  dsimp only
  split_ifs <;> simp

@[simp] theorem opPanelPageLoad_timing (m : Nat) (f : Frame) (s : State) : (opPanelPageLoad m f s).1.timing = s.timing := by
  unfold opPanelPageLoad
  dsimp only
  repeat' split
  all_goals simp

@[simp] theorem opPanelRead_timing (m : Nat) (f : Frame) (s : State) : (opPanelRead m f s).1.timing = s.timing := rfl

@[simp] theorem opPanelRefresh_timing (m : Nat) (f : Frame) (s : State) : (opPanelRefresh m f s).1.timing = s.timing := by
  unfold opPanelRefresh
  split_ifs <;> simp

/-! ## The service of the rings (R79) -/

theorem opOf_timing (op m : Nat) (f : Frame) (s : State) : (opOf op m f s).1.timing = s.timing := by
  unfold opOf
  split <;> simp

theorem State.takeFrame_timing (op m : Nat) (f : Frame) (s : State) : (s.takeFrame (opOf op) m f).timing = s.timing := by
  unfold State.takeFrame
  dsimp only
  split
  · simp
  · split <;> simp
  · split
    · simp
    · split
      · simp
      · split
        · simp
        · simp [opOf_timing]

theorem State.takeNext_timing (op m : Nat) (f : Frame) (s : State) : (s.takeNext (opOf op) m f).timing = s.timing :=
  State.takeFrame_timing op m f s

theorem State.serveN_timing (n : Nat) (s : State) : (State.serveN n s).timing = s.timing := by
  induction n generalizing s with
  | zero => rfl
  | succ n ih =>
    unfold State.serveN
    split
    · rfl
    · split
      · rfl
      · exact (ih _).trans (State.takeNext_timing _ _ _ _)

theorem State.takeBlks_timing (m : Nat) (s : State) : (s.takeBlks m).timing = s.timing := by
  unfold State.takeBlks
  split <;> simp

theorem State.serve_timing (s : State) : s.serve.timing = s.timing :=
  (State.each_timing _ _ (fun m u => u.takeBlks_timing m) _).trans (State.serveN_timing _ s)

end Sys2Proof.Machine
end

section
/-! SUPPORT. Ring frames forwarded, slots and indices of ring hosts, and the opcodes of the ring (spec 11, R306 to R312, Table 11.6). -/

namespace Sys2Proof.Machine

open Sys2Proof.Safety

section
variable {s : State}

/-! ## Frames forwarded (R307) -/

/-- A frame as it leaves the other port: its hop count reduced, its check formed anew. -/
def forwarded (l : List Byte) : List Byte :=
  ringBytes (u8At l 0) (u8At l 1) (u8At l 2 - 1) (u16At l 4) (u16At l 6) (u16At l 8) ((l.drop 16).take (l.length - 20))

/-- A valid frame between two other nodes is forwarded, and nothing of it is taken. -/
theorem State.ringFrame_of_transit {port : Nat} {l : List Byte} (hport : s.get (It.portState port) = 1) (hvalid : ringValid l = true)
    (hsrc : u16At l 6 ≠ s.useRestart It.ringNode) (hdst : u16At l 4 ≠ s.useRestart It.ringNode) (hall : u16At l 4 ≠ 0xff) :
    s.ringFrame port l = (s.bump (It.portFramesRx port)).ringForward port l := by
  have hup : ¬ (!s.portUp port) = true := by simp [State.portUp, hport]
  have hnew : ¬ (!ringValid l) = true := by simp [hvalid]
  have hsrc' : ¬ u16At l 6 = (s.bump (It.portFramesRx port)).useRestart It.ringNode := hsrc
  have hdst' : ¬ u16At l 4 = (s.bump (It.portFramesRx port)).useRestart It.ringNode := hdst
  have hrx : s.ringRx port l = ((s.bump (It.portFramesRx port)).ringForward port l, none) := by
    unfold State.ringRx
    rw [if_neg hup, if_neg hnew]
    dsimp only
    rw [if_neg hsrc', if_neg (not_or.2 ⟨hdst', hall⟩), if_neg hdst']
  unfold State.ringFrame
  rw [hrx]

theorem State.ringForward_of_plain {port : Nat} {l : List Byte} (hhops : 1 < u8At l 2) (hup : s.get (It.portState (1 - port)) = 1)
    (hinject : nth s.ring.injects (1 - port) = none) (hholding : nth s.ring.holding (1 - port) = []) :
    s.ringForward port l =
      ({ s with ring := { s.ring with sent := s.ring.sent ++ [(1 - port, forwarded l)] } } : State).bumpBy (It.portFramesTx (1 - port)) 1 :=
  (if_neg (Nat.not_le.2 hhops)).trans (State.putPort_of_plain _ _ hup hinject hholding)

/-! ## Slots from hosts (R311) -/

theorem leNat_lt (l : List Byte) : leNat l < 256 ^ l.length := by
  induction l with
  | nil => decide
  | cons b r ih =>
    have hb : b.toNat < 256 := b.isLt
    rw [leNat, List.length_cons, Nat.pow_succ]
    omega

theorem u16At_lt (l : List Byte) (i : Nat) : u16At l i < 65536 :=
  Nat.lt_of_lt_of_le (leNat_lt _) (Nat.pow_le_pow_right (by decide : 0 < 256) (List.length_take_le 2 _))

/-- One slot within the free space of a CMD ring is stored at its index. -/
theorem State.mbxSlots_of_one {src : Nat} {b : List Byte} (hbound : s.boundTo (u8At b 0) src = true) (hring : u8At b 1 = 0)
    (hn : u16At b 4 = 1) (hlength : b.length = 72)
    (hroom : (u16At b 2 + 65536 - (s.master (u8At b 0)).cmd.prod) % 65536 < 256 - (s.master (u8At b 0)).cmd.used) :
    s.mbxSlots src b = s.modMaster (u8At b 0) fun ma => { ma with
      slots := ma.slots.filter (fun x => x.1 != u16At b 2) ++ [(u16At b 2, (b.drop 8).take 64)] } := by
  have hindex : (u16At b 2 + 0) % 65536 = u16At b 2 := Nat.mod_eq_of_lt (u16At_lt b 2)
  have hroom' : ((u16At b 2 + 0) % 65536 + 65536 - (s.inRing (u8At b 0) 0).prod) % 65536 < 256 - (s.inRing (u8At b 0) 0).used := by
    rw [hindex]
    exact hroom
  have hknown : ¬ (!s.boundTo (u8At b 0) src) = true := by simp [hbound]
  have hform : ¬ ((u8At b 1 ≠ 0 ∧ u8At b 1 ≠ 3) ∨ u16At b 4 = 0 ∨ 16 < u16At b 4 ∨ b.length ≠ 8 + 64 * u16At b 4) := by omega
  unfold State.mbxSlots
  dsimp only
  rw [if_neg hknown, if_neg hform, hring, hn]
  refine (if_pos hroom').trans ?_
  simp only [Nat.zero_mul, Nat.zero_add, Nat.mul_zero, Nat.add_zero, Nat.mod_eq_of_lt (u16At_lt b 2)]

/-! ## Indices of hosts (R312) -/

theorem State.hostConsumes_of_used {m index : Nat} (hused : (index + 65536 - (s.master m).rsp.cons) % 65536 ≤ (s.master m).rsp.used) :
    s.hostConsumes m 1 index = ({ s with
      mail := { s.mail with masters := upd s.mail.masters m fun x => x.consumeRsp index }
      ring := { s.ring with idxAt := upd s.ring.idxAt (4 * m + 1) fun _ => s.now } } : State).flush m := if_pos hused

/-- A consumer index of a RSP ring is taken, and what it makes room for is served. -/
theorem State.mbxIndex_of_consumer {src : Nat} {b : List Byte} (hbound : s.boundTo (u8At b 0) src = true) (hring : u8At b 1 = 1)
    (hkind : u8At b 2 = 1) (hlength : b.length = 12) : s.mbxIndex src b = (s.hostConsumes (u8At b 0) 1 (u16At b 4)).serve := by
  have hknown : ¬ (!s.boundTo (u8At b 0) src) = true := by simp [hbound]
  unfold State.mbxIndex
  dsimp only
  rw [if_neg hknown, if_neg (not_not.2 hlength), hkind, hring]
  rfl

theorem State.resendExpiry_of_due {m : Nat} (hbound : s.boundTo m (s.get (It.bindNode m)) = true)
    (hopen : (s.master m).rsp.prod ≠ (s.master m).rsp.cons) (hdue : nth s.ring.idxAt (4 * m + 1) + 2000000 ≤ s.now) :
    s.resendExpiry m 1 = s.sendProducer m 1 (s.master m).rsp.cons := if_pos ⟨.inl rfl, hbound, hopen, hdue⟩

/-- The ring once the producer index of a master's RSP ring has left eastward; its resend time starts anew. -/
def State.producerSent (m start : Nat) (s : State) : RingBank :=
  { s.ring with
    pub := upd s.ring.pub (4 * m + 1) fun _ => (s.master m).rsp.prod
    idxAt := upd s.ring.idxAt (4 * m + 1) fun _ => s.now
    sent := s.ring.sent ++ [(0, ringBytes 2 (4 * s.lanes.latch) 68 (s.get (It.bindNode m)) (s.useRestart It.ringNode) (s.get It.ringTxSeq)
      (toLE 1 m ++ toLE 1 1 ++ toLE 1 0 ++ toLE 1 0 ++ toLE 2 (s.master m).rsp.prod ++ toLE 2 0 ++
        toLE 4 (crc32c (s.slotsFrom m 1 start).flatten)))] }

theorem State.sendProducer_east (m start : Nat) (hbypass : s.get It.bypassState = 2) (hinserts : s.inserts = true)
    (heast : s.get (It.portState 0) = 1) (hwest : s.get (It.portState 1) = 0) (hinject : nth s.ring.injects 0 = none)
    (hholding : nth s.ring.holding 0 = []) (hnode : s.get (It.bindNode m) ≠ 0xff) :
    s.sendProducer m 1 start = ({ s.set It.ringTxSeq ((s.get It.ringTxSeq + 1) % 65536) with
      ring := s.producerSent m start } : State).bumpBy (It.portFramesTx 0) 1 := by
  have hflags : (if s.get (It.bindNode m) = 0xff then 2 else 0) + 4 * s.lanes.latch = 4 * s.lanes.latch := by
    rw [if_neg hnode, Nat.zero_add]
  unfold State.sendProducer State.sendIndex
  dsimp only
  rw [State.ringInsert_east 2 _ _ hbypass hinserts heast hwest hinject hholding, hflags]
  rfl

/-! ## Opcodes (Table 11.6) -/

theorem opRingBypass_of_open (m : Nat) (f : Frame) (hv : u8At f.p 0 = 0) (hz : zeroAt f.p 1 3 = true) (henable : s.get It.ringEnable = 1) :
    opRingBypass m f s = reply [] { s with ring := { s.ring with
      join := some (s.now + (s.get It.ringJoinDelayMs + 10 * s.useRestart It.ringNode) * 1000000) } } := by
  have hform : ¬ (1 < u8At f.p 0 ∨ (!zeroAt f.p 1 3) = true) := by simp [hv, hz]
  have hjoin : s.ringJoin = { s with ring := { s.ring with
      join := some (s.now + (s.get It.ringJoinDelayMs + 10 * s.useRestart It.ringNode) * 1000000) } } := if_pos henable
  unfold opRingBypass
  rw [if_neg hform, if_neg (by rw [henable]; decide), if_neg (by rw [hv]; decide), hjoin]

theorem State.bypassClose_of_down_ports (hbypass : s.get It.bypassState = 2) (heast : s.get (It.portState 0) = 0)
    (hwest : s.get (It.portState 1) = 0) :
    s.bypassClose = (((({ s with ring := { s.ring with join := none } } : State).bump It.bypassCycles).set It.bypassState 3).emit 0x0c81
      (toLE 1 3 ++ toLE 3 0 ++ toLE 4 (sat32 (s.get It.bypassCycles + 1)) ++ toLE 8 s.now)).ringJudge := by
  have hcounted : ItemsOnly [It.bypassCycles] { s with ring := { s.ring with join := none } }
      ((s.modRing fun r => { r with join := none }).bump It.bypassCycles) := (ItemsOnly.refl _ _).bump (by simp)
  have hopen : ¬ ((s.modRing fun r => { r with join := none }).get It.bypassState = 0 ∨
      (s.modRing fun r => { r with join := none }).get It.bypassState = 3) := by
    rw [show (s.modRing fun r => { r with join := none }).get It.bypassState = 2 from hbypass]
    decide
  have hstill : ((s.modRing fun r => { r with join := none }).bump It.bypassCycles).get It.bypassState ≠ 3 := by
    rw [hcounted.get (by decide) (by decide)]
    exact fun h => absurd (hbypass.symm.trans h) (by decide)
  have hcycles : ((s.modRing fun r => { r with join := none }).bump It.bypassCycles).get It.bypassCycles = sat32 (s.get It.bypassCycles + 1) := by
    rw [State.bump, State.bumpBy, State.get_set, if_pos rfl]
    rfl
  have hset : ItemsOnly [It.bypassCycles, It.bypassState] { s with ring := { s.ring with join := none } }
      (((s.modRing fun r => { r with join := none }).bump It.bypassCycles).setBypass 3) :=
    (hcounted.mono (by simp)).setGuard _ _ _ (by simp)
  have hdown : ∀ (u : State) (p : Nat), u.get (It.portState p) = 0 → u.portGoesDown p = u := fun u p h =>
    if_neg (by simp [State.portUp, h])
  unfold State.bypassClose
  dsimp only
  rw [if_neg hopen, hdown _ 0 ((hset.get (by decide) (by decide)).trans heast), hdown _ 1 ((hset.get (by decide) (by decide)).trans hwest),
    State.setBypass_of_change hstill, hcycles]
  rfl

theorem opRingBypass_of_close (m : Nat) (f : Frame) (hv : u8At f.p 0 = 1) (hz : zeroAt f.p 1 3 = true) (henable : s.get It.ringEnable = 1) :
    opRingBypass m f s = reply [] s.bypassClose := by
  have hform : ¬ (1 < u8At f.p 0 ∨ (!zeroAt f.p 1 3) = true) := by simp [hv, hz]
  unfold opRingBypass
  rw [if_neg hform, if_neg (by rw [henable]; decide), if_pos hv]

end

/-! ## The obligation -/

/-- Settles O34: frames and indices by what they do to the ring and its masters, the opcodes on the state in which they execute. -/
theorem ringTrafficIsTaken : Obligations.RingTrafficIsTaken := by
  unfold Obligations.RingTrafficIsTaken
  refine ⟨?forward, ?slots, ?index, ?resend, ?read, ?join, ?close⟩
  case forward =>
    intro s dt port bytes hspeaks hport hother hinject hholding hvalid hsrc hdst hall hhops
    have hrow : (s.advance dt).ringFrame port bytes = (({ (s.advance dt).bump (It.portFramesRx port) with
        ring := { s.ring with sent := s.ring.sent ++ [(1 - port.val, forwarded bytes)] } } : State).bumpBy (It.portFramesTx (1 - port.val)) 1) := by
      rw [State.ringFrame_of_transit (s := s.advance dt) hport hvalid hsrc hdst hall,
        State.ringForward_of_plain (s := (s.advance dt).bump (It.portFramesRx port)) hhops
          ((State.get_bump_of_field _ (by decide)).trans hother) hinject hholding]
      rfl
    exact timedRom_eq dt _ s _ hspeaks hrow rfl rfl
  case slots =>
    intro s dt src body hspeaks hbound hring hn hlength hroom
    exact timedRom_eq dt (State.mbxSlots src.toNat body) s _ hspeaks
      (State.mbxSlots_of_one (s := s.advance dt) hbound hring hn hlength hroom) rfl rfl
  case index =>
    intro s dt src body hspeaks hbound hring hkind hlength hused
    have hrow := (State.mbxIndex_of_consumer (s := s.advance dt) hbound hring hkind hlength).trans
      (congrArg State.serve (State.hostConsumes_of_used (s := s.advance dt) hused))
    have hclock : KeepsClock (s.advance dt) _ := .of_timing ((State.serve_timing _).trans (State.flush_timing ({ s.advance dt with
      mail := { s.mail with masters := upd s.mail.masters (u8At body 0) fun x => x.consumeRsp (u16At body 4) }
      ring := { s.ring with idxAt := upd s.ring.idxAt (4 * u8At body 0 + 1) fun _ => s.now + dt } } : State) (u8At body 0)))
    exact timedRom_eq dt (State.mbxIndex src.toNat body) s _ hspeaks hrow hclock.clk hclock.pending
  case resend =>
    intro s dt m hspeaks hbound hopen hdue hbypass hinserts heast hwest hinject hholding hnode
    have hrow := (State.resendExpiry_of_due (s := s.advance dt) hbound hopen hdue).trans
      (State.sendProducer_east m (s.master m).rsp.cons hbypass hinserts heast hwest hinject hholding hnode)
    have honly : ItemsOnly [It.ringTxSeq, It.portFramesTx 0] { s.advance dt with ring := (s.advance dt).producerSent m (s.master m).rsp.cons }
        (({ (s.advance dt).set It.ringTxSeq (((s.advance dt).get It.ringTxSeq + 1) % 65536) with
          ring := (s.advance dt).producerSent m (s.master m).rsp.cons } : State).bumpBy (It.portFramesTx 0) 1) :=
      (((ItemsOnly.refl _ (s.advance dt)).set _ (by simp)).modRing fun _ => (s.advance dt).producerSent m (s.master m).rsp.cons).bumpBy 1
        (by simp)
    refine ⟨_, timedRom_eq dt (State.resendExpiry m 1) s _ hspeaks hrow rfl rfl, ?_, rfl, honly.items, rfl⟩
    rw [State.bumpBy, State.get_set_of_field _ (by decide)]
    change ((s.advance dt).set It.ringTxSeq _).get It.ringTxSeq = _
    rw [State.get_set, if_pos rfl]
    rfl
  case read =>
    intro s dt m h p ha
    exact cmdRow_replied opRingRead _ dt m h p s id _ ha rfl rfl rfl
  case join =>
    intro s dt m h p ha hv hz henable
    have hop := opRingBypass_of_open (s := taking m (rowFrame 0x0c01 h p) (s.advance dt)) m (rowFrame 0x0c01 h p) hv hz
      ((get_taking_of_field _ _ _ (by decide)).trans henable)
    have hdelay : (taking m (rowFrame 0x0c01 h p) (s.advance dt)).get It.ringJoinDelayMs = s.get It.ringJoinDelayMs :=
      get_taking_of_field _ _ _ (by decide)
    rw [hdelay] at hop
    exact cmdRow_replied opRingBypass _ dt m h p s _ _ ha hop rfl rfl
  case close =>
    intro s dt m h p ha hv hz henable hbypass heast hwest
    have hbypass' : (taking m (rowFrame 0x0c01 h p) (s.advance dt)).get It.bypassState = 2 := (get_taking_of_field _ _ _ (by decide)).trans hbypass
    have heast' : (taking m (rowFrame 0x0c01 h p) (s.advance dt)).get (It.portState 0) = 0 := (get_taking_of_field _ _ _ (by decide)).trans heast
    have hwest' : (taking m (rowFrame 0x0c01 h p) (s.advance dt)).get (It.portState 1) = 0 := (get_taking_of_field _ _ _ (by decide)).trans hwest
    have hcycles : (taking m (rowFrame 0x0c01 h p) (s.advance dt)).get It.bypassCycles = s.get It.bypassCycles :=
      get_taking_of_field _ _ _ (by decide)
    have hop := opRingBypass_of_close (s := taking m (rowFrame 0x0c01 h p) (s.advance dt)) m (rowFrame 0x0c01 h p) hv hz
      ((get_taking_of_field _ _ _ (by decide)).trans henable)
    rw [State.bypassClose_of_down_ports hbypass' heast' hwest', hcycles] at hop
    have hclock := (((((KeepsClock.refl (taking m (rowFrame 0x0c01 h p) (s.advance dt))).modRing fun r => { r with join := none }).bump
      It.bypassCycles).set It.bypassState 3).emit 0x0c81
        (toLE 1 3 ++ toLE 3 0 ++ toLE 4 (sat32 (s.get It.bypassCycles + 1)) ++ toLE 8 (s.now + dt))).trans (State.ringJudge_keepsClock _)
    exact cmdRow_replied opRingBypass _ dt m h p s _ _ ha hop hclock.clk hclock.pending

end Sys2Proof.Machine
end
